-- ==== Sys2Proof/Word.lean ====
section
/-!
DEFINITION. The word types of the YU3280 (spec/00_scope.md, R7, R8, R12) and the sparse table that holds every
array of the device.
-/

namespace Sys2Proof

/-- A byte, the unit of every address space (R6). -/
abbrev Byte := BitVec 8

/-- A 32-bit register word (R12). -/
abbrev Word := BitVec 32

/-- A 64-bit register (R13). -/
abbrev Dword := BitVec 64

/-- A sparse table: keys strictly rising, and no entry equal to what an unlisted key reads as. -/
abbrev Tab (α : Type) := List (Nat × α)

/-- What a table reads at key `k`; `d` is what an unlisted key reads as. -/
def Tab.get {α : Type} (d : α) : Tab α → Nat → α
  | [], _ => d
  | (j, a) :: t, k => if j = k then a else Tab.get d t k

/-- Put the entry `(k, a)` into a table, in key order, in place of any entry with that key. -/
def Tab.put {α : Type} (k : Nat) (a : α) : Tab α → Tab α
  | [] => [(k, a)]
  | (j, b) :: t =>
    if k < j then (k, a) :: (j, b) :: t
    else if k = j then (k, a) :: t
    else (j, b) :: Tab.put k a t

/-- Take key `k` out of a table. -/
def Tab.erase {α : Type} (k : Nat) : Tab α → Tab α
  | [] => []
  | (j, b) :: t => if j = k then Tab.erase k t else (j, b) :: Tab.erase k t

/-- Write `a` at key `k`: an entry equal to the default `d` is taken out, so that equal tables are equal data. -/
def Tab.set {α : Type} [DecidableEq α] (d : α) (t : Tab α) (k : Nat) (a : α) : Tab α :=
  if a = d then Tab.erase k t else Tab.put k a t

/-- Every key of the table lies above `k`. -/
def Tab.above {α : Type} (k : Nat) (t : Tab α) : Bool := t.all fun e => decide (k < e.1)

/-- The canonical form: keys strictly rising, no default entry. -/
def Tab.wf {α : Type} [DecidableEq α] (d : α) : Tab α → Bool
  | [] => true
  | (k, a) :: t => decide (a ≠ d) && Tab.above k t && Tab.wf d t

end Sys2Proof
end

