-- ==== Sys2Proof/Syntax.lean ====
section
/-!
DEFINITION. The commands of the block: one constructor per row of spec/opcode_table.json, with what the event or
access carries. A command's own docstring is its row's rule.
-/

namespace Sys2Proof

/-- The access path of a register access (R14, R110, R426): PCI Express, a CONTROL message, or the debug TAP. -/
inductive Path where
  | pcie | netctl | debug
  deriving DecidableEq, Repr

/-- The address space of a register access: the conductor's registers, or the page of one voice (R109, R430). -/
inductive Space where
  | conductor
  | page (v : Nat)
  deriving DecidableEq, Repr

/-- What a memory or host access came back with: good data, a single-bit error that ECC corrected, an uncorrectable
error at a byte offset of the access, an error of the outbound PCI Express read, or one of the LPDDR5 interface (R121,
R144, R384). -/
inductive MemResult where
  | ok | corrected | uncorrectable (ofs : Nat) | hostError | interface
  deriving DecidableEq, Repr

/-- How memory answers an access with the walk it may need: the walk's reads in turn, well where it says nothing, and the
access itself. -/
structure MemAnswers where
  walk : List MemResult := []
  data : MemResult := .ok
  deriving DecidableEq, Repr

/-- How a two-wire transfer ended (R188, R189, R300): acknowledged or not, held beyond its time, or never begun, SDA being
low when it was due. -/
inductive CciResult where
  | ack | nak | timeout | stuck
  deriving DecidableEq, Repr

/-- A time of day in seconds and nanoseconds (R8). -/
structure Stamp where
  sec : Nat
  ns : Nat
  deriving DecidableEq, Repr

/-- The fields of an Announce message that the best-master choice compares (R275). -/
structure Announce where
  domain : Nat
  pri1 : Nat
  clockClass : Nat
  accuracy : Nat
  variance : Nat
  pri2 : Nat
  identity : Nat
  stepsRemoved : Nat
  source : Nat
  deriving DecidableEq, Repr

/-- A tie frame's transport fields: its TSEQ, the TACK it carries, whether it is a reliable type, whether its CRC
holds (R322). -/
structure TieHdr where
  tseq : Nat
  tack : Nat
  crcOk : Bool
  deriving DecidableEq, Repr

/-- The boot straps and what boot finds in the outside world (R408, R405). -/
structure BootIn where
  /-- The strap pins sampled as PORn rises. -/
  straps : Nat
  /-- Both process rails are present (R391). -/
  procSupply : Bool
  deriving DecidableEq, Repr

/-- What resets domain HOST (R376). -/
inductive HostResetKind where
  | fundamental | hot | linkDown | flr
  deriving DecidableEq, Repr

/-- The errors reported through AER (R387). -/
inductive AerKind where
  | receiverError | badTlp | badDllp | replayTimeout | replayRollover | completionTimeout | unexpectedCompletion
  | poisonedTlp | malformedTlp | receiverOverflow
  deriving DecidableEq, Repr

/-- What a received frame is judged by (R300, R301): its MAC addresses, its 802.1Q tags from the outermost on, its length
from destination MAC to FCS, whether its FCS is good; for IP its version, its addresses, its UDP ports, and whether it is
plain: IPv4 without options or fragments, IPv6 without extension headers. -/
structure RxHead where
  dst : Nat
  src : Nat
  tags : List Nat
  len : Nat
  fcsOk : Bool
  v6 : Bool
  plain : Bool
  ip : Nat
  dip : Nat
  port : Nat
  dport : Nat
  deriving DecidableEq, Repr

/-- A received frame: its headers, and whether a handler takes its kind (R301). -/
structure RxFrame where
  head : RxHead
  handled : Bool
  deriving DecidableEq, Repr

/-- A new level of an input, high or low, and the number of TCLK samples that read it (R457). -/
structure Level where
  high : Bool
  held : Nat
  deriving DecidableEq, Repr

/-- New levels of an encoder's A and B (R345). -/
structure LevelsAB where
  a : Bool
  b : Bool
  deriving DecidableEq, Repr

/-- A high level of an encoder's Z, and the number of TCLK samples that read it (R346, R457). -/
structure IndexLevel where
  k : Nat
  held : Nat
  deriving DecidableEq, Repr

/-- A queue of a voice (R101). -/
structure QueueRef where
  voice : Nat
  queue : Nat
  deriving DecidableEq, Repr

/-- How a short packet arrives: its header corrected by ECC or not, and the first of its high-speed burst or not (R181). -/
structure ShortHead where
  corrected : Bool
  first : Bool
  deriving DecidableEq, Repr

/-- An error on a lane of a port, or an entry of the lane to ULPS (R178). -/
structure LaneEvent where
  port : Nat
  lane : Nat
  ulps : Bool
  deriving DecidableEq, Repr

/-- A frame that carries a CONTROL or REQUEST message (R301, R313): its headers and its YSF message bytes. -/
structure ControlMsg where
  head : RxHead
  bytes : List Byte
  deriving DecidableEq, Repr

/-- A long packet on a sensor link (R180, R181). -/
structure LongPacket where
  port : Nat
  link : Nat
  vc : Nat
  dt : Nat
  /-- The header ECC: 0 no error, 1 corrected, 2 uncorrectable (R181). -/
  ecc : Nat
  crcOk : Bool
  payload : List Byte
  /-- It is the first packet of its high-speed burst (R181). -/
  first : Bool
  deriving DecidableEq, Repr

/-- A PTP event or general message (R275 to R280). -/
structure PtpMsg where
  uplink : Nat
  domain : Nat
  seq : Nat
  source : Nat
  /-- The requester a Delay_Resp names. -/
  requester : Nat
  /-- The correction field, in 2^-16 ns, and the timestamp the message carries. -/
  correction : Int
  stamp : Stamp
  twoStep : Bool
  deriving DecidableEq, Repr

/-- A tie CONFIG frame's body (R323): role, PMIN_NS; for each partner member the stream, TRIM_L and TRIM_R it asks for;
and for each stream asked of it the answer: stream, WIDTH, HEIGHT, OUTFMT; a stream that does not exist or has no pipe
is answered with WIDTH 0 (DESIGN CHOICE, log entry 26). -/
structure TieConfig where
  role : Nat
  pmin : Nat
  requests : List (Nat × Nat × Nat)
  answers : List (Nat × Nat × Nat × Nat)
  deriving DecidableEq, Repr

/-- A tie BARLINE frame's body (R324). -/
structure TieBarline where
  beat : Nat
  time : Stamp
  encReq : Nat
  encAct : Nat
  flags : Nat
  deriving DecidableEq, Repr

/-- A tie HEARTBEAT frame's body (Table 13.8): beat, SCORE_GEN, servo state, and whether its primary reference is the tie
link. -/
structure TieHeartbeat where
  beat : Nat
  gen : Nat
  servo : Nat
  tiePrimary : Bool
  deriving DecidableEq, Repr

/-- A tie LINES frame's body (R326). -/
structure TieLine where
  stream : Nat
  line : Nat
  col : Nat
  cols : Nat
  beat : Nat
  stamp : Stamp
  enc : Nat
  setgen : Nat
  flags : Nat
  pixels : List Byte
  deriving DecidableEq, Repr

/-- What RXD does after a character's start edge (R355): the times of its level changes from then on, rising first, in
periods of the clock that samples it. -/
structure RxWave where
  edges : List Nat
  deriving DecidableEq, Repr

/-- A start edge at a port, and the UCLK periods for which RXD has been qualified high before it (R355, R359). -/
structure StartEdge where
  port : Nat
  high : Nat
  deriving DecidableEq, Repr

/-- A character that comes in a roll-call slot: the UCLK periods from the end of the device's last stop bit to its start edge
(R364). -/
structure RollChar where
  after : Nat
  wave : RxWave
  deriving DecidableEq, Repr

/-- What a LIN responder times before a header (R363), in UCLK periods: RXD low, then high, and T8 from the first to the fifth
falling edge of the sync field. -/
structure LinBreak where
  low : Nat
  high : Nat
  sync : Nat
  deriving DecidableEq, Repr

/-- An inbound memory request (R378): a write or a read, of how many DW, with every byte enable set or not, and its address. -/
structure InboundReq where
  write : Bool
  dw : Nat
  full : Bool
  addr : Nat
  deriving DecidableEq, Repr

/-- What the SFDP header read finds (R406). -/
structure Sfdp where
  valid : Bool
  density : Nat
  quad : Bool
  addr4 : Bool
  deriving DecidableEq, Repr

/-- The instructions of the TAP (R424). -/
inductive TapInstr where
  | extest | samplePreload | idcode | dbgChal | dbgToken | dbgAccess | bypass
  deriving DecidableEq, Repr

/-- The commands of the YU3280: one constructor per row of spec/opcode_table.json. -/
inductive Instr where
  /-- REGISTER_WRITE (R11): A write to a register that has no row of its own sets, clears or stages its fields by their access codes; for a 64-bit register a low-word write commits both words. -/
  | registerWrite (p : Path) (sp : Space) (ofs : Nat) (v : Word)
  /-- REGISTER_READ_CLEAR (R431): A read of an RC register returns the field and then clears it. -/
  | registerReadClear (p : Path) (sp : Space) (ofs : Nat)
  /-- WIDE_REGISTER_LOW_READ (R13): A read of the low word of a 64-bit register latches its current high word for a later high-word read. -/
  | wideRegisterLowRead (p : Path) (sp : Space) (ofs : Nat)
  /-- TIMER_PERIOD_EXPIRY (R20): TIMER_NS of PTP time elapses under the TIMER source and gives a tempo event. -/
  | timerPeriodExpiry
  /-- BEATIN_EDGE (R23): A qualified edge of the selected direction on BEATIN gives a tempo event under the PIN source. -/
  | beatinEdge (v : Level)
  /-- DEFERRED_BARLINE_RELEASE (R32): PMIN_NS after the previous barline a held tempo event is released and raises its clamped barline. -/
  | deferredBarlineRelease
  /-- IDLE_BARLINE (R34): IDLE_NS passes without a tempo event and the device raises an idle barline that advances beat and deadlines but triggers nothing. -/
  | idleBarline
  /-- SLOT_TABLE_START (R26): At tick 16 the slot table starts playing and beat-bound DMA and flows of the delivery beat start. -/
  | slotTableStart
  /-- SLOT_START (R258): A slot of a voice begins on a service engine and the engine takes that voice's staged tiles. -/
  | slotStart (engine voice : Nat)
  /-- SHORTFALL_CHECK (R147): At the end of tick 4,095 the device judges whether the bar was an LPDDR5 shortfall bar and counts it. -/
  | shortfallCheck (unserved : List Nat) (served hostUnserved : Nat)
  /-- LOAD_GO (R69): LOAD_CTRL.GO starts admission of a staged score from memory or flash, or is refused while a load is busy or armed. -/
  | loadGo (p : Path) (v : Word)
  /-- LOAD_CANCEL (R91): LOAD_CTRL.CANCEL discards the pending segue and changes nothing else. -/
  | loadCancel (p : Path) (v : Word)
  /-- ADMISSION_END (R73): Admission finishes its ordered checks and either rejects the score with a code and offset or arms the full load or pends the segue. -/
  | admissionEnd
  /-- FULL_LOAD_APPLY (R82): Once every halted channel has reported ABORTED the device configures every block from the score in APPLYING. -/
  | fullLoadApply
  /-- FULL_LOAD_COMMIT (R82): APPLYING completes: SCORE_GEN increments, TEMPO_CFG.EN is set, beat numbering restarts and READY rises. -/
  | fullLoadCommit
  /-- VOICE_HALT (R92): A VOICE_HALT write halts a voice in both generations, aborting its DMA, dropping tiles and products and ending its fermatas. -/
  | voiceHalt (p : Path) (v : Word)
  /-- CONTROL_REGS (R313): A verified CONTROL message with OP REGS executes its register accesses as the acting voice and sends one REPLY. -/
  | controlRegs (uplink : Nat) (m : ControlMsg)
  /-- CONTROL_SETKEY (R305): A verified CONTROL message with OP SETKEY replaces the voice's own key and makes it voice-owned. -/
  | controlSetkey (uplink : Nat) (m : ControlMsg)
  /-- DOORBELL_WRITE (R108): A doorbell write moves PROD or CONS of a queue when the index is acceptable, otherwise sets BADIDX. -/
  | doorbellWrite (p : Path) (voice queue : Nat) (v : Word)
  /-- QUEUE_POST_RELEASE (R106): A post waiting at a full device-to-voice queue is made once the voice frees an entry. -/
  | queuePostRelease (q : QueueRef) (m : MemAnswers)
  /-- VW_IRQ_MASK_WRITE (R111): Clearing a mask bit while its pending bit is 1 sends that vector once. -/
  | vwIrqMaskWrite (p : Path) (voice : Nat) (v : Word)
  /-- VIOL_INFO_CLEAR (R119): Writing 1 to VIOL_INFO.VALID clears VIOL_INFO, VIOL_BEAT, VIOL_VA and VIOL_PA together. -/
  | violInfoClear (p : Path) (v : Word)
  /-- WALK_START (R131): A TLB miss waiting for a walker starts its walk when a walker frees, in class order. -/
  | walkStart
  /-- WALK_COMPLETE (R127): A table walk ends in success, fault or violation and its leaf result is cached unless it faulted. -/
  | walkComplete (k : Nat) (r : List MemResult)
  /-- FAULT_SLOT_TAKE (R139): A faulting operation that found all 16 slots in use takes a slot when one frees and posts its record. -/
  | faultSlotTake (voice : Nat)
  /-- FAULT_RETRY (R141): VW_FAULT_RESUME RETRY with a matching tag walks again and replays the operation. -/
  | faultRetry (p : Path) (voice slot tag : Nat)
  /-- FAULT_SKIP (R141): VW_FAULT_RESUME SKIP with a matching tag completes the descriptor FAULT_SKIPPED, discards the post or skips the tile. -/
  | faultSkip (p : Path) (voice slot tag : Nat)
  /-- FAULT_ABORT (R141): VW_FAULT_RESUME ABORT with a matching tag completes the descriptor FAULT_ABORTED and stops the channel, or aborts the service result. -/
  | faultAbort (p : Path) (voice slot tag : Nat)
  /-- TLB_INVALIDATE (R133): A VW_TLB_INV write starts an invalidation of the voice's entries, or is held pending or widened. -/
  | tlbInvalidate (p : Path) (voice : Nat) (v : Word)
  /-- INVALIDATION_COMPLETE (R133): An invalidation completes once entries are removed, walks restarted and users drained, and BUSY clears. -/
  | invalidationComplete (voice : Nat)
  /-- PTROOT_WRITE (R134): A write of the low word of VW_PTROOT commits the new root and starts a voice-wide invalidation. -/
  | ptrootWrite (p : Path) (voice : Nat) (v : Word)
  /-- SCRUB_PASS (R145): A scrub pass of the tile store each second, or of LPDDR5 each PASS_S seconds, corrects single-bit errors. -/
  | scrubPass (lpddr : Bool) (corrected : Nat) (uncorrectable : List Nat)
  /-- REFMULT_POLL (R146): Every 16 ms the device polls the LPDDR5 refresh multiplier. -/
  | refmultPoll (mult : Nat) (derated : Bool)
  /-- DESCRIPTOR_FETCH_RETURN (R149): A fetched descriptor is checked and either started or completed BAD_DESCRIPTOR. -/
  | descriptorFetchReturn (ch : Nat) (m : MemAnswers)
  /-- READ_BURST_ISSUE (R158): A channel issues its next read burst once quota, in-flight bounds, credits and translation allow. -/
  | readBurstIssue (ch : Nat) (rest : Bool)
  /-- READ_BURST_RETURN (R159): Read data of a burst returns into its buffer block. -/
  | readBurstReturn (ch : Nat) (r : MemResult)
  /-- WRITE_BURST_ISSUE (R160): The write engine issues a write burst once all its bytes are buffered and both ends translated. -/
  | writeBurstIssue (ch : Nat) (rest : Bool)
  /-- WRITE_BURST_ACK (R165): A write burst is acknowledged, and the last acknowledgement triggers the descriptor's completion writebacks. -/
  | writeBurstAck (ch : Nat) (r : MemResult)
  /-- EVENT_LINE_WAIT_END (R170): A descriptor waiting with WAITEV takes a credit from its line and starts reading. -/
  | eventLineWaitEnd (ch : Nat)
  /-- DMA_CMD_RESUME (R172): CMD RESUME in a halted descriptor, seen at a doorbell, reissues the failing burst and continues. -/
  | dmaCmdResume (ch : Nat)
  /-- DMA_CMD_ABORT (R172): CMD ABORT in a halted descriptor, seen at a doorbell, completes it BUS_ERROR and stops the channel. -/
  | dmaCmdAbort (ch : Nat)
  /-- OUTBOUND_COMPLETION_TIMEOUT (R384): An outbound read's completion timeout expires and the read is a bus error. -/
  | outboundCompletionTimeout (ch : Nat)
  /-- STALE_REPLY_DISCARD (R401): A reply carrying an earlier epoch arrives and is discarded and counted. -/
  | staleReplyDiscard (epochIndex : Nat)
  /-- FRAME_START (R182): An FS short packet opens a frame of each matching stream in the current beat and may take a link UP. -/
  | frameStart (port link vc : Nat) (p : ShortHead)
  /-- FRAME_END (R182): An FE short packet closes the open frame, as an underrun when lines are short. -/
  | frameEnd (port link vc : Nat) (p : ShortHead)
  /-- LONG_PACKET_RECEIVE (R181): A long packet is checked for ECC, CRC, length and stream and stored as the next line or discarded. -/
  | longPacketReceive (k : LongPacket)
  /-- LINK_LOST (R185): Four consecutive triggered beats without an accepted FS put a link into LOST and raise LOST_EVT. -/
  | linkLost (port link : Nat)
  /-- CCI_WRITE_END (R188): A CCI write transaction ends; a NAK is retried once, a bundle continues, completes or fails and posts its BUNDLE entry. -/
  | cciWriteEnd (port : Nat) (r : CciResult)
  /-- CCI_STRETCH_TIMEOUT (R189): Clock stretching beyond 1 ms per bit times out the CCI transaction. -/
  | cciStretchTimeout (port : Nat)
  /-- CCI_DIRECT_WRITE (R198): P_CCI_CMD GO without READ queues a direct sensor register write. -/
  | cciDirectWrite (p : Path) (port : Nat) (v : Word)
  /-- CCI_DIRECT_READ (R198): P_CCI_CMD GO with READ queues a direct sensor register read. -/
  | cciDirectRead (p : Path) (port : Nat) (v : Word)
  /-- CCI_DIRECT_START (R198): A queued direct transfer starts once no window is open and no bundle runs. -/
  | cciDirectStart (port : Nat)
  /-- CCI_DIRECT_END (R198): A direct transfer ends with DONE, NAK or TIMEOUT. -/
  | cciDirectEnd (port : Nat) (r : CciResult) (data : Word)
  /-- PIPE_LINE_TAKE (R202): A pipe takes the next waiting line, counts it against its quota or refuses it, and feeds the statistics unit. -/
  | pipeLineTake (pipe : Nat)
  /-- PIPE_LINE_EMIT (R203): A pipe emits an output line, which the alignment unit places in its ring row and the probe may latch. -/
  | pipeLineEmit (stream : Nat)
  /-- WINDOW_CUT (R235): Once its rows are ready a window part of beat N is cut into the product slot with its tag, or dropped under LOCKSTEP. -/
  | windowCut (window : Nat)
  /-- STATS_RECORD_COMPUTE (R246): In beat N+1 a unit completes its record with flicker estimates and hands a lock to its cue. -/
  | statsRecordCompute (stream : Nat)
  /-- TILE_STAGE_END (R257): A service tile's inputs finish staging in the tile store and the tile becomes ready. -/
  | tileStageEnd (inst tile : Nat) (m : MemAnswers)
  /-- TILE_START (R258): A staged tile starts on its engine when its cost fits the slot or the lent rest. -/
  | tileStart (engine : Nat)
  /-- TILE_END (R258): A tile or mark closing step finishes computing and the result completes when all tiles are done. -/
  | tileEnd (engine : Nat)
  /-- IMAGE_REQUEST (R314): A verified REQUEST message takes a token and enters the device-wide request queue, or is dropped. -/
  | imageRequest (uplink : Nat) (m : ControlMsg)
  /-- SERVER_REQUEST_SERVE (R265): The server engine serves the voice's oldest queued request and sends the reply with its status. -/
  | serverRequestServe (voice : Nat) (m : MemAnswers)
  /-- ARP_REQUEST (R270): An ARP request for the uplink's IPv4 address is answered in hardware. -/
  | arpRequest (uplink : Nat) (h : RxHead) (ip target : Nat)
  /-- ICMP_ECHO_REQUEST (R270): An ICMPv4 echo request is answered within its token bucket or dropped. -/
  | icmpEchoRequest (uplink : Nat) (h : RxHead) (ip ident seqNum : Nat) (data : List Byte)
  /-- FRAME_DROP (R301): A received frame that fails acceptance or has no handler is dropped and counted. -/
  | frameDrop (uplink : Nat) (f : RxFrame)
  /-- CLK_NS_READ (R273): A read of CLK_NS latches CLK_S and CLK_FRAC. -/
  | clkNsRead (p : Path)
  /-- INCR_BASE_WRITE (R272): A write of INCR_BASE takes effect at the next TCLK. -/
  | incrBaseWrite (p : Path) (v : Word)
  /-- CLOCK_SET (R274): SET_CTRL.SET loads SET_S and SET_NS into the clock and cues are recomputed. -/
  | clockSet (p : Path) (v : Word)
  /-- CLOCK_STEP (R274): A STEP_NS write adds its signed value to the clock and cues are recomputed. -/
  | clockStep (p : Path) (v : Word)
  /-- NS_ROLLOVER (R320): The clock's NS rolls over: each available uplink sends a HEARTBEAT and PCS_ERR_WIN restarts. -/
  | nsRollover
  /-- PTP_SYNC_RX (R280): A Sync message is received and timestamped as t2. -/
  | ptpSyncRx (m : PtpMsg)
  /-- PTP_FOLLOW_UP_RX (R280): A Follow_Up supplies t1 and the servo forms and applies an offset sample. -/
  | ptpFollowUpRx (m : PtpMsg)
  /-- PTP_DELAY_REQ_TX (R278): A slave sends a Delay_Req at its interval, taking a transmit-timestamp entry. -/
  | ptpDelayReqTx (uplink : Nat)
  /-- PTP_DELAY_RESP_RX (R280): A Delay_Resp matches its Delay_Req, frees its entry and adds a delay measurement. -/
  | ptpDelayRespRx (m : PtpMsg)
  /-- DELAY_REQ_TIMEOUT (R278): A Delay_Req unmatched after 4 intervals frees its entry and is counted. -/
  | delayReqTimeout (uplink : Nat)
  /-- PTP_SYNC_TX (R275): A master sends Sync at its interval and its Follow_Up afterwards. -/
  | ptpSyncTx (uplink : Nat)
  /-- PTP_ANNOUNCE_TX (R275): A master sends Announce at its interval. -/
  | ptpAnnounceTx (uplink : Nat)
  /-- PTP_ANNOUNCE_RX (R275): An Announce feeds the best-master algorithm as slave or counts a better foreign master as master. -/
  | ptpAnnounceRx (uplink : Nat) (a : Announce)
  /-- PTP_DELAY_REQ_RX (R275): A master answers a received Delay_Req with Delay_Resp. -/
  | ptpDelayReqRx (m : PtpMsg)
  /-- PTP_HELD_MESSAGE_SEND (R279): An event message held for a full transmit-timestamp queue is sent once an entry frees. -/
  | ptpHeldMessageSend (queue : Nat)
  /-- SERVO_SYNC_TIMEOUT (R282): No sample from the selected reference for 4 Sync intervals puts the servo into LOSS with holdover. -/
  | servoSyncTimeout
  /-- PTP_ANNOUNCE_TIMEOUT (R282): The Announce timeout of the selected reference puts the servo into LOSS. -/
  | ptpAnnounceTimeout
  /-- SERVO_BLOCK_END (R283): A 16-second block ends; block frequencies are judged and the servo may enter SUSPECT, switch reference or re-lock. -/
  | servoBlockEnd
  /-- CUE_LEADING_EDGE (R290): The clock reaches a cue's edge time; the cue asserts, drives triggers and may give a tempo event. -/
  | cueLeadingEdge (cue : Nat)
  /-- CUE_TRAILING_EDGE (R290): The clock reaches the end of a cue's pulse width and the output returns inactive. -/
  | cueTrailingEdge (cue : Nat)
  /-- CUE_ARM (R293): A write of CUE_ARM_NS arms a one-shot cue at CUE_ARM_S and CUE_ARM_NS. -/
  | cueArm (p : Path) (cue : Nat) (v : Word)
  /-- CAPTURE_EDGE (R298): A qualified edge on CAPINk is stamped and entered into its FIFO, or discarded when full. -/
  | captureEdge (k : Nat) (v : Level)
  /-- CAPTURE_POP (R299): CAP_POP removes the head entry of a capture FIFO. -/
  | capturePop (p : Path) (k : Nat) (v : Word)
  /-- UPLINK_UP (R302): Block lock held for 100 ms with few PCS errors takes an uplink UP and raises UPLINK_UP. -/
  | uplinkUp (uplink : Nat)
  /-- UPLINK_DOWN (R302): Loss of signal, module or block lock takes an uplink DOWN and discards its waiting frames. -/
  | uplinkDown (uplink : Nat) (modAbs los txFault : Bool)
  /-- UPLINK_RETRAIN (R302): PCS_ERR_WIN reaching PCS_LIMIT puts an uplink into RETRAIN and raises an alert. -/
  | uplinkRetrain (uplink errors : Nat)
  /-- RETRAIN_END (R302): After 10 ms with transmitter off and PCS reset the uplink goes to DOWN. -/
  | retrainEnd (uplink : Nat)
  /-- KEY_INSTALL (R305): A write of KEY_DATA3 installs the selected voice's key unless it is voice-owned, resetting LAST_SEQ. -/
  | keyInstall (p : Path) (v : Word)
  /-- MODULE_READ (R300): MOD_CMD GO with READ reads a byte of the cage's module over its two-wire master. -/
  | moduleRead (p : Path) (uplink : Nat) (v : Word) (r : CciResult) (data : Byte)
  /-- MODULE_WRITE (R300): MOD_CMD GO without READ writes a byte to the cage's module over its two-wire master. -/
  | moduleWrite (p : Path) (uplink : Nat) (v : Word) (r : CciResult)
  /-- FLOW_FRAME_READY (R309): A flow frame becomes eligible to start within quota at the current bar tick, or on lent rest. -/
  | flowFrameReady (flow : Nat)
  /-- FRAME_TX_END (R310): A transmitted frame completes and the uplink takes its next frame by priority group. -/
  | frameTxEnd (uplink : Nat)
  /-- ALERT_RAISE (R316): A write of ALERT_RAISE queues a conductor alert with code 0x80–0xFF. -/
  | alertRaise (p : Path) (v : Word)
  /-- ALERT_CLR (R319): A write of ALERT_CLR releases ALERTn when neither HELD nor OVF holds. -/
  | alertClr (p : Path) (v : Word)
  /-- TIE_CONFIG_RX (R323): A CONFIG frame is checked for role, PMIN_NS and members and may take the link toward JOINED. -/
  | tieConfigRx (h : TieHdr) (c : TieConfig)
  /-- TIE_BARLINE_RX (R324): On a joined follow a BARLINE frame is the TIE tempo event and raises the barline with the lead's values. -/
  | tieBarlineRx (h : TieHdr) (b : TieBarline)
  /-- TIE_HEARTBEAT_RX (R327): A tie HEARTBEAT arrives and records the partner's state. -/
  | tieHeartbeatRx (h : TieHdr) (b : TieHeartbeat)
  /-- TIE_HEARTBEAT_TX (R327): Each device sends a tie HEARTBEAT every PMIN_NS of its clock. -/
  | tieHeartbeatTx
  /-- TIE_HEARTBEAT_MISS (R327): Three intervals without a partner HEARTBEAT put a joined device into ISLAND and raise TIE_SPLIT. -/
  | tieHeartbeatMiss
  /-- TIE_LANE_LOCK (R323): The tie lanes gain lock and the device sends CONFIG. -/
  | tieLaneLock
  /-- TIE_LANE_LOCK_LOSS (R327): The tie lanes lose lock, the epoch advances and a joined device enters ISLAND. -/
  | tieLaneLockLoss
  /-- TIE_FORMING_TIMEOUT (R323): IDLE_NS after the commit without joining takes a FORMING device to ISLAND. -/
  | tieFormingTimeout
  /-- TIE_TIME_SYNC_TX (R325): Every 62.5 ms each device sends TIME_SYNC and then TIME_FUP. -/
  | tieTimeSyncTx
  /-- TIE_TIME_FUP_RX (R325): A TIME_FUP is answered with TIME_DREQ. -/
  | tieTimeFupRx (h : TieHdr) (t1 : Stamp)
  /-- TIE_TIME_DREQ_RX (R325): A TIME_DREQ is answered with TIME_DRESP carrying its arrival time. -/
  | tieTimeDreqRx (h : TieHdr)
  /-- TIE_TIME_DRESP_RX (R325): A TIME_DRESP completes t1–t4 and forms an offset sample of the partner's time. -/
  | tieTimeDrespRx (h : TieHdr) (t4 : Stamp)
  /-- TIE_TIME_SYNC_RX (R325): A TIME_SYNC from the partner is received and timestamped. -/
  | tieTimeSyncRx (h : TieHdr)
  /-- TIE_LINES_RX (R326): A LINES frame's partner line is placed in its ring row or discarded as late. -/
  | tieLinesRx (h : TieHdr) (l : TieLine)
  /-- TIE_FWD_RX (R312): A FWD frame is sent out by the partner's uplink of the same number, charged to the system section. -/
  | tieFwdRx (h : TieHdr) (uplink : Nat) (bytes : List Byte)
  /-- TIE_ALERT_RX (R317): A mirrored ALERT frame is queued by the partner as its own with MIRRORED set and acknowledged. -/
  | tieAlertRx (h : TieHdr) (bytes : List Byte)
  /-- TIE_ACK_RX (R322): An ACK frame's TACK releases acknowledged reliable frames and mirrored alerts. -/
  | tieAckRx (h : TieHdr)
  /-- TIE_RESEND (R322): A reliable frame uncovered by TACK 100 µs after sending is resent with every later reliable frame. -/
  | tieResend
  /-- PROC_SAMPLE (R330): A channel's conversion completes and the code is kept or discarded, flagged and may set OPEN. -/
  | procSample (ch : Nat) (code : Word)
  /-- EXC_FAULT (R334): An excitation output enters current limit or low sense voltage and reports an excitation fault. -/
  | excFault (out : Nat) (overCurrent senseLow : Bool)
  /-- EXC_RAMP_END (R333): An excitation output's 1 ms ramp ends and its channels resume after discarding 3 samples. -/
  | excRampEnd (out : Nat)
  /-- REF_MONITOR (R338): Each millisecond the reference is compared with the band-gap and REF_FAULT set or cleared. -/
  | refMonitor (deviation : Word)
  /-- ENCODER_COUNT (R345): An accepted change of A or B counts the position up or down, or an illegal double change is counted. -/
  | encoderCount (k : Nat) (v : LevelsAB) (held : Nat)
  /-- ENCODER_INDEX (R346): An accepted rising edge of Z latches the position into ENC_ZPOS. -/
  | encoderIndex (z : IndexLevel)
  /-- ENC_CFG_WRITE (R345): A write of ENC_CFG takes effect at the next TCLK for qualification and direction. -/
  | encCfgWrite (p : Path) (k : Nat) (v : Word)
  /-- SERIAL_AREA_POLL (R350): Every 1 ms an awake port reads TX_PROD, RX_CONS, CMD and WAKE from its area. -/
  | serialAreaPoll (port : Nat)
  /-- SERIAL_NOTIFY_POST (R351): A port with pending events posts a SERIAL entry once its previous post is 100 µs old. -/
  | serialNotifyPost (port : Nat)
  /-- SERIAL_TX_START (R357): A ready TX entry starts transmission, raising DE and waiting DE_LEAD in RS-485 mode. -/
  | serialTxStart (port : Nat)
  /-- SERIAL_TX_CHAR_END (R353): A character or break leaves the line, TX_CONS advances and the next entry follows. -/
  | serialTxCharEnd (port : Nat)
  /-- SERIAL_DE_TAIL_END (R357): DE_TAIL after the last stop bit DE falls and the receiver resumes. -/
  | serialDeTailEnd (port : Nat)
  /-- SERIAL_START_EDGE (R355): A qualified start edge begins reception of a character. -/
  | serialStartEdge (v : StartEdge)
  /-- SERIAL_RX_CHAR_END (R356): A received character or break is written to the RX ring with its error flags. -/
  | serialRxCharEnd (port : Nat) (w : RxWave)
  /-- SERIAL_RX_IDLE (R351): The line idles 2 frame times after a written entry and RX becomes pending. -/
  | serialRxIdle (port : Nat)
  /-- SERIAL_SLEEP (R358): The SLEEP command asks the port to sleep, or is answered BAD with SLEEP 0. -/
  | serialSleep (port : Nat)
  /-- SERIAL_SLEEP_ENTER (R358): Once the transmitter is idle and DE low the port sleeps and posts SLEEP. -/
  | serialSleepEnter (port : Nat)
  /-- SERIAL_WAKE_EDGE (R359): A start edge wakes a start-edge-wake port, losing the character. -/
  | serialWakeEdge (port : Nat)
  /-- SERIAL_ADDRESS_MATCH (R360): A matching character on an address-match port wakes it and is written with WAKE. -/
  | serialAddressMatch (port : Nat) (w : RxWave)
  /-- SERIAL_ROLLCALL (R365): The ROLLCALL command starts the roll-call search or is answered BAD. -/
  | serialRollcall (port : Nat)
  /-- SERIAL_CANCEL (R366): The CANCEL command ends a running search ABORTED after the current slot. -/
  | serialCancel (port : Nat)
  /-- ROLLCALL_SLOT_END (R364): A probe or ping slot ends, its answer judged, and the search proceeds or finishes with its results. -/
  | rollcallSlotEnd (port : Nat) (answer : List RollChar)
  /-- LIN_FRAME_DEADLINE (R361): A LIN frame's deadline passes and an incomplete response is summarised with NO_RESPONSE. -/
  | linFrameDeadline (port : Nat)
  /-- LIN_BREAK_DETECT (R363): A responder detects a break and times the sync field for the frame. -/
  | linBreakDetect (port : Nat) (b : LinBreak)
  /-- CHECK_FEED (R370): A write of VW_CHK_DATA feeds 1, 2 or 4 bytes into the selected CRC channel. -/
  | checkFeed (p : Path) (voice : Nat) (v : Word)
  /-- CHECK_RESTART (R371): VW_CHK_CTRL with RESTART sets the selected channel's register to its init value. -/
  | checkRestart (p : Path) (voice : Nat) (v : Word)
  /-- INBOUND_UNSUPPORTED_ACCESS (R378): An inbound PCIe request of unsupported size or enables reads zero or is ignored and counted. -/
  | inboundUnsupportedAccess (q : InboundReq)
  /-- HOST_RESET (R376): A fundamental or hot reset, link down or FLR resets domain HOST and advances its epoch. -/
  | hostReset (k : HostResetKind)
  /-- MSIX_UNMASK (R381): Unmasking a vector in the MSI-X table sends its pending message. -/
  | msixUnmask (vec : Nat)
  /-- POWER_ON_RESET (R395): PORn rises after reset and the device runs the boot sequence from the straps. -/
  | powerOnReset (b : BootIn)
  /-- BROWNOUT (R391): A monitored rail below its threshold for 1 µs resets the device as PORn does. -/
  | brownout
  /-- REFCLK_LOST (R393): No REFCLK edge within 8 SCLK periods causes a clock reset. -/
  | refclkLost
  /-- PLL_UNLOCK (R393): Loss of lock in PLL_SYS, PLL_PIX or PLL_DDR causes a clock reset. -/
  | pllUnlock (pll : Nat)
  /-- PLL_MOD_UNLOCK (R393): Loss of lock in PLL_MOD makes process channels discard samples and sends vector 0. -/
  | pllModUnlock
  /-- RESET_PIN (R396): RSTn low for 1 µs puts LPDDR5 in self-refresh and resets all but AON. -/
  | resetPin
  /-- WARM_RESET (R396): RST_CTRL.WARM with the key resets all but AON, keeping LPDDR5. -/
  | warmReset (p : Path) (v : Word)
  /-- STANDBY (R404): PWR_CTRL.STANDBY requests standby at the next barline, or at once with no tempo. -/
  | standby (p : Path) (v : Word)
  /-- WAKE_PIN (R404): A falling edge of WAKEn ends standby as a wake reset. -/
  | wakePin
  /-- BLOCK_RESET (R402): BLK_CTRL RESET resets one block and advances its epoch. -/
  | blockReset (p : Path) (v : Word)
  /-- BLOCK_OFF (R402): BLK_CTRL OFF powers one block down and advances its epoch. -/
  | blockOff (p : Path) (v : Word)
  /-- BLOCK_ON (R402): BLK_CTRL ON powers one block up and advances its epoch. -/
  | blockOn (p : Path) (v : Word)
  /-- BLOCK_RESET_DONE (R401): A block action completes once old-epoch replies are drained; BUSY clears and DONE sets. -/
  | blockResetDone
  /-- SFDP_READ_END (R406): The SFDP header read completes, read modes are chosen and boot flash loads begin. -/
  | sfdpReadEnd (r : Sfdp)
  /-- LC_GETCHAL (R416): LC_CMD GETCHAL fills LC_CHALLENGE with 32 fresh random bytes. -/
  | lcGetchal (p : Path)
  /-- LC_TOKEN (R418): LC_CMD TOKEN checks the token in LC_TOKEN and carries out RETURN, REVOKE or DEBUG. -/
  | lcToken (p : Path)
  /-- LC_PROGKEY (R414): LC_CMD PROGKEY programs an empty permitted key slot with the key and usage. -/
  | lcProgkey (p : Path) (v : Word)
  /-- LC_REVOKE (R415): LC_CMD REVOKE revokes a slot in MAKER_TEST or FIELD_OPEN. -/
  | lcRevoke (p : Path) (v : Word)
  /-- LC_ADVANCE (R421): LC_CMD ADVANCE moves the life cycle to a permitted target state. -/
  | lcAdvance (p : Path) (v : Word)
  /-- LC_RELOCK (R427): LC_CMD RELOCK returns the debug scope to its reset value. -/
  | lcRelock (p : Path)
  /-- LC_COMMAND_DONE (R420): A life-cycle command finishes, writes RESULT, clears BUSY, sets DONE and sends vector 0. -/
  | lcCommandDone
  /-- LC_ERASE_END (R422): The erase of Table 19.6 completes and the new state is programmed into the fuses. -/
  | lcEraseEnd
  /-- TAP_RESET (R424): TRSTn low resets the TAP to Test-Logic-Reset with IDCODE selected. -/
  | tapReset
  /-- IDCODE (R424): The IDCODE instruction returns the device identification. -/
  | idcode
  /-- EXTEST (R425): EXTEST lets the boundary register drive the outputs and hides the inputs from the core. -/
  | extest (bits : List Bool)
  /-- EXTEST_EXIT (R425): Replacing EXTEST with another instruction resets the device as a warm reset. -/
  | extestExit (code : Nat)
  /-- SAMPLE_PRELOAD (R424): SAMPLE/PRELOAD samples and preloads the boundary register. -/
  | samplePreload (sampled preload : List Bool)
  /-- DBG_CHAL (R424): DBG_CHAL returns LC_CHALLENGE through the TAP. -/
  | dbgChal
  /-- DBG_TOKEN (R417): Update-DR of DBG_TOKEN starts a token check. -/
  | dbgToken (bytes : List Byte)
  /-- DBG_ACCESS (R426): Update-DR of DBG_ACCESS performs one 32-bit access within the unlocked scope. -/
  | dbgAccess (addr : Nat) (write : Bool) (data : Word)
  /-- BYPASS (R424): BYPASS selects the one-bit bypass register. -/
  | bypass
  /-- HOST_LINK_UP (R375): The PCI Express link finishes training and comes up, setting HOST_LINK.UP so that MSI-X messages and outbound requests can go out again. -/
  | hostLinkUp (speed width : Nat) (msixEnable extTag : Bool)
  /-- LANE_ERROR (R178): A SoT error, a low-power sequence error or a forbidden ULPS entry on a sensor lane is counted in P_LANE_ERR. -/
  | laneError (e : LaneEvent)
  /-- EXC_FAULT_CLEAR (R333): An excitation fault clears and the output ramps again over 1 ms, with its channels discarding samples. -/
  | excFaultClear (out : Nat)
  /-- PROC_SUPPLY_LOSS (R391): A process rail goes absent: the front end stops sampling, the named outputs fault with SENSE_LOW and PWR_STATUS.PROC_SUPPLY reads 0. -/
  | procSupplyLoss
  /-- PROC_SUPPLY_RETURN (R391): Both process rails return, PROC_SUPPLY reads 1 and sampling and excitation resume. -/
  | procSupplyReturn
  /-- PLL_MOD_RELOCK (R393): PLL_MOD regains lock and CLK_STATUS.MOD_LOCK returns to 1, after which channels resume keeping samples. -/
  | pllModRelock
  /-- CLOCK_RESET_RELEASE (R393): REFCLK returns and every PLL relocks, ending the clock reset; the device then boots from step 3 of Table 18.8. -/
  | clockResetRelease
  /-- AER_ERROR (R387): A link or TLP error, such as Receiver Error, Bad TLP, an inbound poisoned write or a Malformed TLP, is reported through AER and the TLP is ignored or discarded. -/
  | aerError (k : AerKind)
  deriving DecidableEq, Repr

end Sys2Proof
end

