-- ==== Sys2Proof/WellFormed.lean ====
section
/-!
DEFINITION. Which commands the block can be sent: every index an operand gives lies in the range the spec gives what it
numbers (R1, R2, Tables 2.4, 11.1, 18.5), register accesses are aligned (R12), and times have nanoseconds below one second.
-/

namespace Sys2Proof

/-- A page belongs to one of 1,024 voices (R2, R109). -/
def Space.wf : Space → Bool
  | .conductor => true
  | .page v => decide (v < 1024)

/-- Nanoseconds lie below one second (R271). -/
def Stamp.wf (t : Stamp) : Bool := decide (t.ns < 1000000000)

/-- The addresses, tags and ports of a received frame fit its headers (R301). -/
def RxHead.wf (h : RxHead) : Bool :=
  decide (h.dst < 2 ^ 48) && decide (h.src < 2 ^ 48) && (h.tags.all fun t => decide (t < 65536)) && decide (h.ip < 2 ^ 128) &&
    decide (h.dip < 2 ^ 128) && decide (h.port < 65536) && decide (h.dport < 65536)

/-- A message comes in a frame. -/
def ControlMsg.wf (m : ControlMsg) : Bool := m.head.wf

/-- A packet comes from a link of a port and carries a six-bit data type (R177, R180). -/
def LongPacket.wf (k : LongPacket) : Bool :=
  decide (k.port < 32) && decide (k.link < 4) && decide (k.vc < 16) && decide (k.dt < 64) && decide (k.ecc < 3)

/-- A message comes from an uplink. -/
def PtpMsg.wf (m : PtpMsg) : Bool := decide (m.uplink < 2) && decide (m.seq < 65536) && m.stamp.wf

/-- A line of the partner names a stream (R326). -/
def TieLine.wf (l : TieLine) : Bool := decide (l.stream < 256) && l.stamp.wf

/-- An uncorrectable error lies within a burst (R157). -/
def MemResult.wf : MemResult → Bool
  | .uncorrectable ofs => decide (ofs < 512)
  | .ok | .corrected | .hostError | .interface => true

/-- Answers to a walk of at most three reads (R127) and to an access. -/
def MemAnswers.wf (m : MemAnswers) : Bool := decide (m.walk.length ≤ 3) && m.walk.all MemResult.wf && m.data.wf

/-- Times that rise, each after `t`. -/
def risingFrom (t : Nat) : List Nat → Bool
  | [] => true
  | a :: l => decide (t < a) && risingFrom a l

/-- RXD has been qualified low by three samples (R355), and its changes come one after another. -/
def RxWave.wf (w : RxWave) : Bool := risingFrom 2 w.edges

/-- The ranges of a command's operands. -/
def Instr.wf : Instr → Bool
  | .registerWrite _ sp ofs _ => sp.wf && decide (ofs % 4 = 0)
  | .registerReadClear _ sp ofs => sp.wf && decide (ofs % 4 = 0)
  | .wideRegisterLowRead _ sp ofs => sp.wf && decide (ofs % 4 = 0)
  | .timerPeriodExpiry => true
  | .beatinEdge _ => true
  | .deferredBarlineRelease => true
  | .idleBarline => true
  | .slotTableStart => true
  | .slotStart engine voice => decide (engine < 7) && decide (voice < 1024)
  | .shortfallCheck unserved _ _ => (unserved.all fun v => decide (v < 1024))
  | .loadGo _ _ => true
  | .loadCancel _ _ => true
  | .admissionEnd => true
  | .fullLoadApply => true
  | .fullLoadCommit => true
  | .voiceHalt _ _ => true
  | .controlRegs uplink m => decide (uplink < 2) && m.wf
  | .controlSetkey uplink m => decide (uplink < 2) && m.wf
  | .doorbellWrite _ voice queue _ => decide (voice < 1024) && decide (queue < 16)
  | .queuePostRelease q m => decide (q.voice < 1024) && decide (q.queue < 16) && m.wf
  | .vwIrqMaskWrite _ voice _ => decide (voice < 1024)
  | .violInfoClear _ _ => true
  | .walkStart => true
  | .walkComplete k r => decide (k < 32) && decide (r.length ≤ 3) && r.all MemResult.wf
  | .faultSlotTake voice => decide (voice < 1024)
  | .faultRetry _ voice slot tag => decide (voice < 1024) && decide (slot < 16) && decide (tag < 16)
  | .faultSkip _ voice slot tag => decide (voice < 1024) && decide (slot < 16) && decide (tag < 16)
  | .faultAbort _ voice slot tag => decide (voice < 1024) && decide (slot < 16) && decide (tag < 16)
  | .tlbInvalidate _ voice _ => decide (voice < 1024)
  | .invalidationComplete voice => decide (voice < 1024)
  | .ptrootWrite _ voice _ => decide (voice < 1024)
  | .scrubPass _ _ uncorrectable => (uncorrectable.all fun a => decide (a < 1099511627776))
  | .refmultPoll mult _ => decide (mult < 8)
  | .descriptorFetchReturn ch m => decide (ch < 128) && m.wf
  | .readBurstIssue ch _ => decide (ch < 128)
  | .readBurstReturn ch r => decide (ch < 128) && r.wf
  | .writeBurstIssue ch _ => decide (ch < 128)
  | .writeBurstAck ch r => decide (ch < 128) && r.wf
  | .eventLineWaitEnd ch => decide (ch < 128)
  | .dmaCmdResume ch => decide (ch < 128)
  | .dmaCmdAbort ch => decide (ch < 128)
  | .outboundCompletionTimeout ch => decide (ch < 128)
  | .staleReplyDiscard epochIndex => decide (epochIndex < 64)
  | .frameStart port link vc _ => decide (port < 32) && decide (link < 4) && decide (vc < 16)
  | .frameEnd port link vc _ => decide (port < 32) && decide (link < 4) && decide (vc < 16)
  | .longPacketReceive k => k.wf
  | .linkLost port link => decide (port < 32) && decide (link < 4)
  | .cciWriteEnd port _ => decide (port < 32)
  | .cciStretchTimeout port => decide (port < 32)
  | .cciDirectWrite _ port _ => decide (port < 32)
  | .cciDirectRead _ port _ => decide (port < 32)
  | .cciDirectStart port => decide (port < 32)
  | .cciDirectEnd port _ _ => decide (port < 32)
  | .pipeLineTake pipe => decide (pipe < 16)
  | .pipeLineEmit stream => decide (stream < 256)
  | .windowCut window => decide (window < 1024)
  | .statsRecordCompute stream => decide (stream < 256)
  | .tileStageEnd inst tile m => decide (inst < 256) && decide (tile < 65536) && m.wf
  | .tileStart engine => decide (engine < 7)
  | .tileEnd engine => decide (engine < 7)
  | .imageRequest uplink m => decide (uplink < 2) && m.wf
  | .serverRequestServe voice m => decide (voice < 1024) && m.wf
  | .arpRequest uplink h ip target => decide (uplink < 2) && h.wf && decide (ip < 4294967296) && decide (target < 4294967296)
  | .icmpEchoRequest uplink h ip ident seqNum _ => decide (uplink < 2) && h.wf && decide (ip < 2 ^ 32) && decide (ident < 65536) && decide (seqNum < 65536)
  | .frameDrop uplink f => decide (uplink < 2) && f.head.wf
  | .clkNsRead _ => true
  | .incrBaseWrite _ _ => true
  | .clockSet _ _ => true
  | .clockStep _ _ => true
  | .nsRollover => true
  | .ptpSyncRx m => m.wf
  | .ptpFollowUpRx m => m.wf
  | .ptpDelayReqTx uplink => decide (uplink < 2)
  | .ptpDelayRespRx m => m.wf
  | .delayReqTimeout uplink => decide (uplink < 2)
  | .ptpSyncTx uplink => decide (uplink < 2)
  | .ptpAnnounceTx uplink => decide (uplink < 2)
  | .ptpAnnounceRx uplink _ => decide (uplink < 2)
  | .ptpDelayReqRx m => m.wf
  | .ptpHeldMessageSend queue => decide (queue < 3)
  | .servoSyncTimeout => true
  | .ptpAnnounceTimeout => true
  | .servoBlockEnd => true
  | .cueLeadingEdge cue => decide (cue < 32)
  | .cueTrailingEdge cue => decide (cue < 32)
  | .cueArm _ cue _ => decide (cue < 32)
  | .captureEdge k _ => decide (k < 8)
  | .capturePop _ k _ => decide (k < 8)
  | .uplinkUp uplink => decide (uplink < 2)
  | .uplinkDown uplink _ _ _ => decide (uplink < 2)
  | .uplinkRetrain uplink _ => decide (uplink < 2)
  | .retrainEnd uplink => decide (uplink < 2)
  | .keyInstall _ _ => true
  | .moduleRead _ uplink _ _ _ => decide (uplink < 2)
  | .moduleWrite _ uplink _ _ => decide (uplink < 2)
  | .flowFrameReady flow => decide (flow < 2048)
  | .frameTxEnd uplink => decide (uplink < 2)
  | .alertRaise _ _ => true
  | .alertClr _ _ => true
  | .tieConfigRx _ _ => true
  | .tieBarlineRx _ b => b.time.wf
  | .tieHeartbeatRx _ _ => true
  | .tieHeartbeatTx => true
  | .tieHeartbeatMiss => true
  | .tieLaneLock => true
  | .tieLaneLockLoss => true
  | .tieFormingTimeout => true
  | .tieTimeSyncTx => true
  | .tieTimeFupRx _ t1 => t1.wf
  | .tieTimeDreqRx _ => true
  | .tieTimeDrespRx _ t4 => t4.wf
  | .tieTimeSyncRx _ => true
  | .tieLinesRx _ l => l.wf
  | .tieFwdRx _ uplink _ => decide (uplink < 2)
  | .tieAlertRx _ _ => true
  | .tieAckRx _ => true
  | .tieResend => true
  | .procSample ch _ => decide (ch < 16)
  | .excFault out _ _ => decide (out < 4)
  | .excRampEnd out => decide (out < 4)
  | .refMonitor _ => true
  | .encoderCount k _ _ => decide (k < 4)
  | .encoderIndex z => decide (z.k < 4)
  | .encCfgWrite _ k _ => decide (k < 4)
  | .serialAreaPoll port => decide (port < 8)
  | .serialNotifyPost port => decide (port < 8)
  | .serialTxStart port => decide (port < 8)
  | .serialTxCharEnd port => decide (port < 8)
  | .serialDeTailEnd port => decide (port < 8)
  | .serialStartEdge v => decide (v.port < 8)
  | .serialRxCharEnd port w => decide (port < 8) && w.wf
  | .serialRxIdle port => decide (port < 8)
  | .serialSleep port => decide (port < 8)
  | .serialSleepEnter port => decide (port < 8)
  | .serialWakeEdge port => decide (port < 8)
  | .serialAddressMatch port w => decide (port < 8) && w.wf
  | .serialRollcall port => decide (port < 8)
  | .serialCancel port => decide (port < 8)
  | .rollcallSlotEnd port answer => decide (port < 8) && answer.all fun c => c.wave.wf
  | .linFrameDeadline port => decide (port < 8)
  | .linBreakDetect port b => decide (port < 8) && decide (0 < b.low) && decide (0 < b.high) && decide (0 < b.sync)
  | .checkFeed _ voice _ => decide (voice < 1024)
  | .checkRestart _ voice _ => decide (voice < 1024)
  | .inboundUnsupportedAccess q => decide (0 < q.dw) && decide (q.dw ≤ 1024) && decide (q.addr % 4 = 0)
  | .hostReset _ => true
  | .msixUnmask vec => decide (vec < 2048)
  | .powerOnReset _ => true
  | .brownout => true
  | .refclkLost => true
  | .pllUnlock pll => decide (pll < 3)
  | .pllModUnlock => true
  | .resetPin => true
  | .warmReset _ _ => true
  | .standby _ _ => true
  | .wakePin => true
  | .blockReset _ _ => true
  | .blockOff _ _ => true
  | .blockOn _ _ => true
  | .blockResetDone => true
  | .sfdpReadEnd _ => true
  | .lcGetchal _ => true
  | .lcToken _ => true
  | .lcProgkey _ _ => true
  | .lcRevoke _ _ => true
  | .lcAdvance _ _ => true
  | .lcRelock _ => true
  | .lcCommandDone => true
  | .lcEraseEnd => true
  | .tapReset => true
  | .idcode => true
  | .extest _ => true
  | .extestExit code => decide (code < 256)
  | .samplePreload _ _ => true
  | .dbgChal => true
  | .dbgToken _ => true
  | .dbgAccess addr _ _ => decide (addr < 17592186044416)
  | .bypass => true
  | .hostLinkUp _ _ _ _ => true
  | .laneError e => decide (e.port < 32) && decide (e.lane < 8)
  | .excFaultClear out => decide (out < 4)
  | .procSupplyLoss => true
  | .procSupplyReturn => true
  | .pllModRelock => true
  | .clockResetRelease => true
  | .aerError _ => true

end Sys2Proof
end

