-- ==== Sys2Proof/Machine/Bits.lean ====
section
/-!
DEFINITION. Fields of words, little- and big-endian bytes, signed readings and fixed point (spec/00_scope.md R7 to
R10, R16).
-/

namespace Sys2Proof.Machine

/-- Bits `[hi:lo]` of `n` (R7). -/
def fld (hi lo n : Nat) : Nat := (n >>> lo) % 2 ^ (hi + 1 - lo)

/-- Bit `k` of `n`. -/
def bit (k n : Nat) : Bool := n.testBit k

/-- `n` with bits `[hi:lo]` replaced by `v`. -/
def setFld (hi lo v n : Nat) : Nat :=
  n % 2 ^ lo + (v % 2 ^ (hi + 1 - lo)) <<< lo + (n >>> (hi + 1)) <<< (hi + 1)

/-- `n` with bit `k` set to `b`. -/
def setBit (k : Nat) (b : Bool) (n : Nat) : Nat := setFld k k b.toNat n

/-- The number a Bool stands for in a bit field. -/
def b2n (b : Bool) : Nat := b.toNat

/-- The two's-complement reading of the low `w` bits of `n` (R9). -/
def sext (w n : Nat) : Int :=
  let m := n % 2 ^ w
  if m < 2 ^ (w - 1) then m else (m : Int) - 2 ^ w

/-- An integer in `w` bits, two's complement. -/
def toBits (w : Nat) (i : Int) : Nat := (i % (2 ^ w : Int)).toNat

/-- Addition that stops at `max` (R16). -/
def satAdd (max a b : Nat) : Nat := min max (a + b)

/-- The value of bytes stored little-endian (R8). -/
def leNat : List Byte → Nat
  | [] => 0
  | b :: t => b.toNat + 256 * leNat t

/-- The value of bytes stored in network order. -/
def beNat (l : List Byte) : Nat := l.foldl (fun a b => a * 256 + b.toNat) 0

/-- `k` bytes of `n`, little-endian. -/
def toLe : Nat → Nat → List Byte
  | 0, _ => []
  | k + 1, n => BitVec.ofNat 8 n :: toLe k (n / 256)

/-- `k` bytes of `n` in network order. -/
def toBe (k n : Nat) : List Byte := (toLe k n).reverse

/-- `n` bytes of a list from offset `o`; bytes beyond its end read as 0. -/
def bytesAt (l : List Byte) (o n : Nat) : List Byte :=
  let t := (l.drop o).take n
  t ++ List.replicate (n - t.length) 0

/-- The little-endian field of `n` bytes at offset `o`. -/
def leAt (l : List Byte) (o n : Nat) : Nat := leNat ((l.drop o).take n)

/-- The network-order field of `n` bytes at offset `o`. -/
def beAt (l : List Byte) (o n : Nat) : Nat := beNat (bytesAt l o n)

/-- `n` zero bytes. -/
def zeros (n : Nat) : List Byte := List.replicate n 0

/-- Clamp an integer into `lo`..`hi`. -/
def clampI (lo hi x : Int) : Int := max lo (min hi x)

/-- Round `a / b` by adding one half and truncating toward minus infinity (R10). -/
def roundDiv (a : Int) (b : Nat) : Int := (2 * a + b) / (2 * (b : Int))

/-- Round up `a` to a multiple of `b`. -/
def roundUp (a b : Nat) : Nat := (a + b - 1) / b * b

/-- The integer square root by bits from `k` down. -/
def isqrtGo (n : Nat) : Nat → Nat → Nat
  | 0, r => r
  | k + 1, r => let t := r + 2 ^ k; isqrtGo n k (if t * t ≤ n then t else r)

/-- The integer square root of a number below 2^128. -/
def isqrt (n : Nat) : Nat := isqrtGo n 64 0

/-- The sum of a list of naturals. -/
def sumN (l : List Nat) : Nat := l.foldl (· + ·) 0

/-- The first index of a list whose element meets `p`. -/
def findIdx? {α : Type} (p : α → Bool) : List α → Option Nat
  | [] => none
  | a :: t => if p a then some 0 else (findIdx? p t).map (· + 1)

/-- `l` with the element at `k` replaced; unchanged where there is none. -/
def setAt {α : Type} : List α → Nat → α → List α
  | [], _, _ => []
  | _ :: t, 0, a => a :: t
  | b :: t, k + 1, a => b :: setAt t k a

/-- Insertion by a key, in rising order, after equal keys. -/
def insertBy {α : Type} (key : α → Nat) (a : α) : List α → List α
  | [] => [a]
  | b :: t => if key a < key b then a :: b :: t else b :: insertBy key a t

/-- A stable sort by a key, in rising order. -/
def sortBy {α : Type} (key : α → Nat) (l : List α) : List α := l.foldl (fun acc a => insertBy key a acc) []

end Sys2Proof.Machine
end

