-- ==== Sys2Proof/Machine/Crypto.lean ====
section
/-!
DEFINITION. The cryptographic functions the spec names: AES-128-CMAC (R304), SHA-256 and ECDSA P-256 (Table 2.31,
R418). The functions themselves are those of the standards the spec names (PRESUMED, log entry 13).
-/

namespace Sys2Proof.Machine

/-! ### AES-128 -/

/-- Multiplication by x in the field of AES. -/
def gfDouble (a : Nat) : Nat := if a < 128 then 2 * a else (2 * a) % 256 ^^^ 0x1B

/-- The S-box by rows of sixteen values, the first value of a row in its lowest byte. -/
def aesRows : List Nat :=
  [0x76abd7fe2b670130c56f6bf27b777c63, 0xc072a49cafa2d4adf04759fa7dc982ca, 0x1531d871f1e5a534ccf73f362693fdb7,
    0x75b227ebe28012079a059618c323c704, 0x842fe329b3d63b52a05a6e1b1a2c8309, 0xcf584c4a39becb6a5bb1fc20ed00d153,
    0xa89f3c507f02f94585334d43fbaaefd0, 0xd2f3ff1021dab6bcf5389d928f40a351, 0x73195d643d7ea7c41744975fec130ccd,
    0xdb0b5ede14b8ee4688902a22dc4f8160, 0x79e4959162acd3c25c2406490a3a32e0, 0x08ae7a65eaf4566ca94ed58d6d37c8e7,
    0x8a8bbd4b1f74dde8c6b4a61c2e2578ba, 0x9e1dc186b95735610ef6034866b53e70, 0xdf2855cee9871e9b948ed9691198f8e1,
    0x16bb54b00f2d99416842e6bf0d89a18c]

/-- The S-box. -/
def aesSbox (a : Nat) : Nat := (((aesRows[a / 16]?).getD 0) >>> (8 * (a % 16))) % 256

/-- Byte-wise exclusive or. -/
def xorBytes (a b : List Nat) : List Nat := List.zipWith (· ^^^ ·) a b

/-- The next round key and round constant. -/
def aesNextKey (key : List Nat) (rc : Nat) : List Nat :=
  let w0 := key.take 4
  let w1 := (key.drop 4).take 4
  let w2 := (key.drop 8).take 4
  let w3 := key.drop 12
  let r := (w3.drop 1 ++ w3.take 1).map aesSbox
  let v0 := xorBytes (xorBytes w0 r) [rc, 0, 0, 0]
  let v1 := xorBytes w1 v0
  let v2 := xorBytes w2 v1
  v0 ++ v1 ++ v2 ++ xorBytes w3 v2

/-- Byte `i` of a block, 0 beyond it. -/
def nthByte (l : List Nat) (i : Nat) : Nat := (l[i]?).getD 0

/-- ShiftRows on a block in column order. -/
def aesShiftRows (b : List Nat) : List Nat :=
  (List.range 16).map fun k => nthByte b ((k + 4 * (k % 4)) % 16)

/-- MixColumns on a block in column order. -/
def aesMixColumns (b : List Nat) : List Nat :=
  (List.range 16).map fun k =>
    let c := k / 4 * 4
    let a (j : Nat) : Nat := nthByte b (c + (k + j) % 4)
    gfDouble (a 0) ^^^ (gfDouble (a 1) ^^^ a 1) ^^^ a 2 ^^^ a 3

/-- The rounds that remain; the last one has no MixColumns. -/
def aesRounds : Nat → Nat → List Nat → List Nat → List Nat
  | 0, _, _, b => b
  | n + 1, rc, key, b =>
    let k := aesNextKey key rc
    let t := aesShiftRows (b.map aesSbox)
    aesRounds n (gfDouble rc) k (xorBytes (if n = 0 then t else aesMixColumns t) k)

/-- AES-128 of one block. -/
def aes128 (key block : List Nat) : List Nat := aesRounds 10 1 key (xorBytes block key)

/-- A block shifted left by one bit, with the constant of RFC 4493. -/
def cmacDouble (b : List Nat) : List Nat :=
  let n := b.foldl (fun a x => a * 256 + x) 0
  let m := (2 * n) % 2 ^ 128 ^^^ (if n < 2 ^ 127 then 0 else 0x87)
  (List.range 16).map fun k => (m >>> (8 * (15 - k))) % 256

/-- The CMAC chain over the message that remains, `n` blocks at most. -/
def cmacGo (key k1 k2 : List Nat) : Nat → List Nat → List Nat → List Nat
  | 0, x, _ => x
  | n + 1, x, m =>
    if m.length = 16 then aes128 key (xorBytes x (xorBytes m k1))
    else if m.length < 16 then
      let p := m ++ [0x80] ++ List.replicate (15 - m.length) 0
      aes128 key (xorBytes x (xorBytes p k2))
    else cmacGo key k1 k2 n (aes128 key (xorBytes x (m.take 16))) (m.drop 16)

/-- AES-128-CMAC (RFC 4493) of a byte string. -/
def cmac (key msg : List Byte) : List Byte :=
  let k := key.map (·.toNat)
  let k1 := cmacDouble (aes128 k (List.replicate 16 0))
  (cmacGo k k1 (cmacDouble k1) (msg.length / 16 + 1) (List.replicate 16 0) (msg.map (·.toNat))).map
    (BitVec.ofNat 8 ·)

/-! ### SHA-256 -/

/-- Is `n` a prime, by trial of the numbers from 2 on? -/
def isPrime (n : Nat) : Bool := (List.range n).all fun d => decide (d < 2) || n % d != 0

/-- The first 64 primes. -/
def primes64 : List Nat := (List.range 312).filter fun n => decide (2 ≤ n) && isPrime n

/-- The integer cube root by bits from `k` down. -/
def icbrtGo (n : Nat) : Nat → Nat → Nat
  | 0, r => r
  | k + 1, r => let t := r + 2 ^ k; icbrtGo n k (if t * t * t ≤ n then t else r)

/-- Round constants: the fractions of the cube roots of the first 64 primes. -/
def shaK : List Nat := primes64.map fun p => icbrtGo (p * 2 ^ 96) 36 0 % 2 ^ 32

/-- Initial hash: the fractions of the square roots of the first 8 primes. -/
def shaInit : List Nat := (primes64.take 8).map fun p => isqrt (p * 2 ^ 64) % 2 ^ 32

/-- Rotation of a 32-bit word to the right. -/
def rotr (n x : Nat) : Nat := x / 2 ^ n + (x * 2 ^ (32 - n)) % 2 ^ 32

/-- The message schedule, the newest word first: `n` words more. -/
def shaSchedule : Nat → List Nat → List Nat
  | 0, w => w
  | n + 1, w =>
    let a := (w[1]?).getD 0
    let b := (w[14]?).getD 0
    let s0 := rotr 7 b ^^^ rotr 18 b ^^^ (b >>> 3)
    let s1 := rotr 17 a ^^^ rotr 19 a ^^^ (a >>> 10)
    shaSchedule n (((s1 + (w[6]?).getD 0 + s0 + (w[15]?).getD 0) % 2 ^ 32) :: w)

/-- One round of the compression. -/
def shaRound (h : List Nat) (kw : Nat × Nat) : List Nat :=
  match h with
  | [a, b, c, d, e, f, g, x] =>
    let t1 := x + (rotr 6 e ^^^ rotr 11 e ^^^ rotr 25 e) + ((e &&& f) ^^^ ((2 ^ 32 - 1 - e) &&& g)) + kw.1 + kw.2
    let t2 := (rotr 2 a ^^^ rotr 13 a ^^^ rotr 22 a) + ((a &&& b) ^^^ (a &&& c) ^^^ (b &&& c))
    [(t1 + t2) % 2 ^ 32, a, b, c, (d + t1) % 2 ^ 32, e, f, g]
  | l => l

/-- Compress one block of 64 bytes. -/
def shaBlock (h : List Nat) (b : List Byte) : List Nat :=
  let w := (List.range 16).map fun k => beNat ((b.drop (4 * k)).take 4)
  let ws := (shaSchedule 48 w.reverse).reverse
  List.zipWith (fun x y => (x + y) % 2 ^ 32) h ((List.zip shaK ws).foldl shaRound h)

/-- Compress `n` blocks. -/
def shaGo : Nat → List Nat → List Byte → List Nat
  | 0, h, _ => h
  | n + 1, h, m => shaGo n (shaBlock h (m.take 64)) (m.drop 64)

/-- SHA-256 of a byte string, as a number. -/
def sha256 (m : List Byte) : Nat :=
  let z := (119 - m.length % 64) % 64
  let p := m ++ [0x80] ++ zeros z ++ toBe 8 (8 * m.length)
  (shaGo (p.length / 64) shaInit p).foldl (fun a x => a * 2 ^ 32 + x) 0

/-! ### ECDSA on P-256 -/

/-- The field prime. -/
def p256P : Nat := 2 ^ 256 - 2 ^ 224 + 2 ^ 192 + 2 ^ 96 - 1
/-- The group order. -/
def p256N : Nat := 0xffffffff00000000ffffffffffffffffbce6faada7179e84f3b9cac2fc632551
/-- The curve constant. -/
def p256B : Nat := 0x5ac635d8aa3a93e7b3ebbd55769886bc651d06b0cc53b0f63bce3c3e27d2604b
/-- The base point. -/
def p256G : Nat × Nat :=
  (0x6b17d1f2e12c4247f8bce6e563a440f277037d812deb33a0f4a13945d898c296,
   0x4fe342e2fe1a7f9b8ee7eb4a7c0f9e162bce33576b315ececbb6406837bf51f5)

/-- `a ^ e mod m` over `k` bits of `e`. -/
def powMod (m : Nat) : Nat → Nat → Nat → Nat
  | 0, _, _ => 1
  | k + 1, a, e => (if e % 2 = 1 then a else 1) * powMod m k (a * a % m) (e / 2) % m

/-- The inverse modulo a prime below 2^256. -/
def invMod (m a : Nat) : Nat := powMod m 256 a (m - 2)

/-- Addition on the curve; none is the point at infinity. -/
def ecAdd : Option (Nat × Nat) → Option (Nat × Nat) → Option (Nat × Nat)
  | none, q => q
  | p, none => p
  | some (x1, y1), some (x2, y2) =>
    if x1 = x2 ∧ (y1 + y2) % p256P = 0 then none
    else
      let l := if x1 = x2 then (3 * x1 * x1 + (p256P - 3)) * invMod p256P (2 * y1 % p256P) % p256P
        else (y2 + p256P - y1) * invMod p256P ((x2 + p256P - x1) % p256P) % p256P
      let x := (l * l + 2 * p256P - x1 - x2) % p256P
      some (x, (l * (x1 + p256P - x) + p256P - y1) % p256P)

/-- A multiple of a point, over `k` bits. -/
def ecMul : Nat → Nat → Option (Nat × Nat) → Option (Nat × Nat)
  | 0, _, _ => none
  | k + 1, e, p => ecAdd (if e % 2 = 1 then p else none) (ecMul k (e / 2) (ecAdd p p))

/-- Is a point on the curve and not at infinity? -/
def onCurve (x y : Nat) : Bool :=
  decide (x < p256P) && decide (y < p256P) && (y * y) % p256P == (x * x * x + (p256P - 3) * x + p256B) % p256P

/-- Does the signature `(r, s)` of a message hold under the public key `(qx, qy)`? -/
def ecdsaVerify (qx qy : Nat) (msg : List Byte) (r s : Nat) : Bool :=
  if r = 0 ∨ p256N ≤ r ∨ s = 0 ∨ p256N ≤ s ∨ !onCurve qx qy then false
  else
    let w := invMod p256N s
    let u1 := sha256 msg % p256N * w % p256N
    let u2 := r * w % p256N
    match ecAdd (ecMul 256 u1 (some p256G)) (ecMul 256 u2 (some (qx, qy))) with
    | none => false
    | some (x, _) => x % p256N == r

end Sys2Proof.Machine
end

