-- ==== Sys2Proof/Config.lean ====
section
/-!
DEFINITION. What the spec leaves open: free values. None has a body, so nothing can be proved of what they are.
-/

namespace Sys2Proof.Config

/-- The random bytes of a life-cycle challenge (R416), one word a use: use `n`, word `k`. -/
opaque random (n k : Nat) : BitVec 32

/-- The error inside the tolerance a rule allows a computed value (R281 and the rules of chapters 10 and 11 that say
"to within"): use `n`. The model clamps it to the tolerance. -/
opaque error (n : Nat) : Int

/-- A value that the spec leaves undefined: use `n`. -/
opaque undefined (n : Nat) : BitVec 64

/-- Does an access of the device's own to LPDDR5 meet an interface error (R144)? The spec leaves it to the memory: use `n`. -/
opaque interfaceError (n : Nat) : Bool

/-- Does a programmed fuse fail to verify (ch. 19, FUSE_FAIL)? The spec leaves it to the part: use `n`. -/
opaque fuseFails (n : Nat) : Bool

/-- The revision that IDCODE reads (R424). -/
opaque revision : BitVec 4

/-- The fused manufacturer identity that IDCODE reads (R424). -/
opaque manufacturer : BitVec 11

/-- The capacity of an uplink's egress buffer in bytes of waiting frames (R318), which the spec leaves to the part. -/
opaque egressBytes : Nat

/-- MAXFRAME of the tie partner's uplink (R307, R312), which this device does not know. -/
opaque tieMaxframe : Nat

end Sys2Proof.Config
end

