-- ==== Sys2Proof/Machine/Crc.lean ====
section
/-!
DEFINITION. The cyclic checks of the device (R42, R368, R369): CRC-32, CRC-32C, CRC-16/CCITT and CRC-8.
-/

namespace Sys2Proof.Machine

/-- The parameters of one polynomial of Table 16.1. -/
structure CrcKind where
  width : Nat
  poly : Nat
  init : Nat
  reflected : Bool
  final : Nat
  deriving DecidableEq, Repr

/-- Table 16.1 by CHECK.POLY. -/
def crcKind : Nat → CrcKind
  | 0 => ⟨32, 0x04C11DB7, 0xFFFFFFFF, true, 0xFFFFFFFF⟩
  | 1 => ⟨32, 0x1EDC6F41, 0xFFFFFFFF, true, 0xFFFFFFFF⟩
  | 2 => ⟨16, 0x1021, 0xFFFF, false, 0⟩
  | _ => ⟨8, 0x07, 0, false, 0⟩

/-- The low `w` bits of `n` in reversed order: `reverse_W` of R369. -/
def revBits : Nat → Nat → Nat
  | 0, _ => 0
  | w + 1, n => (n % 2) * 2 ^ w + revBits w (n / 2)

/-- `n` shift steps of a reflected register with reversed polynomial `p`. -/
def crcShiftRight (p : Nat) : Nat → Nat → Nat
  | 0, c => c
  | n + 1, c => crcShiftRight p n (if c % 2 = 1 then (c / 2) ^^^ p else c / 2)

/-- `n` shift steps of a plain register of width `w` with polynomial `p`. -/
def crcShiftLeft (w p : Nat) : Nat → Nat → Nat
  | 0, c => c
  | n + 1, c =>
    crcShiftLeft w p n (if c.testBit (w - 1) then ((c * 2) ^^^ p) % 2 ^ w else (c * 2) % 2 ^ w)

/-- One byte into the register (R369). -/
def crcByte (k : CrcKind) (c : Nat) (b : Byte) : Nat :=
  if k.reflected then crcShiftRight (revBits k.width k.poly) 8 (c ^^^ b.toNat)
  else crcShiftLeft k.width k.poly 8 (c ^^^ (b.toNat <<< (k.width - 8)))

/-- The register after a list of bytes. -/
def crcFeed (k : CrcKind) (c : Nat) (bs : List Byte) : Nat := bs.foldl (crcByte k) c

/-- The finished CRC of a byte string (R369). -/
def crcOf (k : CrcKind) (bs : List Byte) : Nat := crcFeed k k.init bs ^^^ k.final

/-- CRC-32C of a byte string (R42). -/
def crc32c (bs : List Byte) : Nat := crcOf (crcKind 1) bs

/-- CRC-8 of a byte string, polynomial 0x07 (R365). -/
def crc8 (bs : List Byte) : Nat := crcOf (crcKind 3) bs

end Sys2Proof.Machine
end

