-- ==== Sys2Proof/Machine/RegId.lean ====
section
/-!
DEFINITION. The register map (spec/20_register_map.md, R428, with the field tables of the owning chapters): one name per
register, its block, offset, stride, width, reset value, reset domain and fields with their access codes (R11).
-/

namespace Sys2Proof.Machine

/-- The blocks of Table 20.1; `VW` is the voice page of Table 20.16. -/
inductive Block where
  | SYS | BEAT | MEM | DMA | PORT | PIPE | SVC | TIME | NET | TIE | PROC | SER | CHK | HOST | LC | VW
  deriving DecidableEq, Repr

/-- The reset domains of Table 18.3 that hold registers. -/
inductive Dom where
  | AON | FABRIC | TIME | PROC | PORT | NET | HOST
  deriving DecidableEq, Repr

/-- The access codes of Table 0.3. -/
inductive Acc where
  | RW | RO | WO | W1C | W1S | RC | RWL
  deriving DecidableEq, Repr

/-- Which values a field takes: any other value is a reserved encoding, which a write leaves out (R15). -/
inductive FieldOk where
  | any
  | range (lo hi : Nat)
  /-- PTP_CFG.LOG_SYNC: a 3-bit signed value from -4 to +1. -/
  | logSync
  /-- PMIN_NS: a multiple of 16 in 20,000 to 2,000,000,000 (R24). -/
  | pmin
  deriving DecidableEq, Repr

/-- One field of a register: its bits, its access code and its allowed values. -/
structure Field where
  hi : Nat
  lo : Nat
  acc : Acc
  ok : FieldOk := .any
  deriving DecidableEq, Repr

/-- One row of the register map. `inner` and `innerStride` describe a register of several words inside an array
entry (SEN_SETGEN, PROBE_DMS, ALERT_IP): its index is `outer * inner + k`. -/
structure RegRow where
  block : Block
  ofs : Nat
  stride : Nat
  count : Nat
  inner : Nat := 1
  innerStride : Nat := 4
  wide : Bool := false
  dom : Dom
  fields : List Field
  deriving DecidableEq, Repr

/-- The registers of the device, by the manual's names (R428; `DMA_CH_CFG` and `PROC_CH_CFG` are the two
registers named CH_CFG). -/
inductive RegId where
  | RST_CAUSE | RST_CTRL | PWR_CTRL | PWR_STATUS | CLK_STATUS | BOOT_STATUS | BOOT_CODES | FLASH_INFO
  | MEM_RETAIN | BLK_CTRL | BLK_STATUS | SYS_EVT | LOAD_ADDR | LOAD_LEN | LOAD_CTRL | LOAD_STATUS
  | LOAD_FAIL_OFS | LOAD_FAIL_RES | SCORE_GEN | SCORE_ID | LAST_COMMIT_BEAT | PENDING_BEAT | VOICE_HALT | HALT_MAP
  | VIOL_CTRL | VIOL_INFO | VIOL_BEAT | VIOL_VA | VIOL_PA | VIOL_MAP | EPOCH_TAB | VOICE_VIOL_CNT
  | TEMPO_CFG | TEMPO_DIV | PMIN_NS | IDLE_NS | TIMER_NS | BAR_TICK | BEAT_NUM | BEAT_TIME_S
  | BEAT_TIME_NS | BEAT_TICK | TEMPO_STATUS | CLAMP_CNT | DROP_CNT | IDLE_CNT | LAST_PERIOD_NS | ENC_REQ
  | ENC_ACT | CLASS_OVR_CNT | VOICE_OVR_CNT | MEM_CFG | MEM_STATUS | SCRUB_CFG | ECC_CE_CNT | ECC_UE_CNT
  | ECC_UE_ADDR | SHORT_CNT | SHORT_BYTES | SHORT_CLASS | WALK_STATUS | WALK_WAIT_CNT | TLB_MISS_CNT | GRANT_SEL
  | GRANT_BASE | GRANT_SIZE | FERMATA_MAP | DMA_CH_CFG | CH_STATE | CH_QUOTA | CH_USED | CH_ERR_PA
  | CH_ERR_VA | CH_ERR_IDX | CH_BYTES | CH_DONE_CNT | CH_STALL_CNT | CH_NODESC_CNT | CH_BERR_CNT | DMA_STATUS
  | STALL_READS | STALL_BLOCKS | STALL_WRITES | EVL_STATUS | P_CFG | P_STATUS | P_ECC_CORR | P_ECC_DROP
  | P_CRC_ERR | P_LEN_ERR | P_UNKNOWN | P_LATE | P_EXTRA | P_FIFO_OVF | P_TRIG_SUP | P_LANE_ERR
  | P_CCI_CMD | P_CCI_REG | P_CCI_DATA | P_CCI_STATUS | P_CCI_NAK_CNT | P_BDL_DEFER_CNT | P_BDL_STRADDLE_CNT | P_BDL_FAIL_CNT
  | SEN_SETGEN | STR_SEQ | STR_LINES | STR_SHORT | PIPE_CFG | PIPE_STATUS | PIPE_PIX | PIPE_OVQ_CNT
  | PIPE_MRG_DROP | PIPE_DYN_CNT | PIPE_CLIP_CNT | PROBE_SEL | PROBE_XY | PROBE_BEAT | PROBE_LIN | PROBE_MRG
  | PROBE_FF | PROBE_DEF | PROBE_DMS | PROBE_MAT | PROBE_OUT | STAT_CFG | STAT_STATUS | STAT_BEAT
  | STAT_MEAN | STAT_REC_CNT | STAT_DROP_CNT | GRP_CFG | GRP_STATUS | GRP_RING_BASE | GRP_RING_ROWS | GRP_ROW
  | GRP_PART_CNT | GRP_DROP_CNT | GRP_FILL_SEG | WIN_CFG | WIN_PART_CNT | ENG_STATUS | ENG_TILES | ENG_LENT
  | SVC_CFG | SVC_BEAT | SVC_LAST | SVC_SKIP_CNT | SVC_OVR_CNT | SVC_FAULT_CNT | SRV_REQ_CNT | SRV_RATE_DROP
  | SRV_FULL_DROP | SRV_PENDING | SRV_NOTHELD | ARP_CNT | ICMP_CNT | ICMP_DROP | CLK_NS | CLK_FRAC
  | CLK_S | INCR | INCR_BASE | STEP_NS | SET_S | SET_NS | SET_CTRL | SERVO_CFG
  | STEP_THR | LOCK_THR | SERVO_STATUS | SERVO_E | SERVO_DELAY | SERVO_Y | HOLD_Y | BLK_F_PRI
  | BLK_F_ALT | STEP_CNT | SUSPECT_CNT | PTP_CFG | PTP_CLASS | ASYM_NS | TXTS_STATUS | TXTS_FULL_CNT
  | DRESP_MISS_CNT | FOREIGN_CNT | LS_SEL | LS_BEAT | LS_S | LS_NS | LS_ENC | CUE_CFG
  | CUE_STATUS | CUE_NEXT_S | CUE_NEXT_NS | CUE_ARM_NS | CUE_ARM_S | CUE_CNT | CAP_CFG | CAP_STATUS
  | CAP_S | CAP_NS | CAP_ENC | CAP_POP | CAP_OVF_CNT | NET_CFG | NET_STATUS | PCS_ERR_WIN
  | PCS_ERR_CNT | RETRAIN_CNT | FCS_ERR_CNT | RX_OTHER | AUTH_DROP | EGR_DROP | ALERT_MAC | ALERT_IP
  | ALERT_PORT | CTL_PORT | MOD_CMD | MOD_DATA | MOD_STATUS | ALERT_CTRL | ALERT_STATUS | ALERT_OVF_CNT
  | ALERT_RAISE | ALERT_CLR | ALERT_SEQ | KEY_SEL | KEY_DATA | KEY_STATE | FLOW_SENT | FLOW_DROP
  | TIE_CFG | TIE_STATUS | TIE_REJOIN_OFS | TIE_SPLIT_BEAT | TIE_DELAY | TIE_SPLIT_CNT | TIE_CRC_ERR | TIE_RESEND
  | TIE_HB_MISS | TIE_LINES_LATE | FWD_DROP | PROC_STATUS | REF_DEV | AGG_SEQ | PROC_WR_ERR | EXC_STATUS
  | PROC_CH_CFG | CH_LAST | CH_MEAN | CH_MIN | CH_MAX | CH_COUNT | CH_FLAGS | CH_OPEN_CNT
  | ENC_POS | ENC_CFG | ENC_ZPOS | ENC_Z_CNT | ENC_ERR_CNT | SER_CFG | SER_DIV | SER_STATUS
  | SER_LINDIV | SER_AREA | SER_DE_CFG | SER_PAR_CNT | SER_FRM_CNT | SER_NOISE_CNT | SER_FALSE_CNT | SER_RXOVF_CNT
  | SER_WAKE_LOST | SER_LIN_ERR_CNT | SER_RC_CNT | SER_BADTX_CNT | SER_WR_ERR | SER_TX_CNT | SER_RX_CNT | CHK_CFG
  | CHK_BYTES | HOST_LINK | HOST_ID | HOST_OB_BASE | HOST_BADACC_CNT | HOST_BERR_CNT | HOST_EPOCH_CNT | HOST_TAG_STALL
  | HOST_SHORT_CNT | HOST_DOWN_CNT | MSIX_PBA | MSIX_TABLE | LC_STATE | LC_CMD | LC_STATUS | DBG_STATUS
  | LC_UID | LC_CHALLENGE | LC_KEY_SEL | LC_KEY_INFO | LC_KEY_Q | LC_TOKEN | VW_ID | VW_SCORE_GEN
  | VW_BEAT | VW_BEAT_TIME_S | VW_BEAT_TIME_NS | VW_OVR | VW_SEGUE_BEAT | VW_EVENT | VW_IRQ_MASK | VW_IRQ_STATUS
  | VW_QPOST | VW_QERR | VW_QSEL | VW_QBASE | VW_QCFG | VW_QPROD | VW_QCONS | VW_FAULT_PEND
  | VW_PTROOT | VW_TLB_INV | VW_TLB_STAT | VW_FAULT_RESUME | VW_CHK_CTRL | VW_CHK_DATA | VW_DOORBELL
  deriving DecidableEq, Repr

/-- Number of a register name: its place in the list of names. -/
def RegId.code (r : RegId) : Nat := r.ctorIdx

/-- The row of each register. -/
def RegId.row : RegId → RegRow
  | .RST_CAUSE =>
    { block := .SYS, ofs := 0x0, stride := 0x0, count := 1, dom := .AON,
      fields := [⟨6, 0, .W1C, .any⟩] }
  | .RST_CTRL =>
    { block := .SYS, ofs := 0x4, stride := 0x0, count := 1, dom := .AON,
      fields := [⟨0, 0, .WO, .any⟩, ⟨31, 16, .WO, .any⟩] }
  | .PWR_CTRL =>
    { block := .SYS, ofs := 0x8, stride := 0x0, count := 1, dom := .AON,
      fields := [⟨0, 0, .WO, .any⟩] }
  | .PWR_STATUS =>
    { block := .SYS, ofs := 0xC, stride := 0x0, count := 1, dom := .FABRIC,
      fields := [⟨1, 0, .RO, .any⟩] }
  | .CLK_STATUS =>
    { block := .SYS, ofs := 0x10, stride := 0x0, count := 1, dom := .FABRIC,
      fields := [⟨3, 0, .RO, .any⟩, ⟨8, 8, .W1C, .any⟩] }
  | .BOOT_STATUS =>
    { block := .SYS, ofs := 0x14, stride := 0x0, count := 1, dom := .AON,
      fields := [⟨7, 0, .RO, .any⟩] }
  | .BOOT_CODES =>
    { block := .SYS, ofs := 0x18, stride := 0x0, count := 1, dom := .AON,
      fields := [⟨31, 0, .RO, .any⟩] }
  | .FLASH_INFO =>
    { block := .SYS, ofs := 0x1C, stride := 0x0, count := 1, dom := .AON,
      fields := [⟨10, 0, .RO, .any⟩] }
  | .MEM_RETAIN =>
    { block := .SYS, ofs := 0x20, stride := 0x0, count := 1, dom := .AON,
      fields := [⟨9, 0, .RO, .any⟩] }
  | .BLK_CTRL =>
    { block := .SYS, ofs := 0x24, stride := 0x0, count := 1, dom := .FABRIC,
      fields := [⟨5, 0, .WO, .any⟩, ⟨9, 8, .WO, .any⟩, ⟨31, 31, .WO, .any⟩] }
  | .BLK_STATUS =>
    { block := .SYS, ofs := 0x28, stride := 0x0, count := 1, dom := .FABRIC,
      fields := [⟨0, 0, .RO, .any⟩, ⟨1, 1, .W1C, .any⟩, ⟨2, 2, .W1C, .any⟩] }
  | .SYS_EVT =>
    { block := .SYS, ofs := 0x40, stride := 0x0, count := 1, dom := .FABRIC,
      fields := [⟨9, 0, .RO, .any⟩] }
  | .LOAD_ADDR =>
    { block := .SYS, ofs := 0x100, stride := 0x0, count := 1, wide := true, dom := .FABRIC,
      fields := [⟨39, 0, .RW, .any⟩] }
  | .LOAD_LEN =>
    { block := .SYS, ofs := 0x108, stride := 0x0, count := 1, dom := .FABRIC,
      fields := [⟨31, 0, .RW, .any⟩] }
  | .LOAD_CTRL =>
    { block := .SYS, ofs := 0x10C, stride := 0x0, count := 1, dom := .FABRIC,
      fields := [⟨0, 0, .WO, .any⟩, ⟨1, 1, .WO, .any⟩, ⟨3, 2, .RW, (.range 0 1)⟩, ⟨5, 4, .RW, .any⟩] }
  | .LOAD_STATUS =>
    { block := .SYS, ofs := 0x110, stride := 0x0, count := 1, dom := .FABRIC,
      fields := [⟨2, 0, .RO, .any⟩, ⟨15, 8, .RO, .any⟩, ⟨16, 16, .W1C, .any⟩, ⟨17, 17, .W1C, .any⟩, ⟨18, 18, .W1C, .any⟩] }
  | .LOAD_FAIL_OFS =>
    { block := .SYS, ofs := 0x114, stride := 0x0, count := 1, dom := .FABRIC,
      fields := [⟨31, 0, .RO, .any⟩] }
  | .LOAD_FAIL_RES =>
    { block := .SYS, ofs := 0x118, stride := 0x0, count := 1, dom := .FABRIC,
      fields := [⟨17, 0, .RO, .any⟩] }
  | .SCORE_GEN =>
    { block := .SYS, ofs := 0x11C, stride := 0x0, count := 1, dom := .FABRIC,
      fields := [⟨31, 0, .RO, .any⟩] }
  | .SCORE_ID =>
    { block := .SYS, ofs := 0x120, stride := 0x0, count := 1, dom := .FABRIC,
      fields := [⟨31, 0, .RO, .any⟩] }
  | .LAST_COMMIT_BEAT =>
    { block := .SYS, ofs := 0x128, stride := 0x0, count := 1, wide := true, dom := .FABRIC,
      fields := [⟨63, 0, .RO, .any⟩] }
  | .PENDING_BEAT =>
    { block := .SYS, ofs := 0x130, stride := 0x0, count := 1, wide := true, dom := .FABRIC,
      fields := [⟨63, 0, .RO, .any⟩] }
  | .VOICE_HALT =>
    { block := .SYS, ofs := 0x138, stride := 0x0, count := 1, dom := .FABRIC,
      fields := [⟨9, 0, .WO, .any⟩] }
  | .HALT_MAP =>
    { block := .SYS, ofs := 0x200, stride := 0x4, count := 32, dom := .FABRIC,
      fields := [⟨31, 0, .RO, .any⟩] }
  | .VIOL_CTRL =>
    { block := .SYS, ofs := 0x300, stride := 0x0, count := 1, dom := .FABRIC,
      fields := [⟨0, 0, .RW, .any⟩] }
  | .VIOL_INFO =>
    { block := .SYS, ofs := 0x304, stride := 0x0, count := 1, dom := .FABRIC,
      fields := [⟨14, 0, .RO, .any⟩, ⟨15, 15, .W1C, .any⟩, ⟨31, 16, .RO, .any⟩] }
  | .VIOL_BEAT =>
    { block := .SYS, ofs := 0x308, stride := 0x0, count := 1, wide := true, dom := .FABRIC,
      fields := [⟨63, 0, .RO, .any⟩] }
  | .VIOL_VA =>
    { block := .SYS, ofs := 0x310, stride := 0x0, count := 1, wide := true, dom := .FABRIC,
      fields := [⟨63, 0, .RO, .any⟩] }
  | .VIOL_PA =>
    { block := .SYS, ofs := 0x318, stride := 0x0, count := 1, wide := true, dom := .FABRIC,
      fields := [⟨39, 0, .RO, .any⟩] }
  | .VIOL_MAP =>
    { block := .SYS, ofs := 0x400, stride := 0x4, count := 32, dom := .FABRIC,
      fields := [⟨31, 0, .W1C, .any⟩] }
  | .EPOCH_TAB =>
    { block := .SYS, ofs := 0x600, stride := 0x4, count := 64, dom := .FABRIC,
      fields := [⟨7, 0, .RO, .any⟩, ⟨8, 8, .RO, .any⟩, ⟨9, 9, .RO, .any⟩, ⟨31, 16, .RC, .any⟩] }
  | .VOICE_VIOL_CNT =>
    { block := .SYS, ofs := 0x1000, stride := 0x4, count := 1024, dom := .FABRIC,
      fields := [⟨15, 0, .RC, .any⟩] }
  | .TEMPO_CFG =>
    { block := .BEAT, ofs := 0x0, stride := 0x0, count := 1, dom := .FABRIC,
      fields := [⟨2, 0, .RWL, (.range 0 4)⟩, ⟨6, 4, .RWL, (.range 0 3)⟩, ⟨9, 8, .RWL, .any⟩, ⟨10, 10, .RWL, .any⟩, ⟨11, 11, .RWL, .any⟩, ⟨16, 12, .RWL, .any⟩, ⟨31, 31, .RO, .any⟩] }
  | .TEMPO_DIV =>
    { block := .BEAT, ofs := 0x4, stride := 0x0, count := 1, dom := .FABRIC,
      fields := [⟨23, 0, .RWL, (.range 16 16777215)⟩] }
  | .PMIN_NS =>
    { block := .BEAT, ofs := 0x8, stride := 0x0, count := 1, dom := .FABRIC,
      fields := [⟨31, 0, .RWL, .pmin⟩] }
  | .IDLE_NS =>
    { block := .BEAT, ofs := 0xC, stride := 0x0, count := 1, dom := .FABRIC,
      fields := [⟨31, 0, .RWL, (.range 0 2000000000)⟩] }
  | .TIMER_NS =>
    { block := .BEAT, ofs := 0x10, stride := 0x0, count := 1, dom := .FABRIC,
      fields := [⟨31, 0, .RWL, .any⟩] }
  | .BAR_TICK =>
    { block := .BEAT, ofs := 0x14, stride := 0x0, count := 1, dom := .FABRIC,
      fields := [⟨31, 0, .RO, .any⟩] }
  | .BEAT_NUM =>
    { block := .BEAT, ofs := 0x18, stride := 0x0, count := 1, wide := true, dom := .FABRIC,
      fields := [⟨63, 0, .RO, .any⟩] }
  | .BEAT_TIME_S =>
    { block := .BEAT, ofs := 0x20, stride := 0x0, count := 1, wide := true, dom := .FABRIC,
      fields := [⟨63, 0, .RO, .any⟩] }
  | .BEAT_TIME_NS =>
    { block := .BEAT, ofs := 0x28, stride := 0x0, count := 1, dom := .FABRIC,
      fields := [⟨31, 0, .RO, .any⟩] }
  | .BEAT_TICK =>
    { block := .BEAT, ofs := 0x2C, stride := 0x0, count := 1, dom := .FABRIC,
      fields := [⟨12, 0, .RO, .any⟩] }
  | .TEMPO_STATUS =>
    { block := .BEAT, ofs := 0x30, stride := 0x0, count := 1, dom := .FABRIC,
      fields := [⟨1, 0, .RO, .any⟩, ⟨4, 2, .RO, .any⟩, ⟨8, 8, .W1C, .any⟩, ⟨9, 9, .W1C, .any⟩, ⟨10, 10, .W1C, .any⟩] }
  | .CLAMP_CNT =>
    { block := .BEAT, ofs := 0x34, stride := 0x0, count := 1, dom := .FABRIC,
      fields := [⟨31, 0, .RC, .any⟩] }
  | .DROP_CNT =>
    { block := .BEAT, ofs := 0x38, stride := 0x0, count := 1, dom := .FABRIC,
      fields := [⟨31, 0, .RC, .any⟩] }
  | .IDLE_CNT =>
    { block := .BEAT, ofs := 0x3C, stride := 0x0, count := 1, dom := .FABRIC,
      fields := [⟨31, 0, .RC, .any⟩] }
  | .LAST_PERIOD_NS =>
    { block := .BEAT, ofs := 0x40, stride := 0x0, count := 1, dom := .FABRIC,
      fields := [⟨31, 0, .RO, .any⟩] }
  | .ENC_REQ =>
    { block := .BEAT, ofs := 0x44, stride := 0x0, count := 1, dom := .FABRIC,
      fields := [⟨31, 0, .RO, .any⟩] }
  | .ENC_ACT =>
    { block := .BEAT, ofs := 0x48, stride := 0x0, count := 1, dom := .FABRIC,
      fields := [⟨31, 0, .RO, .any⟩] }
  | .CLASS_OVR_CNT =>
    { block := .BEAT, ofs := 0x50, stride := 0x4, count := 3, dom := .FABRIC,
      fields := [⟨31, 0, .RC, .any⟩] }
  | .VOICE_OVR_CNT =>
    { block := .BEAT, ofs := 0x1000, stride := 0x4, count := 1024, dom := .FABRIC,
      fields := [⟨15, 0, .RC, .any⟩, ⟨31, 16, .RC, .any⟩] }
  | .MEM_CFG =>
    { block := .MEM, ofs := 0x0, stride := 0x0, count := 1, dom := .FABRIC,
      fields := [⟨9, 0, .RO, .any⟩] }
  | .MEM_STATUS =>
    { block := .MEM, ofs := 0x4, stride := 0x0, count := 1, dom := .FABRIC,
      fields := [⟨2, 0, .RO, .any⟩, ⟨8, 8, .RO, .any⟩] }
  | .SCRUB_CFG =>
    { block := .MEM, ofs := 0x8, stride := 0x0, count := 1, dom := .FABRIC,
      fields := [⟨15, 0, .RW, (.range 600 65535)⟩] }
  | .ECC_CE_CNT =>
    { block := .MEM, ofs := 0x10, stride := 0x0, count := 1, dom := .FABRIC,
      fields := [⟨31, 0, .RC, .any⟩] }
  | .ECC_UE_CNT =>
    { block := .MEM, ofs := 0x14, stride := 0x0, count := 1, dom := .FABRIC,
      fields := [⟨31, 0, .RC, .any⟩] }
  | .ECC_UE_ADDR =>
    { block := .MEM, ofs := 0x18, stride := 0x0, count := 1, wide := true, dom := .FABRIC,
      fields := [⟨39, 0, .RO, .any⟩] }
  | .SHORT_CNT =>
    { block := .MEM, ofs := 0x20, stride := 0x0, count := 1, dom := .FABRIC,
      fields := [⟨31, 0, .RC, .any⟩] }
  | .SHORT_BYTES =>
    { block := .MEM, ofs := 0x24, stride := 0x0, count := 1, dom := .FABRIC,
      fields := [⟨31, 0, .RO, .any⟩] }
  | .SHORT_CLASS =>
    { block := .MEM, ofs := 0x28, stride := 0x0, count := 1, dom := .FABRIC,
      fields := [⟨2, 0, .RO, .any⟩] }
  | .WALK_STATUS =>
    { block := .MEM, ofs := 0x2C, stride := 0x0, count := 1, dom := .FABRIC,
      fields := [⟨5, 0, .RO, .any⟩, ⟨15, 8, .RO, .any⟩] }
  | .WALK_WAIT_CNT =>
    { block := .MEM, ofs := 0x30, stride := 0x0, count := 1, dom := .FABRIC,
      fields := [⟨31, 0, .RC, .any⟩] }
  | .TLB_MISS_CNT =>
    { block := .MEM, ofs := 0x34, stride := 0x0, count := 1, dom := .FABRIC,
      fields := [⟨31, 0, .RC, .any⟩] }
  | .GRANT_SEL =>
    { block := .MEM, ofs := 0x38, stride := 0x0, count := 1, dom := .FABRIC,
      fields := [⟨9, 0, .RW, .any⟩, ⟨18, 16, .RW, .any⟩] }
  | .GRANT_BASE =>
    { block := .MEM, ofs := 0x40, stride := 0x0, count := 1, wide := true, dom := .FABRIC,
      fields := [⟨63, 0, .RO, .any⟩] }
  | .GRANT_SIZE =>
    { block := .MEM, ofs := 0x48, stride := 0x0, count := 1, wide := true, dom := .FABRIC,
      fields := [⟨63, 0, .RO, .any⟩] }
  | .FERMATA_MAP =>
    { block := .MEM, ofs := 0x400, stride := 0x4, count := 32, dom := .FABRIC,
      fields := [⟨31, 0, .RO, .any⟩] }
  | .DMA_CH_CFG =>
    { block := .DMA, ofs := 0x0, stride := 0x40, count := 128, dom := .FABRIC,
      fields := [⟨31, 0, .RO, .any⟩] }
  | .CH_STATE =>
    { block := .DMA, ofs := 0x4, stride := 0x40, count := 128, dom := .FABRIC,
      fields := [⟨31, 0, .RO, .any⟩] }
  | .CH_QUOTA =>
    { block := .DMA, ofs := 0x8, stride := 0x40, count := 128, dom := .FABRIC,
      fields := [⟨31, 0, .RO, .any⟩] }
  | .CH_USED =>
    { block := .DMA, ofs := 0xC, stride := 0x40, count := 128, dom := .FABRIC,
      fields := [⟨31, 0, .RO, .any⟩] }
  | .CH_ERR_PA =>
    { block := .DMA, ofs := 0x10, stride := 0x40, count := 128, wide := true, dom := .FABRIC,
      fields := [⟨41, 0, .RO, .any⟩] }
  | .CH_ERR_VA =>
    { block := .DMA, ofs := 0x18, stride := 0x40, count := 128, wide := true, dom := .FABRIC,
      fields := [⟨39, 0, .RO, .any⟩] }
  | .CH_ERR_IDX =>
    { block := .DMA, ofs := 0x20, stride := 0x40, count := 128, dom := .FABRIC,
      fields := [⟨31, 0, .RO, .any⟩] }
  | .CH_BYTES =>
    { block := .DMA, ofs := 0x24, stride := 0x40, count := 128, dom := .FABRIC,
      fields := [⟨31, 0, .RO, .any⟩] }
  | .CH_DONE_CNT =>
    { block := .DMA, ofs := 0x28, stride := 0x40, count := 128, dom := .FABRIC,
      fields := [⟨31, 0, .RC, .any⟩] }
  | .CH_STALL_CNT =>
    { block := .DMA, ofs := 0x2C, stride := 0x40, count := 128, dom := .FABRIC,
      fields := [⟨31, 0, .RC, .any⟩] }
  | .CH_NODESC_CNT =>
    { block := .DMA, ofs := 0x30, stride := 0x40, count := 128, dom := .FABRIC,
      fields := [⟨31, 0, .RC, .any⟩] }
  | .CH_BERR_CNT =>
    { block := .DMA, ofs := 0x34, stride := 0x40, count := 128, dom := .FABRIC,
      fields := [⟨31, 0, .RC, .any⟩] }
  | .DMA_STATUS =>
    { block := .DMA, ofs := 0x2000, stride := 0x0, count := 1, dom := .FABRIC,
      fields := [⟨27, 0, .RO, .any⟩] }
  | .STALL_READS =>
    { block := .DMA, ofs := 0x2004, stride := 0x0, count := 1, dom := .FABRIC,
      fields := [⟨31, 0, .RC, .any⟩] }
  | .STALL_BLOCKS =>
    { block := .DMA, ofs := 0x2008, stride := 0x0, count := 1, dom := .FABRIC,
      fields := [⟨31, 0, .RC, .any⟩] }
  | .STALL_WRITES =>
    { block := .DMA, ofs := 0x200C, stride := 0x0, count := 1, dom := .FABRIC,
      fields := [⟨31, 0, .RC, .any⟩] }
  | .EVL_STATUS =>
    { block := .DMA, ofs := 0x2100, stride := 0x4, count := 64, dom := .FABRIC,
      fields := [⟨7, 0, .RO, .any⟩, ⟨8, 8, .W1C, .any⟩, ⟨9, 9, .RO, .any⟩, ⟨25, 16, .RO, .any⟩] }
  | .P_CFG =>
    { block := .PORT, ofs := 0x0, stride := 0x100, count := 32, dom := .PORT,
      fields := [⟨27, 0, .RO, .any⟩] }
  | .P_STATUS =>
    { block := .PORT, ofs := 0x4, stride := 0x100, count := 32, dom := .PORT,
      fields := [⟨7, 0, .RO, .any⟩, ⟨15, 8, .RO, .any⟩, ⟨16, 16, .W1C, .any⟩] }
  | .P_ECC_CORR =>
    { block := .PORT, ofs := 0x8, stride := 0x100, count := 32, dom := .PORT,
      fields := [⟨31, 0, .RC, .any⟩] }
  | .P_ECC_DROP =>
    { block := .PORT, ofs := 0xC, stride := 0x100, count := 32, dom := .PORT,
      fields := [⟨31, 0, .RC, .any⟩] }
  | .P_CRC_ERR =>
    { block := .PORT, ofs := 0x10, stride := 0x100, count := 32, dom := .PORT,
      fields := [⟨31, 0, .RC, .any⟩] }
  | .P_LEN_ERR =>
    { block := .PORT, ofs := 0x14, stride := 0x100, count := 32, dom := .PORT,
      fields := [⟨31, 0, .RC, .any⟩] }
  | .P_UNKNOWN =>
    { block := .PORT, ofs := 0x18, stride := 0x100, count := 32, dom := .PORT,
      fields := [⟨31, 0, .RC, .any⟩] }
  | .P_LATE =>
    { block := .PORT, ofs := 0x1C, stride := 0x100, count := 32, dom := .PORT,
      fields := [⟨31, 0, .RC, .any⟩] }
  | .P_EXTRA =>
    { block := .PORT, ofs := 0x20, stride := 0x100, count := 32, dom := .PORT,
      fields := [⟨31, 0, .RC, .any⟩] }
  | .P_FIFO_OVF =>
    { block := .PORT, ofs := 0x24, stride := 0x100, count := 32, dom := .PORT,
      fields := [⟨31, 0, .RC, .any⟩] }
  | .P_TRIG_SUP =>
    { block := .PORT, ofs := 0x28, stride := 0x100, count := 32, dom := .PORT,
      fields := [⟨31, 0, .RC, .any⟩] }
  | .P_LANE_ERR =>
    { block := .PORT, ofs := 0x2C, stride := 0x100, count := 32, dom := .PORT,
      fields := [⟨31, 0, .RC, .any⟩] }
  | .P_CCI_CMD =>
    { block := .PORT, ofs := 0x40, stride := 0x100, count := 32, dom := .PORT,
      fields := [⟨10, 0, .WO, .any⟩, ⟨31, 31, .WO, .any⟩] }
  | .P_CCI_REG =>
    { block := .PORT, ofs := 0x44, stride := 0x100, count := 32, dom := .PORT,
      fields := [⟨15, 0, .RW, .any⟩] }
  | .P_CCI_DATA =>
    { block := .PORT, ofs := 0x48, stride := 0x100, count := 32, dom := .PORT,
      fields := [⟨31, 0, .RW, .any⟩] }
  | .P_CCI_STATUS =>
    { block := .PORT, ofs := 0x4C, stride := 0x100, count := 32, dom := .PORT,
      fields := [⟨0, 0, .RO, .any⟩, ⟨1, 1, .W1C, .any⟩, ⟨2, 2, .W1C, .any⟩, ⟨3, 3, .W1C, .any⟩] }
  | .P_CCI_NAK_CNT =>
    { block := .PORT, ofs := 0x50, stride := 0x100, count := 32, dom := .PORT,
      fields := [⟨31, 0, .RC, .any⟩] }
  | .P_BDL_DEFER_CNT =>
    { block := .PORT, ofs := 0x54, stride := 0x100, count := 32, dom := .PORT,
      fields := [⟨31, 0, .RC, .any⟩] }
  | .P_BDL_STRADDLE_CNT =>
    { block := .PORT, ofs := 0x58, stride := 0x100, count := 32, dom := .PORT,
      fields := [⟨31, 0, .RC, .any⟩] }
  | .P_BDL_FAIL_CNT =>
    { block := .PORT, ofs := 0x5C, stride := 0x100, count := 32, dom := .PORT,
      fields := [⟨31, 0, .RC, .any⟩] }
  | .SEN_SETGEN =>
    { block := .PORT, ofs := 0x60, stride := 0x100, count := 32, inner := 4, innerStride := 4, dom := .PORT,
      fields := [⟨31, 0, .RO, .any⟩] }
  | .STR_SEQ =>
    { block := .PORT, ofs := 0x2000, stride := 0x10, count := 256, dom := .FABRIC,
      fields := [⟨16, 0, .RO, .any⟩] }
  | .STR_LINES =>
    { block := .PORT, ofs := 0x2004, stride := 0x10, count := 256, dom := .FABRIC,
      fields := [⟨15, 0, .RO, .any⟩] }
  | .STR_SHORT =>
    { block := .PORT, ofs := 0x2008, stride := 0x10, count := 256, dom := .FABRIC,
      fields := [⟨31, 0, .RC, .any⟩] }
  | .PIPE_CFG =>
    { block := .PIPE, ofs := 0x0, stride := 0x100, count := 16, dom := .FABRIC,
      fields := [⟨31, 0, .RO, .any⟩] }
  | .PIPE_STATUS =>
    { block := .PIPE, ofs := 0x4, stride := 0x100, count := 16, dom := .FABRIC,
      fields := [⟨0, 0, .RO, .any⟩, ⟨1, 1, .W1C, .any⟩, ⟨2, 2, .W1C, .any⟩, ⟨15, 8, .RO, .any⟩] }
  | .PIPE_PIX =>
    { block := .PIPE, ofs := 0x8, stride := 0x100, count := 16, dom := .FABRIC,
      fields := [⟨31, 0, .RO, .any⟩] }
  | .PIPE_OVQ_CNT =>
    { block := .PIPE, ofs := 0xC, stride := 0x100, count := 16, dom := .FABRIC,
      fields := [⟨31, 0, .RC, .any⟩] }
  | .PIPE_MRG_DROP =>
    { block := .PIPE, ofs := 0x10, stride := 0x100, count := 16, dom := .FABRIC,
      fields := [⟨31, 0, .RC, .any⟩] }
  | .PIPE_DYN_CNT =>
    { block := .PIPE, ofs := 0x14, stride := 0x100, count := 16, dom := .FABRIC,
      fields := [⟨31, 0, .RC, .any⟩] }
  | .PIPE_CLIP_CNT =>
    { block := .PIPE, ofs := 0x18, stride := 0x100, count := 16, dom := .FABRIC,
      fields := [⟨31, 0, .RC, .any⟩] }
  | .PROBE_SEL =>
    { block := .PIPE, ofs := 0x20, stride := 0x100, count := 16, dom := .FABRIC,
      fields := [⟨1, 0, .RW, .any⟩, ⟨31, 31, .RW, .any⟩] }
  | .PROBE_XY =>
    { block := .PIPE, ofs := 0x24, stride := 0x100, count := 16, dom := .FABRIC,
      fields := [⟨13, 0, .RW, .any⟩, ⟨31, 16, .RW, .any⟩] }
  | .PROBE_BEAT =>
    { block := .PIPE, ofs := 0x28, stride := 0x100, count := 16, wide := true, dom := .FABRIC,
      fields := [⟨63, 0, .RO, .any⟩] }
  | .PROBE_LIN =>
    { block := .PIPE, ofs := 0x30, stride := 0x100, count := 16, dom := .FABRIC,
      fields := [⟨15, 0, .RO, .any⟩] }
  | .PROBE_MRG =>
    { block := .PIPE, ofs := 0x34, stride := 0x100, count := 16, dom := .FABRIC,
      fields := [⟨19, 0, .RO, .any⟩] }
  | .PROBE_FF =>
    { block := .PIPE, ofs := 0x38, stride := 0x100, count := 16, dom := .FABRIC,
      fields := [⟨19, 0, .RO, .any⟩] }
  | .PROBE_DEF =>
    { block := .PIPE, ofs := 0x3C, stride := 0x100, count := 16, dom := .FABRIC,
      fields := [⟨19, 0, .RO, .any⟩, ⟨31, 30, .RO, .any⟩] }
  | .PROBE_DMS =>
    { block := .PIPE, ofs := 0x40, stride := 0x100, count := 16, inner := 3, innerStride := 4, dom := .FABRIC,
      fields := [⟨19, 0, .RO, .any⟩] }
  | .PROBE_MAT =>
    { block := .PIPE, ofs := 0x4C, stride := 0x100, count := 16, inner := 3, innerStride := 4, dom := .FABRIC,
      fields := [⟨19, 0, .RO, .any⟩] }
  | .PROBE_OUT =>
    { block := .PIPE, ofs := 0x58, stride := 0x100, count := 16, inner := 2, innerStride := 4, dom := .FABRIC,
      fields := [⟨31, 0, .RO, .any⟩] }
  | .STAT_CFG =>
    { block := .PIPE, ofs := 0x4000, stride := 0x20, count := 256, dom := .FABRIC,
      fields := [⟨31, 0, .RO, .any⟩] }
  | .STAT_STATUS =>
    { block := .PIPE, ofs := 0x4004, stride := 0x20, count := 256, dom := .FABRIC,
      fields := [⟨8, 0, .RO, .any⟩, ⟨9, 9, .W1C, .any⟩, ⟨10, 10, .W1C, .any⟩] }
  | .STAT_BEAT =>
    { block := .PIPE, ofs := 0x4008, stride := 0x20, count := 256, wide := true, dom := .FABRIC,
      fields := [⟨63, 0, .RO, .any⟩] }
  | .STAT_MEAN =>
    { block := .PIPE, ofs := 0x4010, stride := 0x20, count := 256, dom := .FABRIC,
      fields := [⟨31, 0, .RO, .any⟩] }
  | .STAT_REC_CNT =>
    { block := .PIPE, ofs := 0x4014, stride := 0x20, count := 256, dom := .FABRIC,
      fields := [⟨31, 0, .RC, .any⟩] }
  | .STAT_DROP_CNT =>
    { block := .PIPE, ofs := 0x4018, stride := 0x20, count := 256, dom := .FABRIC,
      fields := [⟨31, 0, .RC, .any⟩] }
  | .GRP_CFG =>
    { block := .PIPE, ofs := 0xC000, stride := 0x40, count := 32, dom := .FABRIC,
      fields := [⟨31, 0, .RO, .any⟩] }
  | .GRP_STATUS =>
    { block := .PIPE, ofs := 0xC004, stride := 0x40, count := 32, dom := .FABRIC,
      fields := [⟨15, 0, .RO, .any⟩, ⟨16, 16, .W1C, .any⟩, ⟨17, 17, .W1C, .any⟩, ⟨18, 18, .RO, .any⟩] }
  | .GRP_RING_BASE =>
    { block := .PIPE, ofs := 0xC008, stride := 0x40, count := 32, wide := true, dom := .FABRIC,
      fields := [⟨39, 0, .RO, .any⟩] }
  | .GRP_RING_ROWS =>
    { block := .PIPE, ofs := 0xC010, stride := 0x40, count := 32, dom := .FABRIC,
      fields := [⟨31, 0, .RO, .any⟩] }
  | .GRP_ROW =>
    { block := .PIPE, ofs := 0xC014, stride := 0x40, count := 32, dom := .FABRIC,
      fields := [⟨31, 0, .RO, .any⟩] }
  | .GRP_PART_CNT =>
    { block := .PIPE, ofs := 0xC018, stride := 0x40, count := 32, dom := .FABRIC,
      fields := [⟨31, 0, .RC, .any⟩] }
  | .GRP_DROP_CNT =>
    { block := .PIPE, ofs := 0xC01C, stride := 0x40, count := 32, dom := .FABRIC,
      fields := [⟨31, 0, .RC, .any⟩] }
  | .GRP_FILL_SEG =>
    { block := .PIPE, ofs := 0xC020, stride := 0x40, count := 32, dom := .FABRIC,
      fields := [⟨31, 0, .RC, .any⟩] }
  | .WIN_CFG =>
    { block := .PIPE, ofs := 0xD000, stride := 0x8, count := 1024, dom := .FABRIC,
      fields := [⟨31, 0, .RO, .any⟩] }
  | .WIN_PART_CNT =>
    { block := .PIPE, ofs := 0xD004, stride := 0x8, count := 1024, dom := .FABRIC,
      fields := [⟨31, 0, .RC, .any⟩] }
  | .ENG_STATUS =>
    { block := .SVC, ofs := 0x0, stride := 0x40, count := 7, dom := .FABRIC,
      fields := [⟨31, 0, .RO, .any⟩] }
  | .ENG_TILES =>
    { block := .SVC, ofs := 0x4, stride := 0x40, count := 7, dom := .FABRIC,
      fields := [⟨31, 0, .RC, .any⟩] }
  | .ENG_LENT =>
    { block := .SVC, ofs := 0x8, stride := 0x40, count := 7, dom := .FABRIC,
      fields := [⟨31, 0, .RC, .any⟩] }
  | .SVC_CFG =>
    { block := .SVC, ofs := 0x1000, stride := 0x20, count := 256, dom := .FABRIC,
      fields := [⟨31, 0, .RO, .any⟩] }
  | .SVC_BEAT =>
    { block := .SVC, ofs := 0x1008, stride := 0x20, count := 256, wide := true, dom := .FABRIC,
      fields := [⟨63, 0, .RO, .any⟩] }
  | .SVC_LAST =>
    { block := .SVC, ofs := 0x1010, stride := 0x20, count := 256, dom := .FABRIC,
      fields := [⟨31, 0, .RO, .any⟩] }
  | .SVC_SKIP_CNT =>
    { block := .SVC, ofs := 0x1014, stride := 0x20, count := 256, dom := .FABRIC,
      fields := [⟨31, 0, .RC, .any⟩] }
  | .SVC_OVR_CNT =>
    { block := .SVC, ofs := 0x1018, stride := 0x20, count := 256, dom := .FABRIC,
      fields := [⟨31, 0, .RC, .any⟩] }
  | .SVC_FAULT_CNT =>
    { block := .SVC, ofs := 0x101C, stride := 0x20, count := 256, dom := .FABRIC,
      fields := [⟨31, 0, .RC, .any⟩] }
  | .SRV_REQ_CNT =>
    { block := .SVC, ofs := 0x3000, stride := 0x0, count := 1, dom := .FABRIC,
      fields := [⟨31, 0, .RC, .any⟩] }
  | .SRV_RATE_DROP =>
    { block := .SVC, ofs := 0x3004, stride := 0x0, count := 1, dom := .FABRIC,
      fields := [⟨31, 0, .RC, .any⟩] }
  | .SRV_FULL_DROP =>
    { block := .SVC, ofs := 0x3008, stride := 0x0, count := 1, dom := .FABRIC,
      fields := [⟨31, 0, .RC, .any⟩] }
  | .SRV_PENDING =>
    { block := .SVC, ofs := 0x300C, stride := 0x0, count := 1, dom := .FABRIC,
      fields := [⟨6, 0, .RO, .any⟩] }
  | .SRV_NOTHELD =>
    { block := .SVC, ofs := 0x3010, stride := 0x0, count := 1, dom := .FABRIC,
      fields := [⟨31, 0, .RC, .any⟩] }
  | .ARP_CNT =>
    { block := .SVC, ofs := 0x3800, stride := 0x10, count := 2, dom := .FABRIC,
      fields := [⟨31, 0, .RC, .any⟩] }
  | .ICMP_CNT =>
    { block := .SVC, ofs := 0x3804, stride := 0x10, count := 2, dom := .FABRIC,
      fields := [⟨31, 0, .RC, .any⟩] }
  | .ICMP_DROP =>
    { block := .SVC, ofs := 0x3808, stride := 0x10, count := 2, dom := .FABRIC,
      fields := [⟨31, 0, .RC, .any⟩] }
  | .CLK_NS =>
    { block := .TIME, ofs := 0x0, stride := 0x0, count := 1, dom := .TIME,
      fields := [⟨29, 0, .RO, .any⟩] }
  | .CLK_FRAC =>
    { block := .TIME, ofs := 0x4, stride := 0x0, count := 1, dom := .TIME,
      fields := [⟨31, 0, .RO, .any⟩] }
  | .CLK_S =>
    { block := .TIME, ofs := 0x8, stride := 0x0, count := 1, wide := true, dom := .TIME,
      fields := [⟨63, 0, .RO, .any⟩] }
  | .INCR =>
    { block := .TIME, ofs := 0x10, stride := 0x0, count := 1, dom := .TIME,
      fields := [⟨31, 0, .RO, .any⟩] }
  | .INCR_BASE =>
    { block := .TIME, ofs := 0x14, stride := 0x0, count := 1, dom := .TIME,
      fields := [⟨31, 0, .RW, (.range 58720256 75497472)⟩] }
  | .STEP_NS =>
    { block := .TIME, ofs := 0x18, stride := 0x0, count := 1, dom := .TIME,
      fields := [⟨31, 0, .WO, .any⟩] }
  | .SET_S =>
    { block := .TIME, ofs := 0x20, stride := 0x0, count := 1, wide := true, dom := .TIME,
      fields := [⟨63, 0, .RW, .any⟩] }
  | .SET_NS =>
    { block := .TIME, ofs := 0x28, stride := 0x0, count := 1, dom := .TIME,
      fields := [⟨29, 0, .RW, (.range 0 999999999)⟩] }
  | .SET_CTRL =>
    { block := .TIME, ofs := 0x2C, stride := 0x0, count := 1, dom := .TIME,
      fields := [⟨0, 0, .WO, .any⟩] }
  | .SERVO_CFG =>
    { block := .TIME, ofs := 0x30, stride := 0x0, count := 1, dom := .TIME,
      fields := [⟨7, 0, .RW, .any⟩, ⟨15, 8, .RW, .any⟩, ⟨16, 16, .RW, .any⟩] }
  | .STEP_THR =>
    { block := .TIME, ofs := 0x34, stride := 0x0, count := 1, dom := .TIME,
      fields := [⟨31, 0, .RW, (.range 1000 1000000000)⟩] }
  | .LOCK_THR =>
    { block := .TIME, ofs := 0x38, stride := 0x0, count := 1, dom := .TIME,
      fields := [⟨31, 0, .RW, (.range 1 1000000)⟩] }
  | .SERVO_STATUS =>
    { block := .TIME, ofs := 0x3C, stride := 0x0, count := 1, dom := .TIME,
      fields := [⟨7, 0, .RO, .any⟩, ⟨8, 8, .W1C, .any⟩, ⟨9, 9, .W1C, .any⟩, ⟨10, 10, .W1C, .any⟩] }
  | .SERVO_E =>
    { block := .TIME, ofs := 0x40, stride := 0x0, count := 1, dom := .TIME,
      fields := [⟨31, 0, .RO, .any⟩] }
  | .SERVO_DELAY =>
    { block := .TIME, ofs := 0x44, stride := 0x0, count := 1, dom := .TIME,
      fields := [⟨31, 0, .RO, .any⟩] }
  | .SERVO_Y =>
    { block := .TIME, ofs := 0x48, stride := 0x0, count := 1, dom := .TIME,
      fields := [⟨31, 0, .RO, .any⟩] }
  | .HOLD_Y =>
    { block := .TIME, ofs := 0x4C, stride := 0x0, count := 1, dom := .TIME,
      fields := [⟨31, 0, .RO, .any⟩] }
  | .BLK_F_PRI =>
    { block := .TIME, ofs := 0x50, stride := 0x0, count := 1, dom := .TIME,
      fields := [⟨31, 0, .RO, .any⟩] }
  | .BLK_F_ALT =>
    { block := .TIME, ofs := 0x54, stride := 0x0, count := 1, dom := .TIME,
      fields := [⟨31, 0, .RO, .any⟩] }
  | .STEP_CNT =>
    { block := .TIME, ofs := 0x58, stride := 0x0, count := 1, dom := .TIME,
      fields := [⟨31, 0, .RC, .any⟩] }
  | .SUSPECT_CNT =>
    { block := .TIME, ofs := 0x5C, stride := 0x0, count := 1, dom := .TIME,
      fields := [⟨31, 0, .RC, .any⟩] }
  | .PTP_CFG =>
    { block := .TIME, ofs := 0x60, stride := 0x0, count := 1, dom := .TIME,
      fields := [⟨1, 0, .RW, (.range 0 2)⟩, ⟨6, 4, .RW, .logSync⟩, ⟨10, 8, .RW, (.range 0 3)⟩, ⟨15, 12, .RW, (.range 2 10)⟩, ⟨23, 16, .RW, .any⟩, ⟨31, 24, .RW, .any⟩] }
  | .PTP_CLASS =>
    { block := .TIME, ofs := 0x64, stride := 0x0, count := 1, dom := .TIME,
      fields := [⟨31, 0, .RW, .any⟩] }
  | .ASYM_NS =>
    { block := .TIME, ofs := 0x68, stride := 0x0, count := 1, dom := .TIME,
      fields := [⟨31, 0, .RW, .any⟩] }
  | .TXTS_STATUS =>
    { block := .TIME, ofs := 0x70, stride := 0x4, count := 3, dom := .TIME,
      fields := [⟨4, 0, .RO, .any⟩, ⟨8, 8, .W1C, .any⟩] }
  | .TXTS_FULL_CNT =>
    { block := .TIME, ofs := 0x80, stride := 0x4, count := 3, dom := .TIME,
      fields := [⟨31, 0, .RC, .any⟩] }
  | .DRESP_MISS_CNT =>
    { block := .TIME, ofs := 0x90, stride := 0x4, count := 2, dom := .TIME,
      fields := [⟨31, 0, .RC, .any⟩] }
  | .FOREIGN_CNT =>
    { block := .TIME, ofs := 0xA0, stride := 0x0, count := 1, dom := .TIME,
      fields := [⟨31, 0, .RC, .any⟩] }
  | .LS_SEL =>
    { block := .TIME, ofs := 0xB0, stride := 0x0, count := 1, dom := .TIME,
      fields := [⟨7, 0, .RW, .any⟩, ⟨15, 15, .RW, .any⟩, ⟨31, 16, .RW, .any⟩] }
  | .LS_BEAT =>
    { block := .TIME, ofs := 0xB8, stride := 0x0, count := 1, wide := true, dom := .TIME,
      fields := [⟨63, 0, .RO, .any⟩] }
  | .LS_S =>
    { block := .TIME, ofs := 0xC0, stride := 0x0, count := 1, wide := true, dom := .TIME,
      fields := [⟨63, 0, .RO, .any⟩] }
  | .LS_NS =>
    { block := .TIME, ofs := 0xC8, stride := 0x0, count := 1, dom := .TIME,
      fields := [⟨31, 0, .RO, .any⟩] }
  | .LS_ENC =>
    { block := .TIME, ofs := 0xCC, stride := 0x0, count := 1, dom := .TIME,
      fields := [⟨31, 0, .RO, .any⟩] }
  | .CUE_CFG =>
    { block := .TIME, ofs := 0x1000, stride := 0x20, count := 32, dom := .TIME,
      fields := [⟨14, 0, .RO, .any⟩] }
  | .CUE_STATUS =>
    { block := .TIME, ofs := 0x1004, stride := 0x20, count := 32, dom := .TIME,
      fields := [⟨2, 0, .RO, .any⟩, ⟨3, 3, .W1C, .any⟩, ⟨4, 4, .W1C, .any⟩, ⟨5, 5, .W1C, .any⟩] }
  | .CUE_NEXT_S =>
    { block := .TIME, ofs := 0x1008, stride := 0x20, count := 32, wide := true, dom := .TIME,
      fields := [⟨63, 0, .RO, .any⟩] }
  | .CUE_NEXT_NS =>
    { block := .TIME, ofs := 0x1010, stride := 0x20, count := 32, dom := .TIME,
      fields := [⟨31, 0, .RO, .any⟩] }
  | .CUE_ARM_NS =>
    { block := .TIME, ofs := 0x1014, stride := 0x20, count := 32, dom := .TIME,
      fields := [⟨29, 0, .RW, (.range 0 999999999)⟩] }
  | .CUE_ARM_S =>
    { block := .TIME, ofs := 0x1018, stride := 0x20, count := 32, wide := true, dom := .TIME,
      fields := [⟨63, 0, .RW, .any⟩] }
  | .CUE_CNT =>
    { block := .TIME, ofs := 0x1800, stride := 0x4, count := 32, dom := .TIME,
      fields := [⟨7, 0, .RC, .any⟩, ⟨15, 8, .RC, .any⟩, ⟨23, 16, .RC, .any⟩] }
  | .CAP_CFG =>
    { block := .TIME, ofs := 0x2000, stride := 0x20, count := 8, dom := .TIME,
      fields := [⟨1, 0, .RW, .any⟩, ⟨2, 2, .RW, .any⟩] }
  | .CAP_STATUS =>
    { block := .TIME, ofs := 0x2004, stride := 0x20, count := 8, dom := .TIME,
      fields := [⟨4, 0, .RO, .any⟩, ⟨8, 8, .W1C, .any⟩] }
  | .CAP_S =>
    { block := .TIME, ofs := 0x2008, stride := 0x20, count := 8, wide := true, dom := .TIME,
      fields := [⟨63, 0, .RO, .any⟩] }
  | .CAP_NS =>
    { block := .TIME, ofs := 0x2010, stride := 0x20, count := 8, dom := .TIME,
      fields := [⟨31, 0, .RO, .any⟩] }
  | .CAP_ENC =>
    { block := .TIME, ofs := 0x2014, stride := 0x20, count := 8, dom := .TIME,
      fields := [⟨31, 0, .RO, .any⟩] }
  | .CAP_POP =>
    { block := .TIME, ofs := 0x2018, stride := 0x20, count := 8, dom := .TIME,
      fields := [⟨0, 0, .WO, .any⟩] }
  | .CAP_OVF_CNT =>
    { block := .TIME, ofs := 0x201C, stride := 0x20, count := 8, dom := .TIME,
      fields := [⟨31, 0, .RC, .any⟩] }
  | .NET_CFG =>
    { block := .NET, ofs := 0x0, stride := 0x100, count := 2, dom := .NET,
      fields := [⟨3, 0, .RO, .any⟩, ⟨31, 16, .RO, .any⟩] }
  | .NET_STATUS =>
    { block := .NET, ofs := 0x4, stride := 0x100, count := 2, dom := .NET,
      fields := [⟨4, 0, .RO, .any⟩, ⟨8, 8, .W1C, .any⟩] }
  | .PCS_ERR_WIN =>
    { block := .NET, ofs := 0x8, stride := 0x100, count := 2, dom := .NET,
      fields := [⟨31, 0, .RO, .any⟩] }
  | .PCS_ERR_CNT =>
    { block := .NET, ofs := 0xC, stride := 0x100, count := 2, dom := .NET,
      fields := [⟨31, 0, .RC, .any⟩] }
  | .RETRAIN_CNT =>
    { block := .NET, ofs := 0x10, stride := 0x100, count := 2, dom := .NET,
      fields := [⟨31, 0, .RC, .any⟩] }
  | .FCS_ERR_CNT =>
    { block := .NET, ofs := 0x14, stride := 0x100, count := 2, dom := .NET,
      fields := [⟨31, 0, .RC, .any⟩] }
  | .RX_OTHER =>
    { block := .NET, ofs := 0x18, stride := 0x100, count := 2, dom := .NET,
      fields := [⟨31, 0, .RC, .any⟩] }
  | .AUTH_DROP =>
    { block := .NET, ofs := 0x1C, stride := 0x100, count := 2, dom := .NET,
      fields := [⟨31, 0, .RC, .any⟩] }
  | .EGR_DROP =>
    { block := .NET, ofs := 0x20, stride := 0x100, count := 2, dom := .NET,
      fields := [⟨31, 0, .RC, .any⟩] }
  | .ALERT_MAC =>
    { block := .NET, ofs := 0x28, stride := 0x100, count := 2, wide := true, dom := .NET,
      fields := [⟨47, 0, .RW, .any⟩] }
  | .ALERT_IP =>
    { block := .NET, ofs := 0x30, stride := 0x100, count := 2, inner := 4, innerStride := 4, dom := .NET,
      fields := [⟨31, 0, .RW, .any⟩] }
  | .ALERT_PORT =>
    { block := .NET, ofs := 0x40, stride := 0x100, count := 2, dom := .NET,
      fields := [⟨16, 0, .RW, .any⟩] }
  | .CTL_PORT =>
    { block := .NET, ofs := 0x44, stride := 0x100, count := 2, dom := .NET,
      fields := [⟨15, 0, .RW, .any⟩] }
  | .MOD_CMD =>
    { block := .NET, ofs := 0x50, stride := 0x100, count := 2, dom := .NET,
      fields := [⟨9, 0, .WO, .any⟩, ⟨31, 31, .WO, .any⟩] }
  | .MOD_DATA =>
    { block := .NET, ofs := 0x54, stride := 0x100, count := 2, dom := .NET,
      fields := [⟨7, 0, .RW, .any⟩] }
  | .MOD_STATUS =>
    { block := .NET, ofs := 0x58, stride := 0x100, count := 2, dom := .NET,
      fields := [⟨0, 0, .RO, .any⟩, ⟨1, 1, .W1C, .any⟩, ⟨2, 2, .W1C, .any⟩] }
  | .ALERT_CTRL =>
    { block := .NET, ofs := 0x800, stride := 0x0, count := 1, dom := .FABRIC,
      fields := [⟨0, 0, .RW, .any⟩] }
  | .ALERT_STATUS =>
    { block := .NET, ofs := 0x804, stride := 0x0, count := 1, dom := .FABRIC,
      fields := [⟨10, 0, .RO, .any⟩, ⟨11, 11, .W1C, .any⟩] }
  | .ALERT_OVF_CNT =>
    { block := .NET, ofs := 0x808, stride := 0x0, count := 1, dom := .FABRIC,
      fields := [⟨31, 0, .RC, .any⟩] }
  | .ALERT_RAISE =>
    { block := .NET, ofs := 0x80C, stride := 0x0, count := 1, dom := .FABRIC,
      fields := [⟨7, 0, .WO, .any⟩] }
  | .ALERT_CLR =>
    { block := .NET, ofs := 0x810, stride := 0x0, count := 1, dom := .FABRIC,
      fields := [⟨0, 0, .WO, .any⟩] }
  | .ALERT_SEQ =>
    { block := .NET, ofs := 0x814, stride := 0x0, count := 1, dom := .FABRIC,
      fields := [⟨31, 0, .RO, .any⟩] }
  | .KEY_SEL =>
    { block := .NET, ofs := 0x900, stride := 0x0, count := 1, dom := .FABRIC,
      fields := [⟨9, 0, .RW, .any⟩] }
  | .KEY_DATA =>
    { block := .NET, ofs := 0x904, stride := 0x4, count := 4, dom := .FABRIC,
      fields := [⟨31, 0, .WO, .any⟩] }
  | .KEY_STATE =>
    { block := .NET, ofs := 0x914, stride := 0x0, count := 1, dom := .FABRIC,
      fields := [⟨1, 0, .RO, .any⟩] }
  | .FLOW_SENT =>
    { block := .NET, ofs := 0x4000, stride := 0x8, count := 2048, dom := .FABRIC,
      fields := [⟨31, 0, .RC, .any⟩] }
  | .FLOW_DROP =>
    { block := .NET, ofs := 0x4004, stride := 0x8, count := 2048, dom := .FABRIC,
      fields := [⟨31, 0, .RC, .any⟩] }
  | .TIE_CFG =>
    { block := .TIE, ofs := 0x0, stride := 0x0, count := 1, dom := .FABRIC,
      fields := [⟨1, 0, .RO, .any⟩] }
  | .TIE_STATUS =>
    { block := .TIE, ofs := 0x4, stride := 0x0, count := 1, dom := .FABRIC,
      fields := [⟨7, 0, .RO, .any⟩, ⟨8, 8, .W1C, .any⟩, ⟨9, 9, .W1C, .any⟩, ⟨10, 10, .W1C, .any⟩] }
  | .TIE_REJOIN_OFS =>
    { block := .TIE, ofs := 0x8, stride := 0x0, count := 1, wide := true, dom := .FABRIC,
      fields := [⟨63, 0, .RO, .any⟩] }
  | .TIE_SPLIT_BEAT =>
    { block := .TIE, ofs := 0x10, stride := 0x0, count := 1, wide := true, dom := .FABRIC,
      fields := [⟨63, 0, .RO, .any⟩] }
  | .TIE_DELAY =>
    { block := .TIE, ofs := 0x18, stride := 0x0, count := 1, dom := .FABRIC,
      fields := [⟨31, 0, .RO, .any⟩] }
  | .TIE_SPLIT_CNT =>
    { block := .TIE, ofs := 0x1C, stride := 0x0, count := 1, dom := .FABRIC,
      fields := [⟨31, 0, .RC, .any⟩] }
  | .TIE_CRC_ERR =>
    { block := .TIE, ofs := 0x20, stride := 0x0, count := 1, dom := .FABRIC,
      fields := [⟨31, 0, .RC, .any⟩] }
  | .TIE_RESEND =>
    { block := .TIE, ofs := 0x24, stride := 0x0, count := 1, dom := .FABRIC,
      fields := [⟨31, 0, .RC, .any⟩] }
  | .TIE_HB_MISS =>
    { block := .TIE, ofs := 0x28, stride := 0x0, count := 1, dom := .FABRIC,
      fields := [⟨31, 0, .RC, .any⟩] }
  | .TIE_LINES_LATE =>
    { block := .TIE, ofs := 0x2C, stride := 0x0, count := 1, dom := .FABRIC,
      fields := [⟨31, 0, .RC, .any⟩] }
  | .FWD_DROP =>
    { block := .TIE, ofs := 0x30, stride := 0x0, count := 1, dom := .FABRIC,
      fields := [⟨31, 0, .RC, .any⟩] }
  | .PROC_STATUS =>
    { block := .PROC, ofs := 0x0, stride := 0x0, count := 1, dom := .PROC,
      fields := [⟨0, 0, .RO, .any⟩, ⟨1, 1, .W1C, .any⟩] }
  | .REF_DEV =>
    { block := .PROC, ofs := 0x4, stride := 0x0, count := 1, dom := .PROC,
      fields := [⟨31, 0, .RO, .any⟩] }
  | .AGG_SEQ =>
    { block := .PROC, ofs := 0x8, stride := 0x0, count := 1, dom := .PROC,
      fields := [⟨31, 0, .RO, .any⟩] }
  | .PROC_WR_ERR =>
    { block := .PROC, ofs := 0xC, stride := 0x0, count := 1, dom := .PROC,
      fields := [⟨31, 0, .RC, .any⟩] }
  | .EXC_STATUS =>
    { block := .PROC, ofs := 0x10, stride := 0x4, count := 4, dom := .PROC,
      fields := [⟨15, 0, .RO, .any⟩, ⟨16, 16, .W1C, .any⟩] }
  | .PROC_CH_CFG =>
    { block := .PROC, ofs := 0x100, stride := 0x20, count := 16, dom := .PROC,
      fields := [⟨31, 0, .RO, .any⟩] }
  | .CH_LAST =>
    { block := .PROC, ofs := 0x104, stride := 0x20, count := 16, dom := .PROC,
      fields := [⟨31, 0, .RO, .any⟩] }
  | .CH_MEAN =>
    { block := .PROC, ofs := 0x108, stride := 0x20, count := 16, dom := .PROC,
      fields := [⟨31, 0, .RO, .any⟩] }
  | .CH_MIN =>
    { block := .PROC, ofs := 0x10C, stride := 0x20, count := 16, dom := .PROC,
      fields := [⟨31, 0, .RO, .any⟩] }
  | .CH_MAX =>
    { block := .PROC, ofs := 0x110, stride := 0x20, count := 16, dom := .PROC,
      fields := [⟨31, 0, .RO, .any⟩] }
  | .CH_COUNT =>
    { block := .PROC, ofs := 0x114, stride := 0x20, count := 16, dom := .PROC,
      fields := [⟨31, 0, .RO, .any⟩] }
  | .CH_FLAGS =>
    { block := .PROC, ofs := 0x118, stride := 0x20, count := 16, dom := .PROC,
      fields := [⟨7, 0, .RO, .any⟩, ⟨8, 8, .W1C, .any⟩] }
  | .CH_OPEN_CNT =>
    { block := .PROC, ofs := 0x11C, stride := 0x20, count := 16, dom := .PROC,
      fields := [⟨31, 0, .RC, .any⟩] }
  | .ENC_POS =>
    { block := .PROC, ofs := 0x400, stride := 0x20, count := 4, dom := .PROC,
      fields := [⟨31, 0, .RO, .any⟩] }
  | .ENC_CFG =>
    { block := .PROC, ofs := 0x404, stride := 0x20, count := 4, dom := .PROC,
      fields := [⟨7, 0, .RW, (.range 8 255)⟩, ⟨8, 8, .RW, .any⟩, ⟨9, 9, .RW, .any⟩] }
  | .ENC_ZPOS =>
    { block := .PROC, ofs := 0x408, stride := 0x20, count := 4, dom := .PROC,
      fields := [⟨31, 0, .RO, .any⟩] }
  | .ENC_Z_CNT =>
    { block := .PROC, ofs := 0x40C, stride := 0x20, count := 4, dom := .PROC,
      fields := [⟨31, 0, .RC, .any⟩] }
  | .ENC_ERR_CNT =>
    { block := .PROC, ofs := 0x410, stride := 0x20, count := 4, dom := .PROC,
      fields := [⟨31, 0, .RC, .any⟩] }
  | .SER_CFG =>
    { block := .SER, ofs := 0x0, stride := 0x100, count := 8, dom := .FABRIC,
      fields := [⟨20, 0, .RO, .any⟩] }
  | .SER_DIV =>
    { block := .SER, ofs := 0x4, stride := 0x100, count := 8, dom := .FABRIC,
      fields := [⟨27, 0, .RO, .any⟩] }
  | .SER_STATUS =>
    { block := .SER, ofs := 0x8, stride := 0x100, count := 8, dom := .FABRIC,
      fields := [⟨4, 0, .RO, .any⟩] }
  | .SER_LINDIV =>
    { block := .SER, ofs := 0xC, stride := 0x100, count := 8, dom := .FABRIC,
      fields := [⟨27, 0, .RO, .any⟩] }
  | .SER_AREA =>
    { block := .SER, ofs := 0x10, stride := 0x100, count := 8, wide := true, dom := .FABRIC,
      fields := [⟨39, 0, .RO, .any⟩] }
  | .SER_DE_CFG =>
    { block := .SER, ofs := 0x18, stride := 0x100, count := 8, dom := .FABRIC,
      fields := [⟨31, 0, .RO, .any⟩] }
  | .SER_PAR_CNT =>
    { block := .SER, ofs := 0x20, stride := 0x100, count := 8, dom := .FABRIC,
      fields := [⟨31, 0, .RC, .any⟩] }
  | .SER_FRM_CNT =>
    { block := .SER, ofs := 0x24, stride := 0x100, count := 8, dom := .FABRIC,
      fields := [⟨31, 0, .RC, .any⟩] }
  | .SER_NOISE_CNT =>
    { block := .SER, ofs := 0x28, stride := 0x100, count := 8, dom := .FABRIC,
      fields := [⟨31, 0, .RC, .any⟩] }
  | .SER_FALSE_CNT =>
    { block := .SER, ofs := 0x2C, stride := 0x100, count := 8, dom := .FABRIC,
      fields := [⟨31, 0, .RC, .any⟩] }
  | .SER_RXOVF_CNT =>
    { block := .SER, ofs := 0x30, stride := 0x100, count := 8, dom := .FABRIC,
      fields := [⟨31, 0, .RC, .any⟩] }
  | .SER_WAKE_LOST =>
    { block := .SER, ofs := 0x34, stride := 0x100, count := 8, dom := .FABRIC,
      fields := [⟨31, 0, .RC, .any⟩] }
  | .SER_LIN_ERR_CNT =>
    { block := .SER, ofs := 0x38, stride := 0x100, count := 8, dom := .FABRIC,
      fields := [⟨31, 0, .RC, .any⟩] }
  | .SER_RC_CNT =>
    { block := .SER, ofs := 0x3C, stride := 0x100, count := 8, dom := .FABRIC,
      fields := [⟨31, 0, .RC, .any⟩] }
  | .SER_BADTX_CNT =>
    { block := .SER, ofs := 0x40, stride := 0x100, count := 8, dom := .FABRIC,
      fields := [⟨31, 0, .RC, .any⟩] }
  | .SER_WR_ERR =>
    { block := .SER, ofs := 0x44, stride := 0x100, count := 8, dom := .FABRIC,
      fields := [⟨31, 0, .RC, .any⟩] }
  | .SER_TX_CNT =>
    { block := .SER, ofs := 0x48, stride := 0x100, count := 8, dom := .FABRIC,
      fields := [⟨31, 0, .RO, .any⟩] }
  | .SER_RX_CNT =>
    { block := .SER, ofs := 0x4C, stride := 0x100, count := 8, dom := .FABRIC,
      fields := [⟨31, 0, .RO, .any⟩] }
  | .CHK_CFG =>
    { block := .CHK, ofs := 0x0, stride := 0x10, count := 16, dom := .FABRIC,
      fields := [⟨31, 0, .RO, .any⟩] }
  | .CHK_BYTES =>
    { block := .CHK, ofs := 0x4, stride := 0x10, count := 16, dom := .FABRIC,
      fields := [⟨31, 0, .RO, .any⟩] }
  | .HOST_LINK =>
    { block := .HOST, ofs := 0x0, stride := 0x0, count := 1, dom := .HOST,
      fields := [⟨10, 0, .RO, .any⟩, ⟨23, 16, .RO, .any⟩] }
  | .HOST_ID =>
    { block := .HOST, ofs := 0x4, stride := 0x0, count := 1, dom := .HOST,
      fields := [⟨31, 0, .RO, .any⟩] }
  | .HOST_OB_BASE =>
    { block := .HOST, ofs := 0x8, stride := 0x0, count := 1, wide := true, dom := .FABRIC,
      fields := [⟨63, 16, .RWL, .any⟩] }
  | .HOST_BADACC_CNT =>
    { block := .HOST, ofs := 0x10, stride := 0x0, count := 1, dom := .HOST,
      fields := [⟨31, 0, .RC, .any⟩] }
  | .HOST_BERR_CNT =>
    { block := .HOST, ofs := 0x14, stride := 0x0, count := 1, dom := .HOST,
      fields := [⟨31, 0, .RC, .any⟩] }
  | .HOST_EPOCH_CNT =>
    { block := .HOST, ofs := 0x18, stride := 0x0, count := 1, dom := .HOST,
      fields := [⟨31, 0, .RC, .any⟩] }
  | .HOST_TAG_STALL =>
    { block := .HOST, ofs := 0x1C, stride := 0x0, count := 1, dom := .HOST,
      fields := [⟨31, 0, .RC, .any⟩] }
  | .HOST_SHORT_CNT =>
    { block := .HOST, ofs := 0x20, stride := 0x0, count := 1, dom := .HOST,
      fields := [⟨31, 0, .RC, .any⟩] }
  | .HOST_DOWN_CNT =>
    { block := .HOST, ofs := 0x24, stride := 0x0, count := 1, dom := .HOST,
      fields := [⟨31, 0, .RC, .any⟩] }
  | .MSIX_PBA =>
    { block := .HOST, ofs := 0x1000, stride := 0x4, count := 64, dom := .HOST,
      fields := [⟨31, 0, .RO, .any⟩] }
  | .MSIX_TABLE =>
    { block := .HOST, ofs := 0x8000, stride := 0x4, count := 8192, dom := .HOST,
      fields := [⟨31, 0, .RW, .any⟩] }
  | .LC_STATE =>
    { block := .LC, ofs := 0x0, stride := 0x0, count := 1, dom := .AON,
      fields := [⟨3, 0, .RO, .any⟩, ⟨11, 8, .RO, .any⟩] }
  | .LC_CMD =>
    { block := .LC, ofs := 0x4, stride := 0x0, count := 1, dom := .AON,
      fields := [⟨31, 0, .WO, .any⟩] }
  | .LC_STATUS =>
    { block := .LC, ofs := 0x8, stride := 0x0, count := 1, dom := .AON,
      fields := [⟨0, 0, .RO, .any⟩, ⟨7, 4, .RO, .any⟩, ⟨8, 8, .W1C, .any⟩, ⟨15, 12, .RO, .any⟩, ⟨16, 16, .RO, .any⟩] }
  | .DBG_STATUS =>
    { block := .LC, ofs := 0xC, stride := 0x0, count := 1, dom := .FABRIC,
      fields := [⟨3, 0, .RO, .any⟩] }
  | .LC_UID =>
    { block := .LC, ofs := 0x10, stride := 0x0, count := 1, wide := true, dom := .AON,
      fields := [⟨63, 0, .RO, .any⟩] }
  | .LC_CHALLENGE =>
    { block := .LC, ofs := 0x20, stride := 0x4, count := 8, dom := .AON,
      fields := [⟨31, 0, .RO, .any⟩] }
  | .LC_KEY_SEL =>
    { block := .LC, ofs := 0x40, stride := 0x0, count := 1, dom := .AON,
      fields := [⟨2, 0, .RW, .any⟩] }
  | .LC_KEY_INFO =>
    { block := .LC, ofs := 0x44, stride := 0x0, count := 1, dom := .AON,
      fields := [⟨8, 0, .RO, .any⟩] }
  | .LC_KEY_Q =>
    { block := .LC, ofs := 0x80, stride := 0x4, count := 16, dom := .AON,
      fields := [⟨31, 0, .RO, .any⟩] }
  | .LC_TOKEN =>
    { block := .LC, ofs := 0x100, stride := 0x4, count := 48, dom := .AON,
      fields := [⟨31, 0, .RW, .any⟩] }
  | .VW_ID =>
    { block := .VW, ofs := 0x0, stride := 0x0, count := 1024, dom := .FABRIC,
      fields := [⟨14, 0, .RO, .any⟩] }
  | .VW_SCORE_GEN =>
    { block := .VW, ofs := 0x4, stride := 0x0, count := 1024, dom := .FABRIC,
      fields := [⟨31, 0, .RO, .any⟩] }
  | .VW_BEAT =>
    { block := .VW, ofs := 0x8, stride := 0x0, count := 1024, wide := true, dom := .FABRIC,
      fields := [⟨63, 0, .RO, .any⟩] }
  | .VW_BEAT_TIME_S =>
    { block := .VW, ofs := 0x10, stride := 0x0, count := 1024, wide := true, dom := .FABRIC,
      fields := [⟨63, 0, .RO, .any⟩] }
  | .VW_BEAT_TIME_NS =>
    { block := .VW, ofs := 0x18, stride := 0x0, count := 1024, dom := .FABRIC,
      fields := [⟨31, 0, .RO, .any⟩] }
  | .VW_OVR =>
    { block := .VW, ofs := 0x1C, stride := 0x0, count := 1024, dom := .FABRIC,
      fields := [⟨15, 0, .RC, .any⟩, ⟨31, 16, .RC, .any⟩] }
  | .VW_SEGUE_BEAT =>
    { block := .VW, ofs := 0x20, stride := 0x0, count := 1024, wide := true, dom := .FABRIC,
      fields := [⟨63, 0, .RO, .any⟩] }
  | .VW_EVENT =>
    { block := .VW, ofs := 0x28, stride := 0x0, count := 1024, dom := .FABRIC,
      fields := [⟨5, 0, .W1C, .any⟩] }
  | .VW_IRQ_MASK =>
    { block := .VW, ofs := 0x2C, stride := 0x0, count := 1024, dom := .FABRIC,
      fields := [⟨1, 0, .RW, .any⟩] }
  | .VW_IRQ_STATUS =>
    { block := .VW, ofs := 0x30, stride := 0x0, count := 1024, dom := .FABRIC,
      fields := [⟨1, 0, .W1C, .any⟩] }
  | .VW_QPOST =>
    { block := .VW, ofs := 0x34, stride := 0x0, count := 1024, dom := .FABRIC,
      fields := [⟨31, 0, .W1C, .any⟩] }
  | .VW_QERR =>
    { block := .VW, ofs := 0x38, stride := 0x0, count := 1024, dom := .FABRIC,
      fields := [⟨31, 0, .W1C, .any⟩] }
  | .VW_QSEL =>
    { block := .VW, ofs := 0x3C, stride := 0x0, count := 1024, dom := .FABRIC,
      fields := [⟨3, 0, .RW, .any⟩] }
  | .VW_QBASE =>
    { block := .VW, ofs := 0x40, stride := 0x0, count := 1024, wide := true, dom := .FABRIC,
      fields := [⟨63, 0, .RO, .any⟩] }
  | .VW_QCFG =>
    { block := .VW, ofs := 0x48, stride := 0x0, count := 1024, dom := .FABRIC,
      fields := [⟨6, 0, .RO, .any⟩] }
  | .VW_QPROD =>
    { block := .VW, ofs := 0x4C, stride := 0x0, count := 1024, dom := .FABRIC,
      fields := [⟨31, 0, .RO, .any⟩] }
  | .VW_QCONS =>
    { block := .VW, ofs := 0x50, stride := 0x0, count := 1024, dom := .FABRIC,
      fields := [⟨31, 0, .RO, .any⟩] }
  | .VW_FAULT_PEND =>
    { block := .VW, ofs := 0x54, stride := 0x0, count := 1024, dom := .FABRIC,
      fields := [⟨15, 0, .RO, .any⟩] }
  | .VW_PTROOT =>
    { block := .VW, ofs := 0x58, stride := 0x0, count := 1024, wide := true, dom := .FABRIC,
      fields := [⟨0, 0, .RW, .any⟩, ⟨39, 11, .RW, .any⟩] }
  | .VW_TLB_INV =>
    { block := .VW, ofs := 0x60, stride := 0x0, count := 1024, dom := .FABRIC,
      fields := [⟨25, 0, .WO, .any⟩] }
  | .VW_TLB_STAT =>
    { block := .VW, ofs := 0x64, stride := 0x0, count := 1024, dom := .FABRIC,
      fields := [⟨1, 0, .RO, .any⟩, ⟨31, 16, .RO, .any⟩] }
  | .VW_FAULT_RESUME =>
    { block := .VW, ofs := 0x68, stride := 0x0, count := 1024, dom := .FABRIC,
      fields := [⟨9, 0, .WO, .any⟩] }
  | .VW_CHK_CTRL =>
    { block := .VW, ofs := 0x6C, stride := 0x0, count := 1024, dom := .FABRIC,
      fields := [⟨3, 0, .RW, .any⟩, ⟨5, 4, .RW, (.range 0 2)⟩, ⟨8, 8, .WO, .any⟩] }
  | .VW_CHK_DATA =>
    { block := .VW, ofs := 0x70, stride := 0x0, count := 1024, dom := .FABRIC,
      fields := [⟨31, 0, .WO, .any⟩] }
  | .VW_DOORBELL =>
    { block := .VW, ofs := 0x1000, stride := 0x8, count := 16384, wide := true, dom := .FABRIC,
      fields := [⟨31, 0, .WO, .any⟩] }

/-- The reset value of each register (R432; LC_STATE, LC_UID and HOST_ID are fused: see assumption log). -/
def RegId.resetValue : RegId → Nat → Nat
  | .RST_CAUSE, _ => 1
  | .CLK_STATUS, _ => 0xF
  | .BOOT_CODES, _ => 0xFFFFFFFF
  | .LOAD_FAIL_OFS, _ => 0xFFFFFFFF
  | .LOAD_FAIL_RES, _ => 0xFF
  | .MEM_STATUS, _ => 1
  | .SCRUB_CFG, _ => 0xE10
  | .P_CFG, _ => 3
  | .INCR, _ => 0x4000000
  | .INCR_BASE, _ => 0x4000000
  | .SERVO_CFG, _ => 0x14DB3
  | .STEP_THR, _ => 0x4E20
  | .LOCK_THR, _ => 0x3E8
  | .PTP_CFG, _ => 0x80803100
  | .PTP_CLASS, _ => 0xFFFFFEF8
  | .CUE_NEXT_S, _ => 0xFFFFFFFFFFFFFFFF
  | .CUE_NEXT_NS, _ => 0xFFFFFFFF
  | .CTL_PORT, _ => 0xB798
  | .AGG_SEQ, _ => 0xFFFFFFFF
  | .ENC_CFG, _ => 8
  | .HOST_ID, _ => 0x32800000
  /- PRESUMED (PCI Express): the mask bit of every vector's control word is 1 after reset. -/
  | .MSIX_TABLE, i => if i % 4 = 3 then 1 else 0
  | .LC_STATE, _ => 0x2
  | .VW_SEGUE_BEAT, _ => 0xFFFFFFFFFFFFFFFF
  | _, _ => 0

/-- Is the register a view of other state, computed at each read, with no storage of its own? -/
def RegId.isView : RegId → Bool
  | .SYS_EVT => true
  | .HALT_MAP => true
  | .BEAT_TICK => true
  | .WALK_STATUS => true
  | .GRANT_BASE => true
  | .GRANT_SIZE => true
  | .FERMATA_MAP => true
  | .CH_STATE => true
  | .DMA_STATUS => true
  | .GRP_ROW => true
  | .SRV_PENDING => true
  | .CLK_NS => true
  | .CAP_S => true
  | .CAP_NS => true
  | .CAP_ENC => true
  | .KEY_STATE => true
  | .DBG_STATUS => true
  | .LC_KEY_INFO => true
  | .LC_KEY_Q => true
  | .VW_ID => true
  | .VW_SCORE_GEN => true
  | .VW_BEAT => true
  | .VW_BEAT_TIME_S => true
  | .VW_BEAT_TIME_NS => true
  | .VW_SEGUE_BEAT => true
  | .VW_QBASE => true
  | .VW_QCFG => true
  | .VW_QPROD => true
  | .VW_QCONS => true
  | .VW_FAULT_PEND => true
  | .VW_CHK_DATA => true
  | _ => false

/-- The registers of each block. -/
def Block.regs : Block → List RegId
  | .SYS => [.RST_CAUSE, .RST_CTRL, .PWR_CTRL, .PWR_STATUS, .CLK_STATUS, .BOOT_STATUS, .BOOT_CODES, .FLASH_INFO, .MEM_RETAIN, .BLK_CTRL, .BLK_STATUS, .SYS_EVT, .LOAD_ADDR, .LOAD_LEN, .LOAD_CTRL, .LOAD_STATUS, .LOAD_FAIL_OFS, .LOAD_FAIL_RES, .SCORE_GEN, .SCORE_ID] ++
    [.LAST_COMMIT_BEAT, .PENDING_BEAT, .VOICE_HALT, .HALT_MAP, .VIOL_CTRL, .VIOL_INFO, .VIOL_BEAT, .VIOL_VA, .VIOL_PA, .VIOL_MAP, .EPOCH_TAB, .VOICE_VIOL_CNT]
  | .BEAT => [.TEMPO_CFG, .TEMPO_DIV, .PMIN_NS, .IDLE_NS, .TIMER_NS, .BAR_TICK, .BEAT_NUM, .BEAT_TIME_S, .BEAT_TIME_NS, .BEAT_TICK, .TEMPO_STATUS, .CLAMP_CNT, .DROP_CNT, .IDLE_CNT, .LAST_PERIOD_NS, .ENC_REQ, .ENC_ACT, .CLASS_OVR_CNT, .VOICE_OVR_CNT]
  | .MEM => [.MEM_CFG, .MEM_STATUS, .SCRUB_CFG, .ECC_CE_CNT, .ECC_UE_CNT, .ECC_UE_ADDR, .SHORT_CNT, .SHORT_BYTES, .SHORT_CLASS, .WALK_STATUS, .WALK_WAIT_CNT, .TLB_MISS_CNT, .GRANT_SEL, .GRANT_BASE, .GRANT_SIZE, .FERMATA_MAP]
  | .DMA => [.DMA_CH_CFG, .CH_STATE, .CH_QUOTA, .CH_USED, .CH_ERR_PA, .CH_ERR_VA, .CH_ERR_IDX, .CH_BYTES, .CH_DONE_CNT, .CH_STALL_CNT, .CH_NODESC_CNT, .CH_BERR_CNT, .DMA_STATUS, .STALL_READS, .STALL_BLOCKS, .STALL_WRITES, .EVL_STATUS]
  | .PORT => [.P_CFG, .P_STATUS, .P_ECC_CORR, .P_ECC_DROP, .P_CRC_ERR, .P_LEN_ERR, .P_UNKNOWN, .P_LATE, .P_EXTRA, .P_FIFO_OVF, .P_TRIG_SUP, .P_LANE_ERR, .P_CCI_CMD, .P_CCI_REG, .P_CCI_DATA, .P_CCI_STATUS, .P_CCI_NAK_CNT, .P_BDL_DEFER_CNT, .P_BDL_STRADDLE_CNT, .P_BDL_FAIL_CNT] ++
    [.SEN_SETGEN, .STR_SEQ, .STR_LINES, .STR_SHORT]
  | .PIPE => [.PIPE_CFG, .PIPE_STATUS, .PIPE_PIX, .PIPE_OVQ_CNT, .PIPE_MRG_DROP, .PIPE_DYN_CNT, .PIPE_CLIP_CNT, .PROBE_SEL, .PROBE_XY, .PROBE_BEAT, .PROBE_LIN, .PROBE_MRG, .PROBE_FF, .PROBE_DEF, .PROBE_DMS, .PROBE_MAT, .PROBE_OUT, .STAT_CFG, .STAT_STATUS, .STAT_BEAT] ++
    [.STAT_MEAN, .STAT_REC_CNT, .STAT_DROP_CNT, .GRP_CFG, .GRP_STATUS, .GRP_RING_BASE, .GRP_RING_ROWS, .GRP_ROW, .GRP_PART_CNT, .GRP_DROP_CNT, .GRP_FILL_SEG, .WIN_CFG, .WIN_PART_CNT]
  | .SVC => [.ENG_STATUS, .ENG_TILES, .ENG_LENT, .SVC_CFG, .SVC_BEAT, .SVC_LAST, .SVC_SKIP_CNT, .SVC_OVR_CNT, .SVC_FAULT_CNT, .SRV_REQ_CNT, .SRV_RATE_DROP, .SRV_FULL_DROP, .SRV_PENDING, .SRV_NOTHELD, .ARP_CNT, .ICMP_CNT, .ICMP_DROP]
  | .TIME => [.CLK_NS, .CLK_FRAC, .CLK_S, .INCR, .INCR_BASE, .STEP_NS, .SET_S, .SET_NS, .SET_CTRL, .SERVO_CFG, .STEP_THR, .LOCK_THR, .SERVO_STATUS, .SERVO_E, .SERVO_DELAY, .SERVO_Y, .HOLD_Y, .BLK_F_PRI, .BLK_F_ALT, .STEP_CNT] ++
    [.SUSPECT_CNT, .PTP_CFG, .PTP_CLASS, .ASYM_NS, .TXTS_STATUS, .TXTS_FULL_CNT, .DRESP_MISS_CNT, .FOREIGN_CNT, .LS_SEL, .LS_BEAT, .LS_S, .LS_NS, .LS_ENC, .CUE_CFG, .CUE_STATUS, .CUE_NEXT_S, .CUE_NEXT_NS, .CUE_ARM_NS, .CUE_ARM_S, .CUE_CNT] ++
    [.CAP_CFG, .CAP_STATUS, .CAP_S, .CAP_NS, .CAP_ENC, .CAP_POP, .CAP_OVF_CNT]
  | .NET => [.NET_CFG, .NET_STATUS, .PCS_ERR_WIN, .PCS_ERR_CNT, .RETRAIN_CNT, .FCS_ERR_CNT, .RX_OTHER, .AUTH_DROP, .EGR_DROP, .ALERT_MAC, .ALERT_IP, .ALERT_PORT, .CTL_PORT, .MOD_CMD, .MOD_DATA, .MOD_STATUS, .ALERT_CTRL, .ALERT_STATUS, .ALERT_OVF_CNT, .ALERT_RAISE] ++
    [.ALERT_CLR, .ALERT_SEQ, .KEY_SEL, .KEY_DATA, .KEY_STATE, .FLOW_SENT, .FLOW_DROP]
  | .TIE => [.TIE_CFG, .TIE_STATUS, .TIE_REJOIN_OFS, .TIE_SPLIT_BEAT, .TIE_DELAY, .TIE_SPLIT_CNT, .TIE_CRC_ERR, .TIE_RESEND, .TIE_HB_MISS, .TIE_LINES_LATE, .FWD_DROP]
  | .PROC => [.PROC_STATUS, .REF_DEV, .AGG_SEQ, .PROC_WR_ERR, .EXC_STATUS, .PROC_CH_CFG, .CH_LAST, .CH_MEAN, .CH_MIN, .CH_MAX, .CH_COUNT, .CH_FLAGS, .CH_OPEN_CNT, .ENC_POS, .ENC_CFG, .ENC_ZPOS, .ENC_Z_CNT, .ENC_ERR_CNT]
  | .SER => [.SER_CFG, .SER_DIV, .SER_STATUS, .SER_LINDIV, .SER_AREA, .SER_DE_CFG, .SER_PAR_CNT, .SER_FRM_CNT, .SER_NOISE_CNT, .SER_FALSE_CNT, .SER_RXOVF_CNT, .SER_WAKE_LOST, .SER_LIN_ERR_CNT, .SER_RC_CNT, .SER_BADTX_CNT, .SER_WR_ERR, .SER_TX_CNT, .SER_RX_CNT]
  | .CHK => [.CHK_CFG, .CHK_BYTES]
  | .HOST => [.HOST_LINK, .HOST_ID, .HOST_OB_BASE, .HOST_BADACC_CNT, .HOST_BERR_CNT, .HOST_EPOCH_CNT, .HOST_TAG_STALL, .HOST_SHORT_CNT, .HOST_DOWN_CNT, .MSIX_PBA, .MSIX_TABLE]
  | .LC => [.LC_STATE, .LC_CMD, .LC_STATUS, .DBG_STATUS, .LC_UID, .LC_CHALLENGE, .LC_KEY_SEL, .LC_KEY_INFO, .LC_KEY_Q, .LC_TOKEN]
  | .VW => [.VW_ID, .VW_SCORE_GEN, .VW_BEAT, .VW_BEAT_TIME_S, .VW_BEAT_TIME_NS, .VW_OVR, .VW_SEGUE_BEAT, .VW_EVENT, .VW_IRQ_MASK, .VW_IRQ_STATUS, .VW_QPOST, .VW_QERR, .VW_QSEL, .VW_QBASE, .VW_QCFG, .VW_QPROD, .VW_QCONS, .VW_FAULT_PEND, .VW_PTROOT, .VW_TLB_INV] ++
    [.VW_TLB_STAT, .VW_FAULT_RESUME, .VW_CHK_CTRL, .VW_CHK_DATA, .VW_DOORBELL]

end Sys2Proof.Machine
end

