-- ==== Sys2Proof/Machine/Types.lean ====
section
/-!
DEFINITION. The plain data of each block that State is made of, beside the registers: what each chapter of the spec
says the block holds.
-/

namespace Sys2Proof.Machine

/-! ### The score (chapters 02 and 03) -/

/-- An element: one record of a score, with the voice whose section declares it (0 for the system section), its
offset in the staged score and its bytes from the record header on (R48). -/
structure Elem where
  voice : Nat
  typ : Nat
  id : Nat
  ofs : Nat
  raw : List Byte
  deriving DecidableEq, Repr

/-- One directory entry of a score (Table 2.2) with the records of its section. -/
structure Section where
  kind : Nat
  voice : Nat
  remove : Bool
  dirOfs : Nat
  ofs : Nat
  len : Nat
  elems : List Elem
  deriving DecidableEq, Repr

/-- An area of storage carved from a grant (R227, R342, R348): kind 0 group ring, 1 stream ring, 2 product slot, numbered
2 * product + parity, 3 process ring, 4 serial port's area, 9 an area that an old generation keeps until it is freed. -/
structure Area where
  kind : Nat
  voice : Nat
  id : Nat
  base : Nat
  size : Nat
  deriving DecidableEq, Repr

/-- Where the score in admission is read from (R70, R71), and whether it is boot's own load (R407). -/
structure Staged where
  flash : Bool
  addr : Nat
  len : Nat
  bank : Nat
  boot : Bool
  deriving DecidableEq, Repr

/-- A score that passed admission: its kind, its commit barline, its sections in directory order, the areas of the
resulting score, the key slot that signed it, and where it was read from. -/
structure Score where
  segue : Bool
  commit : Nat
  secs : List Section
  areas : List Area
  slot : Option Nat
  src : Staged
  deriving DecidableEq, Repr

/-- A segue's overlap of two generations (R85): the place of its commit barline in the order of barlines, the voices it
names, the areas that the new generation holds, and the voices whose old generation a halt ended before the commit
(R93). -/
structure Overlap where
  ord : Nat
  voices : List Nat
  areas : List Area
  dead : List Nat
  deriving DecidableEq, Repr

/-- The score planes. `live` is the live score's elements, `eff` the elements in effect at their handover barlines
(Table 3.4). -/
structure Load where
  live : List Elem
  eff : List Elem
  staged : Option Staged
  armed : Option Score
  pend : Option Score
  applying : Option Score
  /-- The blocks are configured from it: it can commit (R82). -/
  applied : Bool
  overlap : Option Overlap
  /-- Voices halted (R92), each once. -/
  halted : List Nat
  deriving DecidableEq, Repr

/-! ### Tempo (chapter 01) -/

/-- What the device keeps of one beat: its barline's time, encoder positions and flags, the generation current at
it, and the row each group took (R31, R35, R87, R224). -/
structure BeatRec where
  /-- Its number, plus 2^64 for every adoption barline so far, which tells beats apart that a backward jump gives one number
  (R329). Work of a beat carries it whole; what leaves the device is the number. -/
  num : Nat
  time : Stamp
  encReq : Nat
  encAct : Nat
  clamped : Bool
  idle : Bool
  split : Bool
  refSuspect : Bool
  gen : Nat
  rows : Tab Nat
  /-- SEQ of the process aggregate of this beat, and the voices that own a channel whose aggregate is suspect (R340,
  R341). -/
  seq : Nat
  procSus : List Nat
  /-- Tempo encoder position at the barline (R289). -/
  pos : Nat
  /-- Barlines since the commit of the full load, which no rejoin moves (R329). -/
  ord : Nat
  deriving DecidableEq, Repr

/-- The tempo engine. Times are elapsed times of the clock in 2^-32 ns. -/
structure Tempo where
  /-- A beat is open (R456). -/
  isOpen : Bool
  /-- Elapsed time of the last barline. -/
  last : Nat
  /-- Targets of the deferred tempo events held, oldest first (R32). -/
  held : List Nat
  /-- The encoder target (R22). -/
  target : Nat
  /-- Elapsed time of the next TIMER event. -/
  timerDue : Nat
  /-- The slot table of this beat has started (R26). -/
  playing : Bool
  /-- The bar's shortfall has been judged (R147). -/
  judged : Bool
  /-- The last beats, newest first. -/
  beats : List BeatRec
  /-- Bytes charged this bar, by voice and resource code (R25, R153, R155). -/
  used : Tab Nat
  deriving DecidableEq, Repr

/-! ### Voices and queues (chapter 04) -/

/-- A queue in effect (R100, R101). -/
structure Ring where
  present : Bool := false
  base : Nat := 0
  log2 : Nat := 0
  toDev : Bool := false
  msix : Bool := false
  prod : Nat := 0
  cons : Nat := 0
  deriving DecidableEq, Repr

/-- An entry to be posted (Table 4.2). `beat` is the capture beat of beat-bound work; `line` is the event line that a DMA
completion pulses once the entry is posted or discarded (Table 6.7, steps 5 and 6). -/
structure Post where
  voice : Nat
  queue : Nat
  typ : Nat
  status : Nat
  oldgen : Bool
  elem : Nat
  body : List Byte
  beat : Option Nat
  line : Option Nat
  deriving DecidableEq, Repr

/-! ### Translation and fermata (chapter 05) -/

/-- A cached leaf (R129): the page a voice's address lies in, and where it leads; `pa` is none where the leaf
violates. -/
structure TlbEntry where
  voice : Nat
  big : Bool
  page : Nat
  pa : Option Nat
  /-- The address the PTE gave, kept for the violation record (R119). -/
  target : Nat
  read : Bool
  write : Bool
  deriving DecidableEq, Repr

/-- The causes of a translation fault (Table 5.5). -/
inductive Cause where
  | notPresent | permission | malformed | noRoot
  deriving DecidableEq, Repr

/-- How a translation ended (Table 5.4, R144). -/
inductive Xlat where
  | ok (pa : Nat)
  | viol (target : Nat) (walk : Bool)
  | fault (cause : Cause) (level : Nat)
  | busError (pa : Nat)
  deriving DecidableEq, Repr

/-- A walk in progress or waiting (R131): the page asked for and the channels' sides it serves; true is a write. -/
structure Walk where
  voice : Nat
  va : Nat
  waiters : List (Nat × Bool)
  deriving DecidableEq, Repr

/-- An operation that can fault (Table 5.5, ACCESS.SOURCE). -/
inductive FaultOp where
  | dmaRead (ch : Nat)
  | dmaWrite (ch : Nat)
  | post (p : Post)
  | fetch (ch : Nat)
  | serviceRead (inst tile : Nat)
  | serviceWrite (inst tile : Nat)
  /-- The read of history for the voice's oldest image request, by its server instance (R266). -/
  | request (inst : Nat)
  deriving DecidableEq, Repr

/-- A faulted operation: in a slot, or waiting for one (R139). -/
structure Fermata where
  voice : Nat
  op : FaultOp
  va : Nat
  cause : Cause
  level : Nat
  beat : Option Nat
  aux : Nat
  elem : Nat
  deriving DecidableEq, Repr

/-- A running or held invalidation (R133): its scope code and page number. -/
structure Inval where
  scope : Nat
  vpn : Nat
  deriving DecidableEq, Repr

/-- Translation state of all voices. -/
structure Trans where
  /-- Cached leaves, most recently used first. -/
  tlb : List TlbEntry
  walks : List Walk
  misses : List Walk
  /-- Slots in use, keyed voice * 16 + slot. -/
  slots : Tab (Option Fermata)
  /-- Current TAG of each slot, keyed alike. -/
  tags : Tab Nat
  /-- Faulted operations that found no slot, oldest first (R139). -/
  noSlot : List Fermata
  /-- Invalidations busy and pending, by voice. -/
  busy : Tab (Option Inval)
  held : Tab (Option Inval)
  deriving DecidableEq, Repr

/-! ### The DMA engine (chapter 06) -/

/-- An item of a source: a product, a service result or a statistics record (R154). A product lies in its slot in
memory, from `base` on; results and records lie in memories of their own, as `bytes`. -/
structure Item where
  src : Nat
  voice : Nat
  beat : Nat
  len : Nat
  base : Option Nat
  bytes : List Byte
  deriving DecidableEq, Repr

/-- A burst of one side of a transfer: the first transfer byte it carries, its length, its voice address and its
device-physical address; none where it violates. -/
structure Burst where
  start : Nat
  len : Nat
  va : Nat
  pa : Option Nat
  bytes : List Byte
  deriving DecidableEq, Repr

/-- A bus error that struck a descriptor (R171): the burst's first transfer byte, its addresses, and its side. -/
structure DmaFail where
  start : Nat
  va : Nat
  pa : Nat
  write : Bool
  deriving DecidableEq, Repr

/-- A descriptor a channel holds (R151). -/
structure Desc where
  idx : Nat
  /-- Where its ring entry lies; none where the ring violates or was not reached. -/
  pa : Option Nat
  raw : List Byte
  item : Option Item
  /-- Bytes this descriptor moves (R156). -/
  total : Nat
  readIssued : Nat
  reads : List Burst
  buf : List Burst
  writeIssued : Nat
  /-- Write bursts issued that await acknowledgement, and those that met a bus error, which RESUME reissues (R172). -/
  writes : List Burst
  failed : List Burst
  waited : Bool
  fail : Option DmaFail
  /-- The status it completes with once it is the channel's first (R151), with the failing burst, if any. -/
  ended : Option (Nat × Option DmaFail)
  deriving DecidableEq, Repr

/-- A channel that is running, or stands (Table 6.3). -/
inductive ChMode where
  | run | fermata | halted | stopped
  deriving DecidableEq, Repr

/-- The answer of the walker to one side of a channel. -/
inductive SideXlat where
  | none
  | waiting
  | answer (r : Xlat)
  deriving DecidableEq, Repr

/-- A DMA channel. -/
structure Chan where
  mode : ChMode := .run
  descs : List Desc := []
  /-- The halt is on a descriptor fetch (R172). -/
  fetchHalt : Bool := false
  /-- An accepted RING_Q doorbell asks the halted channel to look at CMD (R172). -/
  cmdLook : Bool := false
  /-- Items due and not yet taken (R154), oldest first. -/
  due : List Item := []
  rd : SideXlat := .none
  wr : SideXlat := .none
  /-- Blocked at quota, a bound, or WAITEV: state WAIT. -/
  blocked : Bool := false
  lent : Bool := false
  /-- It waits for rest, its quota being spent (R27). -/
  asks : Bool := false
  /-- Write bursts of completed descriptors that await acknowledgement, oldest first, with their ring index (R165). -/
  flying : List (Nat × Burst) := []
  /-- Stall episodes open, by the rows of Table 6.5 and the tag bound of R386. -/
  stalls : List Nat := []
  /-- No new descriptor is fetched: the old generation from barline B (Table 3.4). -/
  draining : Bool := false
  deriving DecidableEq, Repr

/-- The DMA engine. -/
structure Dma where
  ch : Tab Chan
  /-- The channel last served of each class and mode, by read and write engine (R159), and the voice last lent rest (R27). -/
  rr : Tab Nat
  deriving DecidableEq, Repr

/-! ### Sensor ports (chapter 07) -/

/-- How a stream takes lines now (R182). -/
inductive StreamMode where
  /-- No frame since the last FE: lines are surplus. -/
  | idle
  /-- A frame is open. -/
  | taking
  /-- The frame in progress is a surplus one: it was counted once, its lines are discarded. -/
  | surplus
  /-- The frame closed at its capture deadline: its lines are late. -/
  | late
  deriving DecidableEq, Repr

/-- A frame of a stream, open or closed (R182). -/
structure Frame where
  beat : Nat
  seq : Nat
  setgen : Nat
  isOpen : Bool
  /-- Lines counted so far, missing ones among them. -/
  count : Nat
  /-- Lines accepted. -/
  got : Nat
  missing : Bool
  /-- It closed at its capture deadline. -/
  atDeadline : Bool
  /-- Its port or pipe changed epoch while lines were in flight (R400). -/
  epoch : Bool
  deriving DecidableEq, Repr

/-- What a port keeps of a stream. -/
structure StreamSt where
  mode : StreamMode := .idle
  /-- Frames of the last two beats, newest first. -/
  frames : List Frame := []
  /-- Accepted frames so far, modulo 2^16 (R184). -/
  seq : Nat := 0
  /-- Settings generation in effect (R193). -/
  gen : Nat := 0
  /-- Generations to take effect, with the frame sequence of each (R193). -/
  coming : List (Nat × Nat) := []
  deriving DecidableEq, Repr

/-- A line in a port's buffer (R183), with its stamp and encoder position (R288, R289). -/
structure BufLine where
  arrival : Nat
  stream : Nat
  beat : Nat
  line : Nat
  stamp : Stamp
  enc : Nat
  bytes : List Byte
  deriving DecidableEq, Repr

/-- A bundle due on a port (R192). -/
structure DueBundle where
  voice : Nat
  id : Nat
  sensor : Nat
  target : Nat
  deferred : Bool
  /-- Judged already in this window. -/
  judged : Bool
  raw : List Byte
  deriving DecidableEq, Repr

/-- The bundle that a master is writing (R188, R192). -/
structure RunBundle where
  b : DueBundle
  done : Nat
  retried : Bool
  startBeat : Nat
  straddle : Bool
  /-- A segue has committed over it: its entry carries OLDGEN (R196, Table 4.2). -/
  old : Bool := false
  deriving DecidableEq, Repr

/-- A direct transfer (R198): P_CCI_CMD as written, register and data. -/
structure Direct where
  cmd : Nat
  reg : Nat
  data : Nat
  running : Bool
  retried : Bool
  deriving DecidableEq, Repr

/-- A sensor port. -/
structure Port where
  buffer : List BufLine := []
  due : List DueBundle := []
  run : Option RunBundle := none
  direct : Option Direct := none
  /-- Links whose bundle window is open (R191). -/
  windows : List Nat := []
  /-- A bundle has been started in this window (R192). -/
  started : Bool := false
  /-- The port has passed its cue's pulse in this beat (R187). -/
  passed : Bool := false
  /-- TRIG carries a pulse. -/
  trig : Bool := false
  /-- Links with an accepted FS in this beat. -/
  fsSeen : List Nat := []
  /-- Consecutive triggered beats without an accepted FS, by link (R185). -/
  missed : Tab Nat := []
  /-- Links on which the rest of a high-speed burst is discarded (R181). -/
  skip : List Nat := []
  deriving DecidableEq, Repr

/-! ### Image pipes (chapter 08) -/

/-- A linearised line that waits for its partners (R211). -/
structure MergeLine where
  slot : Nat
  beat : Nat
  line : Nat
  arrival : Nat
  stamp : Stamp
  enc : Nat
  samples : List Nat
  deriving DecidableEq, Repr

/-- One output's frame inside a pipe (R203): the lines after black level and flat-field, each a list of pixels of one
component or three. -/
structure PipeFrame where
  stream : Nat
  beat : Nat
  lines : Tab (List (List Int))
  /-- One more than the highest line processed. -/
  processed : Nat
  /-- The next line to emit. -/
  emitted : Nat
  stamps : Tab (Stamp × Nat)
  /-- Linearised samples by slot * 65536 + line, and merged values by line, for the probe. -/
  lin : Tab (List Nat)
  mrg : Tab (List Nat)
  deriving DecidableEq, Repr

/-- A pipe. -/
structure Pipe where
  merge : List MergeLine := []
  frames : List PipeFrame := []
  /-- Pixels accepted, by beat (R201). -/
  pix : Tab Nat := []
  /-- The gain store: node gains in the order of R213; none: no map. -/
  gains : Option (List Nat) := none
  deriving DecidableEq, Repr

/-! ### Alignment, windows and products (chapter 09) -/

/-- What a ring row holds of one member: the line's stamp and settings generation (R239). -/
structure RowMember where
  member : Nat
  stamp : Stamp
  setgen : Nat
  deriving DecidableEq, Repr

/-- A ring row (R228): its number; the members that placed a line; those whose line a frame closed at its deadline
lacks, and those whose frame an epoch change closed. -/
structure RowInfo where
  row : Nat
  placed : List RowMember
  ovr : Nat
  epoch : Nat
  deriving DecidableEq, Repr

/-- A part of a product that has been cut (R235). -/
structure Part where
  window : Nat
  bytes : List Byte
  flags : Nat
  deriving DecidableEq, Repr

/-- A product of a beat under assembly (R235). -/
structure Product where
  voice : Nat
  product : Nat
  beat : Nat
  parts : List Part
  dropped : Bool
  deriving DecidableEq, Repr

/-- The alignment unit. Rows are keyed ring number * 2^32 + row modulo the ring's rows; ring numbers are 0..31 for
groups and 256 + s for streams. -/
structure Align where
  areas : List Area
  /-- G of each group (R224). -/
  rowCounter : Tab Nat
  rows : Tab (Option RowInfo)
  products : List Product
  /-- Groups judged for a beat: group, beat, dropped (R231). -/
  judged : List (Nat × Nat × Bool)
  /-- The value of G at the last commit or dropped tempo event, by group (R228). -/
  priming : Tab Nat
  /-- The place of the commit barline of the segue that carved a ring, by ring number (R227). -/
  since : Tab Nat
  deriving DecidableEq, Repr

/-! ### Statistics (chapter 10) -/

/-- A statistics record under accumulation (R242 to R244, R250). -/
structure StatAcc where
  stream : Nat
  beat : Nat
  fseq : Nat
  setgen : Nat
  frame : Bool
  hist : Tab Nat
  zoneSum : Tab Nat
  zoneCnt : Tab Nat
  /-- Row mean and capture stamp of each present line. -/
  rows : Tab (Nat × Stamp)
  samples : Nat
  computed : Bool
  deriving DecidableEq, Repr

/-- A lock handed to a cue (R249): FREQ, the peak time in 2^-16 ns, and the place of the barline from which it holds. -/
structure Lock where
  cue : Nat
  freq : Nat
  peak : Nat
  from_ : Nat
  deriving DecidableEq, Repr

/-! ### Services (chapter 11) -/

/-- How a tile stands. -/
inductive TileState where
  | waiting | staged | running | done | skipped | fermata
  deriving DecidableEq, Repr

/-- A tile of an instance's beat with the inputs staged for it (R257): the bytes of its window region, its reference
bytes, its tolerance bytes, and which of its pixels are fill. -/
structure Tile where
  st : TileState := .waiting
  /-- Staging has begun: the window's pixels are there; and the inputs read so far through translation, by access, which a
  fault keeps (R268). -/
  begun : Bool := false
  inputs : List (List Byte) := []
  pixels : List Byte := []
  ref : List Byte := []
  tol : List Byte := []
  fill : List Bool := []
  deriving DecidableEq, Repr

/-- The work of one service instance on one beat; tiles by number. -/
structure Job where
  inst : Nat
  voice : Nat
  beat : Nat
  tiles : Tab Tile
  /-- The closing step of a mark instance is done, or a server's tag is written or given up. -/
  closed : Bool
  /-- STATUS of the result; nonzero ends the work (Table 11.6). -/
  status : Nat
  /-- Payload bytes the server has written to history. -/
  written : Nat
  finished : Bool
  deriving DecidableEq, Repr

/-- What an engine runs: instance, tile (none: the closing step), whether on lent rest, and when it ends. -/
structure Running where
  inst : Nat
  beat : Nat
  tile : Option Nat
  lent : Bool
  ends : Nat
  deriving DecidableEq, Repr

/-- A queued image request (R265, R267). -/
structure Request where
  voice : Nat
  uplink : Nat
  mac : Nat
  v6 : Bool
  ip : Nat
  port : Nat
  beat : Nat
  window : Nat
  x : Nat
  y : Nat
  w : Nat
  h : Nat
  step : Nat
  reqId : Nat
  /-- SEQ of the request's header, which its replies copy (Table 13.4). -/
  seq : Nat
  /-- Its read of history was skipped or aborted. -/
  lost : Bool
  /-- The tag of the VLAN that the request carried, which its replies carry (R266). -/
  vlan : Option Nat
  /-- The engine has begun it; tiles that the engine has read for it, and history bytes read so far, by access (R265,
  R268). -/
  begun : Bool
  tiles : Nat
  got : List (List Byte)
  deriving DecidableEq, Repr

/-- A token bucket in units of a millionth of a token, with the elapsed time it was last filled. -/
structure Bucket where
  tokens : Nat
  at_ : Nat
  deriving DecidableEq, Repr

/-- The services. -/
structure Services where
  jobs : List Job
  /-- The slot voice of each engine and the tick its slot ends. -/
  slot : Tab (Option (Nat × Nat))
  running : Tab (Option Running)
  /-- The voice last lent rest, by engine (R27). -/
  rr : Tab Nat
  /-- Results and records that wait for delivery. -/
  items : List Item
  requests : List Request
  buckets : Tab (Option Bucket)
  icmp : Tab (Option Bucket)
  /-- Beats held in history: instance and beat (R264). -/
  held : List (Nat × Nat)
  deriving DecidableEq, Repr

/-! ### Time (chapter 12) -/

/-- A cue. Times of edges are clock times in 2^-32 ns; the end of a pulse is an elapsed time, which no set or step
moves (R297). -/
structure Cue where
  /-- The pending edge. -/
  next : Option Nat := none
  /-- Grid point 0 and the period of the grid in use (R294, R295). -/
  grid : Option (Nat × Nat) := none
  /-- A pulse is in progress, and when it ends. -/
  active : Bool := false
  ends : Nat := 0
  /-- The active level of the pulse in progress: high unless POL is 1 (R290). -/
  high : Bool := true
  /-- The element is gone: its pulse completes (R290). -/
  gone : Bool := false
  /-- Declared by a full load: its first edge is placed at barline 0 (R291, R294). -/
  waits : Bool := false
  deriving DecidableEq, Repr

/-- An entry of a capture FIFO (R298). -/
structure Capture where
  stamp : Stamp
  rising : Bool
  enc : Nat
  deriving DecidableEq, Repr

/-- An entry of a transmit-timestamp queue (R278): kind 0 Sync, 1 Delay_Req, 2 tie TIME_SYNC, 3 tie TIME_DREQ. -/
structure TxStamp where
  kind : Nat
  ident : Nat
  /-- Clock time in ns, and elapsed time. -/
  time : Nat
  at_ : Nat
  /-- The message has yet to reach its timestamp point (R276). -/
  waits : Bool
  deriving DecidableEq, Repr

/-- What the servo keeps of one reference (R275 to R286). Times are clock times in ns and elapsed times. -/
structure RefSt where
  /-- The master selected by its Announce messages. -/
  master : Option Announce := none
  /-- A Sync whose Follow_Up is awaited: sequence, source, arrival, correction in 2^-16 ns. -/
  sync : Option (Nat × Nat × Nat × Int) := none
  /-- t1 and t2 of the last sample, with corrections taken off. -/
  last : Option (Int × Int) := none
  /-- The last eight delay measurements, newest first. -/
  delays : List Int := []
  /-- Elapsed time of the last sample, or of the start of the wait for one; and of the last Announce. -/
  sampleAt : Nat := 0
  announceAt : Nat := 0
  /-- First and last sample of the block: e and elapsed time; and their number. -/
  first : Option (Int × Nat) := none
  final : Option (Int × Nat) := none
  count : Nat := 0
  /-- Did the last block lie inside the window; none: empty or none yet. -/
  inside : Option Bool := none
  /-- F_blk of the most recent block inside the window. -/
  good : Option Int := none
  /-- Consecutive blocks inside the window. -/
  run : Nat := 0
  deriving DecidableEq, Repr

/-- The servo (R280 to R287). -/
structure Servo where
  pri : RefSt := {}
  alt : RefSt := {}
  /-- I in 2^-16 ppb, and y in effect in ppb. -/
  i : Int := 0
  y : Int := 0
  /-- The next sample is the first since ACQUIRE was entered. -/
  fresh : Bool := true
  /-- Consecutive samples below LOCK_THR, and at or above STEP_THR. -/
  near : Nat := 0
  far : Nat := 0
  /-- Elapsed time at which the current block began; sum of y times elapsed, and the elapsed time since which y
  holds. -/
  blockAt : Nat := 0
  yArea : Int := 0
  ySince : Nat := 0
  /-- Block ends met in SUSPECT or LOSS, the one that began SUSPECT among them: at 2 a whole block has been spent. -/
  waited : Nat := 0
  /-- The clock was set or stepped since the last barline. -/
  stepped : Bool := false
  /-- The last changes of the clock beside its increments, newest first: elapsed time, clock before the change in 2^-32 ns,
  and the increment up to it, by which a stamp of an earlier TCLK is told (R298). -/
  marks : List (Nat × Nat × Nat) := []
  deriving DecidableEq, Repr

/-- PTP messages and their queues (R275 to R279). -/
structure Ptp where
  /-- Transmit-timestamp queues of NET0, NET1 and the tie link. -/
  txq : Tab (List TxStamp) := []
  /-- Event messages held unsent, by kind, at each queue. -/
  held : Tab (List Nat) := []
  /-- Next sequence numbers: Sync, Announce, Delay_Req of each uplink, tie timing. -/
  seqs : Tab Nat := []
  deriving DecidableEq, Repr

/-! ### Uplinks (chapter 13) -/

/-- A PTP message that a port sends (R275, IEEE 1588): messageType, sequenceId, its timestamp in ns, correction, the
requester that a Delay_Resp names, the port that sends it, transport, domain, logMessageInterval, and what an Announce
announces. -/
structure PtpOut where
  kind : Nat
  seq : Nat
  time : Nat
  correction : Int
  requester : Nat
  source : Nat
  xport : Nat
  domain : Nat
  interval : Nat
  ann : Option Announce
  deriving DecidableEq, Repr

/-- What an Ethernet frame carries: a UDP datagram, an ARP reply, an ICMP echo reply, each with the sender's and the
receiver's IP address, a PTP message with the sender's address, or the bytes that follow the header. -/
inductive NetBody where
  | udp (v6 : Bool) (sip ip sport dport : Nat) (payload : List Byte)
  | arp (sip ip : Nat)
  | echo (sip ip ident seqNum : Nat) (data : List Byte)
  | ptp (sip : Nat) (m : PtpOut)
  | raw (bytes : List Byte)
  deriving DecidableEq, Repr

/-- An Ethernet frame: source and destination address, tag, and what it carries. -/
structure NetFrame where
  src : Nat
  mac : Nat
  vlan : Option Nat
  body : NetBody
  deriving DecidableEq, Repr

/-- A frame that waits at an uplink (R310): its group, voice, traffic class and flow; and the flow and beat of the item
whose datagram it is. -/
structure EgFrame where
  group : Nat
  voice : Nat
  tclass : Nat
  flow : Nat
  frame : NetFrame
  owner : Nat := 0
  beat : Nat := 0
  deriving DecidableEq, Repr

/-- An alert in the queue (R317, Table 13.6). -/
structure Alert where
  seq : Nat
  code : Nat
  detail : Nat
  stamp : Stamp
  mirrored : Bool
  /-- The tie TSEQ under which it was mirrored and awaits acknowledgement. -/
  tseq : Option Nat
  /-- The uplink whose egress buffer it has found its place in (R318). -/
  placed : Option Nat
  deriving DecidableEq, Repr

/-- An uplink's transmitter. -/
structure Uplink where
  egress : List EgFrame := []
  /-- Frame on the wire, and the elapsed time it ends. -/
  tx : Option EgFrame := none
  txEnds : Nat := 0
  hbSeq : Nat := 0
  /-- End of RETRAIN, elapsed. -/
  retrainEnds : Nat := 0
  /-- Round-robin: flow last served within quota, voice last served on rest. -/
  rrFlow : Nat := 0
  rrVoice : Nat := 0
  /-- Units of rest lent to a voice whose next frame has yet to start (R27, R309). -/
  lent : Tab Nat := []
  deriving DecidableEq, Repr

/-- An item a flow is sending (R311): the bytes handed over so far and the flow that carries it. -/
structure FlowItem where
  item : Item
  sent : Nat
  via : Option Nat
  /-- A datagram of it was discarded: it never leaves whole (R302, R311, R318). -/
  lost : Bool
  deriving DecidableEq, Repr

/-- A flow. -/
structure FlowSt where
  items : List FlowItem := []
  seq : Nat := 0
  /-- Wire bytes charged within RATE in this bar. -/
  charged : Nat := 0
  deriving DecidableEq, Repr

/-- A voice's network key (R305). -/
structure NetKey where
  key : List Byte
  owned : Bool
  lastSeq : Nat
  deriving DecidableEq, Repr

/-- The uplinks and the alert path. -/
structure Net where
  up : Tab Uplink := []
  alerts : List Alert := []
  /-- Alerts lost since the last ALERT_OVF (R318). -/
  lost : Nat := 0
  flows : Tab FlowSt := []
  keys : Tab (Option NetKey) := []
  /-- Elapsed time of the last SHORTFALL alert. -/
  shortAt : Option Nat := none
  deriving DecidableEq, Repr

/-- A reliable tie frame not yet acknowledged (R322). -/
structure TieFrame where
  ttype : Nat
  tseq : Nat
  body : List Byte
  sentAt : Nat
  deriving DecidableEq, Repr

/-- The tie link (R321 to R329). -/
structure Tie where
  sendSeq : Nat := 0
  recvSeq : Nat := 0
  unacked : List TieFrame := []
  /-- The partner's CONFIG, once received since the last lock or commit. -/
  config : Option TieConfig := none
  /-- WIDTH that the partner last answered for a stream, since the commit (R323). -/
  widths : List (Nat × Nat) := []
  /-- Consecutive heartbeat intervals without, and with, a heartbeat; elapsed times of the last own heartbeat and of
  the last interval judged. -/
  missed : Nat := 0
  good : Nat := 0
  hbSentAt : Nat := 0
  hbJudgedAt : Nat := 0
  /-- Members that failed a check: group * 16 + member (R323). -/
  bad : List Nat := []
  /-- Elapsed time of the commit from which IDLE_NS of FORMING counts. -/
  formedAt : Nat := 0
  /-- Encoder position at the last joined barline (R328). -/
  encAt : Nat := 0
  /-- Adoption barlines so far (R329). -/
  joins : Nat := 0
  /-- Pixels gathered of partner lines: group, member, row, columns so far. -/
  lines : List (Nat × Nat × Nat × Nat) := []
  /-- Partner lines counted as late: stream, beat, line (R326). -/
  late : List (Nat × Nat × Nat) := []
  /-- Arrival time of the last TIME_SYNC in ns; t1 and t2 of the last TIME_FUP. -/
  syncRx : Option Int := none
  /-- The last eight one-way delay measurements, newest first. -/
  delays : List Int := []
  last : Option (Int × Int) := none
  /-- Elapsed time of the last TIME_SYNC sent. -/
  syncAt : Nat := 0
  deriving DecidableEq, Repr

/-! ### Process inputs (chapter 14) -/

/-- A process channel: the aggregate under accumulation and the state of its flags (R331, R335, R336, R339). -/
structure ProcCh where
  count : Nat := 0
  sum : Int := 0
  min : Int := 0
  max : Int := 0
  /-- The last kept code. -/
  last : Int := 0
  /-- Flags of the beat's kept samples, as in CFLAGS. -/
  flags : Nat := 0
  /-- Samples still to discard (R331). -/
  discard : Nat := 0
  /-- Consecutive samples at the upper limit. -/
  high : Nat := 0
  opened : Bool := false
  /-- Samples still to take in a burn-out check; a check started in this beat. -/
  check : Nat := 0
  checked : Bool := false
  deriving DecidableEq, Repr

/-- An encoder: the accepted levels of A and B (R345). -/
structure Enc where
  a : Bool := false
  b : Bool := false
  deriving DecidableEq, Repr

/-- The process inputs. -/
structure Proc where
  ch : Tab ProcCh := []
  /-- Elapsed time at which an output's ramp ends. -/
  ramps : Tab (Option Nat) := []
  /-- Elapsed time of the last reference comparison. -/
  refAt : Nat := 0
  enc : Tab Enc := []
  deriving DecidableEq, Repr

/-! ### Serial ports (chapter 15) -/

/-- What a transmitter has on the line: a character or a break, the bits it lasts, whether it is an entry of the TX ring,
and whether that entry belongs to the generation in effect (R353, R367). -/
structure SerTx where
  data : Nat
  brk : Bool
  bits : Nat
  entry : Bool
  stale : Bool
  deriving DecidableEq, Repr

/-- A character as the serial receiver reads it (R355, R356). -/
structure RxChar where
  data : Nat
  parityBit : Bool
  stopOk : Bool
  noise : Bool
  /-- The start bit read 1 at its centre: a false start, with nothing after it. -/
  falseStart : Bool
  /-- The centre of the last bit read, from the start edge on. -/
  last : Nat
  deriving DecidableEq, Repr

/-- A LIN frame in progress (R361 to R363). -/
structure LinFrame where
  ident : Nat
  publish : Bool
  enhanced : Bool
  responder : Bool
  len : Nat
  /-- The responder awaits the PID. -/
  waitPid : Bool
  /-- Data bytes received or sent. -/
  got : List Nat
  /-- Transmitted bytes whose readback is awaited. -/
  expect : List Nat
  /-- Bytes the device still has to send: a responder's data and the checksum. -/
  toSend : List Nat
  /-- Data entries of the ring that belong to the frame and are not sent. -/
  left : Nat
  /-- Error flags, as in Table 15.4 from bit 20 on. -/
  flags : Nat
  /-- The frame's deadline, elapsed. -/
  ends : Nat
  /-- The divider in use: D, or a responder's D' (R363). -/
  div : Nat
  deriving DecidableEq, Repr

/-- A roll-call search (R364 to R366). -/
structure Search where
  /-- CMD_SEQ of the last command taken (R350). -/
  seq : Nat
  /-- Searches begun, and probe slots used. -/
  number : Nat
  probes : Nat
  limit : Nat
  /-- Prefixes still to probe: prefix and level. -/
  stack : List (Nat × Nat)
  found : List Nat
  /-- IDs still to ping, and whether the first was pinged once already; none while probing. -/
  pings : Option (List Nat × Bool)
  confirmed : List (List Nat)
  gone : List Nat
  cancelled : Bool
  /-- Its owner is halted: it ends ABORTED under R367. -/
  halted : Bool
  /-- End of the current slot, elapsed. -/
  ends : Nat
  deriving DecidableEq, Repr

/-- A serial port. -/
structure SerPort where
  /-- TX_PROD, RX_CONS, CMD and WAKE as last read (R350). -/
  txProd : Nat := 0
  rxCons : Nat := 0
  cmd : Nat := 0
  wake : Nat := 0
  /-- TX_CONS, RX_PROD and CMD_ACK as written to the area. -/
  txCons : Nat := 0
  rxProd : Nat := 0
  ack : Nat := 0
  /-- STATE.BADIDX. -/
  badIdx : Bool := false
  /-- The owner whose area the values read last come from, and the entries of its LIN table as last read (R348). -/
  owner : Option Nat := none
  table : Tab (List Byte) := []
  /-- Entries in the transmit FIFO, and the index of the next one to fetch. -/
  fifo : List Nat := []
  fetch : Nat := 0
  tx : Option SerTx := none
  /-- t_s of R352, elapsed, and the bit boundaries passed up to the start of the current character. -/
  ts : Nat := 0
  bits : Nat := 0
  de : Bool := false
  tail : Option Nat := none
  /-- Start edge of the character in reception, elapsed. -/
  rx : Option Nat := none
  /-- A start edge woke the port: it hunts again only once RXD has been high for one frame time (R359). -/
  deaf : Bool := false
  /-- The receiver clocked by SCLK has a character in progress (R360). -/
  sclk : Bool := false
  rxd : Bool := true
  asleep : Bool := false
  sleepAsked : Bool := false
  /-- Pending EVENTS, CAUSE, and whether a command ended under R367; elapsed time of the last post. -/
  events : Nat := 0
  cause : Nat := 0
  aborted : Bool := false
  postAt : Nat := 0
  /-- RX entries since the last post that reported RX; when the line has idled for two frame times. -/
  rxNew : Nat := 0
  idleAt : Option Nat := none
  /-- Elapsed time of the last reading of the area. -/
  pollAt : Nat := 0
  lin : Option LinFrame := none
  search : Option Search := none
  deriving DecidableEq, Repr

/-! ### Power, reset and boot (chapter 18) -/

/-- What holds the reset domains of Table 18.3 and gates them. -/
structure Power where
  /-- A clock reset lasts: every domain but AON is in reset (R393). -/
  clock : Bool := false
  /-- Standby (R404): every domain but AON and TIME is gated; and a request for it that awaits the next barline. -/
  standby : Bool := false
  asked : Bool := false
  /-- Both process rails are present (R391). -/
  supply : Bool := false
  /-- Flash banks that boot has yet to try (R405). -/
  banks : List Nat := []
  /-- Boot waits for the SFDP read (Table 18.8). -/
  sfdp : Bool := false
  /-- The action of BLK_CTRL in progress: index and action (R402). -/
  block : Option (Nat × Nat) := none
  deriving DecidableEq, Repr

/-! ### Life cycle and debug (chapter 19) -/

/-- A key slot in fuses (R412): the 64 key bytes, Qx first. -/
structure KeySlot where
  programmed : Bool := false
  revoked : Bool := false
  usage : Nat := 0
  key : List Byte := []
  deriving DecidableEq, Repr

/-- The TAP (R424 to R426): the current instruction, the boundary register, what it sampled last, and what the next
Capture-DR of DBG_ACCESS or another data register returns. -/
structure Tap where
  instr : TapInstr := .idcode
  boundary : List Bool := []
  sampled : List Bool := []
  dr : Nat := 0
  deriving DecidableEq, Repr

/-- The life-cycle block. -/
structure Lc where
  slots : Tab KeySlot := []
  /-- The two fuse copies of the state, none where a copy does not decode (R411). -/
  fuse1 : Option Nat := some 2
  fuse2 : Option Nat := some 2
  /-- The debug scope that a DEBUG token opened (R427). -/
  unlocked : Option Nat := none
  /-- LC_CHALLENGE is valid (R416). -/
  valid : Bool := false
  /-- The result that the command in progress will report (R420). -/
  result : Option Nat := none
  /-- The target of a transition whose erase runs (R422). -/
  erasing : Option Nat := none
  tap : Tap := {}
  deriving DecidableEq, Repr

/-! ### Admission (chapter 03) -/

/-- A failed admission: the code, LOAD_FAIL_OFS and LOAD_FAIL_RES (R73, R75). -/
structure Fail where
  code : Nat
  ofs : Nat := 0
  res : Nat := 0xFF
  deriving DecidableEq, Repr

end Sys2Proof.Machine
end

