-- ==== Sys2Proof/Machine/State.lean ====
section
/-!
DEFINITION. The state of the YU3280, its faults and refusals, and the state after reset.
-/

namespace Sys2Proof.Machine

/-- Why the machine stops. -/
inductive Fault where
  /-- Raised by every command that raises a barline or cuts a window, while EXTEST is current and READY is 1: ch. 19,
  Corners, calls barlines and products undefined then. Safe. -/
  | extestPlaying
  deriving DecidableEq, Repr

/-- Why a command has no meaning here. -/
inductive Refusal where
  /-- Answered by the dispatcher for a command that is not modelled. Safe. -/
  | notModelled (mnemonic : String)
  deriving DecidableEq, Repr

/-- The clock (R271): seconds modulo 2^64, nanoseconds, fraction in 2^-32 ns; and the increments added since reset,
in 2^-32 ns, which no set or step moves (R274). -/
structure Clock where
  sec : Nat
  ns : Nat
  frac : Nat
  elapsed : Nat
  deriving DecidableEq, Repr

/-- What leaves the device, oldest first. -/
inductive Out where
  /-- An MSI-X message (R381): vector, the table's address and data. -/
  | msix (vec : Nat) (addr : Nat) (data : Nat)
  /-- A frame handed to an uplink's MAC, with its bytes up to the FCS. -/
  | frame (uplink : Nat) (f : NetFrame) (bytes : List Byte)
  /-- A tie frame (R322): type, TSEQ (0 where unreliable), TACK and body, and the bytes of the frame. -/
  | tie (ttype tseq tack : Nat) (body bytes : List Byte)
  /-- A register write of a port's CCI master (R188): the bytes between START and STOP. -/
  | cci (port : Nat) (bytes : List Byte)
  /-- What a serial port sends (R353, R364): port, character or break length, whether it is a break. -/
  | serial (port data : Nat) (brk : Bool)
  /-- A byte written to a module's management memory (R300). -/
  | module (uplink cmd data : Nat)
  /-- An error reported through AER (R387). -/
  | aer (k : AerKind)
  deriving DecidableEq, Repr

/-- The machine. -/
structure State where
  /-- The register entries written since their last reset, keyed by name and index; any other holds its reset value. -/
  regs : Tab Dword
  /-- The read latch of each 64-bit register (R13); an unlisted one holds the reset value's high word. -/
  latch : Tab (Option Word)
  /-- The staging register of each 64-bit register (R13), likewise. -/
  stage : Tab (Option Word)
  /-- Tile store and LPDDR5 by device-physical address (R120). -/
  mem : List Host.Cell
  /-- Host memory by host address (R382). -/
  hostMem : List Host.Cell
  /-- The boot flash by offset (R407). -/
  flash : List Host.Cell
  clock : Clock
  load : Load
  tempo : Tempo
  /-- The queues, keyed voice * 16 + queue (R100). -/
  queues : Tab Ring
  /-- Posts that wait at a full queue, oldest first (R106). -/
  posts : List Post
  trans : Trans
  dma : Dma
  /-- Lines accepted so far, for their order of arrival (R202). -/
  arrivals : Nat
  streams : Tab StreamSt
  ports : Tab Port
  pipes : Tab Pipe
  align : Align
  stats : List StatAcc
  locks : List Lock
  svc : Services
  cues : Tab Cue
  /-- Capture FIFOs, head first (R299). -/
  caps : Tab (List Capture)
  servo : Servo
  ptp : Ptp
  net : Net
  tie : Tie
  proc : Proc
  serial : Tab SerPort
  /-- The registers of the check channels (R369). -/
  checks : Tab Nat
  power : Power
  lc : Lc
  /-- The READY pin (R409). -/
  ready : Bool
  /-- While the device does what falls in one FCLK cycle: the lowest voice * 16 + PATH that has violated in it, 2^14 before the
  first (R119). -/
  cycle : Option Nat
  /-- What left the device, oldest first (MODEL). -/
  out : List Out
  /-- The value the last read returned (MODEL). -/
  lastRead : Word
  /-- Uses of free values so far (MODEL). -/
  fresh : Nat
  /-- The commands that wait, first in, first out (MODEL). -/
  pending : List Instr
  deriving DecidableEq, Repr

/-- A maker's key slot as shipped (ch. 19, Model); its usage and key are the model's (DESIGN CHOICE, log entry 1). -/
def makerSlot : KeySlot := ⟨true, false, 0xF, List.replicate 64 0⟩

/-- The machine right after a power-on reset with BOOT at HOST: step 3 of Table 18.8 is done, no score is live. Every
register has its reset value, and no memory byte differs from what an unlisted one reads as. -/
def State.reset : State where
  regs := []
  latch := []
  stage := []
  mem := []
  hostMem := []
  flash := []
  clock := ⟨0, 0, 0, 0⟩
  load := ⟨[], [], none, none, none, none, false, none, []⟩
  tempo := ⟨false, 0, [], 0, 0, false, false, [], []⟩
  queues := []
  posts := []
  trans := ⟨[], [], [], [], [], [], [], []⟩
  dma := ⟨[], []⟩
  arrivals := 0
  streams := []
  ports := []
  pipes := []
  align := ⟨[], [], [], [], [], [], []⟩
  stats := []
  locks := []
  svc := ⟨[], [], [], [], [], [], [], [], []⟩
  cues := []
  caps := []
  servo := {}
  ptp := {}
  net := {}
  tie := {}
  proc := {}
  serial := []
  checks := []
  power := {}
  lc := { slots := [(0, makerSlot), (1, makerSlot)] }
  ready := false
  cycle := none
  out := []
  lastRead := 0
  fresh := 0
  pending := []

end Sys2Proof.Machine
end

