-- ==== Sys2Proof/Machine/Ops.lean ====
section
/-!
DEFINITION. The named operations over State: registers, time, memory, what leaves the device, and the elements in
effect.
-/

namespace Sys2Proof.Machine

/-! ### Registers -/

/-- The key of a register entry in the register table. -/
def regKey (r : RegId) (i : Nat) : Nat := i * 512 + r.code

/-- What a register holds. -/
def State.rd (s : State) (r : RegId) (i : Nat) : Nat :=
  (Tab.get (BitVec.ofNat 64 (r.resetValue i)) s.regs (regKey r i)).toNat

/-- Set a register. -/
def State.wr (s : State) (r : RegId) (i n : Nat) : State :=
  { s with regs := Tab.put (regKey r i) (BitVec.ofNat 64 n) s.regs }

/-- Bits `[hi:lo]` of a register. -/
def State.rdF (s : State) (r : RegId) (i hi lo : Nat) : Nat := fld hi lo (s.rd r i)

/-- Set bits `[hi:lo]` of a register. -/
def State.wrF (s : State) (r : RegId) (i hi lo v : Nat) : State := s.wr r i (setFld hi lo v (s.rd r i))

/-- Bit `k` of a register. -/
def State.rdB (s : State) (r : RegId) (i k : Nat) : Bool := bit k (s.rd r i)

/-- Set bit `k` of a register to 1. -/
def State.setB (s : State) (r : RegId) (i k : Nat) : State := s.wr r i (setBit k true (s.rd r i))

/-- Clear bit `k` of a register. -/
def State.clrB (s : State) (r : RegId) (i k : Nat) : State := s.wr r i (setBit k false (s.rd r i))

/-- Add to a saturating field `[hi:lo]` (R16). -/
def State.addF (s : State) (r : RegId) (i hi lo n : Nat) : State :=
  s.wrF r i hi lo (satAdd (2 ^ (hi + 1 - lo) - 1) (s.rdF r i hi lo) n)

/-- Add 1 to a saturating 32-bit counter. -/
def State.bump (s : State) (r : RegId) (i : Nat) : State := s.addF r i 31 0 1

/-- Add to a 32-bit counter that wraps (R16). -/
def State.addWrap (s : State) (r : RegId) (i n : Nat) : State := s.wr r i ((s.rd r i + n) % 2 ^ 32)

/-- Return a register entry to its reset value, its latch and staging register with it (R13, R432). -/
def State.resetReg (s : State) (r : RegId) (i : Nat) : State :=
  { s with
    regs := Tab.erase (regKey r i) s.regs
    latch := Tab.erase (regKey r i) s.latch
    stage := Tab.erase (regKey r i) s.stage }

/-- Return several register entries to their reset values. -/
def State.resetRegs (s : State) (l : List (RegId × Nat)) : State := l.foldl (fun s e => s.resetReg e.1 e.2) s

/-- The register entries of `l` whose key does not lie in entries `lo` to `hi` of the registers that meet `p`. -/
def dropRegs {α : Type} (rs : List RegId) (keep : RegId → Nat → Bool) (l : Tab α) : Tab α :=
  l.filter fun e => rs.all fun r => !(e.1 % 512 == r.code) || keep r (e.1 / 512)

/-- Return every entry of the registers `rs` to its reset value, but those that `keep` names. -/
def State.resetBlock (s : State) (rs : List RegId) (keep : RegId → Nat → Bool) : State :=
  { s with
    regs := dropRegs rs keep s.regs
    latch := dropRegs rs keep s.latch
    stage := dropRegs rs keep s.stage }

/-! ### Free values -/

/-- The number of the next free value, and the state after its use. -/
def State.freeUse (s : State) : Nat × State := (s.fresh, { s with fresh := s.fresh + 1 })

/-! ### Time -/

/-- One nanosecond in the clock's unit of 2^-32 ns. -/
def nsU (n : Nat) : Nat := n * 4294967296

/-- The clock as one number of 2^-32 ns (R271). -/
def Clock.total (c : Clock) : Nat := (c.sec * 1000000000 + c.ns) * 4294967296 + c.frac

/-- The clock set to a number of 2^-32 ns, seconds modulo 2^64 (R271). -/
def Clock.setTotal (c : Clock) (t : Int) : Clock :=
  let u := t % (18446744073709551616 * 1000000000 * 4294967296 : Int)
  let n := u.toNat
  { c with
    sec := n / (1000000000 * 4294967296)
    ns := n / 4294967296 % 1000000000
    frac := n % 4294967296 }

/-- The increment of one TCLK in 2^-32 ns (R271). -/
def State.tclk (s : State) : Nat := s.rd .INCR 0 * 256

/-- The clock replaced. -/
def State.setClk (s : State) (c : Clock) : State := { s with clock := c }

/-- The clock after an amount of 2^-32 ns has been added to it (R271). -/
def Clock.advance (c : Clock) (d : Nat) : Clock :=
  { c.setTotal ((c.total + d : Nat) : Int) with elapsed := c.elapsed + d }

/-- Let `n` TCLKs pass (R271). -/
def State.ticks (s : State) (n : Nat) : State := s.setClk (s.clock.advance (n * s.tclk))

/-- How many TCLKs it takes until an amount of time has passed. -/
def State.ticksFor (s : State) (d : Nat) : Nat := (d + s.tclk - 1) / s.tclk

/-- Let time pass until the elapsed time `t`, where it has not passed already. -/
def State.runTo (s : State) (t : Nat) : State := s.ticks (s.ticksFor (t - s.clock.elapsed))

/-- Let time pass until the clock value `t`, where it has not passed already. -/
def State.runToClock (s : State) (t : Nat) : State := s.ticks (s.ticksFor (t - s.clock.total))

/-- The clock's time of day, to 1 ns. -/
def State.now (s : State) : Stamp := ⟨s.clock.sec, s.clock.ns⟩

/-! ### What leaves the device -/

/-- Record something that leaves the device. -/
def State.emit (s : State) (o : Out) : State := { s with out := s.out ++ [o] }

/-! ### Elements -/

/-- Field of `n` bytes at offset `o` of a record (R48, R53). -/
def Elem.le (e : Elem) (o n : Nat) : Nat := leAt e.raw o n

/-- One byte of a record. -/
def Elem.u8 (e : Elem) (o : Nat) : Nat := leAt e.raw o 1

/-- A 16-bit field of a record. -/
def Elem.u16 (e : Elem) (o : Nat) : Nat := leAt e.raw o 2

/-- A 32-bit field of a record. -/
def Elem.u32 (e : Elem) (o : Nat) : Nat := leAt e.raw o 4

/-- A 64-bit field of a record. -/
def Elem.u64 (e : Elem) (o : Nat) : Nat := leAt e.raw o 8

/-- The elements of a type in effect, in score order. -/
def State.elems (s : State) (typ : Nat) : List Elem := s.load.eff.filter fun e => e.typ == typ

/-- The element of a type with a device-wide number, in effect. -/
def State.elem (s : State) (typ id : Nat) : Option Elem :=
  s.load.eff.find? fun e => e.typ == typ && e.id == id

/-- The element of a type with a number counted per voice. -/
def State.voiceElem (s : State) (typ voice id : Nat) : Option Elem :=
  s.load.eff.find? fun e => e.typ == typ && e.voice == voice && e.id == id

/-- Is a score live? -/
def State.scoreLive (s : State) : Bool := s.rdB .TEMPO_CFG 0 31

/-- Is the voice declared (R99)? -/
def State.declared (s : State) (v : Nat) : Bool := v == 0 || (s.elem 0x0004 v).isSome

/-- Is the voice halted (R93)? -/
def State.isHalted (s : State) (v : Nat) : Bool := s.load.halted.contains v

/-- What the device keeps of beat `n`. -/
def State.beatRec (s : State) (n : Nat) : Option BeatRec := s.tempo.beats.find? fun b => b.num == n

/-- The beat that a number from outside means: the newest one kept that bears it (R329). -/
def State.beatOf (s : State) (n : Nat) : Nat :=
  match s.tempo.beats.find? fun b => b.num % 2 ^ 64 == n with
  | some b => b.num
  | none => n + 2 ^ 64 * s.tie.joins

/-- The place of a beat in the order of barlines since the commit. -/
def State.ordinal (s : State) (n : Nat) : Nat := match s.beatRec n with | some b => b.ord | none => n

/-- Does a beat lie before the barline with an ordinal? One that the device no longer keeps does. -/
def State.beatBefore (s : State) (n ord : Nat) : Bool := match s.beatRec n with | some b => decide (b.ord < ord) | none => true

/-- Does work of a voice for a beat belong to an old generation (R87)? -/
def State.oldgen (s : State) (v beat : Nat) : Bool :=
  match s.load.overlap with
  | some o => o.voices.contains v && s.beatBefore beat o.ord
  | none => false

/-- Has a halt ended a voice's work for a beat (R92, R93)? A commit that releases the halt starts the new generation
clean. -/
def State.stopped (s : State) (v beat : Nat) : Bool :=
  s.isHalted v || match s.load.overlap with
    | some o => o.dead.contains v && s.beatBefore beat o.ord
    | none => false

/-- The same for work that may have no beat. -/
def State.oldgenOf (s : State) (v : Nat) (beat : Option Nat) : Bool :=
  match beat with
  | some b => s.oldgen v b
  | none => false

/-- The class of a voice (R28). -/
def State.classOf (s : State) (v : Nat) : Nat :=
  if v = 0 then 0 else match s.elem 0x0004 v with
    | some e => e.u8 8
    | none => 0

/-- Does the voice take network control messages (R95)? -/
def State.netctl (s : State) (v : Nat) : Bool :=
  v == 0 || match s.elem 0x0004 v with
    | some e => bit 0 (e.u8 9)
    | none => false

/-- The extents of a voice's grant: base and size (Table 2.7). -/
def State.grant (s : State) (v : Nat) : List (Nat × Nat) :=
  match s.elem 0x0003 v with
  | some e => (List.range (e.u8 8)).map fun k => (e.u64 (16 + 16 * k), e.u64 (24 + 16 * k))
  | none => []

/-- Do `n` bytes at `pa` lie inside one extent of the voice's grant? -/
def State.inGrant (s : State) (v pa n : Nat) : Bool :=
  (s.grant v).any fun x => decide (x.1 ≤ pa) && decide (pa + n ≤ x.1 + x.2)

/-! ### Memory -/

/-- Where a device-physical address leads (Table 5.1). -/
inductive Region where
  | tile | regSpace | lpddr | outbound | nothing
  deriving DecidableEq, Repr

/-- Bytes of the populated LPDDR5 range (R122). -/
def State.lpddrSize (s : State) : Nat :=
  let g := s.rdF .MEM_CFG 0 4 0
  let full := 2 * g * 1073741824
  if s.rdB .MEM_CFG 0 8 then full / 8 * 7 else full

/-- The region of a device-physical address (R120). -/
def State.region (s : State) (pa : Nat) : Region :=
  if pa < 0x1000000 then .tile
  else if 0x100000000 ≤ pa ∧ pa < 0x100100000 then .regSpace
  else if 0x1000000000 ≤ pa ∧ pa < 0x1000000000 + s.lpddrSize then .lpddr
  else if 0x2000000000 ≤ pa ∧ pa < 0x3000000000 then .outbound
  else .nothing

/-- The host address behind an outbound-window address (R382). -/
def State.hostAddr (s : State) (pa : Nat) : Nat := (s.rd .HOST_OB_BASE 0 + (pa - 0x2000000000)) % 2 ^ 64

/-- A byte at a device-physical address. -/
def State.readByte (s : State) (pa : Nat) : Byte :=
  match s.region pa with
  | .tile | .lpddr => Tab.get 0 s.mem pa
  | .outbound => Tab.get 0 s.hostMem (s.hostAddr pa)
  | .regSpace | .nothing => 0

/-- `n` bytes from a device-physical address on. -/
def State.readPhys (s : State) (pa : Nat) : Nat → List Byte
  | 0 => []
  | n + 1 => s.readByte pa :: s.readPhys (pa + 1) n

/-- Write a byte at a device-physical address. -/
def State.writeByte (s : State) (pa : Nat) (b : Byte) : State :=
  match s.region pa with
  | .tile | .lpddr => { s with mem := Tab.set 0 s.mem pa b }
  | .outbound => { s with hostMem := Tab.set 0 s.hostMem (s.hostAddr pa) b }
  | .regSpace | .nothing => s

/-- Write bytes from a device-physical address on. -/
def State.writePhys (s : State) (pa : Nat) : List Byte → State
  | [] => s
  | b :: t => (s.writeByte pa b).writePhys (pa + 1) t

/-- Is the PCI Express link up (HOST_LINK.UP)? -/
def State.linkUp (s : State) : Bool := s.rdB .HOST_LINK 0 8

/-- Would an access to this address fail at once, the host link being down (R384)? -/
def State.deadAddr (s : State) (pa : Nat) : Bool := decide (s.region pa = .outbound) && !s.linkUp

/-! ### Rates -/

/-- The bar tick now (BEAT_TICK): ticks since the last barline, without the hold at 4,095 (R24). -/
def State.tickNow (s : State) : Nat :=
  (s.clock.elapsed - s.tempo.last) * 256 / (max 1 (s.rd .BAR_TICK 0) * 4294967296)

/-- Has the bar run past tick 4,095, so that every resource is rest (R26, R33)? -/
def State.pastBar (s : State) : Bool := s.tempo.isOpen && decide (4096 ≤ s.tickNow)

/-- Charge bytes to a voice's quota of a resource in this bar (R25). Rate quotas are metered over ticks 0 to 4,095
(R26). -/
def State.charge (s : State) (v res n : Nat) : State :=
  let k := v * 256 + res
  if s.pastBar then s
  else { s with tempo := { s.tempo with used := Tab.set 0 s.tempo.used k (Tab.get 0 s.tempo.used k + n) } }

/-- Bytes charged to a voice's quota of a resource in this bar. -/
def State.charged (s : State) (v res : Nat) : Nat := Tab.get 0 s.tempo.used (v * 256 + res)

/-- The type under which the rate entries of a SLOTS record stand in effect: they hand over with the delivery
elements, the slot entries with the services (DEDUCED from Table 3.3; log entry 12). -/
def slotsRates : Nat := 0x0117

/-- The rate entry of a voice for a resource in the score in effect (Table 2.28); 0 where it holds none (R79). -/
def State.rate (s : State) (v res : Nat) : Nat :=
  match s.voiceElem slotsRates v 0 with
  | none => 0
  | some e =>
    match (List.range (e.u16 8)).find? fun k => e.u8 (12 + 8 * k) == res && e.u8 (13 + 8 * k) == 0 with
    | some k => e.u32 (16 + 8 * k)
    | none => 0

/-- The encoder position that stamps and tags carry: TEMPO_CFG.ENC under source ENCODER, else ENC0 (R31, R289). -/
def State.tempoEnc (s : State) : Nat :=
  s.rd .ENC_POS (if s.rdF .TEMPO_CFG 0 2 0 = 1 then s.rdF .TEMPO_CFG 0 9 8 else 0)

/-- The position of the encoder that the tempo record selects (R22). -/
def State.tempoPos (s : State) : Nat := s.rd .ENC_POS (s.rdF .TEMPO_CFG 0 9 8)

/-- The beat now open, as the device keeps it. -/
def State.beat? (s : State) : Option BeatRec := if s.tempo.isOpen then s.tempo.beats.head? else none

/-- Is a reset domain out of reset and powered (R395, R404)? -/
def State.domUp (s : State) (d : Dom) : Bool :=
  match d with
  | .AON => true
  | .TIME => !s.power.clock
  | .PROC | .FABRIC | .PORT | .NET | .HOST => !s.power.clock && !s.power.standby

/-- Does the core see its input pins (R425)? -/
def State.pinsSeen (s : State) : Bool := s.lc.tap.instr != .extest

/-- Is EXTEST selected while a score plays (R425)? What products and barlines then are is undefined (ch. 19, Corners). -/
def State.extestPlays (s : State) : Bool := s.lc.tap.instr == .extest && s.ready

/-- The debug scope (R427). -/
def State.dbgScope (s : State) : Nat :=
  match s.lc.unlocked with
  | some n => n
  | none => match s.rdF .LC_STATE 0 3 0 with
    | 1 => 2
    | 2 => 1
    | _ => 0

/-- May an access by this path act on a register of a domain (R426, R427, R432)? Every path leads through a domain that a
clock reset and standby stop; a debug access needs scope 1 or more. -/
def State.regOpen (s : State) (p : Path) (d : Dom) : Bool :=
  s.domUp d && s.domUp .FABRIC && (match p with | .debug => s.dbgScope != 0 | .pcie | .netctl => true)

/-- Has BLK_CTRL powered a block down (EPOCH_TAB.OFF)? -/
def State.blockOff (s : State) (k : Nat) : Bool := s.rdB .EPOCH_TAB k 9

/-- Is a block in reset by BLK_CTRL (R402)? ON of a port is a port reset too. -/
def State.blockResets (s : State) (k : Nat) : Bool :=
  s.power.block == some (k, 1) || (decide (k < 32) && s.power.block == some (k, 3))

end Sys2Proof.Machine
end

