-- ==== Sys2Proof/Machine/Flags.lean ====
section
/-!
DEFINITION. The flags of the block: pending bits and their messages (R111, R112, R380, R381), the event bits of a voice, and
the violation record (R118, R119).
-/

namespace Sys2Proof.Machine

/-! ### Interrupts and violations -/

/-- Send a message for an MSI-X vector: nothing while the link is down or MSI-X off (R112); a pending bit while the
table masks the vector (R381). -/
def State.msix (s : State) (vec : Nat) : State :=
  if s.linkUp && s.rdB .HOST_LINK 0 9 then
    if s.rdB .MSIX_TABLE (4 * vec + 3) 0 then s.setB .MSIX_PBA (vec / 32) (vec % 32)
    else s.emit (.msix vec (s.rd .MSIX_TABLE (4 * vec) + s.rd .MSIX_TABLE (4 * vec + 1) * 2 ^ 32)
      (s.rd .MSIX_TABLE (4 * vec + 2)))
  else s

/-- Set the pending bit COMP (0) or FAULT (1) of a voice (R111, R380). -/
def State.notify (s : State) (v k : Nat) : State :=
  if s.rdB .VW_IRQ_STATUS v k then s
  else
    let t := s.setB .VW_IRQ_STATUS v k
    if s.rdB .VW_IRQ_MASK v k || !s.declared v then t else t.msix (2 * v + k)

/-- Send MSI-X vector 0: a system event (R380). -/
def State.vector0 (s : State) : State := s.notify 0 0

/-- Set a bit of VW_EVENT; a bit that becomes set also sets COMP (R111). -/
def State.voiceEvent (s : State) (v k : Nat) : State :=
  if s.rdB .VW_EVENT v k then s else (s.setB .VW_EVENT v k).notify v 0

/-- What the violation record holds of a violation (R119). -/
structure Violation where
  voice : Nat
  path : Nat
  write : Bool
  elem : Nat
  va : Nat
  pa : Nat
  deriving DecidableEq, Repr

/-- The place of a violation among those of one FCLK cycle: voice, then PATH. -/
def Violation.rank (x : Violation) : Nat := x.voice * 16 + x.path

/-- Update the violation record (R119); while IRQ is set, an update that sets VALID sends vector 0. -/
def State.record (s : State) (x : Violation) : State :=
  let was := s.rdB .VIOL_INFO 0 15
  let s1 := s.wr .VIOL_INFO 0 (x.voice % 1024 + x.path * 1024 + b2n x.write * 16384 + 32768 + x.elem % 65536 * 65536)
  let s2 := ((s1.wr .VIOL_BEAT 0 (s1.rd .BEAT_NUM 0)).wr .VIOL_VA 0 x.va).wr .VIOL_PA 0 x.pa
  if s2.rdB .VIOL_CTRL 0 0 && !was then s2.vector0 else s2

/-- Count a violation and update the record (R118, R119): the voice, the PATH code, the side, the element, the voice address and
the device-physical address. Of several in one FCLK cycle the record takes the lowest voice, then the lowest PATH. -/
def State.violate (s : State) (v path : Nat) (write : Bool) (elem va pa : Nat) : State :=
  let x : Violation := ⟨v, path, write, elem, va, pa⟩
  let s1 := (s.addF .VOICE_VIOL_CNT v 15 0 1).setB .VIOL_MAP (v / 32) (v % 32)
  match s.cycle with
  | none => s1.record x
  | some m => if m < x.rank then s1 else { s1 with cycle := some x.rank }.record x

/-- Do something that falls in one FCLK cycle, or in the one that is being done. -/
def State.oneCycle (s : State) (f : State → State) : State :=
  if s.cycle.isSome then f s else { f { s with cycle := some 16384 } with cycle := none }

end Sys2Proof.Machine
end

