-- ==== Sys2Proof/Machine/PipeMath.lean ====
section
/-!
DEFINITION. The bit-exact arithmetic of the image pipes (ch. 08, R199 to R222): unpack, LUTs, merge, flat-field, defect
correction, demosaic, matrix, compand and output.
-/

namespace Sys2Proof.Machine

/-! ### Unpack (R199) -/

/-- Byte `k` of a list, 0 beyond it. -/
def byteAt (l : List Byte) (k : Nat) : Nat := ((l[k]?).map (·.toNat)).getD 0

/-- Received sample `x` of a raw line, in the packing of MIPI CSI-2 (PRESUMED, log entry 16). -/
def rawSample (dt : Nat) (l : List Byte) (x : Nat) : Nat :=
  if dt = 0x2B then
    let g := x / 4 * 5
    byteAt l (g + x % 4) * 4 + (byteAt l (g + 4) >>> (2 * (x % 4))) % 4
  else if dt = 0x2C then
    let g := x / 2 * 3
    byteAt l (g + x % 2) * 16 + (byteAt l (g + 2) >>> (4 * (x % 2))) % 16
  else if dt = 0x2D then
    let g := x / 4 * 7
    byteAt l (g + x % 4) * 64 + ((leNat ((l.drop (g + 4)).take 3)) >>> (6 * (x % 4))) % 64
  else if dt = 0x2E then byteAt l (2 * x) + 256 * byteAt l (2 * x + 1)
  else byteAt l x

/-- The 16-bit unpacked sample of a raw line (Table 8.1). -/
def unpackRaw (dt : Nat) (l : List Byte) (x : Nat) : Nat :=
  let r := rawSample dt l x
  if dt = 0x2B then r * 64 else if dt = 0x2C then r * 16 else if dt = 0x2D then r * 4 else if dt = 0x2E then r
  else r * 256

/-- The components of pixel `x` of a YUV422 or RGB888 line (Table 8.1; byte order PRESUMED, log entry 16). -/
def unpackColour (dt : Nat) (l : List Byte) (x : Nat) : List Int :=
  if dt = 0x1E then
    let g := x / 2 * 4
    [(byteAt l (g + 1 + 2 * (x % 2)) * 256 : Nat), ((byteAt l g : Int) - 128) * 256, ((byteAt l (g + 2) : Int) - 128) * 256]
  else [(byteAt l (3 * x + 2) * 256 : Nat), (byteAt l (3 * x + 1) * 256 : Nat), (byteAt l (3 * x) * 256 : Nat)]

/-- The class of a data type (Table 8.1): 0 raw, 1 YUV, 2 RGB. -/
def dtClass (dt : Nat) : Nat := if dt = 0x1E then 1 else if dt = 0x24 then 2 else 0

/-! ### LUTs (R206) -/

/-- Interpolation of a LUT record at a `b`-bit input. -/
def lutAt (e : Elem) (b v : Nat) : Nat :=
  let sh := b - e.u8 8
  let i := v >>> sh
  let f := v - i <<< sh
  let k0 : Int := e.u16 (12 + 2 * i)
  let k1 : Int := e.u16 (14 + 2 * i)
  (k0 + ((k1 - k0) * f + 2 ^ (sh - 1)) / 2 ^ sh).toNat

/-- The LUT of a pipe of a kind: 0 linearisation, 1 compand. -/
def State.lut (s : State) (pipe kind : Nat) : Option Elem := s.elem 0x000A (2 * pipe + kind)

/-- Linearisation (R208). -/
def State.linearise (s : State) (pipe v : Nat) : Nat :=
  match s.lut pipe 0 with
  | some e => lutAt e 16 v
  | none => v

/-! ### Merge (R209, R210) -/

/-- The weight of the longer exposure. -/
def mergeWeight (l : Nat) : Nat := (clampI 0 256 ((61440 - (l : Int)) / 32)).toNat

/-- An exposure scaled by a ratio. -/
def scaleBy (ratio l : Nat) : Nat := (l * ratio + 1024) >>> 11

/-- The merged value of two or three exposures at one position, longest first. -/
def mergeValue (e : Elem) (l : List Nat) : Nat :=
  let r1 := e.u16 20
  let r12 := (r1 * e.u16 22 + 1024) >>> 11
  let blend (w a b : Nat) : Nat := (w * a + (256 - w) * b + 128) >>> 8
  match l with
  | [l0, l1] => blend (mergeWeight l0) l0 (scaleBy r1 l1)
  | [l0, l1, l2] => blend (mergeWeight l0) l0 (blend (mergeWeight l1) (scaleBy r1 l1) (scaleBy r12 l2))
  | l0 :: _ => l0
  | [] => 0

/-! ### Black level and flat-field (R212, R214) -/

/-- The CFA phase of a pixel. -/
def phase (x y : Nat) : Nat := 2 * (y % 2) + x % 2

/-- Gain of phase `p` at node (i, j) of a gain store in the order of R213. -/
def gainAt (g : List Nat) (w i j p : Nat) : Nat := (g[4 * (j * w + i) + p]?).getD 0

/-- The flat-field gain of a pixel. -/
def gainOf (e : Elem) (g : List Nat) (x y : Nat) : Nat :=
  let sh := e.u8 68
  let w := e.u16 64
  let i := min (x >>> sh) (w - 2)
  let j := min (y >>> sh) (e.u16 66 - 2)
  let fx := x - i <<< sh
  let fy := y - j <<< sh
  let p := phase x y
  let one := 2 ^ sh
  let gt := gainAt g w i j p * (one - fx) + gainAt g w (i + 1) j p * fx
  let gb := gainAt g w i (j + 1) p * (one - fx) + gainAt g w (i + 1) (j + 1) p * fx
  (gt * (one - fy) + gb * fy + 2 ^ (2 * sh - 1)) >>> (2 * sh)

/-- Black level and flat-field of a merged value. -/
def flatField (e : Elem) (gains : Option (List Nat)) (m x y : Nat) : Nat :=
  let d := m - e.u16 (24 + 2 * phase x y)
  match gains with
  | some g => min (2 ^ 20 - 1) ((d * gainOf e g x y + 2 ^ 13) >>> 14)
  | none => d

/-! ### The neighbourhood stages (R205, R215 to R219) -/

/-- What the neighbourhood stages of one raw frame draw on. -/
structure RawView where
  width : Nat
  height : Nat
  cfa : Nat
  defThr : Nat
  dmsThr : Nat
  defects : List Nat
  lines : Tab (List (List Int))

/-- The mirror of a coordinate. -/
def mirror (n : Nat) (x : Int) : Nat :=
  if x < 0 then (-x).toNat else if (n : Int) ≤ x then (2 * ((n : Int) - 1) - x).toNat else x.toNat

/-- F at a coordinate, mirrored; a missing line reads 0. -/
def RawView.f (v : RawView) (x y : Int) : Int :=
  (((Tab.get [] v.lines (mirror v.height y))[mirror v.width x]?).bind (·.head?)).getD 0

/-- Does the list name a pixel, its column or its row: (pixel, column, row)? -/
def RawView.listed (v : RawView) (x y : Nat) : Bool × Bool × Bool :=
  let has (k a b : Nat) : Bool := v.defects.any fun e => e == a + b * 16384 + k * 1073741824
  (has 0 x y, has 1 x 0, has 2 0 y)

/-- The value after defect correction, and whether it was a static and a dynamic defect (R216). -/
def RawView.p (v : RawView) (xi yi : Int) : Int × Bool × Bool :=
  let x := mirror v.width xi
  let y := mirror v.height yi
  let d : Int := if v.cfa = 4 then 1 else 2
  let at_ (dx dy : Int) : Int := v.f ((x : Int) + dx) ((y : Int) + dy)
  let c := at_ 0 0
  let n := at_ 0 (-d)
  let s := at_ 0 d
  let w := at_ (-d) 0
  let e := at_ d 0
  let hi := max (max n s) (max w e)
  let lo := min (min n s) (min w e)
  let middle := (n + s + w + e - hi - lo + 1) / 2
  match v.listed x y with
  | (_, true, true) => ((at_ (-d) (-d) + at_ d (-d) + at_ (-d) d + at_ d d + 2) / 4, true, false)
  | (_, true, false) => ((w + e + 1) / 2, true, false)
  | (_, false, true) => ((n + s + 1) / 2, true, false)
  | (true, false, false) => (middle, true, false)
  | (false, false, false) =>
    if v.defThr ≠ 0 ∧ (c - hi > 16 * (v.defThr : Int) ∨ lo - c > 16 * (v.defThr : Int)) then (middle, false, true)
    else (c, false, false)

/-- The corrected value alone. -/
def RawView.pv (v : RawView) (x y : Int) : Int := (v.p x y).1

/-- The red phase of a CFA (Table 8.4); the blue one is its complement to 3. -/
def redPhase (cfa : Nat) : Nat := if cfa = 0 then 0 else if cfa = 1 then 1 else if cfa = 2 then 2 else 3

/-- Clamp to 20 bits. -/
def clamp20 (x : Int) : Int := clampI 0 (2 ^ 20 - 1) x

/-- The green estimate (R218). -/
def RawView.green (v : RawView) (xi yi : Int) : Int :=
  let x : Int := mirror v.width xi
  let y : Int := mirror v.height yi
  let ph := phase (mirror v.width xi) (mirror v.height yi)
  let c := v.pv x y
  if ph ≠ redPhase v.cfa ∧ ph ≠ 3 - redPhase v.cfa then c
  else
    let l := v.pv (x - 1) y
    let r := v.pv (x + 1) y
    let u := v.pv x (y - 1)
    let d := v.pv x (y + 1)
    let hh := v.pv (x - 2) y + v.pv (x + 2) y
    let vv := v.pv x (y - 2) + v.pv x (y + 2)
    let gH : Int := (l - r).natAbs + (2 * c - hh).natAbs
    let gV : Int := (u - d).natAbs + (2 * c - vv).natAbs
    let gh := clamp20 ((2 * (l + r) + 2 * c - hh + 2) / 4)
    let gv := clamp20 ((2 * (u + d) + 2 * c - vv + 2) / 4)
    let t : Int := 16 * (v.dmsThr : Int)
    if gH + t < gV then gh
    else if gV + t < gH then gv
    else if gH + gV = 0 then (gh + gv + 1) / 2
    else (gh * gV + gv * gH + (gH + gV) / 2) / (gH + gV)

/-- The colour difference D. -/
def RawView.diff (v : RawView) (x y : Int) : Int := v.pv x y - v.green x y

/-- Demosaic of a pixel: R, G, B (R219). -/
def RawView.rgb (v : RawView) (xn yn : Nat) : List Int :=
  let x : Int := xn
  let y : Int := yn
  let ph := phase xn yn
  let red := redPhase v.cfa
  let c := v.pv x y
  let g := v.green x y
  if ph = red ∨ ph = 3 - red then
    let o := clamp20 (g + (v.diff (x - 1) (y - 1) + v.diff (x + 1) (y - 1) + v.diff (x - 1) (y + 1)
      + v.diff (x + 1) (y + 1) + 2) / 4)
    if ph = red then [clamp20 c, clamp20 g, o] else [o, clamp20 g, clamp20 c]
  else
    let h := clamp20 (g + (v.diff (x - 1) y + v.diff (x + 1) y + 1) / 2)
    let u := clamp20 (g + (v.diff x (y - 1) + v.diff x (y + 1) + 1) / 2)
    /- the row's own colour is red where red's phase lies in this row -/
    if red / 2 = yn % 2 then [h, clamp20 c, u] else [u, clamp20 c, h]

/-! ### Matrix, compand, output (R220 to R222) -/

/-- Coefficient `k` of MATRIX, signed Q4.12. -/
def matrixAt (e : Elem) (k : Nat) : Int := sext 16 (e.u16 (36 + 2 * k))

/-- The matrix outputs of a pixel before clamping. -/
def matrixRaw (e : Elem) (l : List Int) : List Int :=
  match l with
  | [a, b, c] => (List.range 3).map fun k =>
      (matrixAt e (3 * k) * a + matrixAt e (3 * k + 1) * b + matrixAt e (3 * k + 2) * c + 2 ^ 11) / 2 ^ 12
  | [a] => [(matrixAt e 0 * a + 2 ^ 11) / 2 ^ 12]
  | l => l

/-- The compand output of a 20-bit value (R221). -/
def State.compand (s : State) (pipe : Nat) (c : Int) : Nat :=
  match s.lut pipe 1 with
  | some e => lutAt e 20 c.toNat
  | none => min c.toNat 65535

/-- The 8-bit output of a sample. -/
def q8 (o : Nat) : Nat := min 255 ((o + 128) >>> 8)

/-- The bytes of a pixel in an output format (Table 8.6). -/
def outBytes (fmt : Nat) (l : List Nat) : List Byte :=
  if fmt = 1 ∨ fmt = 3 then l.map fun o => BitVec.ofNat 8 (q8 o) else l.flatMap fun o => toLe 2 o

/-- Bytes per pixel of an output format (Table 8.6). -/
def fmtBytes (fmt : Nat) : Nat :=
  if fmt = 0 then 2 else if fmt = 1 then 1 else if fmt = 2 then 2 else if fmt = 3 then 3 else 6

end Sys2Proof.Machine
end

