-- ==== Sys2Proof/Machine/Fields.lean ====
section
/-!
DEFINITION. What a write and a read do to the fields of a register by their access codes (R11, R13, R15).
-/

namespace Sys2Proof.Machine

/-! ### Entries that read their reset values (R403, R432) -/

/-- KIND of an instance: 0 compare, 1 mark, 2 image server. -/
def svcKind (e : Elem) : Nat := e.u8 8

/-- The engine of an instance: 0 to 3 compare, 4 and 5 mark, 6 image server. -/
def svcEngine (e : Elem) : Nat := if svcKind e = 0 then e.u8 9 else if svcKind e = 1 then 4 + e.u8 9 else 6

/-- Does the live score leave the block of a register entry unused (R403)? The power-down comes with a commit, so before the
first one no block is. -/
def State.unused (s : State) (r : RegId) (i : Nat) : Bool :=
  let w := r.row
  let k := i / w.inner
  !s.load.live.isEmpty && match w.block with
    | .PORT => decide (w.ofs < 0x2000) && (match s.elem 0x0006 k with | some e => e.u8 8 == 3 | none => true)
    | .PIPE =>
      if w.ofs < 0x4000 then (s.elem 0x0009 k).isNone
      else decide (w.ofs < 0xC000) && (s.elem 0x000E k).isNone
    | .SVC => decide (w.ofs < 0x1000) && (s.elems 0x000F).all fun e => svcEngine e != k
    | .NET => w.dom == .NET && (s.elem 0x0018 k).isNone
    | .TIE => (s.elems 0x0001).all fun e => e.u8 10 == 0
    | .PROC =>
      if w.ofs = 0x10 then (s.elems 0x0013).all fun e => e.u8 10 % 8 != k
      else decide (0x100 ≤ w.ofs) && decide (w.ofs < 0x400) && (s.elem 0x0013 k).isNone
    | .SER => (s.elem 0x0014 k).isNone
    | _ => false

/-- Does a register entry read its reset value and ignore writes (R432)? Its domain is in reset or gated, BLK_CTRL resets its
block, or it is unused. -/
def State.gated (s : State) (r : RegId) (i : Nat) : Bool :=
  let w := r.row
  !s.domUp w.dom || s.unused r i || match w.dom with
    | .PORT => s.blockResets (i / w.inner)
    | .NET => s.blockResets (48 + i / w.inner)
    | .HOST => s.blockResets 51
    | _ => false

/-- May a write by a path act on a register entry? -/
def State.entryOpen (s : State) (p : Path) (r : RegId) (i : Nat) : Bool := s.regOpen p r.row.dom && !s.gated r i

/-! ### Fields -/

/-- Is a value one that a field takes, not a reserved encoding (R15)? -/
def FieldOk.allows (k : FieldOk) (v : Nat) : Bool :=
  match k with
  | .any => true
  | .range lo hi => decide (lo ≤ v) && decide (v ≤ hi)
  | .logSync => decide (v ≤ 1) || decide (4 ≤ v)
  | .pmin => decide (20000 ≤ v) && decide (v ≤ 2000000000) && v % 16 == 0

/-- One field after a write of `w` to its register (Table 0.3); `live`: a score governs RWL fields. -/
def Field.write (live : Bool) (f : Field) (w old : Nat) : Nat :=
  let v := fld f.hi f.lo w
  match f.acc with
  | .RW => if f.ok.allows v then setFld f.hi f.lo v old else old
  | .RWL => if live || !f.ok.allows v then old else setFld f.hi f.lo v old
  | .W1S => setFld f.hi f.lo (fld f.hi f.lo old ||| v) old
  | .W1C => setFld f.hi f.lo (fld f.hi f.lo old &&& (2 ^ (f.hi + 1 - f.lo) - 1 - v)) old
  | .RO | .WO | .RC => old

/-- All fields after a write. -/
def writeFields (live : Bool) (fs : List Field) (w old : Nat) : Nat := fs.foldl (fun o f => f.write live w o) old

/-- What a read returns of a register's value: WO fields and reserved bits read as 0 (R11, R14). -/
def readFields (fs : List Field) (v : Nat) : Nat :=
  fs.foldl (fun o f => if f.acc = .WO then o else setFld f.hi f.lo (fld f.hi f.lo v) o) 0

/-- A register's value once a read has cleared its RC fields, those that lie in bits `[hi:lo]`. -/
def clearFields (fs : List Field) (hi lo v : Nat) : Nat :=
  fs.foldl (fun o f => if f.acc = .RC ∧ lo ≤ f.lo ∧ f.hi ≤ hi then setFld f.hi f.lo 0 o else o) v

/-- A whole register after a write of all its bits; RWL fields ignore it while a score is live (R11). -/
def State.fieldWrite (s : State) (r : RegId) (i w : Nat) : State :=
  s.wr r i (writeFields s.scoreLive r.row.fields w (s.rd r i))

/-- The high word a read latch or staging register holds (R13). -/
def highWord (t : Tab (Option Word)) (r : RegId) (i : Nat) : Nat :=
  match Tab.get none t (regKey r i) with
  | some w => w.toNat
  | none => r.resetValue i / 4294967296

/-- A write of one word of a register: a high word is staged, a low word commits both (R13). -/
def State.wordWrite (s : State) (r : RegId) (i : Nat) (high : Bool) (w : Nat) : State :=
  if !r.row.wide then s.fieldWrite r i w
  else if high then { s with stage := Tab.put (regKey r i) (some (BitVec.ofNat 32 w)) s.stage }
  else s.fieldWrite r i (w + highWord s.stage r i * 4294967296)

/-- Latch the high word of a 64-bit register. -/
def State.latchHigh (s : State) (r : RegId) (i v : Nat) : State :=
  { s with latch := Tab.put (regKey r i) (some (BitVec.ofNat 32 (v / 4294967296))) s.latch }

/-- A read of one word of a register whose value is `v`: a low word latches the high word, a high word returns the latch
(R13); the RC fields of a register read by its only or low word are cleared. -/
def State.wordRead (s : State) (r : RegId) (i v : Nat) (high : Bool) : State × Nat :=
  let fs := r.row.fields
  if r.row.wide then
    if high then (s, highWord s.latch r i)
    else (s.latchHigh r i (readFields fs v), readFields fs v % 4294967296)
  else (if fs.any fun f => f.acc == .RC then s.wr r i (clearFields fs 31 0 (s.rd r i)) else s, readFields fs v)

end Sys2Proof.Machine
end

