-- ==== Sys2Proof/Machine/Egress.lean ====
section
/-!
DEFINITION. What the uplinks send: YSF messages (R303, R304), the transmitters (R309, R310), the alert path
(R316 to R319); and the errors that ECC reports (R121).
-/

namespace Sys2Proof.Machine

/-! ### The bytes of frames (R307, R308) -/

/-- Sum of a run of bytes as 16-bit words in network order, a byte left over at the high end. -/
def sum16 : List Byte → Nat
  | a :: b :: t => a.toNat * 256 + b.toNat + sum16 t
  | [a] => a.toNat * 256
  | [] => 0

/-- The Internet checksum of a run of bytes. -/
def inetSum (l : List Byte) : Nat :=
  let n := sum16 l
  let m := n / 65536 + n % 65536
  65535 - (m / 65536 + m % 65536)

/-- An IP address as its bytes. -/
def ipBytes (v6 : Bool) (ip : Nat) : List Byte := toBe (if v6 then 16 else 4) ip

/-- An IP packet: IPv4 with DF, TTL 64 and DSCP 0, IPv6 with hop limit 64 (R307). -/
def ipPacket (v6 : Bool) (proto sip ip : Nat) (p : List Byte) : List Byte :=
  if v6 then
    toBe 4 0x60000000 ++ toBe 2 p.length ++ [BitVec.ofNat 8 proto, 64] ++ ipBytes true sip ++ ipBytes true ip ++ p
  else
    let a := toBe 2 0x4500 ++ toBe 2 (20 + p.length) ++ toBe 2 0 ++ toBe 2 0x4000 ++ [64, BitVec.ofNat 8 proto]
    let b := ipBytes false sip ++ ipBytes false ip
    a ++ toBe 2 (inetSum (a ++ b)) ++ b ++ p

/-- A UDP datagram with its checksum, which the device always computes (R307). -/
def udpBytes (v6 : Bool) (sip ip sport dport : Nat) (p : List Byte) : List Byte :=
  let n := p.length + 8
  let c := inetSum (ipBytes v6 sip ++ ipBytes v6 ip ++ toBe (if v6 then 4 else 2) n ++ toBe (if v6 then 4 else 2) 17 ++
    toBe 2 sport ++ toBe 2 dport ++ toBe 2 n ++ p)
  toBe 2 sport ++ toBe 2 dport ++ toBe 2 n ++ toBe 2 (if c = 0 then 65535 else c) ++ p

/-- A time as the timestamp of a PTP message. -/
def ptpStamp (t : Nat) : List Byte := toBe 6 (t / 1000000000) ++ toBe 4 (t % 1000000000)

/-- The bytes of a PTP message (IEEE 1588; PRESUMED, log entry 21). -/
def PtpOut.bytes (m : PtpOut) : List Byte :=
  let body := match m.kind, m.ann with
    | 9, _ => ptpStamp m.time ++ toBe 10 m.requester
    | _, some a => ptpStamp m.time ++ toBe 2 0 ++ [0, BitVec.ofNat 8 a.pri1, BitVec.ofNat 8 a.clockClass,
        BitVec.ofNat 8 a.accuracy] ++ toBe 2 a.variance ++ [BitVec.ofNat 8 a.pri2] ++ toBe 8 a.identity ++
        toBe 2 a.stepsRemoved ++ [0xA0]
    | _, none => ptpStamp m.time
  let control := match m.kind with | 0 => 0 | 1 => 1 | 8 => 2 | 9 => 3 | _ => 5
  [BitVec.ofNat 8 m.kind, 0x12] ++ toBe 2 (34 + body.length) ++ [BitVec.ofNat 8 m.domain, 0] ++
    toBe 2 (if m.kind = 0 then 0x0200 else 0) ++ toBe 8 (toBits 64 m.correction) ++ toBe 4 0 ++ toBe 10 m.source ++
    toBe 2 m.seq ++ [control, BitVec.ofNat 8 m.interval] ++ body

/-- The multicast address that PTP messages go to, by transport: MAC and IP (IEEE 1588; PRESUMED, log entry 21). -/
def ptpAddr (xport : Nat) : Nat × Nat :=
  match xport with
  | 0 => (0x01005E000181, 0xE0000181)
  | 1 => (0x333300000181, 0xFF0E * 2 ^ 112 + 0x181)
  | _ => (0x011B19000000, 0)

/-- What follows the addresses and the tag of a frame: Ethertype and payload. -/
def NetFrame.payload (f : NetFrame) : List Byte :=
  match f.body with
  | .udp v6 sip ip sp dp p =>
    toBe 2 (if v6 then 0x86DD else 0x0800) ++ ipPacket v6 17 sip ip (udpBytes v6 sip ip sp dp p)
  | .arp sip ip =>
    toBe 2 0x0806 ++ toBe 2 1 ++ toBe 2 0x0800 ++ [6, 4] ++ toBe 2 2 ++ toBe 6 f.src ++ toBe 4 sip ++ toBe 6 f.mac ++ toBe 4 ip
  | .echo sip ip ident n d =>
    let m := toBe 2 ident ++ toBe 2 n ++ d
    toBe 2 0x0800 ++ ipPacket false 1 sip ip ([0, 0] ++ toBe 2 (inetSum m) ++ m)
  | .ptp sip m =>
    let port := if m.kind = 0 ∨ m.kind = 1 then 319 else 320
    if m.xport = 2 then toBe 2 0x88F7 ++ m.bytes
    else
      let v6 := m.xport == 1
      toBe 2 (if v6 then 0x86DD else 0x0800) ++
        ipPacket v6 17 sip (ptpAddr m.xport).2 (udpBytes v6 sip (ptpAddr m.xport).2 port port m.bytes)
  | .raw b => b

/-- Bytes of an Ethernet frame from destination MAC on, without FCS, at least 60 (Table 13.1). -/
def NetFrame.bytes (f : NetFrame) : List Byte :=
  let b := toBe 6 f.mac ++ toBe 6 f.src ++ (match f.vlan with | some t => toBe 2 0x8100 ++ toBe 2 t | none => []) ++ f.payload
  b ++ zeros (60 - b.length)

/-- Length of an Ethernet frame from destination MAC to FCS, at least 64 bytes (Table 13.1). -/
def NetFrame.len (f : NetFrame) : Nat :=
  let l3 := match f.body with
    | .udp v6 _ _ _ _ p => (if v6 then 48 else 28) + p.length
    | .arp _ _ => 28
    | .echo _ _ _ _ d => 28 + d.length
    | .ptp _ m => (match m.xport with | 0 => 28 | 1 => 48 | _ => 0) + (if m.kind = 11 then 64 else if m.kind = 9 then 54 else 44)
    | .raw b => b.length - 2
  max 64 (18 + (if f.vlan.isSome then 4 else 0) + l3)

/-- Wire bytes of a frame (R309). -/
def NetFrame.wire (f : NetFrame) : Nat := f.len + 20

/-- A number read with its bytes in the other order. -/
def swapBytes (k n : Nat) : Nat := leNat (toBe k n)

/-! ### Records -/

/-- A byte of the SYSTEM record in effect; 0 with no score. -/
def State.sysByte (s : State) (o : Nat) : Nat := match s.elem 0x0001 0 with | some e => e.u8 o | none => 0

/-- TIE_ROLE: 0 none, 1 lead, 2 follow. -/
def State.tieRole (s : State) : Nat := s.sysByte 10

/-- The PTP domain. -/
def State.ptpDomain (s : State) : Nat := s.sysByte 12

/-- The NET record of an uplink in effect. -/
def State.netElem (s : State) (u : Nat) : Option Elem := s.elem 0x0018 u

/-- The station address of an uplink. -/
def State.netMac (s : State) (u : Nat) : Nat := match s.netElem u with | some e => beAt e.raw 12 6 | none => 0

/-- The IP address of an uplink. -/
def State.netIp (s : State) (u : Nat) (v6 : Bool) : Nat :=
  match s.netElem u with
  | some e => if v6 then beAt e.raw 28 16 else beAt e.raw 20 4
  | none => 0

/-- MAXFRAME of an uplink. -/
def State.maxframe (s : State) (u : Nat) : Nat := match s.netElem u with | some e => e.u16 10 | none => 0

/-- The tag an uplink's own frames carry (NET.VLAN_TCI; DEDUCED for frames other than flows', log entry 14). -/
def State.netVlan (s : State) (u : Nat) : Option Nat :=
  match s.netElem u with
  | some e => let t := beAt e.raw 18 2; if t = 0 then none else some t
  | none => none

/-- An uplink's transmitter. -/
def State.uplink (s : State) (u : Nat) : Uplink := Tab.get {} s.net.up u

/-- Set an uplink's transmitter. -/
def State.setUplink (s : State) (u : Nat) (x : Uplink) : State :=
  { s with net := { s.net with up := Tab.set {} s.net.up u x } }

/-- Is the uplink UP (Table 13.2)? -/
def State.netUp (s : State) (u : Nat) : Bool := s.rdF .NET_STATUS u 1 0 == 2

/-- A flow. -/
def State.flow (s : State) (f : Nat) : FlowSt := Tab.get {} s.net.flows f

/-- Set a flow. -/
def State.setFlow (s : State) (f : Nat) (x : FlowSt) : State :=
  { s with net := { s.net with flows := Tab.set {} s.net.flows f x } }

/-! ### YSF messages -/

/-- A voice's key (R305). -/
def State.netKey (s : State) (v : Nat) : Option NetKey := Tab.get none s.net.keys v

/-- The header of Table 13.3. -/
def ysfHeader (typ voice flow seq flags beat ofs total : Nat) : List Byte :=
  toLe 2 0x4659 ++ [1, BitVec.ofNat 8 typ] ++ toLe 2 voice ++ toLe 2 flow ++ toLe 4 seq ++ toLe 2 flags ++ toLe 2 0
    ++ toLe 8 beat ++ toLe 4 ofs ++ toLe 4 total

/-- A message with its trailer, where the voice named holds a key (R303, R304). -/
def State.ysfAuth (s : State) (typ voice flow seq flags beat ofs total : Nat) (body : List Byte) : List Byte :=
  match s.netKey voice with
  | some k =>
    let m := ysfHeader typ voice flow seq (flags + 2) beat ofs total ++ body
    m ++ cmac k.key m
  | none => ysfHeader typ voice flow seq flags beat ofs total ++ body

/-- The current beat, or all ones, for a header. -/
def State.beatField (s : State) : Nat := s.rd .BEAT_NUM 0

/-! ### The alert path -/

/-- Is an uplink available for alerts (R317)? -/
def State.alertAvail (s : State) (u : Nat) : Bool := s.netUp u && s.rdF .ALERT_PORT u 15 0 != 0

/-- The state of the tie link (Table 13.9). -/
def State.tieState (s : State) : Nat := s.rdF .TIE_STATUS 0 2 0

/-- Is the tie link split now (R328)? -/
def State.tieSplit (s : State) : Bool := s.tieState == 3 || s.tieState == 4 || (s.tieState == 1 && s.tieRole == 1)

/-- ALERT_STATUS.PATH (Table 13.7). -/
def State.alertPath (s : State) : Nat :=
  let p := s.rdF .ALERT_CTRL 0 0 0
  if s.alertAvail p then 0 else if s.alertAvail (1 - p) then 1 else if s.tieState = 2 then 2 else 3

/-- The uplink the alert path leads to, if any. -/
def State.alertUplink (s : State) : Option Nat :=
  let p := s.rdF .ALERT_CTRL 0 0 0
  match s.alertPath with
  | 0 => some p
  | 1 => some (1 - p)
  | _ => none

/-- The body of an alert (Table 13.6). -/
def Alert.body (a : Alert) : List Byte :=
  toLe 8 a.code ++ toLe 8 a.detail ++ toLe 8 a.stamp.sec ++ toLe 4 a.stamp.ns ++ toLe 4 0

/-- An alert as its message. -/
def State.alertMsg (s : State) (a : Alert) : List Byte :=
  s.ysfAuth 2 0 0xFFFF a.seq (if a.mirrored then 5 else 1) s.beatField 0 32 a.body

/-- An alert's destination address on an uplink (ALERT_IP, first byte on the wire in the low bits). -/
def State.alertIp (s : State) (u : Nat) : Nat :=
  if s.rdB .ALERT_PORT u 16 then
    swapBytes 16 (sumN ((List.range 4).map fun k => s.rd .ALERT_IP (4 * u + k) * 2 ^ (32 * k)))
  else swapBytes 4 (s.rd .ALERT_IP (4 * u))

/-- A frame of an uplink that carries a message from CTL_PORT, with the uplink's own addresses as source. -/
def State.ysfFrame (s : State) (u mac : Nat) (vlan : Option Nat) (v6 : Bool) (ip port : Nat) (m : List Byte) : NetFrame :=
  ⟨s.netMac u, mac, vlan, .udp v6 (s.netIp u v6) ip (s.rdF .CTL_PORT u 15 0) port m⟩

/-- A message to the alert destination of an uplink (R317, R320). -/
def State.alertFrame (s : State) (u : Nat) (m : List Byte) : NetFrame :=
  s.ysfFrame u (swapBytes 6 (s.rd .ALERT_MAC u)) (s.netVlan u) (s.rdB .ALERT_PORT u 16) (s.alertIp u) (s.rdF .ALERT_PORT u 15 0) m

/-- DEPTH and PATH follow the state; ALERTn goes low while an alert waits with PATH HELD, or OVF is 1 (R319). -/
def State.alertSync (s : State) : State :=
  let t := (s.wrF .ALERT_STATUS 0 6 0 s.net.alerts.length).wrF .ALERT_STATUS 0 9 8 s.alertPath
  if (!t.net.alerts.isEmpty && decide (t.alertPath = 3)) || t.rdB .ALERT_STATUS 0 11 then t.setB .ALERT_STATUS 0 10
  else t

/-- Put an alert into the queue, or lose it (R317, R318). -/
def State.queueAlert (s : State) (code detail : Nat) (at_ : Stamp) (mirrored : Bool) : State :=
  if 64 ≤ s.net.alerts.length then
    let t := (s.bump .ALERT_OVF_CNT 0).setB .ALERT_STATUS 0 11
    { t with net := { t.net with lost := t.net.lost + 1 } }
  else
    let n := s.rd .ALERT_SEQ 0
    { s.addWrap .ALERT_SEQ 0 1 with
      net := { s.net with alerts := s.net.alerts ++ [⟨n, code, detail % 2 ^ 64, at_, mirrored, none, none⟩] } }

/-- When the queue has room again, one ALERT_OVF carries the number lost (R318). -/
def State.alertRoom (s : State) : State :=
  if s.net.lost = 0 ∨ 64 ≤ s.net.alerts.length then s
  else
    let t := s.queueAlert 0x0B s.net.lost s.now false
    { t with net := { t.net with lost := 0 } }

/-! ### Transmission -/

/-- Duration of `w` wire bytes in 2^-32 ns, by the NET record's speed (Table 1.2). -/
def State.wireTime (s : State) (u w : Nat) : Nat :=
  let slow := match s.netElem u with | some e => e.u8 8 == 1 | none => false
  if slow then nsU (w * 8) / 10 else nsU (w * 8) / 25

/-- Round-robin key of a frame in the third group: its flow; frames of no flow share one turn (DESIGN CHOICE, log entry 98). -/
def EgFrame.turn (f : EgFrame) : Nat := min f.flow 2048

/-- Does a frame of `a` go before one of `b` in the third group (R310): class, then TCLASS descending, then
round-robin by flow? -/
def State.before (s : State) (rr : Nat) (a b : EgFrame) : Bool :=
  let ka := (s.classOf a.voice, 7 - a.tclass, (a.turn + 4096 - rr - 1) % 2049)
  let kb := (s.classOf b.voice, 7 - b.tclass, (b.turn + 4096 - rr - 1) % 2049)
  decide (ka.1 < kb.1 ∨ (ka.1 = kb.1 ∧ (ka.2.1 < kb.2.1 ∨ (ka.2.1 = kb.2.1 ∧ ka.2.2 < kb.2.2))))

/-- The best frame of a list under an order. -/
def bestFrame (lt : EgFrame → EgFrame → Bool) : List EgFrame → Option EgFrame
  | [] => none
  | a :: t => match bestFrame lt t with
    | none => some a
    | some b => if lt b a then some b else some a

/-- Flow field of a frame that the tie partner forwarded (R312): no flow of this device. -/
def forwarded : Nat := 0xFFFE

/-- A flow's record in effect. -/
def State.flowElem (s : State) (f : Nat) : Option Elem := s.elem 0x0011 f

/-- Does a flow cross the tie link (R312)? -/
def State.tieRouted (s : State) (e : Elem) : Bool := (s.netElem (e.u8 8)).isNone && s.tieRole != 0

/-- MAXFRAME for a flow that crosses the tie link: that of the partner's uplink, which this device does not know. -/
def tieMaxframe : Nat := max 1518 (min 9216 Config.tieMaxframe)

/-- MAXFRAME that bounds a flow's frames. -/
def State.flowMax (s : State) (e : Elem) : Nat := if s.tieRouted e then tieMaxframe else s.maxframe (e.u8 8)

/-- Does a frame of a flow, of `w` wire bytes, start within quota at the current bar tick (R309)? None does on rest, after
tick 4,095 (R26). -/
def State.paced (s : State) (e : Elem) (w : Nat) : Bool :=
  let rate := e.u32 44
  let tick := min 4095 s.tickNow
  !s.pastBar && decide ((s.flow e.id).charged + w ≤ min rate ((rate * (tick + 1) + 4095) / 4096 + s.flowMax e + 20))

/-- The group a waiting frame is in now (R309, R310): 3 within quota, 4 on rest, 5 where it waits for the next bar. A reply or
a forwarded frame is within quota while its voice's rate entry has room (R266, R312). -/
def State.groupNow (s : State) (u : Nat) (f : EgFrame) : Nat :=
  let rest := if f.flow = forwarded ∨ s.classOf f.voice = 2 then 4 else 5
  if f.flow < 2048 then match s.flowElem f.flow with
    | some e => if s.paced e f.frame.wire then 3 else rest
    | none => 5
  else if f.group = 3 ∧ (s.pastBar ∨ s.rate f.voice (0x21 + u) < s.charged f.voice (0x21 + u) + f.frame.wire) then rest
  else f.group

/-- Turns of lent rest, of one unit of 512 bytes each, that a frame still needs (R27, R309). -/
def Uplink.needs (x : Uplink) (f : EgFrame) : Nat := (f.frame.wire + 511) / 512 - Tab.get 0 x.lent f.voice

/-- Place of a voice in the round of lent rest. -/
def Uplink.place (x : Uplink) (v : Nat) : Nat := (v + 1024 - x.rrVoice - 1) % 1024

/-- The frames that ask for rest at an uplink: the first of each voice. -/
def State.asking (s : State) (u : Nat) (x : Uplink) : List EgFrame :=
  (x.egress.filter fun f => s.groupNow u f == 4).foldl (fun l f => if l.any fun g => g.voice == f.voice then l else l ++ [f]) []

/-- The next waiting frame of an uplink after its alerts (R310). Rest is lent round-robin by voice in units (R27): the frame
that first holds its units goes. -/
def State.nextFrame (s : State) (u : Nat) (x : Uplink) : Option EgFrame :=
  match x.egress.find? fun f => f.group == 2 with
  | some f => some f
  | none => match bestFrame (s.before x.rrFlow) (x.egress.filter fun f => s.groupNow u f == 3) with
    | some f => some f
    | none => bestFrame (fun a b => decide (x.needs a < x.needs b ∨ (x.needs a = x.needs b ∧ x.place a.voice < x.place b.voice)))
        (s.asking u x)

/-- Units of rest once a frame on rest goes: every other voice that asked has had its turns of the rounds that this took,
and keeps them (DESIGN CHOICE, log entry 98). -/
def Uplink.lend (x : Uplink) (l : List EgFrame) (f : EgFrame) : Tab Nat :=
  (l.filter fun g => g.voice != f.voice).foldl (fun t g =>
    let n := if x.place g.voice < x.place f.voice then x.needs f else x.needs f - 1
    Tab.set 0 t g.voice (Tab.get 0 t g.voice + n)) (Tab.set 0 x.lent f.voice 0)

/-! ### Transmit timestamps (R276, R278) -/

/-- The clock in ns. -/
def State.nowNs (s : State) : Nat := s.clock.total / 4294967296

/-- A transmit-timestamp queue: 0 and 1 the uplinks, 2 the tie link. -/
def State.txq (s : State) (q : Nat) : List TxStamp := Tab.get [] s.ptp.txq q

/-- Set a transmit-timestamp queue; DEPTH follows. -/
def State.setTxq (s : State) (q : Nat) (l : List TxStamp) : State :=
  { s with ptp := { s.ptp with txq := Tab.set [] s.ptp.txq q l } }.wrF .TXTS_STATUS q 4 0 l.length

/-- The port identity of an uplink: its address as an EUI-64 and port 1 (IEEE 1588; PRESUMED, log entry 21). -/
def State.portIdentity (s : State) (u : Nat) : Nat :=
  let m := s.netMac u
  ((m / 2 ^ 24 * 2 ^ 40 + 0xFFFE * 2 ^ 24 + m % 2 ^ 24) * 65536) + 1

/-- Free the entry of a message of a kind. -/
def State.freeStamp (s : State) (q kind ident : Nat) : State :=
  s.setTxq q ((s.txq q).filter fun e => !(e.kind == kind && e.ident == ident))

/-- A PTP message of an uplink: traffic class 6, charged to no voice, in the second group (R275, R310). -/
def State.ptpFrame (s : State) (u kind seq time : Nat) (corr : Int) (req : Nat) (ann : Option Announce) : EgFrame :=
  let x := s.rdF .PTP_CFG 0 1 0
  let interval := if kind = 0 ∨ kind = 8 then toBits 8 (sext 3 (s.rdF .PTP_CFG 0 6 4)) else if kind = 11 then s.rdF .PTP_CFG 0 10 8
    else if kind = 9 then 0 else 0x7F
  let m : PtpOut := ⟨kind, seq, time, corr, req, s.portIdentity u, x, s.ptpDomain, interval, ann⟩
  { group := 2, voice := 0, tclass := 6, flow := 0xFFFF, frame := ⟨s.netMac u, (ptpAddr x).1, s.netVlan u, .ptp (s.netIp u (x == 1)) m⟩ }

/-- A PTP message starts: the timestamp of an event message is taken, a Sync's Follow_Up waits from then on, and the Sync's
entry is freed once the Follow_Up has gone (R275, R276, R278). -/
def State.ptpStart (s : State) (u : Nat) (f : NetFrame) : State :=
  match f.body with
  | .ptp _ m =>
    if m.kind = 0 ∨ m.kind = 1 then
      let s1 := s.setTxq u ((s.txq u).map fun e => if e.kind = m.kind ∧ e.ident = m.seq then
        { e with time := s.nowNs, at_ := s.clock.elapsed, waits := false } else e)
      if m.kind = 1 then s1
      else
        let x := s1.uplink u
        s1.setUplink u { x with egress := x.egress ++ [s1.ptpFrame u 8 m.seq s1.nowNs 0 0 none] }
    else if m.kind = 8 then s.freeStamp u 0 m.seq
    else s
  | _ => s

/-- Hand a frame to the MAC: it starts on the wire. -/
def State.putOnWire (s : State) (u : Nat) (f : EgFrame) : State :=
  let x := s.uplink u
  ((s.setUplink u { x with
    tx := some f
    txEnds := s.clock.elapsed + s.wireTime u f.frame.wire
    rrFlow := if f.group = 3 then f.turn else x.rrFlow
    rrVoice := if f.group = 4 then f.voice else x.rrVoice
    lent := if f.group = 4 then x.lend (s.asking u x) f else x.lent }).emit (.frame u f.frame f.frame.bytes)).ptpStart u f.frame

/-- Is an item of a flow the one that a frame is a datagram of? -/
def FlowItem.of (i : FlowItem) (f : EgFrame) : Bool := i.item.beat == f.beat && i.via == some f.flow

/-- Change the items of a flow. -/
def State.mapItems (s : State) (f : Nat) (g : List FlowItem → List FlowItem) : State :=
  s.setFlow f { s.flow f with items := g (s.flow f).items }

/-- The item of a frame leaves once it has been handed over whole (R311). -/
def State.flowDone (s : State) (f : EgFrame) : State :=
  s.mapItems f.owner fun l => l.filter fun i => !(i.of f && !i.lost && decide (i.item.len ≤ i.sent))

/-- Count and charge a frame of a flow that starts (R309): `res` is the resource it charges. -/
def State.flowSent (s : State) (f : EgFrame) (res : Nat) : State :=
  let s1 := (s.bump .FLOW_SENT f.flow).charge f.voice res f.frame.wire
  let x := s1.flow f.flow
  (s1.setFlow f.flow { x with charged := if f.group = 3 then x.charged + f.frame.wire else x.charged }).flowDone f

/-- A frame has been handed over: a flow's is counted and charged, a reply or forwarded frame within its voice's entry is
charged (R266, R309, R312). -/
def State.flowHanded (s : State) (u : Nat) (f : EgFrame) : State :=
  if f.flow < 2048 then s.flowSent f (0x21 + u)
  else if f.group = 3 then s.charge f.voice (0x21 + u) f.frame.wire
  else s

/-- A waiting frame is discarded: the item whose datagram it was never leaves whole, a PTP message's entry is freed. -/
def State.discard (s : State) (u : Nat) (f : EgFrame) : State :=
  if f.flow < 2048 then s.mapItems f.owner fun l => l.map fun i => if i.of f then { i with lost := true } else i
  else match f.frame.body with
    | .ptp _ m => s.freeStamp u (if m.kind = 8 then 0 else m.kind) m.seq
    | _ => s

/-- Send the next waiting frame, if any. -/
def State.sendNext (s : State) (u : Nat) : State :=
  let x := s.uplink u
  match s.nextFrame u x with
  | some f =>
    let g := { f with group := s.groupNow u f }
    ((s.setUplink u { x with egress := x.egress.erase f }).putOnWire u g).flowHanded u g
  | none => s

/-- Start the next frame on an idle transmitter (R310). -/
def State.startTx (s : State) (u : Nat) : State :=
  if (s.uplink u).tx.isSome || !s.netUp u then s
  else match s.alertUplink, s.net.alerts with
    | some v, a :: t =>
      if v = u then
        let f : EgFrame := { group := 1, voice := 0, tclass := 7, flow := 0xFFFF, frame := s.alertFrame u (s.alertMsg a) }
        (({ s with net := { s.net with alerts := t } }.alertRoom).putOnWire u f).alertSync
      else s.sendNext u
    | _, _ => s.sendNext u

/-- A frame waits at an uplink, and starts where the transmitter is idle. A frame for an uplink that is not UP is
discarded (R302). -/
def State.enqueue (s : State) (u : Nat) (f : EgFrame) : State :=
  if !s.netUp u then s
  else
    let x := s.uplink u
    (s.setUplink u { x with egress := x.egress ++ [f] }).startTx u

/-- Bytes that wait at an uplink, its alerts among them. -/
def State.egressFill (s : State) (u : Nat) : Nat :=
  sumN ((s.uplink u).egress.map fun f => f.frame.len) +
    sumN ((s.net.alerts.filter fun a => a.placed == some u).map fun a => (s.alertFrame u (s.alertMsg a)).len)

/-- An alert frame takes its place in an uplink's egress buffer, once: where the buffer is full it displaces the oldest
waiting frame (R318). -/
def State.placeAlert (s : State) (u : Nat) (a : Alert) : State :=
  if a.placed = some u then s
  else
    let s1 := { s with net := { s.net with alerts := s.net.alerts.map fun (b : Alert) =>
      if b.seq = a.seq then { b with placed := some u } else b } }
    let x := s1.uplink u
    match x.egress with
    | f :: l =>
      if Config.egressBytes < s.egressFill u + (s.alertFrame u (s.alertMsg a)).len then
        ((s1.setUplink u { x with egress := l }).bump .EGR_DROP u).discard u f
      else s1
    | [] => s1

/-- The bytes of a tie frame: header, body padded to a multiple of 4, and CRC-32C (R322). -/
def tieBytes (ttype tseq tack : Nat) (reliable : Bool) (body : List Byte) : List Byte :=
  let b := body ++ zeros (roundUp body.length 4 - body.length)
  let m := [BitVec.ofNat 8 ttype, BitVec.ofNat 8 (b2n reliable)] ++ toLe 2 b.length ++ toLe 4 tseq ++ toLe 4 tack ++ toLe 4 0 ++ b
  m ++ toLe 4 (crc32c m)

/-- A tie frame as it leaves. -/
def tieOut (ttype tseq tack : Nat) (reliable : Bool) (body : List Byte) : Out :=
  .tie ttype tseq tack body (tieBytes ttype tseq tack reliable body)

/-- Put a frame on the tie link (R322). -/
def State.tieSend (s : State) (ttype : Nat) (body : List Byte) : State := s.emit (tieOut ttype 0 s.tie.recvSeq false body)

/-- Send a reliable tie frame: it takes the next TSEQ and is kept until acknowledged (R322). -/
def State.tieReliable (s : State) (ttype : Nat) (body : List Byte) : State :=
  let n := (s.tie.sendSeq + 1) % 2 ^ 32
  { s.emit (tieOut ttype n s.tie.recvSeq true body) with
    tie := { s.tie with
      sendSeq := n
      unacked := s.tie.unacked ++ [⟨ttype, n, body, s.clock.elapsed⟩] } }

/-- Mirror one alert that the partner does not hold yet (Table 13.7). -/
def State.mirrorOne (s : State) (a : Alert) : State :=
  match a.tseq with
  | some _ => s
  | none =>
    let t := s.tieReliable 0x0A (s.alertMsg a)
    { t with net := { t.net with alerts := t.net.alerts.map fun b =>
      if b.seq = a.seq then { b with tseq := some t.tie.sendSeq } else b } }

/-- Send what the alert path allows now (R317): by an uplink, or mirrored; then bring the status up to date. -/
def State.alertPump (s : State) : State :=
  (match s.alertPath with
    | 0 | 1 => match s.alertUplink with
      | some u =>
        let s1 := if s.net.alerts.isEmpty then s else s.startTx u
        s1.net.alerts.foldl (fun (s : State) a => s.placeAlert u a) s1
      | none => s
    | 2 => s.net.alerts.foldl (fun s a => s.mirrorOne a) s
    | _ => s).alertSync

/-- Raise an alert of Table 13.5 (R316). -/
def State.alert (s : State) (code detail : Nat) : State := (s.queueAlert code detail s.now false).alertPump

/-! ### ECC and host errors -/

/-- An error that ECC finds on an access (R121): counted, an uncorrectable one latched and reported on vector 0
and by an alert (R316). -/
def State.eccResult (s : State) (r : MemResult) (pa : Nat) : State :=
  match r with
  | .corrected => s.bump .ECC_CE_CNT 0
  | .uncorrectable ofs => (((s.bump .ECC_UE_CNT 0).wr .ECC_UE_ADDR 0 (pa + ofs)).vector0).alert 0x09 (pa + ofs)
  | .hostError => s.bump .HOST_BERR_CNT 0
  | .interface | .ok => s

/-- Is the result of an access a bus error (R144)? -/
def memBad : MemResult → Bool
  | .uncorrectable _ | .hostError | .interface => true
  | .ok | .corrected => false

end Sys2Proof.Machine
end

