-- ==== Sys2Proof/Machine/Translate.lean ====
section
/-!
DEFINITION. Translation of voice addresses: page tables, the TLB and its eviction (R125 to R134).
-/

namespace Sys2Proof.Machine

/-! ### Page tables -/

/-- The index of a voice address into the table of a level (Table 5.2). -/
def vaIndex (level va : Nat) : Nat :=
  if level = 1 then fld 39 32 va else if level = 2 then fld 31 24 va else fld 23 16 va

/-- Is a valid PTE malformed at a level (R126)? -/
def pteMalformed (level pte : Nat) : Bool :=
  let leaf := bit 1 pte
  (level == 1 && leaf) || (level == 3 && !leaf) || fld 10 4 pte != 0 || fld 55 40 pte != 0 ||
    (leaf && level == 2 && fld 23 11 pte != 0) || (leaf && level == 3 && fld 15 11 pte != 0)

/-- How a walk ends: in a leaf, whatever its permissions, or before one. -/
inductive WalkEnd where
  | leaf (e : TlbEntry)
  | viol (entry : Nat)
  | fault (cause : Cause) (level : Nat)
  | busError (pa : Nat)
  deriving DecidableEq, Repr

/-- The walk of R127 from a table on, over the levels that remain. Each PTE read is charged (R132); `r` is how memory
answers them in turn, well where it says nothing. What ECC finds is counted (R121), and a PTE read that errs ends the walk
(R144). -/
def walkFrom (s : State) (v va : Nat) (r : List MemResult) : List Nat → Nat → State × WalkEnd
  | [], table => (s, .viol table)
  | level :: rest, table =>
    let entry := table + 8 * vaIndex level va
    let m := r.headD .ok
    if !s.inGrant v entry 8 then (s, .viol entry)
    else
      let s0 := s.charge v 0x20 64
      let s1 := s0.eccResult (if s0.deadAddr entry then .hostError else m) entry
      if memBad m || s0.deadAddr entry then (s1, .busError entry)
      else
        let pte := leNat (s1.readPhys entry 8)
        if !bit 0 pte then (s1, .fault .notPresent level)
        else if pteMalformed level pte then (s1, .fault .malformed level)
        else if bit 1 pte then
          let big := level == 2
          let base := if big then fld 39 24 pte * 2 ^ 24 else fld 39 16 pte * 2 ^ 16
          let size := if big then 2 ^ 24 else 2 ^ 16
          (s1, .leaf ⟨v, big, va / size, if s1.inGrant v base size then some base else none, base,
            bit 2 pte, bit 3 pte⟩)
        else walkFrom s1 v va r.tail rest (fld 39 11 pte * 2 ^ 11)

/-- A whole walk (R127): the grant first, then EN, then three levels. -/
def walk (s : State) (v va : Nat) (r : List MemResult) : State × WalkEnd :=
  if (s.grant v).isEmpty then (s, .viol 0)
  else if !s.rdB .VW_PTROOT v 0 then (s, .fault .noRoot 0)
  else walkFrom s v va r [1, 2, 3] (s.rdF .VW_PTROOT v 39 11 * 2 ^ 11)

/-! ### Walkers (R131) -/

/-- Walks of a voice in progress. -/
def State.voiceWalks (s : State) (v : Nat) : Nat := (s.trans.walks.filter fun w => w.voice == v).length

/-- May a walk of this voice start now (R131)? -/
def State.walkerFree (s : State) (v : Nat) : Bool := decide (s.trans.walks.length < 32) && decide (s.voiceWalks v < 8)

/-- Is a walk for the voice's page among these? Pages are told apart at 64 KiB: until a walk has found the leaf, no larger
page is known (DESIGN CHOICE, log entry 92). -/
def walksPage (v va : Nat) (l : List Walk) : Bool := l.any fun w => w.voice == v && w.va / 2 ^ 16 == va / 2 ^ 16

/-! ### The TLB -/

/-- Does an entry map an address of a voice? -/
def TlbEntry.covers (e : TlbEntry) (v va : Nat) : Bool :=
  e.voice == v && e.page == va / (if e.big then 2 ^ 24 else 2 ^ 16)

/-- What an entry gives an access (R127): permission first, then the grant. -/
def TlbEntry.use (e : TlbEntry) (va : Nat) (write : Bool) : Xlat :=
  let ofs := va % (if e.big then 2 ^ 24 else 2 ^ 16)
  if (if write then e.write else e.read) then
    match e.pa with
    | some p => .ok (p + ofs)
    | none => .viol (e.target + ofs) false
  else .fault .permission (if e.big then 2 else 3)

/-- How many voices hold a grant (R130). -/
def State.grantVoices (s : State) : Nat := (s.elems 0x0003).length

/-- A voice's share of the TLB (R130). -/
def State.tlbShare (s : State) : Nat := 4096 / max 1 s.grantVoices

/-- Entries of a voice in a TLB. -/
def tlbCount (l : List TlbEntry) (v : Nat) : Nat := (l.filter fun e => e.voice == v).length

/-- Drop the last entry that meets `p`. -/
def dropLast (p : TlbEntry → Bool) (l : List TlbEntry) : List TlbEntry := (l.reverse.eraseP p).reverse

/-- Make room for an entry of a voice in a full TLB (R130): the least recently used entry among the voices above their
share, or else the voice's own. -/
def tlbEvict (share v : Nat) (l : List TlbEntry) : List TlbEntry :=
  if l.length < 4096 then l
  else if l.any fun e => decide (share < tlbCount l e.voice) then
    dropLast (fun e => decide (share < tlbCount l e.voice)) l
  else dropLast (fun e => e.voice == v) l

/-- Put a leaf into the TLB as its most recently used entry. -/
def State.tlbInsert (s : State) (e : TlbEntry) : State :=
  let l := s.trans.tlb.filter fun x => !(x.voice == e.voice && x.big == e.big && x.page == e.page)
  { s with trans := { s.trans with tlb := e :: tlbEvict s.tlbShare e.voice l } }

/-- The entry that maps an address, made the most recently used one. An entry that lacks the access's permission
is no hit: no fault is ever cached (R129). -/
def State.tlbLookup (s : State) (v va : Nat) (write : Bool) : Option (TlbEntry × State) :=
  match s.trans.tlb.find? fun e => e.covers v va && (if write then e.write else e.read) with
  | some e => some (e, { s with trans := { s.trans with tlb := e :: s.trans.tlb.erase e } })
  | none => none

/-- What the end of a walk gives the access that asked for it; a leaf is cached, a permission fault is not
(R129). -/
def State.walkResult (s : State) (w : WalkEnd) (va : Nat) (write : Bool) : State × Xlat :=
  match w with
  | .leaf e =>
    match e.use va write with
    | .fault c l => (s, .fault c l)
    | x => (s.tlbInsert e, x)
  | .viol entry => (s, .viol entry true)
  | .fault c l => (s, .fault c l)
  | .busError pa => (s, .busError pa)

/-- A miss of an operation that translates within its step (log entry 11): it is counted; it shares the walk of its page
where one is in progress or waits, which is charged with its own reads; else it waits for a walker where none is free, and
its walk is made (R131, R132). -/
def State.walkNow (s : State) (v va : Nat) (r : List MemResult) : State × WalkEnd :=
  let s1 := s.bump .TLB_MISS_CNT 0
  if walksPage v va (s1.trans.walks ++ s1.trans.misses) then
    let (s2, w) := walk s1 v va r
    ({ s2 with tempo := s1.tempo }, w)
  else walk (if s1.walkerFree v then s1 else s1.bump .WALK_WAIT_CNT 0) v va r

/-- Translate within the step: a hit, or a walk that starts and ends here (DESIGN CHOICE, log entry 11: only DMA data
bursts wait for walkers). `r` is how the memory answers the walk. -/
def State.translate (s : State) (v va : Nat) (write : Bool) (r : List MemResult) : State × Xlat :=
  match s.tlbLookup v va write with
  | some (e, s1) => (s1, e.use va write)
  | none =>
    let (s2, w) := s.walkNow v va r
    s2.walkResult w va write

/-- Remove the TLB entries that meet `p`. -/
def State.tlbRemove (s : State) (p : TlbEntry → Bool) : State :=
  { s with trans := { s.trans with tlb := s.trans.tlb.filter fun e => !p e } }

/-- May an invalidation remove the page that a voice address lies in, whatever the page's size? -/
def Inval.mayMatch (i : Inval) (va : Nat) : Bool := i.scope == 0 || va / 2 ^ 24 == i.vpn / 256

/-- Does an invalidation match an entry (SCOPE of VW_TLB_INV)? A page of the other size matches where it overlaps. -/
def Inval.matches (i : Inval) (v : Nat) (e : TlbEntry) : Bool :=
  e.voice == v &&
    (i.scope == 0 ||
      (i.scope == 1 && (if e.big then e.page == i.vpn / 256 else e.page == i.vpn)) ||
      (i.scope == 2 && (if e.big then e.page == i.vpn / 256 else e.page / 256 == i.vpn / 256)))

end Sys2Proof.Machine
end

