-- ==== Sys2Proof/Machine/Queues.lean ====
section
/-!
DEFINITION. Queues, posts and doorbells (R100 to R111), and fermata (R139 to R143).
-/

namespace Sys2Proof.Machine

/-- The queue q of a voice. -/
def State.ring (s : State) (v q : Nat) : Ring := Tab.get {} s.queues (v * 16 + q)

/-- Set a queue. -/
def State.setRing (s : State) (v q : Nat) (r : Ring) : State :=
  { s with queues := Tab.set {} s.queues (v * 16 + q) r }

/-- The occupancy of a queue (R101). -/
def Ring.used (r : Ring) : Nat := (r.prod + 2 ^ 32 - r.cons) % 2 ^ 32

/-- Is the queue full? -/
def Ring.full (r : Ring) : Bool := decide (2 ^ r.log2 ≤ r.used)

/-- The voice address of entry `k` (R101). -/
def Ring.entry (r : Ring) (k : Nat) : Nat := r.base + 32 * (k % 2 ^ r.log2)

/-- Index plus one, 32 bits free running. -/
def incIndex (n : Nat) : Nat := (n + 1) % 2 ^ 32

/-- The 32 bytes of a posted entry (Table 4.2, R104): PHASE from PROD, SEQ its low half. -/
def postBytes (p : Post) (r : Ring) : List Byte :=
  let phase := 1 - (r.prod >>> r.log2) % 2
  [BitVec.ofNat 8 p.typ, BitVec.ofNat 8 p.status, BitVec.ofNat 8 (phase + 2 * b2n p.oldgen), 0]
    ++ toLe 2 p.elem ++ toLe 2 (r.prod % 65536) ++ bytesAt p.body 0 24

/-- Steps 2 and 3 of R104: PROD, POSTED and the pending bit. -/
def State.posted (s : State) (v q : Nat) : State :=
  let r := s.ring v q
  let s1 := (s.setRing v q { r with prod := incIndex r.prod }).setB .VW_QPOST v q
  if r.msix then s1.notify v (if q = 15 then 1 else 0) else s1

/-- A queue's OVF bit (R106). -/
def State.setOvf (s : State) (v q : Nat) : State := s.setB .VW_QERR v q

/-- A queue's DROPPED bit (R106). -/
def State.setDropped (s : State) (v q : Nat) : State := s.setB .VW_QERR v (16 + q)

/-- Is a faulted operation a post to this queue? -/
def Fermata.postTo (f : Fermata) (v q : Nat) : Bool :=
  match f.op with
  | .post p => p.voice == v && p.queue == q
  | _ => false

/-- Does a post to this queue stand in fermata? -/
def State.postFermata (s : State) (v q : Nat) : Bool :=
  (s.trans.slots.any fun e => match e.2 with | some f => f.postTo v q | none => false) ||
    s.trans.noSlot.any fun f => f.postTo v q

/-- Does a post of this queue wait, or stand in fermata, so that a later one waits behind it (R105)? -/
def State.queueBlocked (s : State) (v q : Nat) : Bool :=
  (s.posts.any fun p => p.voice == v && p.queue == q) || s.postFermata v q

/-- Pulse an event line: a credit, or LOST at 255 (R170). -/
def State.pulseLine (s : State) (l : Nat) : State :=
  if s.rdF .EVL_STATUS l 7 0 = 255 then s.setB .EVL_STATUS l 8
  else s.wrF .EVL_STATUS l 7 0 (s.rdF .EVL_STATUS l 7 0 + 1)

/-- A post is made or discarded: the event line of the completion it reports is pulsed (Table 6.7, step 6; that a discarded
one is pulsed too is DEDUCED, log entry 93). -/
def State.postEnded (s : State) (p : Post) : State :=
  match p.line with
  | some l => s.pulseLine l
  | none => s

/-- What became of a post that was tried. -/
inductive Posted where
  | done
  | faulted (cause : Cause) (level va : Nat)
  deriving DecidableEq, Repr

/-- Make a post in a queue that has room (R104, R136, R144, Table 4.4): write the entry, or discard it where it
violates (PROD still advances) or meets a bus error; or answer that its translation faults. `m` is how memory answers the
walk and the entry's own write. -/
def State.makePost (s : State) (p : Post) (m : MemAnswers) : State × Posted :=
  let r := s.ring p.voice p.queue
  let va := r.entry r.prod
  match s.translate p.voice va true m.walk with
  | (s1, .ok pa) =>
    let s2 := s1.eccResult (if s1.deadAddr pa then .hostError else m.data) pa
    if memBad m.data || s1.deadAddr pa then ((s2.setDropped p.voice p.queue).postEnded p, .done)
    else (((s2.writePhys pa (postBytes p r)).posted p.voice p.queue).postEnded p, .done)
  | (s1, .viol pa w) =>
    (((s1.violate p.voice (if w then 6 else 4) true p.queue va pa).posted p.voice p.queue).postEnded p, .done)
  | (s1, .busError _) => ((s1.setDropped p.voice p.queue).postEnded p, .done)
  | (s1, .fault c l) => (s1, .faulted c l va)

/-- The body of a fault record (Table 5.5) of the operation in a slot. -/
def faultBody (f : Fermata) (slot tag : Nat) : List Byte :=
  let src := match f.op with
    | .dmaRead _ => 0 | .dmaWrite _ => 3 | .post _ => 5 | .fetch _ => 6 | .serviceRead _ _ | .request _ => 8
    | .serviceWrite _ _ => 11
  let cause := match f.cause with | .notPresent => 1 | .permission => 2 | .malformed => 3 | .noRoot => 4
  toLe 8 f.va ++ [BitVec.ofNat 8 (slot + 16 * tag), BitVec.ofNat 8 cause, BitVec.ofNat 8 f.level, BitVec.ofNat 8 src]
    ++ toLe 8 (f.beat.getD (2 ^ 64 - 1)) ++ toLe 4 f.aux

/-- Post to queue 15 (R106, R143): a record that finds the queue full, or its ring faulting, waits unposted. -/
def State.post15 (s : State) (p : Post) : State :=
  let r := s.ring p.voice 15
  if !r.present then s
  else if s.queueBlocked p.voice 15 || r.full then
    { s.setOvf p.voice 15 with posts := s.posts ++ [p] }
  else match s.makePost p {} with
    | (s1, .done) => s1
    | (s1, .faulted _ _ _) => { s1.setOvf p.voice 15 with posts := s1.posts ++ [p] }

/-- The lowest free fermata slot of a voice (R139). -/
def State.freeSlot (s : State) (v : Nat) : Option Nat :=
  (List.range 16).find? fun k => Tab.get none s.trans.slots (v * 16 + k) == none

/-- Put a faulted operation into a slot: its TAG goes up by one and its record is posted (R139, R140). -/
def State.takeSlot (s : State) (f : Fermata) (k : Nat) : State :=
  let key := f.voice * 16 + k
  let tag := (Tab.get 0 s.trans.tags key + 1) % 16
  let s1 := { s with trans := { s.trans with
    slots := Tab.set none s.trans.slots key (some f)
    tags := Tab.set 0 s.trans.tags key tag } }
  s1.post15 ⟨f.voice, 15, 0x0F, 0, s.oldgenOf f.voice f.beat, f.elem, faultBody f k tag, f.beat, none⟩

/-- A faulting operation enters fermata: the lowest free slot, or it waits for one (R139). -/
def State.enterFermata (s : State) (f : Fermata) : State :=
  match s.freeSlot f.voice with
  | some k => s.takeSlot f k
  | none => { s with trans := { s.trans with noSlot := s.trans.noSlot ++ [f] } }

/-- The operation in a slot. -/
def State.slotOp (s : State) (v k : Nat) : Option Fermata := Tab.get none s.trans.slots (v * 16 + k)

/-- Free a slot (R141, R142). -/
def State.releaseSlot (s : State) (v k : Nat) : State :=
  { s with trans := { s.trans with slots := Tab.set none s.trans.slots (v * 16 + k) none } }

/-- Free every slot whose operation meets `p`, and forget those that wait for one (R142). -/
def State.dropFermata (s : State) (p : Fermata → Bool) : State :=
  { s with trans := { s.trans with
    slots := s.trans.slots.filter fun e => match e.2 with | some f => !p f | none => false
    noSlot := s.trans.noSlot.filter fun f => !p f } }

/-- Does a voice hold an operation in fermata in some slot (VW_FAULT_PEND)? -/
def State.faultPend (s : State) (v : Nat) : Nat :=
  sumN ((List.range 16).map fun k => if (s.slotOp v k).isSome then 2 ^ k else 0)

/-- Post an entry to a device-to-voice queue (R102 to R106). `m` is how memory answers it. -/
def State.postM (s : State) (p : Post) (m : MemAnswers) : State :=
  if p.queue = 15 then s.post15 p
  else
    let r := s.ring p.voice p.queue
    if !r.present || r.toDev then s.postEnded p
    else if r.full then { s.setOvf p.voice p.queue with posts := s.posts ++ [p] }
    else if s.queueBlocked p.voice p.queue then { s with posts := s.posts ++ [p] }
    else match s.makePost p m with
      | (s1, .done) => s1
      | (s1, .faulted c l va) =>
        s1.enterFermata ⟨p.voice, .post p, va, c, l, p.beat, 0, p.queue⟩

/-- Post an entry, memory answering well. -/
def State.post (s : State) (p : Post) : State := s.postM p {}

/-- Take the first waiting post of a queue out of the list. -/
def takeFirstPost (v q : Nat) : List Post → Option (Post × List Post)
  | [] => none
  | p :: t =>
    if p.voice = v ∧ p.queue = q then some (p, t)
    else (takeFirstPost v q t).map fun x => (x.1, p :: x.2)

/-- Make the oldest waiting post of a queue, when the queue has room (R106). -/
def State.releasePost (s : State) (v q : Nat) (m : MemAnswers) : State :=
  match takeFirstPost v q s.posts with
  | none => s
  | some (p, rest) =>
    if (s.ring v q).full || s.postFermata v q then s
    else
      let s0 := { s with posts := rest }
      match s0.makePost p m with
      | (s1, .done) => s1
      | (s1, .faulted c l va) =>
        if q = 15 then { s1.setOvf v q with posts := p :: s1.posts }
        else s1.enterFermata ⟨v, .post p, va, c, l, p.beat, 0, q⟩

/-- Discard the waiting posts that meet `p`, setting DROPPED on their queues (R106). -/
def State.dropPosts (s : State) (p : Post → Bool) : State :=
  let gone := s.posts.filter p
  gone.foldl (fun s q => (s.setDropped q.voice q.queue).postEnded q) { s with posts := s.posts.filter fun x => !p x }

/-- Discard the posts in fermata that a delivery deadline finds waiting: their slots are freed and DROPPED is set (R106,
R142). -/
def State.dropFaulted (s : State) (n : Nat) : State :=
  let ops := (s.trans.slots.filterMap fun e => e.2) ++ s.trans.noSlot
  (ops.filterMap fun f => if f.beat = some n then (match f.op with | .post p => some p | _ => none) else none).foldl
    (fun s p => (s.setDropped p.voice p.queue).postEnded p) (s.dropFermata fun f => f.beat == some n)

/-- Is a doorbell index accepted (R108)? -/
def Ring.accepts (r : Ring) (w : Nat) : Bool :=
  let fromCons := (w + 2 ^ 32 - r.cons) % 2 ^ 32
  if r.toDev then decide ((w + 2 ^ 32 - r.prod) % 2 ^ 32 ≤ 2 ^ r.log2) && decide (fromCons ≤ 2 ^ r.log2)
  else decide (fromCons ≤ r.used)

/-- The queue after an accepted doorbell (R108). -/
def Ring.rung (r : Ring) (w : Nat) : Ring := if r.toDev then { r with prod := w } else { r with cons := w }

end Sys2Proof.Machine
end

