-- ==== Sys2Proof/Machine/Ports.lean ====
section
/-!
DEFINITION. Sensor ports and sensor control (ch. 07, R177 to R198): links, frames, lines, triggers, setting bundles and
direct transfers.
-/

namespace Sys2Proof.Machine

/-! ### Access -/

/-- A port. -/
def State.port (s : State) (p : Nat) : Port := Tab.get {} s.ports p

/-- Set a port. -/
def State.setPort (s : State) (p : Nat) (x : Port) : State := { s with ports := Tab.set {} s.ports p x }

/-- A stream's state in its port. -/
def State.strm (s : State) (i : Nat) : StreamSt := Tab.get {} s.streams i

/-- Set a stream's state. -/
def State.setStrm (s : State) (i : Nat) (x : StreamSt) : State := { s with streams := Tab.set {} s.streams i x }

/-- Links of a port by LINKS (Table 7.1). -/
def linkCount (links : Nat) : Nat := if links = 0 then 1 else if links = 1 then 2 else if links = 2 then 4 else 0

/-- The logical data lanes of a link (Table 7.1). -/
def linkLanes (links k : Nat) : List Nat := if links = 0 then [0, 1, 2, 3] else if links = 1 then [2 * k, 2 * k + 1] else [k]

/-- The clock lane of a link (Table 7.1). Clock lanes are neither remapped nor swapped (R177). -/
def linkClock (links k : Nat) : Nat := if links = 1 then 2 * k else k

/-- The physical data lane that carries a logical one (LANE_MAP), and whether its polarity is swapped (POL). -/
def physLane (e : Elem) (lane : Nat) : Nat × Bool :=
  let n := fld (2 * lane + 1) (2 * lane) (e.u8 9)
  (n, bit n (e.u8 10))

/-- Is a physical lane of a port in use: 0 to 3 the data lanes of its links, 4 to 7 its clock lanes, of which unused ones are
powered down (R177)? -/
def laneUsed (e : Elem) (lane : Nat) : Bool :=
  (List.range (linkCount (e.u8 8))).any fun k =>
    lane == 4 + linkClock (e.u8 8) k || (linkLanes (e.u8 8) k).any fun l => (physLane e l).1 == lane

/-- Links the live score gives a port. -/
def State.portLinks (s : State) (p : Nat) : Nat :=
  match s.elem 0x0006 p with
  | some e => linkCount (e.u8 8)
  | none => 0

/-- Does a link exist, on a port that is on? -/
def State.linkOn (s : State) (p k : Nat) : Bool := decide (k < s.portLinks p) && !s.blockOff p && !s.blockResets p && s.domUp .PORT

/-- The streams of a link. -/
def State.linkStreams (s : State) (p k : Nat) : List Elem :=
  (s.elems 0x0008).filter fun e => e.u8 8 == p && e.u8 9 == k

/-- HEIGHT of a stream. -/
def streamHeight (e : Elem) : Nat := e.u16 14

/-- WIDTH of a stream. -/
def streamWidth (e : Elem) : Nat := e.u16 12

/-- Bits per pixel of a data type (Table 8.1 and MIPI CSI-2; PRESUMED for the packing, log entry 16). -/
def dtBits (dt : Nat) : Nat :=
  if dt = 0x2B then 10 else if dt = 0x2C then 12 else if dt = 0x2D then 14 else if dt = 0x2E then 16
  else if dt = 0x1E then 16 else if dt = 0x24 then 24 else 8

/-- A link's state (Table 7.3). -/
def State.linkState (s : State) (p k : Nat) : Nat := s.rdF .P_STATUS p (2 * k + 1) (2 * k)

/-- Set a link's state. -/
def State.setLink (s : State) (p k c : Nat) : State := s.wrF .P_STATUS p (2 * k + 1) (2 * k) c

/-- The cue of a port's trigger. -/
def State.trigCue (s : State) (p : Nat) : Option Nat :=
  match s.elem 0x0006 p with
  | some e => if e.u8 14 = 0xFF then none else some (e.u8 14)
  | none => none

/-- Is the beat now open an idle one? -/
def State.idleBeat (s : State) : Bool :=
  match s.beat? with
  | some b => b.idle
  | none => false

/-- The SENSOR record of a link. -/
def State.sensor (s : State) (n : Nat) : Option Elem := s.elem 0x0007 n

/-! ### Bundles -/

/-- Nominal time of one write in ns (R190). -/
def writeTime (port sensor : Elem) : Nat :=
  let bit := if port.u8 15 = 0 then 10000 else if port.u8 15 = 1 then 2500 else 1000
  (9 * (1 + sensor.u8 12 + sensor.u8 13) + 3) * bit

/-- Writes of a bundle. -/
def DueBundle.count (b : DueBundle) : Nat := leAt b.raw 10 1

/-- The bundle's SETGEN. -/
def DueBundle.setgen (b : DueBundle) : Nat := leAt b.raw 12 2

/-- Post a BUNDLE entry (R196): to the lowest-numbered device-to-voice queue in 0 to 14 of the bundle's voice. OLDGEN tells an
entry for a target beat below a segue's commit barline (Table 4.2). At a full queue it waits as long as it takes, since R106
bounds the waits of beat-bound DMA work alone (DESIGN CHOICE, log entry 103). -/
def State.postBundle (s : State) (b : DueBundle) (status done : Nat) (straddle : Bool) (written : Nat)
    (old : Bool) : State :=
  match (List.range 15).find? fun q => (s.ring b.voice q).present && !(s.ring b.voice q).toDev with
  | none => s
  | some q => s.post ⟨b.voice, q, 0x02, status, old || s.oldgen b.voice (s.beatOf b.target), b.sensor,
      [BitVec.ofNat 8 b.id, BitVec.ofNat 8 done] ++ toLe 2 b.setgen ++ [BitVec.ofNat 8 (b2n b.deferred + 2 * b2n straddle)]
        ++ zeros 3 ++ toLe 8 b.target ++ toLe 8 written, none, none⟩

/-- The known closing edge of a port's window in this beat: the pending edge of its cue (R192). -/
def State.closingEdge (s : State) (p : Nat) : Option Nat :=
  match s.trigCue p with
  | some c => if s.idleBeat then none else (Tab.get {} s.cues c).next
  | none => none

/-- Does a bundle end at or before the closing edge (R192)? -/
def State.bundleFits (s : State) (p : Nat) (b : DueBundle) : Bool :=
  match s.elem 0x0006 p, s.sensor b.sensor, s.closingEdge p with
  | some e, some n, some t => decide (s.clock.total + nsU (b.count * writeTime e n) ≤ t)
  | _, _, _ => true

/-- A bundle that is not started in this window is deferred (R192). -/
def State.deferBundle (s : State) (p : Nat) (b : DueBundle) : State :=
  let x := s.port p
  (s.setPort p { x with due := x.due.map fun d =>
    if d.voice = b.voice ∧ d.id = b.id ∧ d.sensor = b.sensor then { d with judged := true, deferred := true } else d }).bump
    .P_BDL_DEFER_CNT p

/-- Does an earlier due bundle of the same sensor still wait? -/
def earlierDue (l : List DueBundle) (b : DueBundle) : Bool :=
  l.any fun d => d.sensor == b.sensor && decide (d.id < b.id)

/-- The master takes the next due bundle of the window, over at most `n` of them (R192). -/
def State.pickBundle (s : State) (p : Nat) : Nat → State
  | 0 => s
  | n + 1 =>
    let x := s.port p
    if x.run.isSome || (match x.direct with | some d => d.running | none => false) then s
    else match x.due.find? fun b => !b.judged && x.windows.contains (b.sensor % 4) with
      | none => s
      | some b =>
        if earlierDue x.due b || (x.started && !s.bundleFits p b) then (s.deferBundle p b).pickBundle p n
        else s.setPort p { x with
          due := x.due.erase b
          run := some ⟨b, 0, false, s.rd .BEAT_NUM 0, false, false⟩
          started := true }

/-- Let the master take what it may. -/
def State.pickBundles (s : State) (p : Nat) : State := s.pickBundle p ((s.port p).due.length + 1)

/-- Close the bundle windows of some links of a port (R191): due bundles not started are deferred, a running one
straddles if it ends now. -/
def State.closeWindows (s : State) (p : Nat) (links : List Nat) : State :=
  let x := s.port p
  let open_ := links.filter fun k => x.windows.contains k
  if open_.isEmpty then s
  else
    let late := x.due.filter fun b => !b.judged && open_.contains (b.sensor % 4)
    let s1 := late.foldl (fun s b => s.deferBundle p b) s
    let y := s1.port p
    s1.setPort p { y with
      windows := y.windows.filter fun k => !open_.contains k
      run := y.run.map fun r => if open_.contains (r.b.sensor % 4) then { r with straddle := true } else r }

/-- Open the bundle windows of a port's sensors at a barline (R191), and start due bundles. -/
def State.openWindows (s : State) (p : Nat) : State :=
  if s.portLinks p = 0 then s
  else
    let x := s.port p
    (s.setPort p { x with
      windows := (List.range (s.portLinks p)).filter fun k => (s.sensor (4 * p + k)).isSome
      started := false
      due := x.due.map fun b => { b with judged := false } }).pickBundles p

/-- A bundle falls due (R192); due bundles stay in order of sensor and ID. -/
def State.addDue (s : State) (e : Elem) (target : Nat) : State :=
  let n := e.u16 8
  let p := n / 4
  let x := s.port p
  s.setPort p { x with
    due := insertBy (fun b => b.sensor * 256 + b.id) ⟨e.voice, e.id, n, target, false, false, e.raw⟩ x.due }

/-- A bundle has been written (R193, R196): its generation takes effect at frame F + L of each stream of the link. -/
def State.bundleDone (s : State) (p : Nat) (r : RunBundle) : State :=
  let k := r.b.sensor % 4
  let lat := match s.sensor r.b.sensor with | some e => e.u8 9 | none => 0
  let s1 := s.wrF .SEN_SETGEN (4 * p + k) 15 0 r.b.setgen
  let s2 := (s1.linkStreams p k).foldl (fun s e =>
    let x := s.strm e.id
    s.setStrm e.id { x with coming := x.coming ++ [((x.seq + 1 + lat) % 65536, r.b.setgen)] }) s1
  let s3 := if r.straddle then s2.bump .P_BDL_STRADDLE_CNT p else s2
  (s3.setPort p { s3.port p with run := none }).postBundle r.b 0 r.done r.straddle r.startBeat r.old

/-- A bundle has failed (R194). -/
def State.bundleFailed (s : State) (p : Nat) (r : RunBundle) : State :=
  ((s.bump .P_BDL_FAIL_CNT p).setPort p { s.port p with run := none }).postBundle r.b 2 r.done r.straddle r.startBeat
    r.old

/-- Data of the write a running bundle makes now: register and value. -/
def RunBundle.word (r : RunBundle) : Nat × Nat := (leAt r.b.raw (16 + 8 * r.done) 2, leAt r.b.raw (20 + 8 * r.done) 4)

/-- The bytes of a register write: address with the write bit, register and data bytes, most significant first (R188). -/
def cciBytes (addr abytes reg dbytes data : Nat) : List Byte :=
  [BitVec.ofNat 8 (2 * addr)] ++ toBe abytes (reg % 2 ^ (8 * abytes)) ++ toBe dbytes (data % 2 ^ (8 * dbytes))

/-- The write of a running bundle ends (R188, R189): one that found SDA low fails without a retry. -/
def State.bundleWrite (s : State) (p : Nat) (a : CciResult) : State :=
  let x := s.port p
  match x.run with
  | none => s
  | some r =>
    if a = .ack then
      let s1 := match s.sensor r.b.sensor with
        | some e => s.emit (.cci p (cciBytes (e.u8 8) (e.u8 12) r.word.1 (e.u8 13) r.word.2))
        | none => s
      let r1 := { r with done := r.done + 1, retried := false }
      if r1.done < r.b.count then s1.setPort p { x with run := some r1 }
      else (s1.bundleDone p r1).pickBundles p
    else if r.retried ∨ a = .stuck then ((s.bump .P_CCI_NAK_CNT p).bundleFailed p r).pickBundles p
    else s.setPort p { x with run := some { r with retried := true } }

/-- CCI_WRITE_END (R188, R189): the write of the bundle that a port's master runs ends with an answer; at a port that is off it
ends as a timeout (R402). -/
def execCciWriteEnd (port : Nat) (r : CciResult) (s : State) : Host.Outcome State Fault Refusal :=
  .next (s.bundleWrite port (if s.blockOff port then .timeout else r))

/-! ### Direct transfers (R198) -/

/-- A direct transfer ends: DONE, with NAK or TIMEOUT; a read that was answered gives its data. -/
def State.directDone (s : State) (p : Nat) (d : Direct) (r : CciResult) (data : Nat) : State :=
  let s0 := s.setPort p { s.port p with direct := none }
  let s1 := (s0.clrB .P_CCI_STATUS p 0).setB .P_CCI_STATUS p 1
  let bytes := 8 * (fld 10 9 d.cmd + 1)
  match r with
  | .ack =>
    if bit 7 d.cmd then s1.wr .P_CCI_DATA p (data % 2 ^ bytes)
    else s1.emit (.cci p (cciBytes (fld 6 0 d.cmd) (fld 8 8 d.cmd + 1) d.reg (fld 10 9 d.cmd + 1) d.data))
  | .nak => (s1.setB .P_CCI_STATUS p 2).bump .P_CCI_NAK_CNT p
  | .timeout | .stuck => (s1.setB .P_CCI_STATUS p 3).bump .P_CCI_NAK_CNT p

/-- The transfer that the master runs directly ends; it is retried once (R189). -/
def State.directEnd (s : State) (p : Nat) (r : CciResult) (data : Nat) : State :=
  let x := s.port p
  match x.direct with
  | some d =>
    if !d.running then s
    else if r == .ack || r == .stuck || d.retried then (s.directDone p d r data).pickBundles p
    else s.setPort p { x with direct := some { d with retried := true } }
  | none => s

/-- A write of P_CCI_CMD: GO queues a transfer unless one is queued or running. -/
def State.cciCmd (s : State) (p v : Nat) : State :=
  if !bit 31 v || s.rdB .P_CCI_STATUS p 0 || 32 ≤ p then s
  else (s.setB .P_CCI_STATUS p 0).setPort p { s.port p with
    direct := some ⟨v, s.rd .P_CCI_REG p, s.rd .P_CCI_DATA p, false, false⟩ }

/-- CCI_DIRECT_WRITE (R198): the conductor's write of P_CCI_CMD queues a register write. -/
def execCciDirectWrite (p : Path) (port : Nat) (v : Word) (s : State) : Host.Outcome State Fault Refusal :=
  .next (if s.entryOpen p .P_CCI_CMD port then s.cciCmd port v.toNat else s)

/-- CCI_DIRECT_READ (R198): the conductor's write of P_CCI_CMD with READ queues a register read. -/
def execCciDirectRead (p : Path) (port : Nat) (v : Word) (s : State) : Host.Outcome State Fault Refusal :=
  .next (if s.entryOpen p .P_CCI_CMD port then s.cciCmd port v.toNat else s)

/-- CCI_DIRECT_START (R198): the queued transfer starts once no window of the port is open and no bundle runs. -/
def execCciDirectStart (port : Nat) (s : State) : Host.Outcome State Fault Refusal :=
  let x := s.port port
  match x.direct with
  | some d =>
    if d.running || x.run.isSome || !x.windows.isEmpty then .next s
    else if s.blockOff port then .next (s.directDone port d .timeout 0)
    else .next (s.setPort port { x with direct := some { d with running := true } })
  | none => .next s

/-- CCI_DIRECT_END (R198): the running direct transfer ends. -/
def execCciDirectEnd (port : Nat) (r : CciResult) (data : Word) (s : State) : Host.Outcome State Fault Refusal :=
  .next (s.directEnd port r data.toNat)

/-- CCI_STRETCH_TIMEOUT (R189): a stretch beyond 1 ms ends the transaction in progress. -/
def execCciStretchTimeout (port : Nat) (s : State) : Host.Outcome State Fault Refusal :=
  .next (if (s.port port).run.isSome then s.bundleWrite port .timeout else s.directEnd port .timeout 0)

/-! ### Triggers (R187) -/

/-- A cue pulse begins at a port: the first one of a beat passes and closes the windows, later ones are suppressed; an
idle beat passes none. -/
def State.portPulse (s : State) (p : Nat) : State :=
  if s.beat?.isNone || s.idleBeat then s
  else
    let x := s.port p
    if x.passed then s.bump .P_TRIG_SUP p
    else (s.setPort p { x with passed := true, trig := !s.blockOff p }).closeWindows p [0, 1, 2, 3]

/-- The pulse on a port's TRIG ends. -/
def State.portPulseEnd (s : State) (p : Nat) : State := s.setPort p { s.port p with trig := false }

/-- The level of a port's TRIG (R187): its cue's active level in a passed pulse, else the inactive one; low where the port names
no cue, has LINKS 3 or no PORT record. -/
def State.trigLevel (s : State) (p : Nat) : Bool :=
  match s.elem 0x0006 p with
  | none => false
  | some e =>
    if e.u8 8 = 3 ∨ e.u8 14 = 0xFF then false
    else if (s.port p).trig then (Tab.get {} s.cues (e.u8 14)).high
    else match s.elem 0x0012 (e.u8 14) with
      | some c => bit 0 (c.u8 9)
      | none => false

/-- The ports whose trigger names a cue. -/
def State.cuePorts (s : State) (c : Nat) : List Nat :=
  ((s.elems 0x0006).filter fun e => e.u8 14 == c && e.u8 8 != 3).map (·.id)

/-! ### Frames (R182 to R184) -/

/-- The open frame of a stream. -/
def StreamSt.openFrame (x : StreamSt) : Option Frame := x.frames.find? (·.isOpen)

/-- The pipe that merges a stream, if any, and its slot in the merge (Table 2.13). -/
def State.mergeOf (s : State) (i : Nat) : Option (Elem × Nat) :=
  (s.elems 0x0009).findSome? fun e =>
    if e.u8 9 = 1 then none
    else ((List.range (e.u8 9)).find? fun k => e.u16 (12 + 2 * k) == i).map fun k => (e, k)

/-- Does a stream's frame of a beat lack lines once closed? -/
def Frame.short (f : Frame) (height : Nat) : Bool := f.missing || decide (f.count < height)

/-- Close the open frame of a stream (R182, R229): the next lines are taken as `mode` says. -/
def State.closeFrame (s : State) (e : Elem) (mode : StreamMode) (deadline epoch : Bool) : State :=
  let x := s.strm e.id
  match x.openFrame with
  | none => s.setStrm e.id { x with mode := mode }
  | some f =>
    let g := { f with isOpen := false, atDeadline := deadline, epoch := epoch, missing := f.short (streamHeight e) }
    let s1 := s.setStrm e.id { x with
      mode := mode
      frames := x.frames.map fun y => if y.isOpen then g else y }
    let s2 := (s1.wrF .STR_LINES e.id 15 0 f.got).clrB .STR_SEQ e.id 16
    let s3 := s2.wrF .SEN_SETGEN (4 * e.u8 8 + e.u8 9) 31 16 f.setgen
    if f.short (streamHeight e) then s3.bump .STR_SHORT e.id else s3

/-- Settings generations that take effect at a frame sequence (R193), and those still to come. -/
def takeGens (seq gen : Nat) (l : List (Nat × Nat)) : Nat × List (Nat × Nat) :=
  (l.foldl (fun g x => if x.1 = seq then x.2 else g) gen, l.filter fun x => x.1 != seq)

/-- A packet arrives on a link: the first one of a burst ends the discarding of the burst before (R181). -/
def State.beginPacket (s : State) (p k : Nat) (first : Bool) : State :=
  if first && (s.port p).skip.contains k then s.setPort p { s.port p with skip := (s.port p).skip.filter fun j => j != k } else s

/-- Is the rest of a link's burst discarded (R181)? -/
def State.skips (s : State) (p k : Nat) : Bool := (s.port p).skip.contains k

/-- An FS of a stream: it opens a frame in the current beat, or begins a surplus one (R182). Answers whether the frame
was accepted. -/
def State.streamFs (s : State) (e : Elem) : State × Bool :=
  let s1 := s.closeFrame e .idle false false
  let x := s1.strm e.id
  let surplus := (s1.setStrm e.id { x with mode := .surplus }).bump .P_EXTRA (e.u8 8)
  match s1.beat? with
  | none => (surplus, false)
  | some b =>
    if b.idle || x.frames.any fun f => f.beat == b.num then (surplus, false)
    else
      let n := (x.seq + 1) % 65536
      let (g, rest) := takeGens n x.gen x.coming
      ((s1.setStrm e.id { x with
        mode := .taking
        frames := ⟨b.num, n, g, true, 0, 0, false, false, false⟩ :: x.frames
        seq := n
        gen := g
        coming := rest }).wr .STR_SEQ e.id (n + 65536), true)

/-- An FS on a virtual channel opens a frame of each matching stream; an accepted one takes the link UP; the first FS of
the beat closes the link's bundle window (R180, R182, R185). -/
def State.frameStart (s0 : State) (port link vc : Nat) (corrected first : Bool) : State :=
  let s := s0.beginPacket port link first
  if !s.linkOn port link || s.skips port link then s
  else
    let s1 := if corrected then s.bump .P_ECC_CORR port else s
    let l := (s1.linkStreams port link).filter fun e => e.u8 10 == vc
    let (s2, ok) := l.foldl (fun a e => let r := a.1.streamFs e; (r.1, a.2 || r.2)) (s1, false)
    if ok then
      let x := s2.port port
      ((s2.setPort port { x with
        fsSeen := if x.fsSeen.contains link then x.fsSeen else x.fsSeen ++ [link]
        missed := Tab.set 0 x.missed link 0 }).setLink port link 2).closeWindows port [link]
    else s2

/-- An FE closes the frame of each matching stream (R182). -/
def State.frameEnd (s0 : State) (port link vc : Nat) (corrected first : Bool) : State :=
  let s := s0.beginPacket port link first
  if !s.linkOn port link || s.skips port link then s
  else
    let s1 := if corrected then s.bump .P_ECC_CORR port else s
    ((s1.linkStreams port link).filter fun e => e.u8 10 == vc).foldl (fun s e => s.closeFrame e .idle false false) s1

/-- A line that a frame lacks is known (R229): a frame that has closed counts as an underrun from then on. -/
def State.markMissing (s : State) (i beat : Nat) : State :=
  let x := s.strm i
  match x.frames.find? fun f => f.beat == beat with
  | none => s
  | some f =>
    if f.missing then s
    else
      let t := s.setStrm i { x with frames := x.frames.map fun g => if g.beat = beat then { g with missing := true } else g }
      if f.isOpen then t else t.bump .STR_SHORT i

/-- LINK_LOST (R185): four triggered beats have passed without an accepted FS. -/
def execLinkLost (port link : Nat) (s : State) : Host.Outcome State Fault Refusal :=
  if s.linkState port link = 2 ∧ 4 ≤ Tab.get 0 (s.port port).missed link then
    .next ((((s.setLink port link 3).setB .P_STATUS port 16).vector0).alert 0x08 (4 * port + link))
  else .next s

/-- LANE_ERROR (R178): an SoT or low-power sequence error on a lane in use, or an entry to ULPS, which is none where PFLAGS.ULPS
is 1. -/
def execLaneError (l : LaneEvent) (s : State) : Host.Outcome State Fault Refusal :=
  match s.elem 0x0006 l.port with
  | none => .next s
  | some e =>
    .next (if s.linkOn l.port 0 && laneUsed e l.lane && !(l.ulps && bit 1 (e.u8 11)) then s.bump .P_LANE_ERR l.port else s)

/-! ### Lines -/

/-- Change the open frame of a stream. -/
def State.mapOpen (s : State) (i : Nat) (f : Frame → Frame) : State :=
  let x := s.strm i
  s.setStrm i { x with frames := x.frames.map fun y => if y.isOpen then f y else y }

/-- A line of the open frame is missing: it takes its line number (R181, R183). -/
def State.missLine (s : State) (e : Elem) : State :=
  if (s.strm e.id).mode = .taking then s.mapOpen e.id fun f => { f with count := f.count + 1, missing := true } else s

/-- Bytes that wait in a port's line buffer. -/
def Port.fill (x : Port) : Nat := sumN (x.buffer.map (·.bytes.length))

/-- Latch the line stamp registers for the line that LS_SEL names (R289). -/
def State.latchStamp (s : State) (i line beat : Nat) : State :=
  if s.rdB .LS_SEL 0 15 && s.rdF .LS_SEL 0 7 0 == i && s.rdF .LS_SEL 0 31 16 == line then
    (((s.wr .LS_BEAT 0 beat).wr .LS_S 0 s.clock.sec).wr .LS_NS 0 s.clock.ns).wr .LS_ENC 0 s.tempoEnc
  else s

/-- Place a long packet of good form as the next line of its stream (R182, R183, R288). -/
def State.takeLine (s : State) (e : Elem) (bytes : List Byte) : State :=
  let p := e.u8 8
  let x := s.strm e.id
  match x.mode, x.openFrame with
  | .late, _ => s.bump .P_LATE p
  | .taking, some f =>
    if streamHeight e ≤ f.count then s.bump .P_EXTRA p
    else if e.u8 16 != 0xFF && decide (65536 < (s.port p).fill + bytes.length) then (s.bump .P_FIFO_OVF p).missLine e
    else
      let y := s.port p
      let s1 := s.setPort p { y with
        buffer := y.buffer ++ [⟨s.arrivals, e.id, f.beat, f.count, s.now, s.tempoEnc, bytes⟩] }
      ({ s1 with arrivals := s1.arrivals + 1 }.mapOpen e.id fun f => { f with count := f.count + 1, got := f.got + 1 })
        |>.latchStamp e.id f.count f.beat
  | .surplus, _ => s
  | _, _ => s.bump .P_EXTRA p

/-- What the port makes of a long packet (R180, R181), before any pipe-less line is placed. An uncorrectable header discards the
rest of its burst too. -/
def State.longPacket (s0 : State) (k : LongPacket) : State :=
  let s := s0.beginPacket k.port k.link k.first
  if s.skips k.port k.link then s
  else if k.ecc = 2 then (s.setPort k.port { s.port k.port with skip := k.link :: (s.port k.port).skip }).bump .P_ECC_DROP k.port
  else
    let s1 := if k.ecc = 1 then s.bump .P_ECC_CORR k.port else s
    let e? := (s1.linkStreams k.port k.link).find? fun e => e.u8 10 == k.vc && e.u8 11 == k.dt
    if !k.crcOk then
      let s2 := s1.bump .P_CRC_ERR k.port
      match e? with
      | some e => s2.missLine e
      | none => s2
    else match e? with
      | none => s1.bump .P_UNKNOWN k.port
      | some e =>
        if 8 * k.payload.length ≠ streamWidth e * dtBits k.dt then (s1.bump .P_LEN_ERR k.port).missLine e
        else s1.takeLine e k.payload

/-! ### At a barline -/

/-- Was the beat that ends a triggered one for a port (R185, R186)? -/
def State.portTriggered (s : State) (p : Nat) (idle : Bool) : Bool :=
  match s.trigCue p with
  | some _ => (s.port p).passed
  | none => !idle

/-- Capture deadline at a barline: every open frame closes, and lines of it that follow are late (R182). -/
def State.captureDeadline (s : State) : State :=
  (s.elems 0x0008).foldl (fun s e => if (s.strm e.id).openFrame.isSome then s.closeFrame e .late true false else s) s

/-- A port at a barline: links without an FS in a triggered beat are counted (R185), the beat's trigger state is
cleared. -/
def State.portBarline (s : State) (idle : Bool) (p : Nat) : State :=
  let t := s.portTriggered p idle
  let x := s.port p
  s.setPort p { x with
    passed := false
    fsSeen := []
    missed := if t then (List.range (s.portLinks p)).foldl (fun m k =>
      if x.fsSeen.contains k then m else Tab.set 0 m k (Tab.get 0 m k + 1)) x.missed else x.missed }

/-- The ports of the live score. -/
def State.portList (s : State) : List Nat := (s.elems 0x0006).map (·.id)

/-- A port reset (R402): every link enters INIT, counters and state return to their reset values; frames in flight close
and the running transfers end (Table 18.6). -/
def State.resetPort (s : State) (p : Nat) : State :=
  let s1 := ((s.elems 0x0008).filter fun e => e.u8 8 == p).foldl (fun s e => s.closeFrame e .idle false true) s
  let s2 := match (s1.port p).run with
    | some r => s1.bundleFailed p r
    | none => s1
  let s3 := match (s2.port p).direct with
    | some d => s2.directDone p d .timeout 0
    | none => s2
  let y := s3.port p
  let s4 := s3.setPort p { due := y.due, passed := y.passed, windows := y.windows, started := y.started }
  (List.range (s4.portLinks p)).foldl (fun s k => s.setLink p k 1) s4

end Sys2Proof.Machine
end

