-- ==== Sys2Proof/Machine/Align.lean ====
section
/-!
DEFINITION. Alignment, windows and product tags (ch. 09, R224 to R239): rows and their rings, validity and fill, cuts,
parts and tags.
-/

namespace Sys2Proof.Machine

/-! ### Groups and rings -/

/-- The PIPE record that serves a stream. -/
def State.pipeOf (s : State) (i : Nat) : Option Elem :=
  match s.elem 0x0008 i with
  | some e => if e.u8 16 = 0xFF then none else s.elem 0x0009 (e.u8 16)
  | none => none

/-- PIXFMT of a stream's lines: OUTFMT, or 0x80 without a pipe (R234). -/
def State.streamFmt (s : State) (i : Nat) : Nat :=
  match s.pipeOf i with
  | some e => e.u8 11
  | none => 0x80

/-- Bytes per pixel of a format; the payload format counts bytes (R234). -/
def pixBytes (fmt : Nat) : Nat := if fmt = 0x80 then 1 else fmtBytes fmt

/-- Pixels of a stream's line in its format. -/
def State.lineWidth (s : State) (e : Elem) : Nat :=
  if (s.pipeOf e.id).isSome then streamWidth e else streamWidth e * dtBits (e.u8 11) / 8

/-- Members of a group. -/
def groupMembers (g : Elem) : Nat := g.u8 8

/-- A member's STREAM field. -/
def memberField (g : Elem) (k : Nat) : Nat := g.u16 (16 + 8 * k)

/-- Is the member a partner's (Table 2.16)? -/
def isPartner (g : Elem) (k : Nat) : Bool := bit 15 (memberField g k)

/-- The member's stream number. -/
def memberStream (g : Elem) (k : Nat) : Nat := memberField g k % 256

/-- LINE_OFS of a member. -/
def memberOfs (g : Elem) (k : Nat) : Nat := g.u16 (18 + 8 * k)

/-- The local STREAM record of a member. -/
def State.memberElem (s : State) (g : Elem) (k : Nat) : Option Elem :=
  if isPartner g k then none else s.elem 0x0008 (memberStream g k)

/-- The first local member's stream: HEIGHT and OUTFMT are common (R60). -/
def State.groupRef (s : State) (g : Elem) : Option Elem :=
  (List.range (groupMembers g)).findSome? fun k => s.memberElem g k

/-- H of a group. -/
def State.groupH (s : State) (g : Elem) : Nat := match s.groupRef g with | some e => streamHeight e | none => 0

/-- PIXFMT of a group. -/
def State.groupFmt (s : State) (g : Elem) : Nat := match s.groupRef g with | some e => s.streamFmt e.id | none => 0

/-- The columns that the partner's last answer gives a partner member, where the answer is of use (R323). -/
def State.answered (s : State) (g : Elem) (k : Nat) : Option Nat :=
  let trim := g.u16 (20 + 8 * k) + g.u16 (22 + 8 * k)
  match s.tie.widths.find? fun a => a.1 == memberStream g k with
  | some a => if trim < a.2 then some (a.2 - trim) else none
  | none => none

/-- Columns that local members contribute. -/
def State.localShare (s : State) (g : Elem) : Nat :=
  sumN ((List.range (groupMembers g)).map fun k => match s.memberElem g k with
    | some e => streamWidth e - g.u16 (20 + 8 * k) - g.u16 (22 + 8 * k)
    | none => 0)

/-- The partner share of a group, member by member: an answered member has the columns of its answer, the first one without
an answer has what the others leave it, any further one a single column, and the last one whatever is left, so that the share
is OUT_WIDTH less the local members' contributions whatever the partner says (R60; DESIGN CHOICE, log entry 17). -/
def shareOut : Nat → List (Option Nat) → List Nat
  | _, [] => []
  | r, [_] => [r]
  | r, some w :: t => min w r :: shareOut (r - w) t
  | r, none :: t =>
    let n := r - sumN (t.map fun x => x.getD 1)
    n :: shareOut (r - n) t

/-- The partner members of a group. -/
def partnersOf (g : Elem) : List Nat := (List.range (groupMembers g)).filter fun k => isPartner g k

/-- Columns a member contributes. A partner's do not change where it fails a check or the link is lost: what is not placed
is filled, and no other member moves (R230, R232, R323). -/
def State.memberCols (s : State) (g : Elem) (k : Nat) : Nat :=
  match s.memberElem g k with
  | some e => streamWidth e - g.u16 (20 + 8 * k) - g.u16 (22 + 8 * k)
  | none =>
    let cols := shareOut (g.u16 12 - s.localShare g) ((partnersOf g).map fun j => s.answered g j)
    (cols[(findIdx? (fun j => j == k) (partnersOf g)).getD 0]?).getD 0

/-- X of a member (R225). -/
def State.memberX (s : State) (g : Elem) (k : Nat) : Nat := sumN ((List.range k).map fun j => s.memberCols g j)

/-- The largest LINE_OFS of a group. -/
def maxOfs (g : Elem) : Nat := (List.range (groupMembers g)).foldl (fun m k => max m (memberOfs g k)) 0

/-- R of a group's ring (R227). -/
def State.groupR (s : State) (g : Elem) : Nat :=
  let h := s.groupH g
  h * (2 + (maxOfs g + h - 1) / max 1 h)

/-- The group a stream belongs to, and its members that name the stream (R60). -/
def State.groupOf (s : State) (i : Nat) : Option (Elem × List Nat) :=
  (s.elems 0x000C).findSome? fun g =>
    let ks := (List.range (groupMembers g)).filter fun k => !isPartner g k && memberStream g k == i
    if ks.isEmpty then none else some (g, ks)

/-- An area carved for a kind, voice and number. -/
def State.area (s : State) (kind voice id : Nat) : Option Area :=
  s.align.areas.find? fun a => a.kind == kind && a.voice == voice && a.id == id

/-- A source of windows: a group or an ungrouped stream, with its ring (R227, R234). -/
structure Source where
  group : Option Elem
  stream : Option Elem
  ring : Nat
  base : Nat
  /-- Rows of the ring and pixels of a row. -/
  rows : Nat
  width : Nat
  height : Nat
  fmt : Nat
  deriving DecidableEq, Repr

/-- The source a window names. -/
def State.source (s : State) (kind n : Nat) : Option Source :=
  if kind = 1 then
    match s.elem 0x000C n, s.area 0 0 n with
    | some g, some a => some ⟨some g, none, n, a.base, s.groupR g, g.u16 12, s.groupH g, s.groupFmt g⟩
    | _, _ => none
  else
    match s.elem 0x0008 n, s.area 1 0 n with
    | some e, some a =>
      some ⟨none, some e, 256 + n, a.base, 2 * streamHeight e, s.lineWidth e, streamHeight e, s.streamFmt n⟩
    | _, _ => none

/-- Bytes of a ring row. -/
def Source.rowBytes (x : Source) : Nat := x.width * pixBytes x.fmt

/-- The device address of a row (R227). -/
def Source.rowAddr (x : Source) (row : Nat) : Nat := x.base + row % max 1 x.rows * x.rowBytes

/-- Segments of a row: member, first column, columns. -/
def State.segments (s : State) (x : Source) : List (Nat × Nat × Nat) :=
  match x.group with
  | some g => (List.range (groupMembers g)).map fun k => (k, s.memberX g k, s.memberCols g k)
  | none => [(0, 0, x.width)]

/-- The first row of a beat in a source (R224): none in an idle beat. -/
def State.firstRow (s : State) (x : Source) (beat : Nat) : Option Nat :=
  match x.group with
  | some g => match s.beatRec beat with
    | some b => if b.idle then none else some (Tab.get 0 b.rows g.id)
    | none => none
  | none => some (s.ordinal beat * x.height)

/-! ### Validity (R228) -/

/-- The key of a row in the table of rows. -/
def Source.key (x : Source) (row : Nat) : Nat := x.ring * 4294967296 + row % max 1 x.rows

/-- What the ring holds of a row. -/
def State.rowInfo (s : State) (x : Source) (row : Nat) : RowInfo :=
  match Tab.get none s.align.rows (x.key row) with
  | some i => if i.row = row then i else ⟨row, [], 0, 0⟩
  | none => ⟨row, [], 0, 0⟩

/-- Set what the ring holds of a row. -/
def State.setRow (s : State) (x : Source) (i : RowInfo) : State :=
  { s with align := { s.align with rows := Tab.set none s.align.rows (x.key i.row) (some i) } }

/-- Did a member place the row? -/
def RowInfo.has (i : RowInfo) (m : Nat) : Bool := i.placed.any fun p => p.member == m

/-- Is the row inside the ring window: not beyond the ring counted from the oldest beat still kept (R228)? -/
def State.inRing (s : State) (x : Source) (row : Nat) : Bool :=
  match x.group with
  | none => true
  | some g =>
    let firsts := ((s.tempo.beats.take 2).filter fun b => !b.idle).map fun b =>
      Tab.get 0 b.rows g.id
    let lo := firsts.foldl min (Tab.get 0 s.align.rowCounter g.id)
    decide (lo ≤ row) && decide (row < lo + x.rows)

/-- Place columns of a row for a member (R225, R232), and set its valid bit. -/
def State.placeSeg (s : State) (x : Source) (row member col : Nat) (bytes : List Byte) (st : Stamp) (gen : Nat) :
    State :=
  if !s.inRing x row then s
  else
    let i := s.rowInfo x row
    ((s.charge 0 0x20 bytes.length).writePhys (x.rowAddr row + col * pixBytes x.fmt) bytes).setRow x
      { i with placed := i.placed.filter (fun p => p.member != member) ++ [⟨member, st, gen⟩] }

/-- The places a stream's lines go to: source, member number, first column, trim on the left and columns. They are those of
the members that name it in its group's ring (R60), or its own ring where a window names it. -/
def State.targets (s : State) (i : Nat) : List (Source × Nat × Nat × Nat × Nat) :=
  match s.groupOf i with
  | some (g, ks) => match s.source 1 g.id with
    | some x => ks.map fun k => (x, k, s.memberX g k, g.u16 (20 + 8 * k), s.memberCols g k)
    | none => []
  | none => match s.source 0 i with
    | some x => [(x, 0, 0, 0, x.width)]
    | none => []

/-- Place output line `line` of a beat's frame at one of its places (R225). A ring that a segue carved takes lines from the
frame of its commit beat on (R227). -/
def State.placeAt (s : State) (p : Source × Nat × Nat × Nat × Nat) (beat line : Nat) (bytes : List Byte) (st : Stamp)
    (gen : Nat) : State :=
  let (x, m, col, trim, cols) := p
  match s.firstRow x beat with
  | none => s
  | some r0 =>
    let row := r0 + line + (match x.group with | some g => memberOfs g m | none => 0)
    let n := pixBytes x.fmt
    if s.beatBefore beat (Tab.get 0 s.align.since x.ring) then s
    else s.placeSeg x row m col ((bytes.drop (trim * n)).take (cols * n)) st gen

/-- Place output line `line` of a beat's frame of a stream (R225). -/
def State.placeLine (s : State) (i beat line : Nat) (bytes : List Byte) (st : Stamp) (gen : Nat) : State :=
  (s.targets i).foldl (fun s p => s.placeAt p beat line bytes st gen) s

/-- Mark the rows that a closed frame supplies at one of its places: with OVR those that its unplaced lines would have
reached (R229), with EPOCH every one (R400). -/
def State.markAt (s : State) (p : Source × Nat × Nat × Nat × Nat) (beat : Nat) (ovr epoch : Bool) : State :=
  let (x, m, _, _, _) := p
  match s.firstRow x beat with
  | none => s
  | some r0 =>
    let ofs := match x.group with | some g => memberOfs g m | none => 0
    (List.range x.height).foldl (fun s l =>
      let row := r0 + l + ofs
      let inf := s.rowInfo x row
      if !s.inRing x row then s
      else s.setRow x { inf with
        ovr := if ovr && !inf.has m then setBit m true inf.ovr else inf.ovr
        epoch := if epoch then setBit m true inf.epoch else inf.epoch }) s

/-- Mark the rows of a stream's closed frame. -/
def State.markRows (s : State) (i beat : Nat) (ovr epoch : Bool) : State :=
  (s.targets i).foldl (fun s p => s.markAt p beat ovr epoch) s

/-- Forget the rows of a ring that meet `p`. -/
def State.clearRows (s : State) (ring : Nat) (p : RowInfo → Bool) : State :=
  { s with align := { s.align with rows := s.align.rows.filter fun e =>
    !(e.1 / 4294967296 == ring && (match e.2 with | some i => p i | none => true)) } }

/-- A dropped tempo event clears the rows from G upward of every group (R228), which then primes. -/
def State.dropRows (s : State) : State :=
  (s.elems 0x000C).foldl (fun s g =>
    let r := Tab.get 0 s.align.rowCounter g.id
    let t := s.clearRows g.id fun i => decide (r ≤ i.row)
    { t with align := { t.align with priming := Tab.set 0 t.align.priming g.id r } }) s

/-- PRIMING of a group in the beat whose first row is `r` (R228). -/
def State.primes (s : State) (g : Elem) (r : Nat) : Bool :=
  let p := Tab.get 0 s.align.priming g.id
  decide (p ≤ r) && decide (r < p + maxOfs g)

/-- At a barline that opens a beat: each group takes G_N and advances G, unless the beat is idle (R224): an idle beat owns no
row that could await a member (R228). Answers the rows taken. -/
def State.advanceRows (s : State) (idle : Bool) : State × Tab Nat :=
  if idle then ((s.elems 0x000C).foldl (fun s g => s.wrF .GRP_STATUS g.id 18 18 0) s, [])
  else (s.elems 0x000C).foldl (fun a g =>
    let r := Tab.get 0 a.1.align.rowCounter g.id
    let t := { a.1 with align := { a.1.align with rowCounter := Tab.set 0 a.1.align.rowCounter g.id (r + a.1.groupH g) } }
    (t.wrF .GRP_STATUS g.id 18 18 (b2n (t.primes g r)), Tab.set 0 a.2 g.id r)) (s, [])

/-! ### Group judgement (R230, R231) -/

/-- The filled segments of a beat in a group: for each member, its number of filled rows. -/
def State.groupFill (s : State) (x : Source) (r0 : Nat) : List Nat :=
  (s.segments x).map fun g => ((List.range x.height).filter fun l => !(s.rowInfo x (r0 + l)).has g.1).length

/-- Does a LOCKSTEP group drop a beat with fill? While the tie link is split, at the beat's barline or now, it behaves as
HOLD (R233, R328). -/
def State.lockstep (s : State) (g : Elem) (beat : Nat) : Bool :=
  g.u8 9 == 1 && !(s.tieSplit || match s.beatRec beat with | some b => b.split | none => false)

/-- Judge a group for a beat, once, at its first cut: LASTMASK, the fill counters, and the LOCKSTEP decision. -/
def State.judgeGroup (s : State) (x : Source) (g : Elem) (beat : Nat) : State :=
  if s.align.judged.any fun j => j.1 == g.id && j.2.1 == beat then s
  else match s.firstRow x beat with
    | none => s
    | some r0 =>
      let fills := s.groupFill x r0
      let n := sumN fills
      let mask := sumN ((List.range fills.length).map fun k => if (fills[k]?).getD 0 = 0 then 2 ^ k else 0)
      let drop := decide (0 < n) && s.lockstep g beat
      let s1 := (s.wrF .GRP_STATUS g.id 15 0 mask).addF .GRP_FILL_SEG g.id 31 0 n
      let s2 := if 0 < n then (s1.setB .GRP_STATUS g.id 16).bump .GRP_PART_CNT g.id else s1
      let s3 := if drop then (s2.setB .GRP_STATUS g.id 17).bump .GRP_DROP_CNT g.id else s2
      { s3 with align := { s3.align with judged := s3.align.judged ++ [(g.id, beat, drop)] } }

/-- Is a beat of a group dropped? -/
def State.groupDropped (s : State) (g beat : Nat) : Bool := s.align.judged.any fun j => j == (g, beat, true)

/-! ### Cuts (R234 to R239) -/

/-- X, Y, W, H of a WINDOW record. -/
def winX (w : Elem) : Nat := w.u16 12
/-- Y. -/
def winY (w : Elem) : Nat := w.u16 14
/-- W. -/
def winW (w : Elem) : Nat := w.u16 16
/-- H. -/
def winH (w : Elem) : Nat := w.u16 18
/-- PRODUCT. -/
def winProduct (w : Elem) : Nat := w.u8 20

/-- The source of a window. -/
def State.winSource (s : State) (w : Elem) : Option Source := s.source (w.u8 8) (w.u16 10)

/-- The windows of a product, in ascending ID (R61, R236). -/
def State.productWins (s : State) (voice product : Nat) : List Elem :=
  (s.elems 0x000D).filter fun w => w.voice == voice && winProduct w == product

/-- Fill bytes of `n` pixels (R228, R229). -/
def fillBytes (x : Source) (n : Nat) : List Byte :=
  let bytes := n * pixBytes x.fmt
  match x.group with
  | none => zeros bytes
  | some g =>
    if x.fmt = 1 ∨ x.fmt = 3 ∨ x.fmt = 0x80 then List.replicate bytes (BitVec.ofNat 8 (g.u16 10))
    else (List.range (bytes / 2)).flatMap fun _ => toLe 2 (g.u16 10)

/-- The columns `[c, c + n)` of a segment that lie in `[x, x + w)`: first column and count. -/
def clip (c n x w : Nat) : Nat × Nat :=
  let a := max c x
  let b := min (c + n) (x + w)
  (a, b - a)

/-- The bytes of a window's row: stored columns, and fill for members that did not place it. `uncut` fills the whole
row. -/
def State.cutRow (s : State) (x : Source) (w : Elem) (row : Nat) (uncut : Bool) : List Byte :=
  let inf := s.rowInfo x row
  let n := pixBytes x.fmt
  (s.segments x).flatMap fun g =>
    let (c, k) := clip g.2.1 g.2.2 (winX w) (winW w)
    if !uncut && inf.has g.1 then s.readPhys (x.rowAddr row + c * n) (k * n) else fillBytes x k

/-- What marks a window's rows: members with fill in its columns, with fill and OVR, with EPOCH; as masks. -/
def State.winFill (s : State) (x : Source) (w : Elem) (r0 : Nat) : Nat × Nat × Nat :=
  (s.segments x).foldl (fun a g =>
    let (_, k) := clip g.2.1 g.2.2 (winX w) (winW w)
    if k = 0 then a
    else (List.range (winH w)).foldl (fun a l =>
      let inf := s.rowInfo x (r0 + winY w + l)
      let ep := if bit g.1 inf.epoch then setBit g.1 true a.2.2 else a.2.2
      if inf.has g.1 then (a.1, a.2.1, ep)
      else (setBit g.1 true a.1, if bit g.1 inf.ovr then setBit g.1 true a.2.1 else a.2.1, ep)) a) (0, 0, 0)

/-- The placement that supplies a window's stamp and generation (R239). -/
def State.supplier (s : State) (x : Source) (row : Nat) : Option RowMember :=
  let inf := s.rowInfo x row
  let ref := match x.group with
    | some g => (List.range (groupMembers g)).find? fun k => !isPartner g k && memberOfs g k == 0
    | none => some 0
  match inf.placed.find? fun p => some p.member == ref with
  | some p => some p
  | none => (sortBy (·.member) inf.placed).head?

/-- The tag flags that the capture beat and its voice give every part (Table 9.2): OLDGEN, SPLIT, REFSUS, CLAMP,
PROCSUS. -/
def State.beatFlags (s : State) (voice beat : Nat) : Nat :=
  (if s.oldgen voice beat then 4 else 0) + match s.beatRec beat with
    | some b => (if b.split then 8 else 0) + (if b.refSuspect then 16 else 0) + (if b.clamped then 32 else 0)
        + (if b.procSus.any (fun v => v == 0 || v == voice) then 64 else 0)
    | none => 0

/-- PAY_LEN of a window. -/
def State.payLen (s : State) (w : Elem) : Nat :=
  match s.winSource w with
  | some x => winW w * winH w * pixBytes x.fmt
  | none => 0

/-- Length of a part: its tag and its padded payload (R236). -/
def State.partLen (s : State) (w : Elem) : Nat := 64 + roundUp (s.payLen w) 64

/-- Bytes that a cut reads from the ring (R227). -/
def State.ringBytes (s : State) (w : Elem) (x : Source) (r0 : Nat) : Nat :=
  sumN ((List.range (winH w)).map fun l => sumN ((s.segments x).map fun g =>
    if (s.rowInfo x (r0 + winY w + l)).has g.1 then (clip g.2.1 g.2.2 (winX w) (winW w)).2 * pixBytes x.fmt else 0))

/-- Build a part: tag and payload (R235 to R239). `uncut`: the deadline came first, and every line is fill. -/
def State.buildPart (s : State) (w : Elem) (x : Source) (beat r0 : Nat) (uncut : Bool) : Part :=
  let (fill, ovr, ep) := s.winFill x w r0
  let wins := s.productWins w.voice (winProduct w)
  let idx := (findIdx? (fun y => y.id == w.id) wins).getD 0
  let nm := match x.group with | some g => groupMembers g | none => 1
  let inter := (s.segments x).filter fun g => 0 < (clip g.2.1 g.2.2 (winX w) (winW w)).2
  let fillM := if uncut then sumN (inter.map fun g => 2 ^ g.1) else fill
  let flags := (if ovr ≠ 0 ∨ uncut then 1 else 0) + (if fillM ≠ 0 then 2 else 0) + s.beatFlags w.voice beat
    + (if ep ≠ 0 then 128 else 0)
  let rec_ := s.beatRec beat
  let sup := s.supplier x (r0 + winY w)
  let cap : Stamp := match sup, rec_ with | some p, _ => p.stamp | none, some b => b.time | none, none => ⟨0, 0⟩
  let pay := (List.range (winH w)).flatMap fun l => s.cutRow x w (r0 + winY w + l) uncut
  let tag := toLe 2 0x5359 ++ [1, 64] ++ toLe 2 w.voice
    ++ toLe 2 (w.u16 10 % 256 + (if x.group.isSome then 32768 else 0))
    ++ [BitVec.ofNat 8 (idx + 16 * (wins.length - 1)), BitVec.ofNat 8 x.fmt] ++ toLe 2 flags
    ++ toLe 4 ((rec_.map (·.gen)).getD 0) ++ toLe 8 beat ++ toLe 8 cap.sec ++ toLe 4 cap.ns
    ++ toLe 4 ((rec_.map (·.encReq)).getD 0) ++ toLe 4 ((rec_.map (·.encAct)).getD 0)
    ++ toLe 2 ((sup.map (·.setgen)).getD 0) ++ toLe 2 (2 ^ nm - 1 - fillM)
    ++ toLe 2 (winW w) ++ toLe 2 (winH w) ++ toLe 4 pay.length ++ toLe 4 (crc32c pay)
    ++ toLe 4 (if (s.elems 0x0013).isEmpty then 0xFFFFFFFF else (rec_.map (·.seq)).getD 0xFFFFFFFF)
  ⟨w.id, tag ++ pay ++ zeros (roundUp pay.length 64 - pay.length), flags⟩

/-- The device address of a product's slot for a beat (R227): its two slots take turns. -/
def State.slotAddr (s : State) (voice product beat : Nat) : Nat :=
  match s.area 2 voice (2 * product + s.ordinal beat % 2) with
  | some a => a.base
  | none => 0

/-- Where a window's part lies within its product. -/
def State.partOfs (s : State) (w : Elem) : Nat :=
  sumN (((s.productWins w.voice (winProduct w)).takeWhile fun y => y.id != w.id).map fun y => s.partLen y)

/-- Bytes of a whole product (R236). -/
def State.productLen (s : State) (voice product : Nat) : Nat :=
  sumN ((s.productWins voice product).map fun w => s.partLen w)

/-- A product of a beat under assembly. -/
def State.productAt (s : State) (voice product beat : Nat) : Product :=
  (s.align.products.find? fun p => p.voice == voice && p.product == product && p.beat == beat).getD
    ⟨voice, product, beat, [], false⟩

/-- Put a product under assembly. -/
def State.setProduct (s : State) (p : Product) : State :=
  { s with align := { s.align with products :=
    (s.align.products.filter fun q => !(q.voice == p.voice && q.product == p.product && q.beat == p.beat)) ++ [p] } }

/-- Cut a window for a beat into its product's slot (R235): a dropped group gives no part, and its product is
dropped. -/
def State.cutWindow (s : State) (w : Elem) (beat : Nat) (uncut : Bool) : State :=
  match s.winSource w with
  | none => s
  | some x =>
    let s1 := match x.group with | some g => s.judgeGroup x g beat | none => s
    let p := s1.productAt w.voice (winProduct w) beat
    let dropped := match x.group with | some g => s1.groupDropped g.id beat | none => false
    if dropped then s1.setProduct { p with dropped := true, parts := p.parts ++ [⟨w.id, [], 0⟩] }
    else match s1.firstRow x beat with
      | none => s1
      | some r0 =>
        let part := s1.buildPart w x beat r0 uncut
        let s2 := if bit 1 part.flags then s1.bump .WIN_PART_CNT w.id else s1
        ((s2.charge 0 0x20 ((if uncut then 0 else s2.ringBytes w x r0) + part.bytes.length)).writePhys (s2.slotAddr w.voice (winProduct w) beat + s2.partOfs w)
          part.bytes).setProduct { p with parts := p.parts ++ [part] }

/-- Has a window been cut for a beat? -/
def State.isCut (s : State) (w : Elem) (beat : Nat) : Bool :=
  (s.productAt w.voice (winProduct w) beat).parts.any fun p => p.window == w.id

/-- The beat whose windows are cut now: the one before the current beat, if it is not idle. -/
def State.cutBeat (s : State) : Option Nat :=
  match s.beat? with
  | none => none
  | some b => match s.tempo.beats.drop 1 with
    | p :: _ => if p.idle || b.num == 0 then none else some p.num
    | [] => none

/-- The windows to cut in their order: class, voice, product, window (R235). -/
def State.cutOrder (s : State) (beat : Nat) : List Elem :=
  sortBy (fun w => ((s.classOf w.voice * 1024 + w.voice) * 256 + winProduct w) * 1024 + w.id)
    ((s.elems 0x000D).filter fun w => !s.stopped w.voice beat)

/-! ### At a barline -/

/-- Count abandoned items of a voice at a barline (R38). -/
def State.countOvr (s : State) (v n : Nat) : State :=
  if n = 0 then s
  else
    let s1 := ((s.addF .VOICE_OVR_CNT v 15 0 n).addWrap .CLASS_OVR_CNT (s.classOf v) n)
    s1.addF .VW_OVR v 15 0 n

/-- The products of a beat that are complete and not dropped become items for delivery (R235, R231). -/
def State.productItems (s : State) (beat : Nat) : List Item :=
  (s.align.products.filter fun p => p.beat == beat && !p.dropped && !p.parts.isEmpty).map fun p =>
    ⟨p.product, p.voice, beat, s.productLen p.voice p.product, some (s.slotAddr p.voice p.product beat), []⟩

/-- Processing deadline of a beat: uncut windows complete as fill, and count as overruns; the rows of the beat are
finished and their bits cleared (R228, R235). Answers the voices with an unfinished product, each product once. -/
def State.finishProducts (s : State) (beat : Nat) : State × List Nat :=
  let idle := match s.beatRec beat with | some b => b.idle | none => true
  if idle then (s, [])
  else
    let late := (s.cutOrder beat).filter fun w => !s.isCut w beat
    let prods := late.foldl (fun a w => if a.contains (w.voice, winProduct w) then a else a ++ [(w.voice, winProduct w)]) []
    let s1 := late.foldl (fun s w => s.cutWindow w beat true) s
    let s2 := (s1.elems 0x000C).foldl (fun s g => match s.source 1 g.id with
      | some x => s.judgeGroup x g beat
      | none => s) s1
    (s2, prods.map (·.1))

/-- Clear the rows of a finished beat, and forget its products and judgements. -/
def State.clearBeat (s : State) (beat : Nat) : State :=
  let s1 := (s.elems 0x000C).foldl (fun s g =>
    match s.beatRec beat with
    | some b => if b.idle then s
      else s.clearRows g.id fun i => decide (i.row < Tab.get 0 b.rows g.id + s.groupH g)
    | none => s) s
  let s2 := (s1.elems 0x0008).foldl (fun s e =>
    s.clearRows (256 + e.id) fun i => decide (i.row < (s.ordinal beat + 1) * streamHeight e)) s1
  { s2 with align := { s2.align with
    products := s2.align.products.filter fun p => p.beat != beat
    judged := s2.align.judged.filter fun j => j.2.1 != beat } }

/-- LONG_PACKET_RECEIVE (R180 to R183): a long packet is checked and becomes the next line of its stream; a line of a
stream without a pipe goes to its ring at once (R234). -/
def execLongPacketReceive (k : LongPacket) (s : State) : Host.Outcome State Fault Refusal :=
  if !s.linkOn k.port k.link then .next s
  else
    let s1 := s.longPacket k
    let x := s1.port k.port
    let direct := x.buffer.filter fun l => (s1.pipeOf l.stream).isNone
    let s2 := s1.setPort k.port { x with buffer := x.buffer.filter fun l => (s1.pipeOf l.stream).isSome }
    .next (direct.foldl (fun s l =>
      let gen := (((s.strm l.stream).frames.find? fun f => f.beat == l.beat).map (·.setgen)).getD 0
      s.placeLine l.stream l.beat l.line l.bytes l.stamp gen) s2)

end Sys2Proof.Machine
end

