-- ==== Sys2Proof/Machine/Proc.lean ====
section
/-!
DEFINITION. Process channels, excitation outputs and encoders (ch. 14, R330 to R346; R391, R393).
-/

namespace Sys2Proof.Machine

/-! ### Channels and outputs -/

/-- A channel's record in effect. -/
def State.procElem (s : State) (c : Nat) : Option Elem := s.elem 0x0013 c

/-- A channel. -/
def State.procCh (s : State) (c : Nat) : ProcCh := Tab.get {} s.proc.ch c

/-- Set a channel. -/
def State.setProc (s : State) (c : Nat) (x : ProcCh) : State :=
  { s with proc := { s.proc with ch := Tab.set {} s.proc.ch c x } }

/-- EXC[2:0] of a record: the output it names; 7 none (Table 2.24). -/
def procOut (e : Elem) : Nat := e.u8 10 % 8
/-- EXC[3]: ratiometric. -/
def procRatio (e : Elem) : Bool := bit 3 (e.u8 10)
/-- BURNOUT. -/
def procBurn (e : Elem) : Nat := e.u8 12
/-- BO_MODE. -/
def procPulsed (e : Elem) : Bool := e.u8 13 == 1
/-- CFG of Table 14.2. -/
def procCfg (e : Elem) : Nat := e.u8 8 % 8 + e.u8 9 % 16 * 8 + b2n (procRatio e) * 128 + procOut e * 256

/-- CH_CFG of a declared channel (Table 14.3). -/
def procChCfg (e : Elem) : Nat :=
  procCfg e + e.u8 11 % 4 * 65536 + procBurn e % 4 * 262144 + e.u8 13 % 2 * 1048576 + 2097152 + e.voice * 4194304

/-- Channels whose record names an output. -/
def State.outChannels (s : State) (j : Nat) : List Elem := (s.elems 0x0013).filter fun e => procOut e == j

/-- Is an output in excitation fault (R334)? -/
def State.excFaulty (s : State) (j : Nat) : Bool := decide (s.rdF .EXC_STATUS j 15 14 ≠ 0)

/-- Does an output ramp (R333)? -/
def State.ramping (s : State) (j : Nat) : Bool := (Tab.get none s.proc.ramps j).isSome

/-- Start an output's 1 ms ramp. -/
def State.startRamp (s : State) (j : Nat) : State :=
  { s with proc := { s.proc with ramps := Tab.set none s.proc.ramps j (some (s.clock.elapsed + nsU 1000000)) } }

/-- The channels of an output discard their next three samples (R331). -/
def State.discardOut (s : State) (j : Nat) : State :=
  (s.outChannels j).foldl (fun s e => s.setProc e.id { s.procCh e.id with discard := 3 }) s

/-- An output is in excitation fault (R334). -/
def State.excFault (s : State) (j : Nat) (oc low : Bool) : State :=
  if (s.outChannels j).isEmpty ∨ (!oc ∧ !low) then s
  else ((s.wrF .EXC_STATUS j 15 14 (b2n oc + 2 * b2n low)).setB .EXC_STATUS j 16).vector0

/-- EXC_FAULT (R334). -/
def execExcFault (out : Nat) (overCurrent senseLow : Bool) (s : State) : Host.Outcome State Fault Refusal :=
  .next (if out < 4 ∧ s.domUp .PROC then s.excFault out overCurrent senseLow else s)

/-- A fault clears: the output ramps again (R333). -/
def State.excClear (s : State) (j : Nat) : State :=
  if !s.excFaulty j then s else ((s.wrF .EXC_STATUS j 15 14 0).startRamp j).discardOut j

/-- EXC_FAULT_CLEAR (R333): not while a process rail is missing (R391). -/
def execExcFaultClear (out : Nat) (s : State) : Host.Outcome State Fault Refusal :=
  .next (if out < 4 ∧ s.power.supply then s.excClear out else s)

/-- An output has its level (R333): V_s is within 0.1 % of EXC_MV in voltage mode, a free value else. -/
def State.settleOut (s : State) (out : Nat) : State :=
  let (u, t) := s.freeUse
  let mv := match (t.outChannels out).head? with
    | some e =>
      let m := e.u16 14
      if e.u8 11 = 0 then (clampI 0 8191 ((m : Int) + clampI (-(m / 1000 : Nat)) (m / 1000 : Nat) (Config.error u))).toNat
      else (Config.undefined u).toNat % 8192
    | none => 0
  t.wrF .EXC_STATUS out 12 0 mv

/-- EXC_RAMP_END (R333): the output has its level. -/
def execExcRampEnd (out : Nat) (s : State) : Host.Outcome State Fault Refusal :=
  match Tab.get none s.proc.ramps out with
  | none => .next s
  | some t =>
    let s1 := s.runTo t
    let s2 := { s1 with proc := { s1.proc with ramps := Tab.set none s1.proc.ramps out none } }
    .next ((s2.settleOut out).discardOut out)

/-- PROC_SUPPLY_LOSS (R391): a process rail is absent. -/
def execProcSupplyLoss (s : State) : Host.Outcome State Fault Refusal :=
  if !s.power.supply then .next s
  else
    let s1 := { s with power := { s.power with supply := false } }.clrB .PWR_STATUS 0 0
    .next ((List.range 4).foldl (fun s j => s.excFault j false true) s1)

/-- PROC_SUPPLY_RETURN (R391). -/
def execProcSupplyReturn (s : State) : Host.Outcome State Fault Refusal :=
  if s.power.supply then .next s
  else
    let s1 := { s with power := { s.power with supply := true } }.setB .PWR_STATUS 0 0
    .next ((List.range 4).foldl (fun s j => s.excClear j) s1)

/-- REF_MONITOR (R338): the next millisecond's comparison, in ppm. -/
def execRefMonitor (deviation : Word) (s : State) : Host.Outcome State Fault Refusal :=
  if !s.domUp .PROC then .next s
  else
    let s1 := s.runTo (s.proc.refAt + nsU 1000000)
    let s2 := { s1 with proc := { s1.proc with refAt := s1.clock.elapsed } }.wr .REF_DEV 0 deviation.toNat
    let bad := decide (5000 < (sext 32 deviation.toNat).natAbs)
    let was := s2.rdB .PROC_STATUS 0 0
    let s3 := s2.wrF .PROC_STATUS 0 0 0 (b2n bad)
    .next (if bad && !was then (s3.setB .PROC_STATUS 0 1).vector0 else s3)

/-! ### Samples (R330, R331, R335 to R337) -/

/-- The largest code. -/
def procTop : Int := 8388607

/-- OPEN follows; an entry to it is counted and reported (R337). -/
def State.setOpen (s : State) (c : Nat) (x : ProcCh) (now : Bool) : State :=
  let s1 := s.setProc c { x with opened := now }
  if now && !x.opened then ((s1.bump .CH_OPEN_CNT c).setB .CH_FLAGS c 8).vector0 else s1

/-- A sample of a pulsed check (R336): the fourth decides OPEN, and three more are discarded. -/
def State.checkSample (s : State) (c : Nat) (x : ProcCh) (code : Int) : State :=
  if x.check = 1 then s.setOpen c { x with check := 0, discard := 3 } (decide (code = procTop))
  else s.setProc c { x with check := x.check - 1, discard := x.discard - 1 }

/-- Continuous burn-out detection (R335): OPEN after four samples in a row at the limit. -/
def State.watchOpen (s : State) (c : Nat) (e : Elem) (code : Int) : State :=
  let x := s.procCh c
  let n := if code = procTop then x.high + 1 else 0
  let y := { x with high := n }
  if procBurn e = 0 ∨ procPulsed e then s.setProc c y else s.setOpen c y (decide (4 ≤ n) || (x.opened && decide (0 < n)))

/-- Keep a sample (R339). -/
def State.keepSample (s : State) (c : Nat) (e : Elem) (code : Int) : State :=
  let x := s.procCh c
  let fl := (if code = procTop ∨ code = -8388608 then 4 else 0)
    + (if !procRatio e && s.rdB .PROC_STATUS 0 0 then 16 else 0) + (if s.excFaulty (procOut e) then 32 else 0)
  s.setProc c { x with
    count := x.count + 1
    sum := x.sum + code
    min := if x.count = 0 then code else min x.min code
    max := if x.count = 0 then code else max x.max code
    last := code
    flags := x.flags ||| fl }

/-- PROC_SAMPLE (R330, R331): a conversion completes. While PLL_MOD is not locked every sample is discarded (R393). -/
def execProcSample (ch : Nat) (code : Word) (s : State) : Host.Outcome State Fault Refusal :=
  match s.procElem ch with
  | none => .next s
  | some e =>
    if !s.power.supply || !s.domUp .PROC then .next s
    else
      let v := sext 24 code.toNat
      let s1 := (s.wr .CH_LAST ch (toBits 32 v)).watchOpen ch e v
      let x := s1.procCh ch
      .next (
        if 0 < x.check then s1.checkSample ch x v
        else if s1.ramping (procOut e) || !s1.rdB .CLK_STATUS 0 3 then s1
        else if 0 < x.discard then s1.setProc ch { x with discard := x.discard - 1 }
        else s1.keepSample ch e v)

/-! ### The aggregate (R339 to R344) -/

/-- A channel's closed aggregate: MEAN, MIN, MAX, COUNT, LAST, CFLAGS. -/
def State.aggregate (s : State) (e : Elem) : Int × Int × Int × Nat × Int × Nat :=
  let x := s.procCh e.id
  let n := x.count
  let fl0 := x.flags ||| (if x.opened then 8 else 0) ||| (if s.excFaulty (procOut e) then 32 else 0)
  let fl := 1 + (if n = 0 then 2 else 0) + fl0 + (if x.checked then 64 else 0) + (if fl0 &&& 56 ≠ 0 then 128 else 0)
  if n = 0 then (x.last, x.last, x.last, 0, x.last, fl)
  else ((x.sum + (n / 2 : Nat)) / n, x.min, x.max, n, x.last, fl)

/-- A channel's entry of a slot (Table 14.2). -/
def State.aggBytes (s : State) (e : Elem) : List Byte :=
  let (mean, lo, hi, n, last, fl) := s.aggregate e
  toLe 4 (toBits 32 mean) ++ toLe 4 (toBits 32 lo) ++ toLe 4 (toBits 32 hi) ++ toLe 4 n ++ toLe 4 (toBits 32 last)
    ++ toLe 2 fl ++ toLe 2 (procCfg e) ++ zeros 8

/-- Does a segue that names a voice commit at the barline that comes now (R83)? -/
def State.commitsNow (s : State) (v : Nat) : Bool :=
  s.load.armed.isNone && !s.power.asked && match s.load.pend with
    | some c => decide (c.commit ≤ s.rd .BEAT_NUM 0) && c.secs.any fun x => x.kind == 2 && x.voice == v
    | none => false

/-- The slot of a voice for a closed beat (R343, Tables 14.1 and 14.2). The last one before a segue's commit carries OLDGEN
(R344). -/
def State.slotBytes (s : State) (v : Nat) (b : BeatRec) (period : Nat) : List Byte :=
  let mine := (s.elems 0x0013).filter fun e => e.voice == v
  let ents := (List.range 16).flatMap fun c => match mine.find? fun e => e.id == c with
    | some e => s.aggBytes e
    | none => zeros 32
  let mask := sumN (mine.map fun e => 2 ^ e.id)
  let sus := mine.any fun e => bit 7 (s.aggregate e).2.2.2.2.2
  toLe 2 0x5250 ++ [1, 0] ++ toLe 2 v ++ toLe 2 mask ++ toLe 4 b.seq ++ toLe 2 (b2n sus + 2 * b2n (s.oldgen v b.num || s.commitsNow v))
    ++ toLe 2 0 ++ toLe 8 b.num ++ toLe 8 b.time.sec ++ toLe 4 b.time.ns ++ toLe 4 period ++ toLe 4 b.pos
    ++ toLe 4 s.tempoEnc ++ zeros 12 ++ toLe 4 (crc32c ents) ++ ents ++ zeros 448

/-- Write a voice's slot into its ring (R342, R343); a write that meets a bus error, on the host link or at LPDDR5, is dropped
(log entry 107). -/
def State.writeSlot (s : State) (v : Nat) (b : BeatRec) (period : Nat) : State :=
  match s.area 3 v 0 with
  | none => s
  | some a =>
    let pa := a.base + 1024 * (b.seq % 64)
    let (n, t) := s.freeUse
    if s.deadAddr pa || (s.region pa == .lpddr && Config.interfaceError n) then t.bump .PROC_WR_ERR 0
    else t.writePhys pa (s.slotBytes v b period)

/-- Voices that declare a channel, ascending. -/
def State.procVoices (s : State) : List Nat := sortBy id ((s.elems 0x0013).map (·.voice)).eraseDups

/-- The registers of a channel's closed aggregate, and its start anew. -/
def State.closeChannel (s : State) (e : Elem) : State :=
  let (mean, lo, hi, n, _, fl) := s.aggregate e
  let s1 := (((s.wr .CH_MEAN e.id (toBits 32 mean)).wr .CH_MIN e.id (toBits 32 lo)).wr .CH_MAX e.id (toBits 32 hi))
  let s2 := (s1.wr .CH_COUNT e.id n).wrF .CH_FLAGS e.id 7 0 fl
  s2.setProc e.id { s2.procCh e.id with
    count := 0
    sum := 0
    min := 0
    max := 0
    flags := 0
    checked := false }

/-- Close the aggregates of the beat a barline ends (R339 to R343). Answers the voices with a suspect channel. -/
def State.closeAggregates (s : State) (b : BeatRec) (period : Nat) : State × List Nat :=
  let es := s.elems 0x0013
  if es.isEmpty then (s.wr .AGG_SEQ 0 b.seq, [])
  else
    let sus := (es.filter fun e => bit 7 (s.aggregate e).2.2.2.2.2).map (·.voice)
    let s1 := s.procVoices.foldl (fun s v => s.writeSlot v b period) s
    (es.foldl (fun s e => s.closeChannel e) (s1.wr .AGG_SEQ 0 b.seq), sus.eraseDups)

/-- SEQ after `n` (R340). -/
def nextAgg (n : Nat) : Nat := if 0xFFFFFFFE ≤ n then 0 else n + 1

/-- A beat with SEQ `n` opens: pulsed checks start where it is a multiple of 16 (R336). One that still runs goes on (ch. 14,
Corners). -/
def State.startChecks (s : State) (n : Nat) : State :=
  if n % 16 ≠ 0 then s
  else (s.elems 0x0013).foldl (fun s e =>
    if procPulsed e && procBurn e != 0 && (s.procCh e.id).check == 0 then s.setProc e.id { s.procCh e.id with check := 4, checked := true } else s) s

/-! ### Handover (R331, R333, R344) -/

/-- A channel's record comes into effect. -/
def State.procStart (s : State) (e : Elem) : State :=
  (s.setProc e.id { last := (s.procCh e.id).last, discard := 3 }).wr .PROC_CH_CFG e.id (procChCfg e)

/-- A channel's record goes; its last kept code stays (R339). -/
def State.procStop (s : State) (c : Nat) : State := (s.setProc c { last := (s.procCh c).last }).wr .PROC_CH_CFG c 0

/-- Outputs named now, each with its mode and level: IEXC and EXC_MV, which the records that name it share (R64). -/
def State.outsNamed (s : State) : List (Nat × Nat × Nat) :=
  (List.range 4).filterMap fun j => (s.outChannels j).head?.map fun e => (j, e.u8 11, e.u16 14)

/-- Outputs turn on and off with the records that name them (R333); `was` are the outputs named before. One that stays on
takes a new level at once, since R333 has it ramp only where it turns on (DESIGN CHOICE, log entry 106). -/
def State.excFollow (s : State) (was : List (Nat × Nat × Nat)) : State :=
  (List.range 4).foldl (fun s j =>
    let now := s.outsNamed.find? fun x => x.1 == j
    let old := was.find? fun x => x.1 == j
    if now.isSome && old.isNone then
      let s1 := (s.setB .EXC_STATUS j 13).startRamp j
      if s1.power.supply then s1 else s1.excFault j false true
    else if now.isNone && old.isSome then
      let s1 := s.wrF .EXC_STATUS j 15 0 0
      { s1 with proc := { s1.proc with ramps := Tab.set none s1.proc.ramps j none } }
    else if now != old && !s.ramping j && !s.excFaulty j then s.settleOut j
    else s) s

/-! ### PLL_MOD (R393) -/

/-- PLL_MOD_UNLOCK: every channel discards its samples. -/
def execPllModUnlock (s : State) : Host.Outcome State Fault Refusal :=
  if !s.domUp .FABRIC then .next s
  else .next (((s.clrB .CLK_STATUS 0 3).setB .CLK_STATUS 0 8).vector0)

/-- PLL_MOD_RELOCK: samples are discarded for 3 more sample periods. -/
def execPllModRelock (s : State) : Host.Outcome State Fault Refusal :=
  if s.rdB .CLK_STATUS 0 3 || !s.domUp .FABRIC then .next s
  else
    let s1 := s.setB .CLK_STATUS 0 3
    .next ((s1.elems 0x0013).foldl (fun s e =>
      s.setProc e.id { s.procCh e.id with discard := max 3 (s.procCh e.id).discard }) s1)

/-! ### Encoders (R345, R346) -/

/-- An encoder's accepted levels. The spec gives none at reset: low (DESIGN CHOICE, log entry 83). -/
def State.encLevels (s : State) (k : Nat) : Enc := Tab.get {} s.proc.enc k

/-- Place of levels in the quadrature cycle when A leads B. -/
def quadrature (a b : Bool) : Nat := if a then (if b then 2 else 1) else (if b then 3 else 0)

/-- Accepted levels of A and B: a change of one counts, a change of both is illegal (R345). -/
def State.encCount (s : State) (k : Nat) (a b : Bool) : State :=
  let x := s.encLevels k
  let s1 := { s with proc := { s.proc with enc := Tab.set {} s.proc.enc k ⟨a, b⟩ } }
  let step := (quadrature a b + 4 - quadrature x.a x.b) % 4
  if step = 0 then s1
  else if step = 2 then s1.bump .ENC_ERR_CNT k
  else
    let up := decide (step = 1) != s1.rdB .ENC_CFG k 8
    s1.wr .ENC_POS k ((s1.rd .ENC_POS k + (if up then 1 else 2 ^ 32 - 1)) % 2 ^ 32)

/-- Does an encoder accept a level that `held` samples have read: more than FILT of them (R345, R457)? -/
def State.encAccepts (s : State) (k held : Nat) : Bool := decide (s.rdF .ENC_CFG k 7 0 < held)

/-- ENCODER_INDEX (R346): Z reads high for some TCLK samples. -/
def execEncoderIndex (z : IndexLevel) (s : State) : Host.Outcome State Fault Refusal :=
  if z.k < 4 ∧ s.encAccepts z.k z.held ∧ s.domUp .PROC ∧ s.pinsSeen ∧ s.rdB .ENC_CFG z.k 9 then
    .next ((s.wr .ENC_ZPOS z.k (s.rd .ENC_POS z.k)).bump .ENC_Z_CNT z.k)
  else .next s

/-- ENC_CFG_WRITE (R345). -/
def execEncCfgWrite (p : Path) (k : Nat) (v : Word) (s : State) : Host.Outcome State Fault Refusal :=
  .next (if k < 4 ∧ s.regOpen p .PROC then s.fieldWrite .ENC_CFG k v.toNat else s)

end Sys2Proof.Machine
end

