-- ==== Sys2Proof/Machine/Stats.lean ====
section
/-!
DEFINITION. The statistics units and the flicker estimator (ch. 10, R240 to R252).
-/

namespace Sys2Proof.Machine

/-! ### Sines (R246, R247) -/

/-- The scale of the fixed-point circle. -/
def circ : Nat := 2 ^ 60

/-- cos of half an angle, from the cos of the angle. -/
def cosHalf (c : Nat) : Nat := isqrt ((circ + c) * circ / 2)

/-- cos of a quarter turn halved `k` times. -/
def cosStep : Nat → Nat
  | 0 => 0
  | k + 1 => cosHalf (cosStep k)

/-- sin of the same angle. -/
def sinStep (k : Nat) : Nat := isqrt (circ * circ - cosStep k * cosStep k)

/-- Rotate a vector by an angle given by its cos and sin. -/
def rotate (c s : Int) (v : Int × Int) : Int × Int :=
  ((v.1 * c - v.2 * s) / (circ : Int), (v.1 * s + v.2 * c) / (circ : Int))

/-- The unit vector turned by `k` steps of an angle. -/
def turned (c s : Int) : Nat → Int × Int
  | 0 => ((circ : Int), 0)
  | k + 1 => rotate c s (turned c s k)

/-- C[k] and S[k] (R246): round(32,767 cos) and round(32,767 sin) of k of 1,024 steps. -/
def cosSin (k : Nat) : Int × Int :=
  let v := turned (cosStep 8) (sinStep 8) k
  (roundDiv (32767 * v.1) circ, roundDiv (32767 * v.2) circ)

/-- The angle of a vector in the first quadrant, in 2^-n of a quarter turn from step `k` on, by bisection. -/
def angleGo : Nat → Nat → Int × Int → Nat → Nat
  | 0, _, _, a => a
  | n + 1, k, v, a =>
    let w := rotate (cosStep k) (-(sinStep k : Int)) v
    if 0 ≤ w.2 then angleGo n (k + 1) w (2 * a + 1) else angleGo n (k + 1) v (2 * a)

/-- atan2(Q, I) in 2^-16 turn (R247), 0 where both are 0. -/
def phaseOf (i q : Int) : Nat :=
  if i = 0 ∧ q = 0 then 0
  else
    let (quad, x, y) : Nat × Int × Int :=
      if 0 < i ∧ 0 ≤ q then (0, i, q) else if i ≤ 0 ∧ 0 < q then (1, q, -i)
      else if i < 0 ∧ q ≤ 0 then (2, -i, -q) else (3, -q, i)
    (quad * 16384 + (angleGo 15 1 (x * circ, y * circ) 0 + 1) / 2) % 65536

/-! ### Accumulation (R242 to R244) -/

/-- The STATS record of a stream. -/
def State.statElem (s : State) (i : Nat) : Option Elem := s.elem 0x000E i

/-- The mean of R242: rounded with half the count. -/
def meanOf (sum n : Nat) : Nat := if n = 0 then 0 else (sum + n / 2) / n

/-- The zone of a coordinate among `k` zones of a length. -/
def zoneOf (k len x : Nat) : Nat := ((List.range k).filter fun i => decide (i * len / k ≤ x)).length - 1

/-- A stream's frame of a beat. -/
def State.frameOf (s : State) (i beat : Nat) : Option Frame := (s.strm i).frames.find? fun f => f.beat == beat

/-- The record under accumulation of a stream and beat. -/
def State.statAcc (s : State) (i beat : Nat) : StatAcc :=
  (s.stats.find? fun a => a.stream == i && a.beat == beat).getD
    (match s.frameOf i beat with
      | some f => ⟨i, beat, f.seq, f.setgen, true, [], [], [], [], 0, false⟩
      | none => ⟨i, beat, (s.strm i).seq, (s.strm i).gen, false, [], [], [], [], 0, false⟩)

/-- Put back a record under accumulation. -/
def State.setStat (s : State) (a : StatAcc) : State :=
  { s with stats := (s.stats.filter fun b => !(b.stream == a.stream && b.beat == a.beat)) ++ [a] }

/-- Add 1 to an entry, or `n`. -/
def Tab.plus (t : Tab Nat) (k n : Nat) : Tab Nat := Tab.set 0 t k (Tab.get 0 t k + n)

/-- A line's samples enter its unit (R223, R242 to R244). -/
def StatAcc.addLine (a : StatAcc) (sen width height y : Nat) (st : Stamp) (l : List Nat) : StatAcc :=
  let ps := List.zip (List.range l.length) l
  let zy := zoneOf 8 height y
  let key (x : Nat) : Nat := 4 * (16 * zy + zoneOf 16 width x) + 2 * (y % 2) + x % 2
  { a with
    hist := if bit 0 sen then l.foldl (fun h v => Tab.plus h (v / 256) 1) a.hist else a.hist
    zoneSum := if bit 1 sen then ps.foldl (fun z p => Tab.plus z (key p.1) p.2) a.zoneSum else a.zoneSum
    zoneCnt := if bit 1 sen then ps.foldl (fun z p => Tab.plus z (key p.1) 1) a.zoneCnt else a.zoneCnt
    rows := Tab.put y (min 0xFFFE (meanOf (sumN l) l.length), st) a.rows
    samples := a.samples + l.length }

/-- A line that a merge discards is missing for the unit of its stream (R211, R244). -/
def State.dropStat (s : State) (i beat y : Nat) : State :=
  match s.stats.find? fun a => a.stream == i && a.beat == beat with
  | some a => s.setStat { a with rows := Tab.erase y a.rows }
  | none => s

/-- At the end of a beat each unit binds its record: to the beat's frame, or to the last frame accepted (R250). -/
def State.bindStats (s : State) (beat : Nat) : State :=
  (s.elems 0x000E).foldl (fun (s : State) r => s.setStat (s.statAcc r.id beat)) s

/-- Pass a line to the unit of its stream, where there is one. -/
def State.statLine (s : State) (e : Elem) (beat y : Nat) (st : Stamp) (l : List Nat) : State :=
  match s.statElem e.id with
  | none => s
  | some r => s.setStat ((s.statAcc e.id beat).addLine (r.u8 8) (streamWidth e) (streamHeight e) y st l)

/-! ### The flicker estimator (R245 to R248) -/

/-- Frequency of an index in Q16.16 Hz (Table 10.1). -/
def flickerFreq (r : Elem) (k : Nat) : Nat :=
  if k < 4 then
    (if r.u8 9 = 1 then 100 * (k + 1) else if r.u8 9 = 2 then 120 * (k + 1) else 0) * 65536
  else r.u32 (12 + 4 * (k - 4))

/-- A stamp as nanoseconds. -/
def stampNs (t : Stamp) : Int := (t.sec * 1000000000 + t.ns : Nat)

/-- μ of a record (R244). -/
def StatAcc.mu (a : StatAcc) : Nat := meanOf (sumN (a.rows.map (·.2.1))) a.rows.length

/-- I and Q of a frequency (R246). -/
def StatAcc.iq (a : StatAcc) (t0 : Int) (freq : Nat) : Int × Int :=
  let m : Int := a.mu
  a.rows.foldl (fun acc r =>
    let d := stampNs r.2.2 - t0
    let th := ((freq : Int) * d * 65536 / 1000000000) % (2 ^ 32)
    let (c, s) := cosSin (th.toNat / 2 ^ 22)
    let w : Int := (r.2.1 : Int) - m
    (acc.1 + w * c, acc.2 + w * s)) (0, 0)

/-- A flicker entry's values: FREQ, AMP, PHASE, I, Q, FFL without LOCKED (Table 10.4). -/
structure Flicker where
  freq : Nat
  amp : Nat
  phase : Nat
  i : Int
  q : Int
  ffl : Nat
  deriving DecidableEq, Repr

/-- DET of an entry. -/
def Flicker.det (f : Flicker) : Bool := bit 1 f.ffl

/-- A value within one LSB of the exact one (R247): the error is a free value of -1, 0 or 1. -/
def offByOne (use : Nat) (x : Nat) : Int := (x : Int) + clampI (-1) 1 (Config.error use)

/-- The estimate at one index; `use` numbers its two free errors. -/
def StatAcc.flicker (a : StatAcc) (r : Elem) (t0 : Int) (use k : Nat) : Flicker :=
  let f := flickerFreq r k
  if f = 0 then ⟨0, 0, 0, 0, 0, 0⟩
  else
    let n := a.rows.length
    let span := match a.rows.head?, a.rows.getLast? with
      | some x, some y => stampNs y.2.2 - stampNs x.2.2
      | _, _ => 0
    let nyq := decide (0 < n) && decide (((n : Int) - 1) * 1000000000 * 65536 ≤ 2 * (f : Int) * span)
    if n < 16 then ⟨f, 0, 0, 0, 0, 1 + (if nyq then 4 else 0) + 16⟩
    else
      let (i, q) := a.iq t0 f
      let d := 32767 * n
      let exact := (isqrt (16 * (i * i + q * q).toNat) + d) / (2 * d)
      let amp := (clampI 0 65535 (offByOne use exact)).toNat
      let ph := if i = 0 ∧ q = 0 then 0 else (offByOne (use + 1) (phaseOf i q) % 65536).toNat
      ⟨f, amp, ph, i, q, 1 + (if max 64 (a.mu >>> 8) ≤ amp then 2 else 0) + (if nyq then 4 else 0)⟩

/-! ### The record (R250 to R252) -/

/-- REC_LEN (Table 10.2). -/
def recLen (sen height : Nat) : Nat :=
  64 + (if bit 0 sen then 1024 else 0) + (if bit 1 sen then 1024 else 0) + (if bit 3 sen then 256 else 0)
    + (if bit 2 sen then roundUp (2 * height) 64 else 0)

/-- An entry of the record, with LOCKED. -/
def Flicker.bytes (f : Flicker) (locked : Bool) : List Byte :=
  if f.freq = 0 then zeros 32
  else toLe 4 f.freq ++ toLe 2 f.amp ++ toLe 2 f.phase ++ toLe 8 (toBits 64 f.i) ++ toLe 8 (toBits 64 f.q)
    ++ toLe 8 (f.ffl + (if locked then 8 else 0))

/-- Record flags (Table 10.3). -/
def State.statFlags (s : State) (a : StatAcc) (e r : Elem) (ovr : Bool) : Nat :=
  let f := s.frameOf a.stream a.beat
  let b := s.beatRec a.beat
  (if ovr || (match f with | some f => f.atDeadline | none => false) then 1 else 0)
    + (if a.rows.length < streamHeight e then 2 else 0)
    + (if s.oldgen (r.u16 10) a.beat then 4 else 0)
    + (match b with | some b => (if b.refSuspect then 16 else 0) + (if b.clamped then 32 else 0) | none => 0)
    + (match f with | some f => if f.epoch then 128 else 0 | none => 0)
    + (if a.frame then 0 else 256)

/-- Complete a record (R250, R251): its bytes wait for delivery, the unit's registers follow, and a detected locked
frequency hands its cue a lock (R249). -/
def State.completeStat (s : State) (a : StatAcc) (e r : Elem) (ovr : Bool) : State :=
  let sen := r.u8 8
  let rec_ := s.beatRec a.beat
  let t0 := match rec_ with | some b => b.time | none => ⟨0, 0⟩
  let use := s.fresh
  let fl := if bit 3 sen then (List.range 8).map fun k => a.flicker r (stampNs t0) (use + 2 * k) k else []
  let idx := r.u8 29
  let lockHit := match fl[idx]? with | some f => r.u8 28 != 0xFF && f.det | none => false
  let h := streamHeight e
  let hist := if bit 0 sen then (List.range 256).flatMap fun k => toLe 4 (Tab.get 0 a.hist k) else []
  let zones := if bit 1 sen then (List.range 512).flatMap fun k =>
    toLe 2 (meanOf (Tab.get 0 a.zoneSum k) (Tab.get 0 a.zoneCnt k)) else []
  let flick := (List.zip (List.range 8) fl).flatMap fun p => p.2.bytes (lockHit && p.1 == idx)
  let rows := if bit 2 sen then
    ((List.range h).flatMap fun y => toLe 2 (Tab.get (0xFFFF, ⟨0, 0⟩) a.rows y).1) ++ zeros (roundUp (2 * h) 64 - 2 * h)
    else []
  let body := hist ++ zones ++ flick ++ rows
  let mu := a.mu
  let head := toLe 2 0x5453 ++ [1, BitVec.ofNat 8 sen] ++ toLe 2 (r.u16 10) ++ toLe 2 a.stream ++ toLe 2 a.fseq
    ++ toLe 2 a.setgen ++ toLe 4 ((rec_.map (·.gen)).getD 0) ++ toLe 8 a.beat ++ toLe 2 (s.statFlags a e r ovr)
    ++ toLe 2 a.rows.length ++ toLe 2 (streamWidth e) ++ toLe 2 h ++ toLe 8 t0.sec ++ toLe 4 t0.ns ++ toLe 2 mu
    ++ toLe 2 0 ++ toLe 4 (recLen sen h) ++ toLe 4 a.samples ++ toLe 4 (crc32c body) ++ toLe 4 0
  let s1 := { s with fresh := s.fresh + 16 }.setStat { a with computed := true }
  let i := a.stream
  let wasLocked := s1.rdB .STAT_STATUS i 8
  let det := sumN ((List.zip (List.range 8) fl).map fun p => if p.2.det then 2 ^ p.1 else 0)
  let s2 := (s1.wrF .STAT_STATUS i 7 0 det).wrF .STAT_STATUS i 8 8 (b2n lockHit)
  let s3 := if wasLocked && !lockHit then s2.setB .STAT_STATUS i 9 else s2
  let s4 := if a.frame then s3 else s3.setB .STAT_STATUS i 10
  let s5 := ((s4.wr .STAT_BEAT i a.beat).wr .STAT_MEAN i (mu + a.rows.length * 65536)).bump .STAT_REC_CNT i
  let s6 := match lockHit, fl[idx]? with
    | true, some f => { s5 with locks := s5.locks ++
        [Lock.mk (r.u8 28) f.freq (((stampNs t0).toNat + f.phase * 1000000000 / f.freq) * 65536) (s.ordinal a.beat + 2)] }
    | _, _ => s5
  { s6 with svc := { s6.svc with items := s6.svc.items ++
    [Item.mk (32768 + i) (r.u16 10) a.beat (recLen sen h) none (head ++ body)] } }

/-- Do lines of a stream's beat wait in its port? -/
def State.linesWait (s : State) (i beat : Nat) : Bool :=
  s.ports.any fun p => p.2.buffer.any fun l => l.stream == i && l.beat == beat

/-- May the record of a beat be computed now: its frame is closed and taken in, or none came and the beat is over? -/
def State.statReady (s : State) (i : Nat) (b : BeatRec) : Bool :=
  !b.idle && !(s.statAcc i b.num).computed && !s.linesWait i b.num &&
    (match s.frameOf i b.num with
      | some f => !f.isOpen
      | none => !(s.beat?.any fun c => c.num == b.num))

/-- The beats whose processing is not past, oldest first. -/
def State.liveBeats (s : State) : List BeatRec :=
  if s.tempo.isOpen then (s.tempo.beats.take 2).reverse else []

/-- STATS_RECORD_COMPUTE (R244 to R251): the unit of a stream completes the record of the oldest beat that is ready. -/
def execStatsRecordCompute (stream : Nat) (s : State) : Host.Outcome State Fault Refusal :=
  match s.statElem stream, s.elem 0x0008 stream, s.liveBeats.find? (s.statReady stream) with
  | some r, some e, some b => .next (s.completeStat (s.statAcc stream b.num) e r false)
  | _, _, _ => .next s

/-- Processing deadline of a beat (R252): records not complete are completed with OVR; then the beat's accumulators go. -/
def State.finishStats (s : State) (beat : Nat) : State :=
  let idle := match s.beatRec beat with | some b => b.idle | none => true
  let s1 := if idle then s else (s.elems 0x000E).foldl (fun s r =>
    match s.elem 0x0008 r.id with
    | some e =>
      let a := s.statAcc r.id beat
      if a.computed then s else s.completeStat a e r true
    | none => s) s
  { s1 with stats := s1.stats.filter fun a => a.beat != beat }

end Sys2Proof.Machine
end

