-- ==== Sys2Proof/Machine/Score.lean ====
section
/-!
DEFINITION. The score's format (ch. 02): header, directory, records, and the rules that one of them alone must meet
(admission checks 1 to 9 and 11).
-/

namespace Sys2Proof.Machine

/-! ### Status codes (Table 3.2) -/

/-- A failure with a code at an offset. -/
def failAt (code ofs : Nat) : Option Fail := some ⟨code, ofs, 0xFF⟩

/-- A check that gives a code and LOAD_FAIL_OFS 0. -/
def check (ok : Bool) (code : Nat) : Option Fail := if ok then none else failAt code 0

/-- The first failure of a list of checks (R73). -/
def firstFail (l : List (Option Fail)) : Option Fail := l.findSome? id

/-- Every byte of a field is zero. -/
def zeroAt (b : List Byte) (o n : Nat) : Bool := leAt b o n == 0

/-! ### Header (R40, R41) -/

/-- KIND is 1: a segue. -/
def hdrSegue (b : List Byte) : Bool := leAt b 0x0C 1 == 1
/-- FLAGS.SIGNED. -/
def hdrSigned (b : List Byte) : Bool := bit 0 (leAt b 0x0D 1)
/-- SECTIONS. -/
def hdrSections (b : List Byte) : Nat := leAt b 0x0E 2
/-- TOTAL_LEN. -/
def hdrTotal (b : List Byte) : Nat := leAt b 0x08 4
/-- PMIN_NS. -/
def hdrPmin (b : List Byte) : Nat := leAt b 0x20 4
/-- COMMIT_BEAT. -/
def hdrCommit (b : List Byte) : Nat := leAt b 0x18 8
/-- Where the directory ends. -/
def dirEnd (b : List Byte) : Nat := 64 + 16 * hdrSections b

/-- The header rules of check 5 that need no other state (Table 2.1). -/
def headerOk (b : List Byte) : Bool :=
  leAt b 0x06 2 == 64 && hdrTotal b % 4 == 0 && decide (dirEnd b ≤ hdrTotal b) && decide (leAt b 0x0C 1 ≤ 1) &&
    decide (leAt b 0x0D 1 ≤ 1) && decide (1 ≤ hdrSections b) && decide (hdrSections b ≤ 1025) && leAt b 0x10 4 == 64 &&
    (hdrSegue b || hdrCommit b == 0) && zeroAt b 0x28 20

/-! ### Directory (R44 to R46) -/

/-- The directory entries as sections, their records unread. -/
def dirSections (b : List Byte) : List Section :=
  (List.range (hdrSections b)).map fun k =>
    let o := 64 + 16 * k
    ⟨leAt b o 1, leAt b (o + 2) 2, bit 0 (leAt b (o + 1) 1), o, leAt b (o + 4) 4, leAt b (o + 8) 4, []⟩

/-- The order of directory entries: SYSTEM, voices ascending, SIGNATURE. -/
def Section.rank (x : Section) : Nat := if x.kind = 1 then 0 else if x.kind = 2 then x.voice else 2000

/-- One entry's own rules (Table 2.2). -/
def entryOk (b : List Byte) (segue : Bool) (x : Section) : Bool :=
  (x.kind == 1 || x.kind == 2 || x.kind == 0x0F) && decide (leAt b (x.dirOfs + 1) 1 ≤ 1) &&
    (if x.kind = 2 then decide (1 ≤ x.voice) && decide (x.voice ≤ 1023) else x.voice == 0) &&
    x.ofs % 4 == 0 && x.len % 4 == 0 && (x.kind != 0x0F || leAt b (x.dirOfs + 12) 4 == 0) &&
    (!x.remove || (segue && x.kind == 2 && x.ofs == 0 && x.len == 0 && leAt b (x.dirOfs + 12) 4 == 0))

/-- Is a list strictly rising? -/
def rising : List Nat → Bool
  | a :: b :: t => decide (a < b) && rising (b :: t)
  | _ => true

/-- Sections lie in order after `pos`, zero bytes between them, and the last one ends at `total` (R45). -/
def layoutOk (b : List Byte) (total : Nat) : Nat → List Section → Bool
  | pos, [] => pos == total
  | pos, x :: t => decide (pos ≤ x.ofs) && decide (x.ofs + x.len ≤ total) && zeroAt b pos (x.ofs - pos) &&
      layoutOk b total (x.ofs + x.len) t

/-- The directory rules of R45; `declared`: the live score declares the voice. -/
def directoryOk (b : List Byte) (declared : Nat → Bool) (l : List Section) : Bool :=
  let segue := hdrSegue b
  l.all (entryOk b segue) && rising (l.map Section.rank) && (l.any (fun x => x.kind == 1) == !segue) &&
    (!segue || l.any fun x => x.kind == 2) && (l.any (fun x => x.kind == 0x0F) == hdrSigned b) &&
    (l.all fun x => !x.remove || declared x.voice) &&
    layoutOk b (hdrTotal b) (dirEnd b) (l.filter fun x => !x.remove)

/-- The bytes of a section. -/
def sectionBytes (b : List Byte) (x : Section) : List Byte := (b.drop x.ofs).take x.len

/-! ### Records (R48 to R53) -/

/-- The length Table 2.4 gives a record; none for an unknown type. -/
def recordLen (typ : Nat) (r : List Byte) : Option Nat :=
  match typ with
  | 0x01 | 0x02 | 0x0E => some 32
  | 0x03 => some (16 + 16 * leAt r 8 1)
  | 0x04 | 0x06 | 0x07 | 0x13 => some 16
  | 0x05 | 0x0D | 0x10 | 0x12 | 0x1A => some 24
  | 0x08 | 0x14 => some 20
  | 0x09 => some 72
  | 0x0A => some (roundUp (12 + 2 * (2 ^ leAt r 8 1 + 1)) 4)
  | 0x0B => some (12 + 4 * leAt r 8 2)
  | 0x0C => some (16 + 8 * leAt r 8 1)
  | 0x0F => some 40
  | 0x11 | 0x18 => some 48
  | 0x15 => some 12
  | 0x16 => some (16 + 8 * leAt r 10 1)
  | 0x17 => some (12 + 8 * leAt r 8 2)
  | 0x19 => some (12 + 8 * leAt r 8 2)
  | _ => none

/-- May a record of this type stand in a section of this kind (Table 2.4)? -/
def typeInSection (typ kind : Nat) : Bool :=
  if kind = 1 then typ != 0x04 && decide (typ ≤ 0x1A)
  else typ == 0x04 || typ == 0x05 || typ == 0x0D || (decide (0x0F ≤ typ) && decide (typ ≤ 0x17))

/-- The highest ID of a type (Table 2.4). -/
def maxId (typ : Nat) : Nat :=
  match typ with
  | 0x03 | 0x0D => 1023
  | 0x05 | 0x09 | 0x13 | 0x15 => 15
  | 0x06 | 0x0A | 0x0C | 0x12 => 31
  | 0x07 | 0x10 => 127
  | 0x08 | 0x0B | 0x0E | 0x0F => 255
  | 0x11 => 2047
  | 0x14 => 7
  | 0x16 => 63
  | 0x18 => 1
  | 0x19 => 8191
  | _ => 0

/-- A value lies in a range. -/
def inR (lo hi n : Nat) : Bool := decide (lo ≤ n) && decide (n ≤ hi)

/-- Reserved bytes are zero. -/
def Elem.zero (e : Elem) (o n : Nat) : Bool := zeroAt e.raw o n

/-- A voice or device-physical address: bits [63:40] are zero (R53). -/
def Elem.addrOk (e : Elem) (o align : Nat) : Bool := decide (e.u64 o < 2 ^ 40) && e.u64 o % align == 0

/-- SYSTEM (Table 2.5, and what R277 says of this record alone). PTP_DOMAIN and PTP_PORT with PTP_ROLE 0 may hold any value of
their range: neither Table 2.5 nor ch. 12 calls them unused then (DESIGN CHOICE, log entry 109). -/
def systemOk (e : Elem) : Bool :=
  [1, 2, 4, 8, 16].contains (e.u8 8) && inR 0 1 (e.u8 9) && inR 0 2 (e.u8 10) && inR 0 2 (e.u8 11) && inR 0 127 (e.u8 12) &&
    inR 0 1 (e.u8 13) && inR 0 2 (e.u8 14) && e.zero 15 1 && inR 0 500 (e.u16 16) && e.zero 18 2 && e.zero 24 8 &&
    (e.u8 14 != 2 || (e.u8 10 != 0 && !(e.u8 10 == 2 && e.u8 11 == 0))) && (e.u8 14 != 1 || e.u8 11 == 1) &&
    !(e.u8 11 == 2 && e.u8 14 != 0)

/-- TEMPO (Table 2.6, R21, R24, R34), with the header's PMIN_NS (R41). -/
def tempoOk (pmin : Nat) (e : Elem) : Bool :=
  inR 0 4 (e.u8 8) && inR 0 3 (e.u8 9) && inR 0 3 (e.u8 10) && inR 0 3 (e.u8 11) && inR 0 31 (e.u8 12) && e.zero 13 3 &&
    inR 0 16777215 (e.u32 16) && (e.u8 8 != 1 || decide (16 ≤ e.u32 16)) && e.u32 20 % 16 == 0 &&
    inR 20000 2000000000 (e.u32 20) && e.u32 20 == pmin && inR (e.u32 20) 2000000000 (e.u32 24) &&
    (e.u8 8 != 0 || (decide (e.u32 20 ≤ e.u32 28) && e.u32 28 % 4 == 0))

/-- Two extents overlap. -/
def overlap (a b : Nat × Nat) : Bool := decide (a.1 < b.1 + b.2) && decide (b.1 < a.1 + a.2)

/-- The extents of a GRANT record. -/
def grantExtents (e : Elem) : List (Nat × Nat) :=
  (List.range (e.u8 8)).map fun k => (e.u64 (16 + 16 * k), e.u64 (24 + 16 * k))

/-- No two members of a list stand in a relation. -/
def noPair {α : Type} (p : α → α → Bool) : List α → Bool
  | [] => true
  | a :: t => (t.all fun b => !p a b) && noPair p t

/-- GRANT (Table 2.7, R54). -/
def grantOk (e : Elem) : Bool :=
  inR 1 8 (e.u8 8) && e.zero 9 7 &&
    ((List.range (e.u8 8)).all fun k => e.addrOk (16 + 16 * k) 65536 && e.u64 (24 + 16 * k) % 65536 == 0 &&
      decide (65536 ≤ e.u64 (24 + 16 * k))) && noPair overlap (grantExtents e)

/-- QUEUE (Table 2.9, R100). A queue 15 with TO_DEVICE 1 fails here, at check 11 and with its own offset, though R55 could
also be read as the absence of the queue it asks for, at check 12; MSIX may be set with TO_DEVICE 1 (DESIGN CHOICE, log
entry 109). -/
def queueOk (e : Elem) : Bool :=
  inR 4 16 (e.u8 8) && inR 0 3 (e.u8 9) && e.zero 10 6 && e.addrOk 16 (32 * 2 ^ e.u8 8) && (e.id != 15 || !bit 1 (e.u8 9))

/-- PORT (Table 2.10, R179). -/
def portOk (e : Elem) : Bool :=
  if e.u8 8 = 3 then e.zero 9 5 && e.u8 14 == 0xFF && e.u8 15 == 0
  else
    inR 0 2 (e.u8 8) && ((List.range 4).all fun l => (List.range 4).any fun k => fld (2 * k + 1) (2 * k) (e.u8 9) == l) &&
      inR 0 15 (e.u8 10) && inR 0 3 (e.u8 11) && inR 80 2500 (e.u16 12) && (inR 0 31 (e.u8 14) || e.u8 14 == 0xFF) &&
      inR 0 2 (e.u8 15) && (decide (e.u16 12 ≤ 1500) || bit 0 (e.u8 11))

/-- SENSOR (Table 2.11). -/
def sensorOk (e : Elem) : Bool :=
  inR 0x08 0x77 (e.u8 8) && inR 0 3 (e.u8 9) && inR 0 1023 (e.u16 10) && inR 1 2 (e.u8 12) && inR 1 4 (e.u8 13) && e.zero 14 2

/-- STREAM (Table 2.12). -/
def streamOk (e : Elem) : Bool :=
  let dt := e.u8 11
  let user := inR 0x30 0x37 dt
  inR 0 31 (e.u8 8) && inR 0 3 (e.u8 9) && inR 0 7 (e.u8 10) &&
    (dt == 0x12 || dt == 0x1E || dt == 0x24 || inR 0x2A 0x2E dt || user) && inR 16 16384 (e.u16 12) && decide (1 ≤ e.u16 14) &&
    (if e.u8 16 = 0xFF then dt == 0x12 || user else inR 0 15 (e.u8 16) && dt != 0x12) && e.zero 17 3

/-- Does OUTFMT select RAW16, so that demosaic and matrix are bypassed? -/
def pipeRaw16 (e : Elem) : Bool := e.u8 11 == 0

/-- PIPE (Table 2.13, and what R58 and R458 say of this record alone). -/
def pipeOk (e : Elem) : Bool :=
  let n := e.u8 8
  let m := e.u8 9
  let gm := e.u64 56 != 0
  inR 1 4 n && inR 1 3 m && decide (m ≤ n) && inR 0 4 (e.u8 10) && inR 0 4 (e.u8 11) &&
    ((List.range 4).all fun k => if k < n then decide (e.u16 (12 + 2 * k) ≤ 255) else e.u16 (12 + 2 * k) == 0xFFFF) &&
    (if m = 1 then e.u16 20 == 0x0800 else inR 0x0800 0x8000 (e.u16 20)) &&
    (if m < 3 then e.u16 22 == 0x0800 else inR 0x0800 0x8000 (e.u16 22)) &&
    decide (e.u16 20 * e.u16 22 ≤ 2 ^ 26) && e.zero 54 2 && (e.u64 56 == 2 ^ 64 - 1 || e.addrOk 56 8) &&
    (if gm then inR 2 257 (e.u16 64) && inR 2 257 (e.u16 66) && inR 4 10 (e.u8 68) else e.zero 64 5) && e.zero 69 3 &&
    (!pipeRaw16 e || (e.zero 36 18 && e.u16 34 == 0)) && (e.u8 10 != 4 || (e.u16 34 == 0 && (pipeRaw16 e || e.zero 38 16)))

/-- LUT (Table 2.14). -/
def lutOk (e : Elem) : Bool :=
  let used := 12 + 2 * (2 ^ e.u8 8 + 1)
  inR 4 12 (e.u8 8) && e.zero 9 3 && e.zero used (e.raw.length - used)

/-- A defect entry's place in the order of R59: Y, then X. -/
def defectKey (w : Nat) : Nat := fld 29 14 w * 65536 + fld 13 0 w

/-- DEFECTS (Table 2.15, R59). -/
def defectsOk (e : Elem) : Bool :=
  let l := (List.range (e.u16 8)).map fun k => e.u32 (12 + 4 * k)
  inR 1 4096 (e.u16 8) && e.zero 10 2 && rising (l.map defectKey) && l.all fun w =>
    let k := fld 31 30 w
    k != 3 && (k != 1 || fld 29 14 w == 0) && (k != 2 || fld 13 0 w == 0)

/-- GROUP (Table 2.16, R226). -/
def groupOk (e : Elem) : Bool :=
  inR 1 16 (e.u8 8) && inR 0 1 (e.u8 9) && e.zero 14 2 &&
    ((List.range (e.u8 8)).all fun k => fld 14 8 (e.u16 (16 + 8 * k)) == 0 && inR 0 4095 (e.u16 (18 + 8 * k))) &&
    (List.range (e.u8 8)).any fun k => !bit 15 (e.u16 (16 + 8 * k)) && e.u16 (18 + 8 * k) == 0

/-- WINDOW (Table 2.18). -/
def windowOk (e : Elem) : Bool :=
  inR 0 1 (e.u8 8) && e.zero 9 1 && inR 0 (if e.u8 8 = 0 then 255 else 31) (e.u16 10) && decide (1 ≤ e.u16 16) &&
    decide (1 ≤ e.u16 18) && e.zero 21 3

/-- STATS (Table 2.17, and what R240 says of this record alone). -/
def statsOk (e : Elem) : Bool :=
  let flicker := bit 3 (e.u8 8)
  inR 1 15 (e.u8 8) && (!flicker || bit 2 (e.u8 8)) && inR 0 2 (e.u8 9) && inR 0 1023 (e.u16 10) &&
    ((List.range 4).all fun k => decide (e.u32 (12 + 4 * k) ≤ 20000 * 65536)) && (flicker || (e.zero 9 1 && e.zero 12 16)) &&
    (inR 0 31 (e.u8 28) || e.u8 28 == 0xFF) && inR 0 7 (e.u8 29) && e.zero 30 2 &&
    (if e.u8 28 = 0xFF then e.u8 29 == 0 else flicker && flickerFreq e (e.u8 29) != 0)

/-- SERVICE (Tables 2.20 and 11.1, as far as the window does not enter). -/
def serviceOk (e : Elem) : Bool :=
  inR 0 1023 (e.u16 10) && e.zero 36 4 && match e.u8 8 with
    | 0 => inR 0 3 (e.u8 9) && e.addrOk 12 64 && e.addrOk 20 64 && decide (1 ≤ e.u32 28) && inR 1 4096 (e.u32 32)
    | 1 => inR 0 1 (e.u8 9) && e.addrOk 12 1 && e.zero 20 8 && inR 1 64 (e.u32 28) && inR 8 256 (e.u16 32) && inR 8 256 (e.u16 34)
    | 2 => e.zero 9 1 && e.addrOk 12 64 && e.zero 20 8 && inR 1 1024 (e.u32 28) && inR 1 10000 (e.u32 32)
    | _ => false

/-- The reserved bits of a source field (Table 2.19). -/
def sourceForm (n : Nat) : Bool := fld 13 8 n == 0

/-- DMA (Table 2.21, R169). -/
def dmaOk (e : Elem) : Bool :=
  let k := fld 15 14 (e.u16 12)
  inR 0 1 (e.u8 8) && inR 0 3 (e.u8 9) && inR 0 14 (e.u8 10) && inR 0 14 (e.u8 11) && sourceForm (e.u16 12) &&
    (inR 0 63 (e.u8 14) || (e.u8 14 == 0xFF && !bit 1 (e.u8 9))) && e.zero 15 1 && e.zero 21 3 &&
    (if e.u8 8 = 0 then e.u16 12 == 0xC000 && [0x20, 0x21, 0x22, 0x24].contains (e.u8 20)
     else k != 3 && e.u32 16 == 0 && e.u8 20 == 0)

/-- FLOW (Table 2.22): VLAN_TCI is unused without a tag (R53). -/
def flowOk (e : Elem) : Bool :=
  inR 0 1 (e.u8 8) && inR 0 6 (e.u8 9) && sourceForm (e.u16 10) && fld 15 14 (e.u16 10) != 3 &&
    (e.u8 16 == 4 || e.u8 16 == 6) && inR 0 1 (e.u8 17) && (e.u8 17 == 1 || e.zero 18 2) && (e.u8 16 != 4 || e.zero 24 12) &&
    (inR 0 2047 (e.u16 42) || e.u16 42 == 0xFFFF)

/-- CUE (Table 2.23, and what R292 says of this record alone). -/
def cueOk (kind : Nat) (e : Elem) : Bool :=
  inR 0 3 (e.u8 8) && inR 0 1 (e.u8 9) && e.zero 10 2 && e.u32 20 % 4 == 0 && decide (8 ≤ e.u32 20) &&
    (if e.u8 8 = 1 then inR 16 2000000000 (e.u32 16) && decide (e.u32 12 < e.u32 16) && decide (e.u32 20 + 8 ≤ e.u32 16)
     else e.u32 16 == 0) && (e.u8 8 != 3 || kind == 1)

/-- PROC (Table 2.24, R332). -/
def procOk (e : Elem) : Bool :=
  let x := e.u8 10 % 8
  inR 0 7 (e.u8 8) && inR 0 10 (e.u8 9) && inR 0 15 (e.u8 10) && inR 0 2 (e.u8 11) && inR 0 3 (e.u8 12) && inR 0 1 (e.u8 13) &&
    inR 0 5000 (e.u16 14) && (e.u8 11 == 0 || e.u16 14 == 0) && (decide (x ≤ 3) || x == 7) &&
    (x != 7 || (!bit 3 (e.u8 10) && e.u8 11 == 0 && e.u16 14 == 0)) &&
    !(bit 3 (e.u8 10) && decide (e.u16 14 < 500) && e.u8 11 == 0) && !(e.u8 13 == 1 && e.u8 12 == 0)

/-- SERIAL (Table 2.25, R65, R347). -/
def serialOk (e : Elem) : Bool :=
  let lin := decide (2 ≤ e.u8 13)
  inR 300 6250000 (e.u32 8) && inR 0 31 (e.u8 12) && e.u8 12 % 4 != 3 && e.u8 12 / 4 % 4 != 3 && inR 0 3 (e.u8 13) &&
    inR 0 1 (e.u8 14) && inR 0 2 (e.u8 15) && (!lin || e.u8 12 == 1) && (e.u8 13 == 1 || e.zero 16 4) &&
    (!lin || inR 1000 20000 (e.u32 8)) && (e.u8 15 != 2 || (decide (e.u32 8 ≤ 38400) && !lin))

/-- BUNDLE (Table 2.27). -/
def bundleOk (e : Elem) : Bool :=
  inR 0 127 (e.u16 8) && inR 1 64 (e.u8 10) && e.zero 11 1 && e.zero 14 2 &&
    (List.range (e.u8 10)).all fun k => e.zero (18 + 8 * k) 2

/-- An entry of a SLOTS record (Table 2.28). -/
structure SlotEntry where
  res : Nat
  slot : Bool
  start : Nat
  amount : Nat
  deriving DecidableEq, Repr

/-- The entries of a SLOTS record. -/
def slotEntries (e : Elem) : List SlotEntry :=
  (List.range (e.u16 8)).map fun k => ⟨e.u8 (12 + 8 * k), e.u8 (13 + 8 * k) == 1, e.u16 (14 + 8 * k), e.u32 (16 + 8 * k)⟩

/-- Is a resource code one of Table 2.29 for a section of this kind, and of the entry's own kind (R67)? -/
def SlotEntry.ok (kind : Nat) (x : SlotEntry) : Bool :=
  if x.slot then inR 0x10 0x16 x.res && decide (1 ≤ x.amount)
  else (if x.res ≤ 0x0F then kind == 1 else [0x20, 0x21, 0x22, 0x23, 0x24].contains x.res) && x.start == 0

/-- Two entries of one section that R67 forbids together. -/
def slotClash (a b : SlotEntry) : Bool :=
  a.res == b.res && a.slot == b.slot && (!a.slot || overlap (a.start, a.amount) (b.start, b.amount))

/-- SLOTS (Table 2.28, R67). -/
def slotsOk (kind : Nat) (e : Elem) : Bool :=
  let l := slotEntries e
  inR 1 1024 (e.u16 8) && e.zero 10 2 && ((List.range (e.u16 8)).all fun k => decide (e.u8 (13 + 8 * k) ≤ 1)) &&
    l.all (SlotEntry.ok kind) && noPair slotClash l

/-- NET (Table 2.30): the address of a version that is off is unused (R53). -/
def netOk (e : Elem) : Bool :=
  inR 0 1 (e.u8 8) && inR 0 2 (e.u8 9) && !(e.u8 9 == 1 && e.u8 8 == 1) && inR 1518 9216 (e.u16 10) && inR 0 32 (e.u8 24) &&
    inR 0 128 (e.u8 25) && e.zero 26 2 && (e.u8 24 != 0 || e.zero 20 4) && (e.u8 25 != 0 || e.zero 28 16) &&
    decide (1 ≤ e.u32 44)

/-- The fields of a record, by its type. -/
def fieldsOk (pmin kind : Nat) (e : Elem) : Bool :=
  match e.typ with
  | 0x01 => systemOk e
  | 0x02 => tempoOk pmin e
  | 0x03 => grantOk e
  | 0x04 => inR 0 2 (e.u8 8) && inR 0 1 (e.u8 9) && e.zero 10 2
  | 0x05 => queueOk e
  | 0x06 => portOk e
  | 0x07 => sensorOk e
  | 0x08 => streamOk e
  | 0x09 => pipeOk e
  | 0x0A => lutOk e
  | 0x0B => defectsOk e
  | 0x0C => groupOk e
  | 0x0D => windowOk e
  | 0x0E => statsOk e
  | 0x0F => serviceOk e
  | 0x10 => dmaOk e
  | 0x11 => flowOk e
  | 0x12 => cueOk kind e
  | 0x13 => procOk e
  | 0x14 => serialOk e
  | 0x15 => inR 0 3 (e.u8 8) && e.zero 9 3
  | 0x16 => bundleOk e
  | 0x17 => slotsOk kind e
  | 0x18 => netOk e
  | 0x19 => e.zero 10 2
  | 0x1A => true
  | _ => false

/-- The record at the head of a section's remaining bytes, where it has the form of R48 to R50: `last` is the (TYPE, ID) of
the record before it. -/
def readRecord (pmin : Nat) (x : Section) (ofs : Nat) (last : Option (Nat × Nat)) (b : List Byte) : Option Elem :=
  let typ := leAt b 0 2
  let len := leAt b 2 2
  let e : Elem := ⟨x.voice, typ, leAt b 4 2, ofs, b.take len⟩
  let rises := match last with
    | some (t, i) => decide (t < typ) || (t == typ && decide (i < e.id))
    | none => true
  if decide (8 ≤ b.length) && typeInSection typ x.kind && recordLen typ b == some len && decide (len ≤ b.length) &&
      e.u8 6 == 1 && e.u8 7 == 0 && (if typ = 0x04 then e.id == x.voice else decide (e.id ≤ maxId typ)) && rises &&
      fieldsOk pmin x.kind e then
    some e
  else none

/-- Read a section's records (check 11): the records, or the offset of the first that fails. -/
def readRecords (pmin : Nat) (x : Section) : Nat → Nat → Option (Nat × Nat) → List Byte → Except Nat (List Elem)
  | 0, _, _, _ => .ok []
  | n + 1, ofs, last, b =>
    if b.isEmpty then .ok []
    else match readRecord pmin x ofs last b with
      | none => .error ofs
      | some e => match readRecords pmin x n (ofs + e.raw.length) (some (e.typ, e.id)) (b.drop e.raw.length) with
        | .ok l => .ok (e :: l)
        | .error o => .error o

/-- Read every section (check 11), in offset order. -/
def readSections (b : List Byte) : List Section → Except Nat (List Section)
  | [] => .ok []
  | x :: t =>
    let es := if x.remove || x.kind == 0x0F then .ok []
      else readRecords (hdrPmin b) x (x.len / 4 + 1) x.ofs none (sectionBytes b x)
    match es, readSections b t with
    | .ok l, .ok r => .ok ({ x with elems := l } :: r)
    | .error o, _ => .error o
    | .ok _, .error o => .error o

end Sys2Proof.Machine
end

