-- ==== Sys2Proof/Machine/Cues.lean ====
section
/-!
DEFINITION. The clock, cues and captures (ch. 12, R271 to R274, R290 to R299).
-/

namespace Sys2Proof.Machine

/-- One nanosecond after a whole number of 2^-32 ns. -/
def nsOf (t : Nat) : Nat := t / 4294967296

/-- A clock value as a stamp, to 1 ns. -/
def stampOf (t : Nat) : Stamp := ⟨nsOf t / 1000000000 % 2 ^ 64, nsOf t % 1000000000⟩

/-- A stamp as a clock value. -/
def stampTotal (t : Stamp) : Nat := nsU (t.sec * 1000000000 + t.ns)

/-! ### Cues -/

/-- A cue's record in effect. -/
def State.cueElem (s : State) (k : Nat) : Option Elem := s.elem 0x0012 k

/-- CMODE. -/
def cueMode (e : Elem) : Nat := e.u8 8
/-- OFFSET_NS. -/
def cueOffset (e : Elem) : Nat := e.u32 12
/-- PERIOD_NS. -/
def cuePeriod (e : Elem) : Nat := e.u32 16
/-- WIDTH_NS. -/
def cueWidth (e : Elem) : Nat := e.u32 20

/-- A cue. -/
def State.cue (s : State) (k : Nat) : Cue := Tab.get {} s.cues k

/-- Set a cue; CUE_NEXT, ARMED and ACTIVE follow (R290, R293). -/
def State.setCue (s : State) (k : Nat) (c : Cue) : State :=
  let s1 := { s with cues := Tab.set {} s.cues k c }
  match s1.cueElem k with
  | none => s1
  | some e =>
    let s2 := match c.next with
      | some t => (s1.wr .CUE_NEXT_S k (stampOf t).sec).wr .CUE_NEXT_NS k (stampOf t).ns
      | none => (s1.wr .CUE_NEXT_S k (2 ^ 64 - 1)).wr .CUE_NEXT_NS k (2 ^ 32 - 1)
    (s2.wrF .CUE_STATUS k 0 0 (b2n (c.active && !c.gone))).wrF .CUE_STATUS k 1 1
      (b2n (decide (cueMode e = 0) && c.next.isSome))

/-- Count a late edge (R293). -/
def State.cueLate (s : State) (k : Nat) : State := (s.setB .CUE_STATUS k 3).addF .CUE_CNT k 7 0 1

/-- The first point of a grid at or after a clock value. -/
def gridFrom (o p x : Nat) : Nat := if x ≤ o then o else o + (x - o + p - 1) / max 1 p * p

/-- The clock value at which the pulse in progress ends. -/
def State.pulseEnd (s : State) (c : Cue) : Nat := s.clock.total + (c.ends - s.clock.elapsed)

/-- Is an edge at `t` closer than 8 ns to the end of the pulse in progress (R293, R297)? -/
def State.tooSoon (s : State) (c : Cue) (t : Nat) : Bool := c.active && decide (t < s.pulseEnd c + nsU 8)

/-- Place a cue's recomputed or armed edge: one that comes too soon after a pulse is moved and counts as LATE; `late` is
whether it counts so anyway. -/
def State.placeEdge (s : State) (k t : Nat) (late : Bool) : State :=
  let c := s.cue k
  if s.tooSoon c t then (s.setCue k { c with next := some (s.pulseEnd c + nsU 8) }).cueLate k
  else if late then (s.setCue k { c with next := some t }).cueLate k
  else s.setCue k { c with next := some t }

/-- The pulse in progress of a flicker-locked cue, which its next edge would meet, ends 8 ns before that edge (R296). The edge
that counts is the one still pending then. -/
def State.truncPulse (s : State) (k : Nat) : State :=
  let c := s.cue k
  match c.next, s.cueElem k with
  | some t, some e =>
    if cueMode e = 3 ∧ !c.gone ∧ s.tooSoon c t then
      ((s.setCue k { c with ends := s.clock.elapsed + (t - nsU 8 - s.clock.total) }).setB .CUE_STATUS k 4).addF .CUE_CNT k
        15 8 1
    else s
  | _, _ => s

/-- The level of ball CUEk (R290): active in a pulse, between pulses inactive by POL; low where no cue is declared. -/
def State.cueBall (s : State) (k : Nat) : Bool :=
  let c := s.cue k
  if c.active then c.high
  else match s.cueElem k with
    | some e => bit 0 (e.u8 9)
    | none => false

/-- The grid of a periodic cue handed over at a barline (R294): grid point 0 and period. -/
def cueGrid (e : Elem) (bar : Nat) : Nat × Nat :=
  if 1000000000 % max 1 (cuePeriod e) = 0 then (nsU (cueOffset e), nsU (cuePeriod e))
  else (bar + nsU (cueOffset e), nsU (cuePeriod e))

/-- The first edge of a cue that takes effect at a barline (Table 12.3, R294). -/
def firstEdge (e : Elem) (bar : Nat) : Option Nat :=
  match cueMode e with
  | 0 => some (bar + nsU (cueOffset e))
  | 1 =>
    let g := cueGrid e bar
    some (gridFrom g.1 g.2 (if 1000000000 % max 1 (cuePeriod e) = 0 then bar + 1 else g.1))
  | _ => none

/-- A cue's record takes effect at a barline (R290, R291): a pulse in progress completes. -/
def State.declareCue (s : State) (e : Elem) (bar : Nat) : State :=
  let k := e.id
  let al := cueMode e = 1 ∧ 1000000000 % max 1 (cuePeriod e) = 0
  let cfg := cueMode e + e.u8 9 % 2 * 4 + 8 + e.voice * 16 + (if al then 16384 else 0)
  let s1 := (s.resetRegs [(.CUE_STATUS, k), (.CUE_ARM_NS, k), (.CUE_ARM_S, k), (.CUE_CNT, k)]).wr .CUE_CFG k cfg
  s1.setCue k { s.cue k with
    next := firstEdge e bar
    grid := if cueMode e = 1 then some (cueGrid e bar) else none
    gone := false
    waits := false }

/-- Does the tempo record select this cue, for its source or for the fallback of a follow (Table 1.1)? -/
def State.tempoCue (s : State) (k : Nat) : Bool :=
  (s.rdF .TEMPO_CFG 0 2 0 == 3 || (s.rdF .TEMPO_CFG 0 2 0 == 4 && s.rdF .TEMPO_CFG 0 6 4 == 3)) &&
    s.rdF .TEMPO_CFG 0 16 12 == k

/-- Cues of a full load: one-shot and periodic ones but the tempo cue place their first edge at barline 0, the first barline
of the score (R18, R291, R294; DEDUCED, log entry 32). -/
def State.waitCues (s : State) : State :=
  ((s.elems 0x0012).filter fun e => decide (cueMode e < 2) && !s.tempoCue e.id).foldl (fun s e =>
    s.setCue e.id { s.cue e.id with
      next := none
      grid := none
      waits := true }) s

/-- The first edges that waited for this barline. -/
def State.anchorCues (s : State) (bar : Nat) : State :=
  ((s.elems 0x0012).filter fun e => (s.cue e.id).waits).foldl (fun s e =>
    s.setCue e.id { s.cue e.id with
      next := firstEdge e bar
      grid := if cueMode e = 1 then some (cueGrid e bar) else none
      waits := false }) s

/-- A cue is removed: its entry returns to its reset values (R432), a pulse in progress completes. -/
def State.removeCue (s : State) (k : Nat) : State :=
  let c := s.cue k
  { s.resetRegs [(.CUE_CFG, k), (.CUE_STATUS, k), (.CUE_NEXT_S, k), (.CUE_NEXT_NS, k), (.CUE_ARM_NS, k), (.CUE_ARM_S, k),
      (.CUE_CNT, k)] with
    cues := Tab.set {} s.cues k { c with next := none, grid := none, gone := c.active, waits := false } }

/-- Barline-relative cues at a barline: the pending edge of the last one is dropped, and a barline that is not idle sets
the next (Table 12.3, R296). -/
def State.barCues (s : State) (idle : Bool) (bar : Nat) : State :=
  ((s.elems 0x0012).filter fun e => cueMode e == 2).foldl (fun s e =>
    s.setCue e.id { s.cue e.id with next := if idle then none else some (bar + nsU (cueOffset e)) }) s

/-- Locks that the barline with an ordinal brings into effect (R295): the grid starts at its first point at or after the barline. -/
def State.lockCues (s : State) (ord bar : Nat) : State :=
  let now := s.locks.filter fun l => decide (l.from_ ≤ ord)
  now.foldl (fun s l =>
    match s.cueElem l.cue with
    | some e =>
      if cueMode e ≠ 3 then s
      else
        let o := l.peak * 65536 + nsU (cueOffset e)
        let p := 1000000000 * 2 ^ 32 / max 1 l.freq * 65536
        (s.setCue l.cue { s.cue l.cue with next := some (gridFrom o p bar), grid := some (o, p) }).setB .CUE_STATUS l.cue 2
    | none => s) { s with locks := s.locks.filter fun l => !decide (l.from_ ≤ ord) }

/-- A pulse in progress ends: the ports that name the cue see it, and a removed cue is gone (R187, R290). -/
def State.cueTrail (s : State) (k : Nat) : State :=
  let c := s.cue k
  if !c.active then s
  else
    let s2 := (s.cuePorts k).foldl (fun s p => s.portPulseEnd p) s
    if c.gone then { s2 with cues := Tab.erase k s2.cues } else s2.setCue k { c with active := false }

/-- The leading edge of a cue at its pending time: the pulse begins and the next edge is placed (R290, R291, R294,
R295); ports that name the cue see the pulse (R187). A pulse still in progress was to end before it. -/
def State.cueLead (s0 : State) (e : Elem) (t : Nat) : State :=
  let k := e.id
  let s := (s0.truncPulse k).cueTrail k
  let c := s.cue k
  let next := match c.grid with
    | some (o, p) => if cueMode e = 1 ∨ cueMode e = 3 then some (gridFrom o p (t + 1)) else none
    | none => none
  let s1 := s.setCue k { c with
    next := next
    active := true
    high := !bit 0 (e.u8 9)
    ends := s.clock.elapsed + (t + nsU (cueWidth e) - s.clock.total) }
  (s1.cuePorts k).foldl (fun s p => s.portPulse p) s1

/-- CUE_TRAILING_EDGE (R290, R296): the pulse in progress of a cue ends. -/
def execCueTrailingEdge (cue : Nat) (s : State) : Host.Outcome State Fault Refusal :=
  if !(s.cue cue).active then .next s
  else
    let s1 := s.truncPulse cue
    .next ((s1.runTo (s1.cue cue).ends).cueTrail cue)

/-- A write of CUE_ARM_NS: it arms a one-shot cue (R293); the edge of a time that has passed fires at the next TCLK. Any
other declared cue ignores it; an undeclared one only takes the value. -/
def State.armCue (s : State) (k v : Nat) : State :=
  if 1000000000 ≤ v % 2 ^ 30 then s
  else
    let s1 := s.wr .CUE_ARM_NS k (v % 2 ^ 30)
    match s.cueElem k with
    | none => s1
    | some e =>
      let t := stampTotal ⟨s.rd .CUE_ARM_S k, v % 2 ^ 30⟩
      let s2 := s1.setCue k { s.cue k with waits := false }
      if cueMode e ≠ 0 then s
      else if t ≤ s.clock.total then s2.placeEdge k (s.clock.total + s.tclk) true else s2.placeEdge k t false

/-- CUE_ARM (R293). -/
def execCueArm (p : Path) (cue : Nat) (v : Word) (s : State) : Host.Outcome State Fault Refusal :=
  .next (if cue < 32 ∧ s.regOpen p .TIME then s.armCue cue v.toNat else s)

/-! ### Setting and stepping the clock (R274, R297) -/

/-- Points of a grid in `[a, b)`. -/
def gridCount (o p a b : Nat) : Nat := if b ≤ a then 0 else (gridFrom o p b - gridFrom o p a) / max 1 p

/-- Recompute a cue's edge after the clock moved by `d` (R297). -/
def State.recompute (s : State) (d : Int) (e : Elem) : State :=
  let k := e.id
  let c := s.cue k
  match c.next with
  | none => s
  | some t =>
    let now := s.clock.total
    match cueMode e with
    | 0 => if t ≤ now then s.placeEdge k now true else s.placeEdge k t false
    | 2 => s.placeEdge k (((t : Int) + d).toNat / 65536 * 65536 + (if ((t : Int) + d).toNat % 65536 < 32768 then 0 else 65536))
        false
    | _ => match c.grid with
      | some (o, p) =>
        let n := gridCount o p t now
        let s1 := if n = 0 then s else (s.setB .CUE_STATUS k 5).addF .CUE_CNT k 23 16 n
        s1.placeEdge k (gridFrom o p now) false
      | none => s

/-- Keep what the clock and its increment were up to now (R298). -/
def State.clockMark (s : State) : State :=
  { s with servo := { s.servo with marks := ((s.clock.elapsed, s.clock.total, s.tclk) :: s.servo.marks).take 16 } }

/-- The clock takes a new value: counted, and every cue's edge is recomputed. -/
def State.moveClock (s0 : State) (t : Int) : State :=
  let s := s0.clockMark
  let old := s.clock.total
  let s1 := { s.setClk (s.clock.setTotal t) with servo := { s.servo with stepped := true } }
  let s2 := (s1.bump .STEP_CNT 0).setB .SERVO_STATUS 0 10
  (s2.elems 0x0012).foldl (fun s e => s.recompute ((s2.clock.total : Int) - old) e) s2

/-- Step the clock by signed nanoseconds, at the next TCLK (R274). -/
def State.stepClock (s : State) (d : Int) : State :=
  let t := s.ticks 1
  t.moveClock ((t.clock.total : Int) + d * 4294967296)

/-- A write of SET_CTRL: the clock holds the set value at the next TCLK (R274). -/
def State.setClock (s : State) (w : Nat) : State :=
  if bit 0 w then (s.ticks 1).moveClock (stampTotal ⟨s.rd .SET_S 0, s.rd .SET_NS 0⟩ : Int) else s

/-- CLOCK_SET (R274). -/
def execClockSet (p : Path) (v : Word) (s : State) : Host.Outcome State Fault Refusal :=
  .next (if s.regOpen p .TIME then s.setClock v.toNat else s)

/-- CLOCK_STEP (R274). -/
def execClockStep (p : Path) (v : Word) (s : State) : Host.Outcome State Fault Refusal :=
  .next (if s.regOpen p .TIME then s.stepClock (sext 32 v.toNat) else s)

/-- A read of CLK_NS: it latches CLK_S and CLK_FRAC (R273). -/
def State.readClkNs (s : State) : State × Nat :=
  ((s.wr .CLK_S 0 s.clock.sec).wr .CLK_FRAC 0 s.clock.frac, s.clock.ns)

/-- CLK_NS_READ (R273). -/
def execClkNsRead (p : Path) (s : State) : Host.Outcome State Fault Refusal :=
  if s.regOpen p .TIME then
    let (t, n) := s.readClkNs
    .next { t with lastRead := BitVec.ofNat 32 n }
  else .next { s with lastRead := 0 }

/-! ### Captures (R298, R299) -/

/-- A capture FIFO. -/
def State.capFifo (s : State) (k : Nat) : List Capture := Tab.get [] s.caps k

/-- Set a capture FIFO; LEVEL follows. -/
def State.setCap (s : State) (k : Nat) (l : List Capture) : State :=
  { s with caps := Tab.set [] s.caps k l }.wrF .CAP_STATUS k 4 0 l.length

/-- The clock `n` TCLKs before elapsed time `e`, at which it was `t` with an increment `d`; changes made at the same TCLK count
(ch. 12, Corners). -/
def clockBefore (n e t d : Nat) : List (Nat × Nat × Nat) → Nat
  | [] => t - n * d
  | (e0, t0, d0) :: rest =>
    let k := (e - e0) / max 1 d
    if n ≤ k then t - n * d else clockBefore (n - k) e0 t0 d0 rest

/-- CAPTURE_EDGE (R298, R299, R457): a capture input reads the new level `v`; at the ninth sample the device acts
on the edge: it is recorded with the clock of the first sample less 8 ns, or is discarded. -/
def execCaptureEdge (k : Nat) (v : Level) (s : State) : Host.Outcome State Fault Refusal :=
  if 8 ≤ k ∨ v.held ≤ 8 ∨ !s.domUp .TIME ∨ !s.pinsSeen ∨ s.rdB .CAP_CFG k (if v.high then 0 else 1) = false then .next s
  else
    let t := clockBefore 8 s.clock.elapsed s.clock.total s.tclk s.servo.marks
    let c : Capture := ⟨stampOf (t - nsU 8), v.high, s.tempoEnc⟩
    let l := s.capFifo k
    if 16 ≤ l.length then .next ((s.setB .CAP_STATUS k 8).bump .CAP_OVF_CNT k)
    else
      let s2 := s.setCap k (l ++ [c])
      .next (if l.isEmpty && s2.rdB .CAP_CFG k 2 then s2.vector0 else s2)

/-- A write of CAP_POP. -/
def State.popCap (s : State) (k w : Nat) : State := if bit 0 w then s.setCap k ((s.capFifo k).drop 1) else s

/-- CAPTURE_POP (R299). -/
def execCapturePop (p : Path) (k : Nat) (v : Word) (s : State) : Host.Outcome State Fault Refusal :=
  .next (if s.regOpen p .TIME then s.popCap k v.toNat else s)

end Sys2Proof.Machine
end

