-- ==== Sys2Proof/Machine/Servo.lean ====
section
/-!
DEFINITION. The servo and PTP (ch. 12, R272, R275 to R287), and the timing frames of the tie link (R325).
-/

namespace Sys2Proof.Machine

/-! ### The SYSTEM record -/

/-- PTP_ROLE: 0 free-running, 1 slave, 2 master. -/
def State.ptpRole (s : State) : Nat := s.sysByte 11
/-- PTP_PORT. -/
def State.ptpPort (s : State) : Nat := s.sysByte 13
/-- PTP_ALT: 0 none, 1 the other uplink, 2 the tie partner. -/
def State.ptpAlt (s : State) : Nat := s.sysByte 14

/-- The reference window in ppb (REFWIN_PPM). -/
def State.refWindow (s : State) : Int :=
  match s.elem 0x0001 0 with
  | some e => if e.u16 16 = 0 then 50000 else (e.u16 16 : Int) * 1000
  | none => 50000

/-- Is there a primary reference (R277)? -/
def State.hasPrimary (s : State) : Bool := s.ptpRole == 1 || (s.ptpRole == 0 && s.tieRole == 2)

/-- Is the selected reference the tie link? -/
def State.refIsTie (s : State) (alt : Bool) : Bool := if alt then s.ptpAlt == 2 else s.ptpRole == 0

/-- The reference that an uplink's slave instance feeds: false the primary, true the alternate (R277). -/
def State.uplinkRef (s : State) (u : Nat) : Option Bool :=
  if s.ptpRole = 1 then (if u = s.ptpPort then some false else if s.ptpAlt = 1 then some true else none) else none

/-! ### The servo (R280 to R287) -/

/-- SERVO_STATUS.STATE (Table 12.2): 0 FREE, 1 ACQUIRE, 2 TRACK, 3 SUSPECT, 4 LOSS. -/
def State.servoState (s : State) : Nat := s.rdF .SERVO_STATUS 0 2 0

/-- Is the alternate reference selected? -/
def State.servoAlt (s : State) : Bool := s.rdB .SERVO_STATUS 0 3

/-- A reference of the servo. -/
def Servo.ref (v : Servo) (alt : Bool) : RefSt := if alt then v.alt else v.pri

/-- Set a reference. -/
def Servo.setRef (v : Servo) (alt : Bool) (x : RefSt) : Servo := if alt then { v with alt := x } else { v with pri := x }

/-- Change a reference. -/
def State.mapRef (s : State) (alt : Bool) (f : RefSt → RefSt) : State :=
  { s with servo := s.servo.setRef alt (f (s.servo.ref alt)) }

/-- INCR follows INCR_BASE and y (R272). -/
def State.setIncr (s : State) : State :=
  let b := s.rd .INCR_BASE 0
  let d : Int := if s.servoState = 0 then 0 else roundDiv ((b : Int) * s.servo.y) 1000000000
  s.clockMark.wr .INCR 0 (clampI 0x03800000 0x04800000 ((b : Int) + d)).toNat

/-- A write of INCR_BASE; a value outside its range is reserved (R272, R15). -/
def State.incrBase (s : State) (w : Nat) : State :=
  if 0x03800000 ≤ w ∧ w ≤ 0x04800000 then (s.wr .INCR_BASE 0 w).setIncr else s

/-- INCR_BASE_WRITE (R272). -/
def execIncrBaseWrite (p : Path) (v : Word) (s : State) : Host.Outcome State Fault Refusal :=
  .next (if s.regOpen p .TIME then s.incrBase v.toNat else s)

/-- A frequency correction takes effect. -/
def State.applyY (s : State) (y : Int) : State :=
  let v := s.servo
  (({ s with servo := { v with
      yArea := v.yArea + v.y * ((s.clock.elapsed : Int) - v.ySince)
      ySince := s.clock.elapsed
      y := y } }).wr .SERVO_Y 0 (toBits 32 y)).setIncr

/-- Enter ACQUIRE (Table 12.2): the next sample is its first. -/
def State.acquire (s : State) (alt : Bool) : State :=
  let s1 := (s.wrF .SERVO_STATUS 0 2 0 1).wrF .SERVO_STATUS 0 3 3 (b2n alt)
  ({ s1 with servo := { s1.servo with
    fresh := true
    near := 0
    far := 0
    waited := 0 } }).mapRef alt fun x => { x with sampleAt := s.clock.elapsed }

/-- The y that holds over: the block frequency of the selected reference's most recent block inside the window, or I
(R284). -/
def State.holdover (s : State) : Int :=
  match (s.servo.ref s.servoAlt).good with
  | some f => f
  | none => roundDiv s.servo.i 65536

/-- Holdover begins in a state: HOLD_Y is applied. -/
def State.hold (s : State) (code : Nat) : State :=
  let y := s.holdover
  ((s.wrF .SERVO_STATUS 0 2 0 code).wr .HOLD_Y 0 (toBits 32 y)).applyY y

/-- Enter LOSS (Table 12.2): not from FREE or LOSS itself. -/
def State.loseRef (s : State) : State :=
  let st := s.servoState
  if st = 0 ∨ st = 4 then s
  else
    let s1 := (s.hold 4).setB .SERVO_STATUS 0 9
    { s1 with servo := { s1.servo with waited := 0 } }.alert 0x02 st

/-- Enter SUSPECT at a block end (R284). -/
def State.suspect (s : State) (f : Int) : State :=
  let s1 := (((s.hold 3).bump .SUSPECT_CNT 0).setB .SERVO_STATUS 0 8).vector0
  { s1 with servo := { s1.servo with waited := 1 } }.alert 0x01 (toBits 64 f)

/-- The nominal interval between samples in 2^-32 ns: LOG_SYNC, or 62.5 ms on the tie link. -/
def State.syncInterval (s : State) (alt : Bool) : Nat :=
  if s.refIsTie alt then nsU 62500000
  else match s.rdF .PTP_CFG 0 6 4 with
    | 0 => nsU 1000000000
    | 1 => nsU 2000000000
    | 7 => nsU 500000000
    | 6 => nsU 250000000
    | 5 => nsU 125000000
    | _ => nsU 62500000

/-- I and y of a sample (R281), I in 2^-16 ppb; `t` is the sample interval in 2^-32 ns. -/
def servoStep (cfg : Nat) (i e : Int) (t : Nat) : Int × Int :=
  let unit : Int := 1000000000 * 4294967296 * 256
  let i1 := clampI (-500000 * 65536) (500000 * 65536) (i + roundDiv (fld 15 8 cfg * e * unit) (max 1 t))
  (i1, clampI (-500000 * 65536) (500000 * 65536) (i1 + roundDiv (fld 7 0 cfg * e * unit) (max 1 t)))

/-- A whole number of ppb within 1 ppb of an exact value in 2^-16 ppb (R281); which one is a free value. -/
def withinPpb (y err : Int) : Int :=
  clampI (-500000) 500000 (clampI (-((65535 - y) / 65536)) ((y + 65535) / 65536) (roundDiv y 65536 + clampI (-1) 1 err))

/-- A sample is applied (R281): y lies within 1 ppb of the exact value, the error is a free value. -/
def State.applySample (s : State) (e : Int) (t : Nat) : State :=
  let (i, y) := servoStep (s.rd .SERVO_CFG 0) s.servo.i e t
  let (u, s1) := s.freeUse
  { s1 with servo := { s1.servo with i := i } }.applyY (withinPpb y (Config.error u))

/-- The servo steps the clock by e and clears I (Table 12.2). -/
def State.servoJump (s : State) (e : Int) : State :=
  ({ s with servo := { s.servo with i := 0, near := 0, far := 0 } }.stepClock e).applyY 0

/-- An offset sample of a reference (R280 to R282): e in ns. -/
def State.servoSample (s : State) (alt : Bool) (e : Int) : State :=
  let x := s.servo.ref alt
  let now := s.clock.elapsed
  let t := if s.servo.fresh then s.syncInterval alt else now - x.sampleAt
  let s1 := s.mapRef alt fun x => { x with
    sampleAt := now
    first := if x.count = 0 then some (e, now) else x.first
    final := some (e, now)
    count := x.count + 1 }
  if alt ≠ s.servoAlt ∨ s.servoState = 0 then s1
  else
    let s2 := s1.wr .SERVO_E 0 (toBits 32 (clampI (-2147483648) 2147483647 e))
    let big := (s2.rd .STEP_THR 0 : Int) ≤ e.natAbs
    let small := (e.natAbs : Int) < s2.rd .LOCK_THR 0
    let en := s2.rdB .SERVO_CFG 0 16
    let used := { s2 with servo := { s2.servo with fresh := false } }
    match s2.servoState with
    | 1 =>
      if big ∧ en then used.servoJump e
      else
        let n := if small then used.servo.near + 1 else 0
        let s3 := { used with servo := { used.servo with near := n } }.applySample e t
        if 8 ≤ n then { s3 with servo := { s3.servo with far := 0 } }.wrF .SERVO_STATUS 0 2 0 2 else s3
    | 2 =>
      let n := if big then used.servo.far + 1 else 0
      let s3 := { used with servo := { used.servo with far := n } }
      if 3 ≤ n then (if en then (s3.acquire alt).servoJump e else (s3.applySample e t).acquire alt) else s3.applySample e t
    | 4 => used.acquire alt
    | _ => used

/-- Is the wait for samples on: a reference is selected and not lost? -/
def State.servoOn (s : State) : Bool := s.servoState != 0 && s.servoState != 4

/-- SERVO_SYNC_TIMEOUT (R282): no sample of the selected reference for four Sync intervals. -/
def execServoSyncTimeout (s : State) : Host.Outcome State Fault Refusal :=
  if !s.servoOn then .next s
  else .next (s.runTo ((s.servo.ref s.servoAlt).sampleAt + 4 * s.syncInterval s.servoAlt)).loseRef

/-- The Announce timeout of the master of a slave instance: ANN_TIMEOUT Announce intervals after its last Announce. -/
def State.announceEnds (s : State) (alt : Bool) : Nat :=
  (s.servo.ref alt).announceAt + s.rdF .PTP_CFG 0 15 12 * 2 ^ (s.rdF .PTP_CFG 0 10 8) * nsU 1000000000

/-- PTP_ANNOUNCE_TIMEOUT (R282): ANN_TIMEOUT Announce intervals pass without an Announce of the selected master. -/
def execPtpAnnounceTimeout (s : State) : Host.Outcome State Fault Refusal :=
  if s.servoState = 0 ∨ s.refIsTie s.servoAlt then .next s
  else
    .next (((s.runTo (s.announceEnds s.servoAlt)).mapRef s.servoAlt fun y => { y with master := none, sync := none }).loseRef)

/-- F_blk of a reference (R283): mean y in the block plus the slope of e. -/
def blockFreq (ybar : Int) (x : RefSt) : Option Int :=
  match x.first, x.final with
  | some (e0, t0), some (e1, t1) =>
    if x.count < 2 ∨ t1 ≤ t0 then none
    else some (ybar + roundDiv ((e1 - e0) * 1000000000 * 4294967296) (t1 - t0))
  | _, _ => none

/-- Judge a reference's block and begin the next (R283, R284, R286). -/
def RefSt.endBlock (x : RefSt) (win ybar : Int) : RefSt :=
  let f := blockFreq ybar x
  let inside := f.map fun f => decide ((f.natAbs : Int) ≤ win)
  { x with
    first := none
    final := none
    count := 0
    inside := inside
    good := if inside = some true then f else x.good
    run := if inside = some true then min 4 (x.run + 1) else 0 }

/-- The decisions at a block end (R284 to R286); `f` is the selected reference's F_blk. -/
def State.blockDecide (s : State) (f : Option Int) : State :=
  let alt := s.servoAlt
  let st := s.servoState
  let me := s.servo.ref alt
  let altReady := !alt && s.ptpAlt != 0 && s.servo.alt.inside == some true
  if alt ∧ s.servo.pri.run = 4 then s.acquire false
  else if (st = 1 ∨ st = 2) ∧ me.inside = some false then s.suspect (f.getD 0)
  else if st = 3 ∧ me.run = 4 then
    let s1 := { s with servo := { s.servo with i := (me.good.getD 0) * 65536 } }
    (s1.acquire alt)
  else if (st = 3 ∨ st = 4) ∧ 2 ≤ s.servo.waited ∧ altReady then s.acquire true
  else s

/-- SERVO_BLOCK_END (R283 to R286): a 16-second block of local clock time ends. -/
def execServoBlockEnd (s : State) : Host.Outcome State Fault Refusal :=
  if s.servoState = 0 then .next s
  else
    let s0 := s.runTo (s.servo.blockAt + nsU 16000000000)
    let v := s0.servo
    let now := s0.clock.elapsed
    let span := now - v.blockAt
    let ybar := roundDiv (v.yArea + v.y * ((now : Int) - v.ySince)) (max 1 span)
    let fp := blockFreq ybar v.pri
    let fa := blockFreq ybar v.alt
    let win := s0.refWindow
    let s1 := { s0 with servo := { v with
      pri := v.pri.endBlock win ybar
      alt := v.alt.endBlock win ybar
      blockAt := now
      yArea := 0
      ySince := now
      waited := if s0.servoState = 3 ∨ s0.servoState = 4 then v.waited + 1 else 0 } }
    let s2 := match fp with | some f => s1.wr .BLK_F_PRI 0 (toBits 32 f) | none => s1
    let s3 := match fa with | some f => s2.wr .BLK_F_ALT 0 (toBits 32 f) | none => s2
    let s4 := (s3.wrF .SERVO_STATUS 0 4 4 (b2n (s3.servo.pri.inside == some true))).wrF .SERVO_STATUS 0 7 5 s3.servo.pri.run
    .next (s4.blockDecide (if s4.servoAlt then fa else fp))

/-- Is the time reference suspect now (R287)? -/
def State.refSuspect (s : State) : Bool :=
  (s.ptpRole == 1 || s.tieRole == 2) && s.servoState != 0 && (s.servoState != 2 || s.servo.stepped)

/-- The servo at the commit of a full load (Table 12.2): ACQUIRE with a primary reference, else FREE. -/
def State.servoCommit (s : State) : State :=
  let s1 := { s with servo := { s.servo with
    pri := { announceAt := s.clock.elapsed }
    alt := { announceAt := s.clock.elapsed }
    blockAt := s.clock.elapsed
    yArea := 0
    ySince := s.clock.elapsed
    stepped := false } }
  if s1.hasPrimary then (s1.acquire false).setIncr
  else ((s1.wrF .SERVO_STATUS 0 3 0 0).applyY 0)

/-! ### The transmit-timestamp queues (R278, R279) -/

/-- An event message finds its queue full: it is held (R279). -/
def State.holdEvent (s : State) (q kind : Nat) : State :=
  let s1 := (s.bump .TXTS_FULL_CNT q).setB .TXTS_STATUS q 8
  { s1 with ptp := { s1.ptp with held := Tab.set [] s1.ptp.held q (Tab.get [] s1.ptp.held q ++ [kind]) } }

/-- The next sequence number of a kind of message. -/
def State.nextSeq (s : State) (k : Nat) : Nat × State :=
  let n := Tab.get 0 s.ptp.seqs k
  (n, { s with ptp := { s.ptp with seqs := Tab.set 0 s.ptp.seqs k ((n + 1) % 65536) } })

/-! ### PTP messages (R275, R280) -/

/-- A PTP message is sent (R275). -/
def State.sendPtp (s : State) (u kind seq time : Nat) (corr : Int) (req : Nat) (ann : Option Announce) : State :=
  s.enqueue u (s.ptpFrame u kind seq time corr req ann)

/-- Transmit an event message of a kind on an uplink, 0 Sync or 1 Delay_Req: it takes an entry, whose timestamp is that of
the frame's start (R276, R278). -/
def State.sendEvent (s : State) (u kind : Nat) : State :=
  let (n, s1) := s.nextSeq (4 * kind + u)
  if s1.netUp u then (s1.setTxq u (s1.txq u ++ [⟨kind, n, 0, s1.clock.elapsed, true⟩])).sendPtp u kind n 0 0 0 none else s1

/-- An event message is due: it takes an entry of its queue, or is held (R278, R279). -/
def State.eventDue (s : State) (u kind : Nat) : State :=
  if 16 ≤ (s.txq u).length then s.holdEvent u kind else s.sendEvent u kind

/-- What a master announces of itself (R275, Table 12.4). -/
def State.ownAnnounce (s : State) (u : Nat) : Announce :=
  let c := s.rd .PTP_CLASS 0
  ⟨s.ptpDomain, s.rdF .PTP_CFG 0 23 16, fld 7 0 c, fld 15 8 c, fld 31 16 c, s.rdF .PTP_CFG 0 31 24, s.portIdentity u / 65536, 0,
    s.portIdentity u⟩

/-- PTP_SYNC_TX (R275, R278): a master's Sync and Follow_Up. -/
def execPtpSyncTx (uplink : Nat) (s : State) : Host.Outcome State Fault Refusal :=
  .next (if s.ptpRole = 2 ∧ uplink = s.ptpPort then s.eventDue uplink 0 else s)

/-- PTP_ANNOUNCE_TX (R275). -/
def execPtpAnnounceTx (uplink : Nat) (s : State) : Host.Outcome State Fault Refusal :=
  if s.ptpRole = 2 ∧ uplink = s.ptpPort then
    let (n, s1) := s.nextSeq 16
    .next (s1.sendPtp uplink 11 n s1.nowNs 0 0 (some (s1.ownAnnounce uplink)))
  else .next s

/-- PTP_DELAY_REQ_TX (R278): a slave's Delay_Req on an uplink that feeds a reference. -/
def execPtpDelayReqTx (uplink : Nat) (s : State) : Host.Outcome State Fault Refusal :=
  .next (if (s.uplinkRef uplink).isSome then s.eventDue uplink 1 else s)

/-- PTP_DELAY_REQ_RX (R275): a master answers with the arrival time. -/
def execPtpDelayReqRx (m : PtpMsg) (s : State) : Host.Outcome State Fault Refusal :=
  .next (if s.ptpRole = 2 ∧ m.uplink = s.ptpPort ∧ m.domain = s.ptpDomain then
    s.sendPtp m.uplink 9 m.seq s.nowNs m.correction m.source none else s)

/-- The comparison of the best-master algorithm, lower is better (IEEE 1588; PRESUMED, log entry 21). -/
def annKey (a : Announce) : List Nat :=
  [a.pri1, a.clockClass, a.accuracy, a.variance, a.pri2, a.identity, a.stepsRemoved, a.source]

/-- Lexicographic comparison. -/
def lexLt : List Nat → List Nat → Bool
  | a :: s, b :: t => decide (a < b) || (a == b && lexLt s t)
  | _, _ => false

/-- PTP_ANNOUNCE_RX (R275): a slave takes the best master it hears; a master counts better ones. -/
def execPtpAnnounceRx (uplink : Nat) (a : Announce) (s : State) : Host.Outcome State Fault Refusal :=
  if a.domain ≠ s.ptpDomain then .next s
  else if s.ptpRole = 2 ∧ uplink = s.ptpPort then
    .next (if lexLt (annKey a) ((annKey (s.ownAnnounce uplink)).take 6) then s.bump .FOREIGN_CNT 0 else s)
  else match s.uplinkRef uplink with
    | none => .next s
    | some alt =>
      let now := s.clock.elapsed
      .next (s.mapRef alt fun x =>
        match x.master with
        | none => { x with master := some a, announceAt := now }
        | some b =>
          if b.source = a.source then { x with master := some a, announceAt := now }
          else if s.announceEnds alt ≤ now ∨ lexLt (annKey a) (annKey b) then { x with master := some a, announceAt := now, sync := none }
          else x)

/-- Is a message from the master a slave instance has selected, whose Announce timeout has not passed? -/
def State.fromMaster (s : State) (alt : Bool) (m : PtpMsg) : Bool :=
  m.domain == s.ptpDomain && decide (s.clock.elapsed < s.announceEnds alt) && match (s.servo.ref alt).master with
    | some a => a.source == m.source
    | none => false

/-- A stamp in nanoseconds. -/
def stampInt (t : Stamp) : Int := ((t.sec * 1000000000 + t.ns : Nat) : Int)

/-- A correction in ns, rounded (R10). -/
def corrNs (c : Int) : Int := roundDiv c 65536

/-- The mean path delay: the average of the last eight measurements (R280). -/
def RefSt.delay (x : RefSt) : Int := roundDiv (x.delays.foldl (· + ·) 0) (max 1 x.delays.length)

/-- t1 and t2 of a Sync are known: once a delay has been measured, an offset sample is formed (R276, R280). -/
def State.syncDone (s : State) (alt : Bool) (t1 t2 : Int) : State :=
  let s1 := s.mapRef alt fun x => { x with sync := none, last := some (t1, t2) }
  let x := s1.servo.ref alt
  if x.delays.isEmpty then s1
  else s1.servoSample alt (t1 + sext 32 (s.rd .ASYM_NS 0) + x.delay - t2)

/-- PTP_SYNC_RX (R276, R280): a Sync of the selected master arrives at t2. -/
def execPtpSyncRx (m : PtpMsg) (s : State) : Host.Outcome State Fault Refusal :=
  match s.uplinkRef m.uplink with
  | none => .next s
  | some alt =>
    if !s.fromMaster alt m then .next s
    else if m.twoStep then
      .next (s.mapRef alt fun x => { x with sync := some (m.seq, m.source, s.nowNs, m.correction) })
    else .next (s.syncDone alt (stampInt m.stamp + corrNs m.correction) s.nowNs)

/-- PTP_FOLLOW_UP_RX (R280): the Follow_Up of the awaited Sync gives t1. -/
def execPtpFollowUpRx (m : PtpMsg) (s : State) : Host.Outcome State Fault Refusal :=
  match s.uplinkRef m.uplink with
  | none => .next s
  | some alt => match (s.servo.ref alt).sync with
    | some (n, src, t2, c) =>
      if s.fromMaster alt m ∧ n = m.seq ∧ src = m.source then
        .next (s.syncDone alt (stampInt m.stamp + corrNs (c + m.correction)) t2)
      else .next s
    | none => .next s

/-- Add a delay measurement (R280): SERVO_DELAY shows the selected reference's mean. -/
def State.addDelay (s : State) (alt : Bool) (d : Int) : State :=
  let s1 := s.mapRef alt fun x => { x with delays := (d :: x.delays).take 8 }
  if alt = s1.servoAlt then s1.wr .SERVO_DELAY 0 (toBits 32 ((s1.servo.ref alt).delay)) else s1

/-- PTP_DELAY_RESP_RX (R278, R280): the answer to a Delay_Req of this uplink frees its entry and measures the delay. -/
def execPtpDelayRespRx (m : PtpMsg) (s : State) : Host.Outcome State Fault Refusal :=
  match s.uplinkRef m.uplink with
  | none => .next s
  | some alt =>
    match (s.txq m.uplink).find? fun e => e.kind == 1 && e.ident == m.seq && !e.waits with
    | none => .next s
    | some e =>
      if !s.fromMaster alt m || m.requester != s.portIdentity m.uplink then .next s
      else
        let s1 := s.setTxq m.uplink ((s.txq m.uplink).erase e)
        match (s1.servo.ref alt).last with
        | none => .next s1
        | some (t1, t2) =>
          .next (s1.addDelay alt (roundDiv ((t2 - t1) + (stampInt m.stamp - corrNs m.correction - e.time)) 2))

/-- One Delay_Req interval: 1 s (IEEE 1588 default profile; PRESUMED, log entry 21). -/
def delayReqInterval : Nat := nsU 1000000000

/-- DELAY_REQ_TIMEOUT (R278): the oldest unanswered Delay_Req of an uplink is four intervals old. -/
def execDelayReqTimeout (uplink : Nat) (s : State) : Host.Outcome State Fault Refusal :=
  match (s.txq uplink).find? fun e => e.kind == 1 && !e.waits with
  | none => .next s
  | some e =>
    let s1 := s.runTo (e.at_ + 4 * delayReqInterval)
    .next ((s1.setTxq uplink ((s1.txq uplink).erase e)).bump .DRESP_MISS_CNT uplink)

/-! ### Tie timing (R325) -/

/-- Forget TIME_DREQ entries that are four intervals old (R325). -/
def State.agedTie (s : State) : State :=
  s.setTxq 2 ((s.txq 2).filter fun e => decide (s.clock.elapsed < e.at_ + nsU 250000000))

/-- A time in ns as the timestamp of a tie frame (Table 13.8). -/
def tieStamp (t : Nat) : List Byte := toLe 8 (t / 1000000000) ++ toLe 4 (t % 1000000000)

/-- Send a timing frame, which takes an entry: TIME_SYNC (2) with its TIME_FUP, whose sending frees it, or TIME_DREQ (3).
Each carries its transmit time (DESIGN CHOICE, log entry 24). -/
def State.sendTieEvent (s : State) (kind : Nat) : State :=
  let (n, s0) := s.nextSeq (16 + kind)
  let t := s0.nowNs
  let s1 := s0.setTxq 2 (s0.txq 2 ++ [⟨kind, n, t, s0.clock.elapsed, false⟩])
  if kind = 2 then ((s1.tieSend 4 (tieStamp t)).tieSend 5 (tieStamp t)).freeStamp 2 2 n else s1.tieSend 6 (tieStamp t)

/-- A timing frame is due: it is sent, or held (R279). -/
def State.tieEventDue (s : State) (kind : Nat) : State :=
  let s1 := s.agedTie
  if 16 ≤ (s1.txq 2).length then s1.holdEvent 2 kind else s1.sendTieEvent kind

/-- PTP_HELD_MESSAGE_SEND (R279): the oldest message held at a queue is sent once an entry is free; those of the tie link free
themselves by age. -/
def execPtpHeldMessageSend (queue : Nat) (s0 : State) : Host.Outcome State Fault Refusal :=
  let s := if queue = 2 then s0.agedTie else s0
  match Tab.get [] s.ptp.held queue with
  | [] => .next s
  | k :: rest =>
    if 16 ≤ (s.txq queue).length then .next s
    else
      let s1 := { s with ptp := { s.ptp with held := Tab.set [] s.ptp.held queue rest } }
      .next (if queue = 2 then s1.sendTieEvent k else s1.sendEvent queue k)

/-- The reference that the tie partner's time feeds (R277, R325). -/
def State.tieRef (s : State) : Option Bool :=
  if s.ptpRole = 0 ∧ s.tieRole = 2 then some false
  else if s.ptpAlt = 2 then
    (if s.tieRole = 1 ∧ ¬(s.rdF .TIE_STATUS 0 6 4 = 2 ∧ s.rdB .TIE_STATUS 0 7 = false) then none else some true)
  else none

end Sys2Proof.Machine
end

