-- ==== Sys2Proof/Machine/DmaOps.lean ====
section
/-!
DEFINITION. The shared operations of the DMA engine (R148 to R176): descriptors, bursts, completion, bus errors, halts.
-/

namespace Sys2Proof.Machine

/-! ### Channels -/

/-- A channel. -/
def State.chan (s : State) (c : Nat) : Chan := Tab.get {} s.dma.ch c

/-- Set a channel. -/
def State.setChan (s : State) (c : Nat) (x : Chan) : State :=
  { s with dma := { s.dma with ch := Tab.set {} s.dma.ch c x } }

/-- The DMA record of a channel in effect. -/
def State.dmaElem (s : State) (c : Nat) : Option Elem := s.elem 0x0010 c

/-- Is the channel beat-bound? -/
def dmaBeatBound (e : Elem) : Bool := e.u8 8 == 1

/-- RING_Q of a channel. -/
def dmaRingQ (e : Elem) : Nat := e.u8 10

/-- DONE_Q of a channel. -/
def dmaDoneQ (e : Elem) : Nat := e.u8 11

/-! ### Descriptors (Tables 6.1 and 6.2) -/

/-- CTRL as fetched. -/
def Desc.ctrl (d : Desc) : Nat := leAt d.raw 0 4
/-- LEN. -/
def Desc.len (d : Desc) : Nat := leAt d.raw 4 4
/-- SRC. -/
def Desc.src (d : Desc) : Nat := leAt d.raw 8 8
/-- DST. -/
def Desc.dst (d : Desc) : Nat := leAt d.raw 16 8
/-- AUX as fetched. -/
def Desc.aux (d : Desc) : Nat := leAt d.raw 24 4
/-- FILL. -/
def Desc.fill (d : Desc) : Bool := bit 5 d.ctrl
/-- BARRIER. -/
def Desc.barrier (d : Desc) : Bool := bit 3 d.ctrl

/-- Is a fetched descriptor bad (R149)? -/
def descBad (beatBound : Bool) (raw : List Byte) : Bool :=
  let ctrl := leAt raw 0 4
  let len := leAt raw 4 4
  let src := leAt raw 8 8
  let dst := leAt raw 16 8
  let aux := leAt raw 24 4
  let fill := bit 5 ctrl
  let waitev := bit 6 ctrl
  let scirc := fld 12 8 ctrl
  let dcirc := fld 20 16 ctrl
  !bit 0 ctrl || len == 0 || fld 31 22 ctrl != 0 || bit 7 ctrl || fld 15 13 ctrl != 0 || bit 21 ctrl ||
    leAt raw 28 4 != 0 || (if fill then fld 63 32 src != 0 else fld 63 40 src != 0) || fld 63 40 dst != 0 ||
    fld 31 6 aux != 0 ||
    (decide (1 ≤ scirc) && decide (scirc ≤ 5)) || (decide (1 ≤ dcirc) && decide (dcirc ≤ 5)) ||
    (fill && scirc != 0) ||
    (!beatBound && !fill && scirc == 0 && decide (2 ^ 40 < src + len)) ||
    (dcirc == 0 && decide (2 ^ 40 < dst + len)) ||
    (beatBound && (waitev || fill || scirc != 0 || src != 0))

/-- The address of transfer byte `i` of a side (R161, R164). -/
def sideAddr (a circ i : Nat) : Nat :=
  if circ = 0 then a + i else a - a % 2 ^ circ + (a % 2 ^ circ + i) % 2 ^ circ

/-- The length of the burst that begins at transfer byte `i` (R157). -/
def burstLen (a circ i total : Nat) : Nat :=
  let x := sideAddr a circ i
  let toBlock := 512 - x % 512
  let toWrap := if circ = 0 then total - i else 2 ^ circ - x % 2 ^ circ
  min (min toBlock toWrap) (total - i)

/-- The source address of byte `i`: an item lies in the device's own storage (R154). -/
def Desc.srcAt (d : Desc) (i : Nat) : Nat :=
  if d.item.isSome then i else sideAddr d.src (fld 12 8 d.ctrl) i

/-- The length of the read burst at byte `i`. -/
def Desc.readLen (d : Desc) (i : Nat) : Nat :=
  if d.item.isSome then burstLen 0 0 i d.total else burstLen d.src (fld 12 8 d.ctrl) i d.total

/-- The destination address of byte `i`. -/
def Desc.dstAt (d : Desc) (i : Nat) : Nat := sideAddr d.dst (fld 20 16 d.ctrl) i

/-- The length of the write burst at byte `i`. -/
def Desc.writeLen (d : Desc) (i : Nat) : Nat := burstLen d.dst (fld 20 16 d.ctrl) i d.total

/-- Bytes `start` to `start + len - 1` of the transfer, where the buffer holds them all (R160). -/
def gather (buf : List Burst) (start len : Nat) : Option (List Byte) :=
  match buf.filter fun b => decide (start < b.start + b.len) with
  | [] => none
  | b :: t =>
    let all := (b :: t).flatMap (·.bytes)
    if b.start ≤ start ∧ start + len ≤ b.start + all.length then some ((all.drop (start - b.start)).take len)
    else none

/-- The bytes of a write burst: the pattern, kept aligned to the destination's words (R162), or the buffer's. -/
def Desc.data (d : Desc) (start len : Nat) : Option (List Byte) :=
  if d.fill then
    let pat := toLe 4 d.src
    some ((List.range len).map fun k => (pat[(d.dstAt (start + k)) % 4]?).getD 0)
  else gather d.buf start len

/-- Is a voice address among the source addresses of a transfer? -/
def Desc.inSource (d : Desc) (a : Nat) : Bool :=
  let n := fld 12 8 d.ctrl
  if n = 0 then decide (d.src ≤ a) && decide (a < d.src + d.total)
  else a / 2 ^ n == d.src / 2 ^ n && decide ((a % 2 ^ n + 2 ^ n - d.src % 2 ^ n) % 2 ^ n < d.total)

/-- Does an overlap of source and destination leave the overlapped bytes undefined (R163)? -/
def Desc.unordered (d : Desc) : Bool :=
  !d.fill && d.item.isNone && !(fld 12 8 d.ctrl == 0 && fld 20 16 d.ctrl == 0 && decide (d.dst ≤ d.src))

/-- The bytes that a write burst carries: those of destination bytes that an overlap leaves undefined are free values
(R163), of which it uses one a byte. -/
def State.burstData (s : State) (d : Desc) (start : Nat) (bytes : List Byte) : List Byte :=
  if d.unordered then bytes.mapIdx fun k b =>
    if d.inSource (d.dstAt (start + k)) then (Config.undefined (s.fresh + k)).setWidth 8 else b
  else bytes

/-- The free values that a write burst used are spent. -/
def State.spend (s : State) (d : Desc) (len : Nat) : State :=
  if d.unordered then { s with fresh := s.fresh + len } else s

/-- Does the buffer hold a byte of `start`.. that a violating read left zero? -/
def Desc.readViolated (d : Desc) (start len : Nat) : Bool :=
  d.buf.any fun b => b.pa == none && decide (b.start < start + len) && decide (start < b.start + b.len)

/-- Bytes of an item, from its slot in memory or from the memory that holds it (R154). -/
def State.itemBytes (s : State) (i : Item) (start len : Nat) : List Byte :=
  match i.base with
  | some p => s.readPhys (p + start) len
  | none => bytesAt i.bytes start len

/-! ### In-flight bounds (Table 6.5) -/

/-- Read bursts of a channel in flight. -/
def Chan.reads (x : Chan) : Nat := sumN (x.descs.map fun d => d.reads.length)

/-- Buffer blocks a channel holds (R159). -/
def Chan.blocks (x : Chan) : Nat := sumN (x.descs.map fun d => d.reads.length + d.buf.length)

/-- Write bursts of a channel that wait for acknowledgement, those of completed descriptors among them (R165). -/
def Chan.writes (x : Chan) : Nat := x.flying.length + sumN (x.descs.map fun d => d.writes.length)

/-- Read bursts in flight in the device. -/
def State.readsInFlight (s : State) : Nat := sumN (s.dma.ch.map fun e => e.2.reads)

/-- Blocks held in the device. -/
def State.blocksHeld (s : State) : Nat := sumN (s.dma.ch.map fun e => e.2.blocks)

/-- Write bursts unacknowledged in the device. -/
def State.writesInFlight (s : State) : Nat := sumN (s.dma.ch.map fun e => e.2.writes)

/-- Outbound reads in flight in the device (R386). -/
def State.tagsUsed (s : State) : Nat :=
  sumN (s.dma.ch.map fun e => sumN (e.2.descs.map fun d =>
    (d.reads.filter fun b => match b.pa with
      | some p => decide (0x2000000000 ≤ p) && decide (p < 0x3000000000) && d.item.isNone
      | none => false).length))

/-- Tags the host has enabled (Table 17.1). -/
def State.tagLimit (s : State) : Nat := if s.rdB .HOST_LINK 0 10 then 256 else 32

/-- The bounds a further read burst of a channel would break, by number: 0 device reads, 1 channel reads, 2 device
blocks, 3 channel blocks, 4 device writes, 5 tags; 6 is bound 4 as the write side of the channel meets it. -/
def State.boundsHit (s : State) (c : Nat) (outbound : Bool) : List Nat :=
  let x := s.chan c
  (if 256 ≤ s.readsInFlight then [0] else []) ++ (if 32 ≤ x.reads then [1] else []) ++
    (if 1024 ≤ s.blocksHeld then [2] else []) ++ (if 64 ≤ x.blocks then [3] else []) ++
    (if 128 ≤ s.writesInFlight then [4] else []) ++
    (if outbound && decide (s.tagLimit < 256) && decide (s.tagLimit ≤ s.tagsUsed) then [5] else [])

/-- A channel waits at bounds: each new episode is counted (R158, R386), one at the device's write bound for both sides. -/
def State.stallAt (s : State) (c : Nat) (bounds : List Nat) : State :=
  let x := s.chan c
  let new := bounds.filter fun b => !x.stalls.contains b
  let s1 := new.foldl (fun s b =>
    let t := if b = 5 then s.bump .HOST_TAG_STALL 0
      else if (b = 4 ∧ x.stalls.contains 6) ∨ (b = 6 ∧ x.stalls.contains 4) then s else s.bump .CH_STALL_CNT c
    if b = 0 then t.bump .STALL_READS 0
    else if b = 2 then t.bump .STALL_BLOCKS 0
    else if (b = 4 ∧ ¬ x.stalls.contains 6) ∨ (b = 6 ∧ ¬ x.stalls.contains 4) then t.bump .STALL_WRITES 0
    else t) s
  s1.setChan c { x with stalls := x.stalls ++ new, blocked := true }

/-! ### The order of grants (R27, R29, R159) -/

/-- A channel's place in the order in which freed resources are granted: by class, beat-bound channels first, then
round-robin by channel number behind the one last served. `k` tells the read engine (0) from the write engine (8). -/
def State.grantKey (s : State) (k c : Nat) (e : Elem) : Nat :=
  let g := s.classOf e.voice * 2 + (if dmaBeatBound e then 0 else 1)
  g * 128 + (c + 127 - Tab.get 127 s.dma.rr (k + g)) % 128

/-- A channel has been served. -/
def State.served (s : State) (k c : Nat) (e : Elem) : State :=
  let g := k + s.classOf e.voice * 2 + (if dmaBeatBound e then 0 else 1)
  { s with dma := { s.dma with rr := Tab.set 127 s.dma.rr g c } }

/-- Is a channel next in the order of grants: does no other one that waits (by `p`) and could go precede it? -/
def State.grantTurn (s : State) (k c : Nat) (e : Elem) (p : Nat → Chan → Elem → Bool) : Bool :=
  s.dma.ch.all fun x => x.1 == c || match s.dmaElem x.1 with
    | some f => !p x.1 x.2 f || decide (s.grantKey k c e ≤ s.grantKey k x.1 f)
    | none => true

/-- The key under which `Dma.rr` keeps the voice last lent rest. -/
def lentKey : Nat := 16

/-- Does a channel ask for rest? -/
def Chan.wantsRest (x : Chan) : Bool := x.asks && decide (x.mode = .run)

/-- Is a voice next among those whose channels ask for rest: round-robin by voice behind the one last lent to (R27)? -/
def State.lendTurn (s : State) (v : Nat) : Bool :=
  let far (w : Nat) : Nat := (w + 1023 - Tab.get 1023 s.dma.rr lentKey) % 1024
  s.dma.ch.all fun x => !x.2.wantsRest || match s.dmaElem x.1 with
    | some f => decide (far v ≤ far f.voice)
    | none => true

/-- A voice has been lent rest. -/
def State.lendTo (s : State) (v : Nat) : State := { s with dma := { s.dma with rr := Tab.set 1023 s.dma.rr lentKey v } }

/-! ### Completion (R166) -/

/-- EINFO of a completion (Table 6.8). -/
def einfo (f : Option DmaFail) (fetch halted trunc : Bool) : Nat :=
  (match f with | some x => x.va + b2n x.write * 2 ^ 40 | none => 0)
    + b2n fetch * 2 ^ 41 + b2n halted * 2 ^ 42 + b2n trunc * 2 ^ 43

/-- Post a DMA_DONE entry (R168); `line` is the event line pulsed after it. -/
def State.postDone (s : State) (c : Nat) (e : Elem) (status residue idx ei : Nat) (item : Option Item)
    (line : Option Nat) : State :=
  let beat := item.map (·.beat)
  s.post ⟨e.voice, dmaDoneQ e, 0x01, status, s.oldgenOf e.voice beat, c,
    toLe 4 residue ++ toLe 4 idx ++ toLe 8 (beat.getD (2 ^ 64 - 1)) ++ toLe 8 ei, beat, line⟩

/-- Is the item longer than its descriptor (R156)? -/
def Desc.trunc (d : Desc) : Bool :=
  match d.item with
  | some i => decide (d.len < i.len)
  | none => false

/-- Steps 2 to 6 of Table 6.7 for a descriptor that ends with a status and a residue. -/
def State.writeback (s : State) (c : Nat) (e : Elem) (d : Desc) (status residue : Nat) (f : Option DmaFail)
    (fetch : Bool) : State :=
  let ctrl := setFld 31 24 status (setFld 23 22 0 (setFld 0 0 0 d.ctrl))
  let s1 := match d.pa with
    | some p => (s.writePhys (p + 24) (toLe 4 residue)).writePhys p (toLe 4 ctrl)
    | none =>
      let va := (s.ring e.voice (dmaRingQ e)).entry d.idx
      match s.translate e.voice va true [] with
      | (t, .viol pa w) => t.violate e.voice (if w then 6 else 4) true (dmaRingQ e) va pa
      | _ => s
  let r := s1.ring e.voice (dmaRingQ e)
  let s2 := (s1.setRing e.voice (dmaRingQ e) { r with cons := incIndex r.cons }).bump .CH_DONE_CNT c
  let line := if e.u8 14 != 0xFF && (bit 2 d.ctrl || bit 1 (e.u8 9)) then some (e.u8 14) else none
  if bit 1 d.ctrl || dmaBeatBound e || status != 0 then
    s2.postDone c e status residue d.idx (einfo f fetch false (d.trunc && status == 0)) d.item line
  else match line with
    | some l => s2.pulseLine l
    | none => s2

/-- A write burst completes: its bytes are written and counted. Those for the outbound window left when it issued, in the
order of PCIe posted writes (Table 6.6). -/
def State.land (s : State) (c : Nat) (b : Burst) : State :=
  match b.pa with
  | some p => (if s.region p = .outbound then s else s.writePhys p b.bytes).addWrap .CH_BYTES c b.len
  | none => s

/-- Write bursts complete in the order in which they issued (R173, R176). -/
def State.landAll (s : State) (c : Nat) (l : List Burst) : State := l.foldl (fun s b => s.land c b) s

/-- The length of the prefix of a descriptor's transfer that is written once every burst issued has completed, but those
that met a bus error (R167). -/
def Desc.kept (d : Desc) : Nat := d.failed.foldl (fun n b => min n b.start) d.writeIssued

/-- The descriptor whose reads a channel's read side works on: it goes ahead to the second one (R151). -/
def Chan.readDesc (x : Chan) : Option Desc :=
  x.descs.find? fun d => d.ended.isNone && d.fail.isNone && !d.fill && decide (d.readIssued < d.total)

/-- Take the channel's first descriptor away. The read side keeps its translation where it works on the second one. -/
def Chan.pop (x : Chan) : Chan :=
  let mine := match x.readDesc, x.descs with
    | some r, d :: _ => r.idx == d.idx
    | _, _ => true
  { x with descs := x.descs.drop 1, rd := if mine then .none else x.rd, wr := .none }

/-- Complete the first descriptor of a channel with a status, under Table 6.7 (R166, R173). With status OK its unacknowledged
writes go on (R165); with another they complete first. Buffered bytes are discarded. A STOP descriptor stops the channel
(Table 6.4). -/
def State.completeHead (s : State) (c : Nat) (status : Nat) (f : Option DmaFail) : State :=
  let x := s.chan c
  match s.dmaElem c, x.descs with
  | some e, d :: _ =>
    let p := if status = 0 then d.total else if status = 3 then 0 else d.kept
    let s1 := if status = 0 then s else s.landAll c d.writes
    let s2 := s1.writeback c e d status (d.len - p) f false
    let z := (s2.chan c).pop
    let y := if status = 0 then { z with flying := z.flying ++ d.writes.map fun b => (d.idx, b) } else z
    s2.setChan c (if bit 4 d.ctrl then { y with mode := .stopped } else { y with blocked := false })
  | _, _ => s

/-- Complete the second descriptor once it is first and has ended already (R151). -/
def State.completeNext (s : State) (c : Nat) : State :=
  match (s.chan c).descs with
  | d :: _ => match d.ended with
    | some (st, f) => s.completeHead c st f
    | none => s
  | [] => s

/-- Complete the first descriptor, and the next one where it has ended. -/
def State.completeChain (s : State) (c : Nat) (status : Nat) (f : Option DmaFail) : State :=
  (s.completeHead c status f).completeNext c

/-- Complete the first descriptor OK where its bytes have all issued, or with BARRIER all been acknowledged, with those of
the descriptors before it (R165). -/
def State.completeIfDone (s : State) (c : Nat) : State :=
  let x := s.chan c
  match x.descs with
  | d :: _ =>
    if d.ended.isNone && d.fail.isNone && d.total == d.writeIssued &&
        (!d.barrier || (d.writes.isEmpty && x.flying.isEmpty)) then
      s.completeChain c 0 none
    else s
  | [] => s

/-- End a held descriptor with a status: at once where it is first, else when it becomes first (R151). -/
def State.endDesc (s : State) (c idx : Nat) (status : Nat) (f : Option DmaFail) : State :=
  let x := s.chan c
  match x.descs with
  | d :: t =>
    if d.idx = idx then s.completeChain c status f
    else s.setChan c { x with
      descs := d :: t.map (fun y => if y.idx = idx then { y with ended := some (status, f) } else y)
      rd := .none }
  | [] => s

/-! ### Bus errors (R171) -/

/-- Count and latch a bus error of a channel. -/
def State.latchBusError (s : State) (c : Nat) (idx : Nat) (va pa : Nat) (write fetch : Bool) : State :=
  (((s.bump .CH_BERR_CNT c).wr .CH_ERR_PA c (pa + b2n write * 2 ^ 40 + b2n fetch * 2 ^ 41)).wr .CH_ERR_VA c va).wr
    .CH_ERR_IDX c idx

/-- Is the descriptor with an index the channel's first? -/
def Chan.first (x : Chan) (idx : Nat) : Bool :=
  match x.descs with
  | d :: _ => d.idx == idx
  | [] => false

/-- The channel's policy on a bus error of a data burst of the descriptor with index `idx`: HALT or SKIP. -/
def State.busPolicy (s : State) (c : Nat) (e : Elem) (idx : Nat) (f : DmaFail) : State :=
  if bit 0 (e.u8 9) then s.endDesc c idx 2 (some f)
  else
    let x := s.chan c
    match x.descs.find? fun d => d.idx == idx with
    | none => s
    | some d =>
      (s.setChan c { x with mode := .halted, cmdLook := false, fetchHalt := false }).postDone c e 2 (d.len - d.kept) d.idx
        (einfo (some f) false true false) d.item none

/-- A descriptor that a bus error struck: the first error is kept, the burst that met it is kept for RESUME, and the data
of reads that are still out is discarded (R171). -/
def Desc.strike (d : Desc) (f : DmaFail) (b : Option Burst) : Desc :=
  { d with
    fail := some (d.fail.getD f)
    failed := d.failed ++ b.toList
    reads := []
    readIssued := match d.reads with | r :: _ => r.start | [] => d.readIssued }

/-- A bus error strikes a data burst: counted, latched, then the policy, once; in fermata the policy waits for the fault
decision (ch. 6, Corners). `b` is the issued write burst that met it. -/
def State.dmaBusError (s : State) (c : Nat) (e : Elem) (idx : Nat) (f : DmaFail) (b : Option Burst) : State :=
  let s1 := s.latchBusError c idx f.va f.pa f.write false
  let x := s1.chan c
  let old := x.descs.any fun d => d.idx == idx && d.fail.isSome
  let s2 := s1.setChan c { x with descs := x.descs.map fun d => if d.idx = idx then d.strike f b else d }
  if old || x.mode = .fermata then s2 else s2.busPolicy c e idx f

/-! ### Halts and ends -/

/-- Descriptors rung and not fetched: each returns ABANDONED (R92; DEDUCED, log entry 20). -/
def State.returnUnfetched (s : State) (c : Nat) (e : Elem) : Nat → State
  | 0 => s
  | n + 1 =>
    let r := s.ring e.voice (dmaRingQ e)
    if r.used = 0 then s
    else
      let (s1, x) := s.translate e.voice (r.entry r.cons) false []
      let (pa, raw) := match x with
        | .ok p => if s1.deadAddr p then (none, zeros 32) else (some p, s1.readPhys p 32)
        | _ => (none, zeros 32)
      let d : Desc := ⟨r.cons, pa, raw, none, 0, 0, [], [], 0, [], [], false, none, none⟩
      (s1.writeback c e d 5 d.len none false).returnUnfetched c e n

/-- End the first held descriptor with a status at a halt, an end of generation or a deadline: the bursts issued
complete (R173). -/
def State.endHead (s : State) (c : Nat) (status : Nat) : State := s.completeHead c status none

/-- Does a faulted operation belong to a channel? -/
def Fermata.ofChan (f : Fermata) (c : Nat) : Bool :=
  match f.op with
  | .dmaRead k | .dmaWrite k | .fetch k => k == c
  | _ => false

/-- Take a channel out of every waiting walk. -/
def State.dropWaiter (s : State) (c : Nat) : State :=
  { s with trans := { s.trans with
    walks := s.trans.walks.map fun w => { w with waiters := w.waiters.filter fun x => x.1 != c }
    misses := (s.trans.misses.map fun w => { w with waiters := w.waiters.filter fun x => x.1 != c }).filter
      fun w => !w.waiters.isEmpty } }

/-- The write bursts that a channel's completed descriptors left unacknowledged complete. -/
def State.landFlying (s : State) (c : Nat) : State := s.landAll c ((s.chan c).flying.map (·.2))

/-- Abort a channel (R173): the bursts issued complete, its descriptors complete ABORTED and it stops. -/
def State.abortChan (s : State) (c : Nat) : State :=
  let s1 := (((s.dropFermata fun f => f.ofChan c).dropWaiter c).landFlying c).endHead c 1
  let s2 := s1.endHead c 1
  s2.setChan c { mode := .stopped }

/-- Halt a channel with its voice (R92): abort it, and return its unfetched descriptors. -/
def State.haltChan (s : State) (c : Nat) : State :=
  match s.dmaElem c with
  | none => s
  | some e => (s.abortChan c).returnUnfetched c e 65536

/-- Remove a channel from the engine (Table 6.4): OFF. -/
def State.removeChan (s : State) (c : Nat) : State :=
  let s1 := ((s.dropFermata fun f => f.ofChan c).dropWaiter c).landFlying c
  { s1 with dma := { s1.dma with ch := Tab.erase c s1.dma.ch } }

/-- Is the voice's item, by its source kind, delivered by this channel? -/
def dmaTakes (e : Elem) (i : Item) : Bool := dmaBeatBound e && e.u16 12 == i.src && e.voice == i.voice

/-- The state code of a channel (Table 6.3). -/
def State.chanState (s : State) (c : Nat) : Nat :=
  match s.dmaElem c with
  | none => 0
  | some e =>
    let x := s.chan c
    let r := s.ring e.voice (dmaRingQ e)
    match x.mode with
    | .fermata => 4
    | .halted => 5
    | .stopped => 6
    | .run =>
      if x.descs.isEmpty && (decide (r.used = 0) || (dmaBeatBound e && x.due.isEmpty)) then 1
      else if x.blocked then 3 else 2

/-- CH_STATE (ch. 6). The quota of a beat-bound channel is its voice's LPDDR5 entry (R155; DEDUCED, log entry 31). -/
def State.chState (s : State) (c : Nat) : Nat :=
  let x := s.chan c
  let out := match s.dmaElem c with
    | some e => if dmaBeatBound e then decide (s.rate e.voice 0x20 ≤ s.charged e.voice 0x20)
      else decide (e.u32 16 ≤ s.rd .CH_USED c)
    | none => false
  s.chanState c + b2n out * 8 + b2n x.lent * 16 + x.reads * 256 + x.blocks * 65536 + x.descs.length * 2 ^ 24

end Sys2Proof.Machine
end

