-- ==== Sys2Proof/Machine/Dma.lean ====
section
/-!
DEFINITION. The commands of the DMA engine and of the walkers (ch. 05 and 06).
-/

namespace Sys2Proof.Machine

/-! ### Walkers -/

/-- Add a waiter to the walk of the same voice and page in a list. -/
def joinWalk (v va : Nat) (who : Nat × Bool) (l : List Walk) : Option (List Walk) :=
  if walksPage v va l then
    some (l.map fun w =>
      if w.voice = v ∧ w.va / 2 ^ 16 = va / 2 ^ 16 then { w with waiters := w.waiters ++ [who] } else w)
  else none

/-- A DMA side misses the TLB: it joins a walk to its page, starts one, or waits for a walker (R131). One that joins a
miss which waits already does not count again in WALK_WAIT_CNT (DESIGN CHOICE, log entry 92). -/
def State.missFor (s : State) (v va : Nat) (who : Nat × Bool) : State :=
  let s0 := s.bump .TLB_MISS_CNT 0
  match joinWalk v va who s0.trans.walks with
  | some l => { s0 with trans := { s0.trans with walks := l } }
  | none => match joinWalk v va who s0.trans.misses with
    | some l => { s0 with trans := { s0.trans with misses := l } }
    | none =>
      if s0.walkerFree v then
        { s0 with trans := { s0.trans with walks := s0.trans.walks ++ [⟨v, va, [who]⟩] } }
      else
        let s1 := s0.bump .WALK_WAIT_CNT 0
        { s1 with trans := { s1.trans with misses := s1.trans.misses ++ [⟨v, va, [who]⟩] } }

/-- The waiting miss to start next: class order, then order of arrival, among voices with a walker to spare. -/
def State.nextMiss (s : State) : Option Walk :=
  (sortBy (fun w => s.classOf w.voice) (s.trans.misses.filter fun w => s.walkerFree w.voice)).head?

/-- WALK_START (R131): the next waiting miss takes a free walker. -/
def execWalkStart (s : State) : Host.Outcome State Fault Refusal :=
  match s.nextMiss with
  | none => .next s
  | some w => .next { s with trans := { s.trans with
      misses := s.trans.misses.erase w
      walks := s.trans.walks ++ [w] } }

/-- The descriptor a side of a channel works on: writes stay with the first one. -/
def Chan.sideDesc (x : Chan) (write : Bool) : Option Desc := if write then x.descs.head? else x.readDesc

/-- The fault of a channel's side: its operation and record fields (Table 5.5). -/
def chanFault (c : Nat) (e : Elem) (d : Desc) (write : Bool) (va : Nat) (k : Cause) (l : Nat) : Fermata :=
  ⟨e.voice, if write then .dmaWrite c else .dmaRead c, va, k, l, d.item.map (·.beat), d.idx, c⟩

/-- A channel whose operation faults: from ACTIVE or WAIT it goes to FERMATA (Table 6.4). -/
def Chan.fault (x : Chan) : Chan := { x with mode := if x.mode = .run then .fermata else x.mode, blocked := false }

/-- Hand a walk's outcome to one side of a channel that waits for it (R136, R137, R144). -/
def State.answerSide (s : State) (x : Xlat) (who : Nat × Bool) : State :=
  let c := who.1
  let ch := s.chan c
  match s.dmaElem c, ch.sideDesc who.2 with
  | some e, some d =>
    let clear := s.setChan c (if who.2 then { ch with wr := .none } else { ch with rd := .none })
    let va := if who.2 then d.dstAt d.writeIssued else d.srcAt d.readIssued
    match x with
    | .fault k l =>
      let t := clear.setChan c (clear.chan c).fault
      t.enterFermata (chanFault c e d who.2 va k l)
    | .busError pa =>
      clear.dmaBusError c e d.idx ⟨if who.2 then d.writeIssued else d.readIssued, va, pa, who.2⟩ none
    | r => clear.setChan c (if who.2 then { ch with wr := .answer r } else { ch with rd := .answer r })
  | _, _ => s

/-- What a walk of a page gives one waiter that still waits for it: its own permission and offset decide. -/
def State.walkAnswer (s : State) (page : Nat) (w : WalkEnd) (who : Nat × Bool) : State :=
  match (s.chan who.1).sideDesc who.2 with
  | none => s
  | some d =>
    let va := if who.2 then d.dstAt d.writeIssued else d.srcAt d.readIssued
    let side := if who.2 then (s.chan who.1).wr else (s.chan who.1).rd
    if side ≠ .waiting ∨ va / 2 ^ 16 ≠ page then s
    else
      let x := match w with
        | .leaf e => e.use va who.2
        | .viol p => .viol p true
        | .fault k l => .fault k l
        | .busError p => .busError p
      s.answerSide x who

/-- WALK_COMPLETE (R127, R129): the k-th walk in progress ends, `r` being how memory answers its reads; a leaf that lets
some waiter through, or violates, is cached; each waiter takes its outcome. -/
def execWalkComplete (k : Nat) (r : List MemResult) (s : State) : Host.Outcome State Fault Refusal :=
  match s.trans.walks[k]? with
  | none => .next s
  | some w =>
    let s0 := { s with trans := { s.trans with walks := s.trans.walks.eraseIdx k } }
    let (s1, e) := walk s0 w.voice w.va r
    let s2 := match e with
      | .leaf l => if w.waiters.any fun x => if x.2 then l.write else l.read then s1.tlbInsert l else s1
      | _ => s1
    .next (w.waiters.foldl (fun s x => s.walkAnswer (w.va / 2 ^ 16) e x) s2)

/-! ### Fetch -/

/-- May the channel fetch its next descriptor (R151, R152, R156, R172)? -/
def State.mayFetch (s : State) (c : Nat) (e : Elem) : Bool :=
  let x := s.chan c
  let r := s.ring e.voice (dmaRingQ e)
  !s.isHalted e.voice && !x.draining && decide (x.descs.length < 2) && decide (x.descs.length < r.used) &&
    (decide (x.mode = .run) || (decide (x.mode = .halted) && x.fetchHalt && x.cmdLook)) &&
    (!dmaBeatBound e || !x.due.isEmpty) &&
    x.descs.all fun d => !d.barrier && (d.fill || decide (d.readIssued = d.total) || d.ended.isSome)

/-- A descriptor whose bytes have come: bad ones end BAD_DESCRIPTOR, a beat-bound one takes the oldest item due
(R149, R154, R156). -/
def State.takeDesc (s : State) (c : Nat) (e : Elem) (idx : Nat) (pa : Option Nat) (raw : List Byte) : State :=
  let x := s.chan c
  let bad := descBad (dmaBeatBound e) raw
  let len := leAt raw 4 4
  let item := if dmaBeatBound e && !bad then x.due.head? else none
  let total := match item with | some i => min len i.len | none => len
  let d : Desc := ⟨idx, pa, raw, item, if bad then 0 else total, 0, [], [], 0, [], [], false, none,
    if bad then some (3, none) else none⟩
  let y := { x with
    descs := x.descs ++ [d]
    due := if item.isSome then x.due.drop 1 else x.due
    mode := .run
    fetchHalt := false
    cmdLook := false
    blocked := false }
  let s1 := s.setChan c y
  if bad && y.first idx then s1.completeHead c 3 none else s1

/-- A descriptor fetch that meets a bus error (R171): under SKIP the unread descriptor completes BUS_ERROR; under HALT
the channel halts and retries at a doorbell (R172). -/
def State.fetchError (s : State) (c : Nat) (e : Elem) (idx va pa : Nat) : State :=
  let s1 := s.latchBusError c idx va pa false true
  let x := s1.chan c
  s1.setChan c { x with mode := .halted, fetchHalt := true, cmdLook := false }
    |>.postDone c e 2 0 idx (einfo (some ⟨0, va, pa, false⟩) true true false) none none

/-- DESCRIPTOR_FETCH_RETURN (R149, R151): the channel's next descriptor is read from its ring; `m` is how memory answers the
walk and the read. A fault's record names the channel and the ring index (DESIGN CHOICE, log entry 94). -/
def execDescriptorFetchReturn (ch : Nat) (m : MemAnswers) (s : State) : Host.Outcome State Fault Refusal :=
  match s.dmaElem ch with
  | none => .next s
  | some e =>
    if !s.mayFetch ch e then .next s
    else
      let ring := s.ring e.voice (dmaRingQ e)
      let idx := (ring.cons + (s.chan ch).descs.length) % 2 ^ 32
      let va := ring.entry idx
      match s.translate e.voice va false m.walk with
      | (s1, .ok pa) =>
        if memBad m.data || s1.deadAddr pa then
          .next ((s1.eccResult (if memBad m.data then m.data else .hostError) pa).fetchError ch e idx va pa)
        else .next ((s1.eccResult m.data pa).takeDesc ch e idx (some pa) (s1.readPhys pa 32))
      | (s1, .viol pa w) =>
        .next ((s1.violate e.voice (if w then 6 else 4) false (dmaRingQ e) va pa).takeDesc ch e idx none (zeros 32))
      | (s1, .busError pa) => .next (s1.fetchError ch e idx va pa)
      | (s1, .fault k l) =>
        .next ((s1.setChan ch (s1.chan ch).fault).enterFermata
          ⟨e.voice, .fetch ch, va, k, l, if dmaBeatBound e then (s.chan ch).due.head?.map (·.beat) else none, idx, ch⟩)

/-! ### Bursts -/

/-- Is the quota of a software channel spent for a burst of `n` bytes (R153)? Past tick 4,095 every byte is rest (R26). -/
def State.quotaSpent (s : State) (c : Nat) (e : Elem) (n : Nat) : Bool :=
  !dmaBeatBound e && (s.pastBar || decide (e.u32 16 < s.rd .CH_USED c + n))

/-- The resource a beat-bound write burst is charged to (R155); none where it is not metered. -/
def State.writeRes (s : State) (pa : Nat) : Option Nat :=
  match s.region pa with
  | .lpddr => some 0x20
  | .outbound => some 0x24
  | _ => none

/-- Would a burst of `n` bytes to `pa` (none: discarded as a violation) run beyond the channel's quota (R153, R155)? Past tick
4,095 no beat work runs within quota (R26, R33). -/
def State.overQuota (s : State) (c : Nat) (e : Elem) (pa : Option Nat) (n : Nat) : Bool :=
  if dmaBeatBound e then s.pastBar || match pa.bind s.writeRes with
    | some r => decide (s.rate e.voice r < s.charged e.voice r + n)
    | none => false
  else s.quotaSpent c e n

/-- May work of a channel beyond its quota run now: on rest that the arbiter lends (`rest`) or that the bar's end leaves,
in its voice's turn, and not for beat work of class 0 or 1 (R26, R27)? -/
def State.mayLend (s : State) (e : Elem) (rest : Bool) : Bool :=
  (rest || s.pastBar) && (!dmaBeatBound e || s.classOf e.voice == 2) && s.lendTurn e.voice

/-- The channel waits without a bound: WAITEV (R170). -/
def State.waitChan (s : State) (c : Nat) : State := s.setChan c { s.chan c with blocked := true }

/-- The channel waits at its quota: it asks for rest where it may borrow (R27). -/
def State.askRest (s : State) (c : Nat) (e : Elem) : State :=
  s.setChan c { s.chan c with blocked := true, asks := !dmaBeatBound e || s.classOf e.voice == 2 }

/-- Change the descriptor with an index. -/
def Chan.mapDesc (x : Chan) (idx : Nat) (f : Desc → Desc) : Chan :=
  { x with descs := x.descs.map fun d => if d.idx = idx then f d else d }

/-- Does a descriptor still wait for its event line (R170)? -/
def Desc.waiting (d : Desc) : Bool := bit 6 d.ctrl && !d.waited

/-- Issue a read burst: it takes a buffer block (R158, R159). -/
def State.readGo (s : State) (c : Nat) (e : Elem) (d : Desc) (b : Burst) (lent : Bool) : State :=
  let s1 := s.served 0 c e
  let s2 := if lent then s1.lendTo e.voice else s1
  let x := s2.chan c
  s2.setChan c { x.mapDesc d.idx (fun y => { y with readIssued := y.readIssued + b.len, reads := y.reads ++ [b] }) with
    rd := .none
    blocked := false
    asks := false
    lent := lent
    stalls := [] }

/-- The translation a side may use now: a hit or the walker's answer. -/
def State.sideNow (s : State) (v va : Nat) (write : Bool) (w : SideXlat) : Option (State × Xlat) :=
  match w with
  | .answer r => some (s, r)
  | .waiting => none
  | .none => match s.tlbLookup v va write with
    | some (e, s1) => some (s1, e.use va write)
    | none => none

/-- Does a channel wait with a read burst that could issue now, so that the order of grants is for it (R29, R159)? -/
def State.waitsRead (s : State) (c : Nat) (x : Chan) (e : Elem) : Bool :=
  decide (x.mode = .run) && x.blocked && match x.readDesc with
    | some d => !d.waiting && !(if d.item.isSome then s.pastBar else s.quotaSpent c e 1) && (s.boundsHit c false).isEmpty
    | none => false

/-- The next read burst of a descriptor: it issues, or its channel waits at bounds, or behind those before it in the order
of grants. -/
def State.tryRead (s : State) (c : Nat) (e : Elem) (outbound lent : Bool) (go : State → State) : State :=
  match s.boundsHit c outbound with
  | [] => if lent || s.grantTurn 0 c e s.waitsRead then go s else s
  | l => s.stallAt c l

/-- READ_BURST_ISSUE (R158): the channel's next read burst, once quota, bounds, credits and translation allow; `rest` is
whether the arbiter lends rest now. Reads of a product, which lies in LPDDR5, are charged to the system section (R154);
results and statistics records lie on chip (R241). -/
def execReadBurstIssue (ch : Nat) (rest : Bool) (s : State) : Host.Outcome State Fault Refusal :=
  let x := s.chan ch
  match s.dmaElem ch, x.sideDesc false with
  | some e, some d =>
    let above := if d.item.isSome then s.pastBar else s.quotaSpent ch e 1
    if x.mode ≠ .run then .next s
    else if d.waiting then .next (s.waitChan ch)
    else if above && !s.mayLend e rest then .next (s.askRest ch e)
    else
      let n := d.readLen d.readIssued
      match d.item with
      | some i =>
        .next (s.tryRead ch e false above fun s =>
          (if i.base.isSome then s.charge 0 0x20 n else s).readGo ch e d
            ⟨d.readIssued, n, 0, some (i.base.getD 0 + d.readIssued), []⟩ above)
      | none =>
        let va := d.srcAt d.readIssued
        match s.sideNow e.voice va false x.rd with
        | none =>
          if x.rd = .waiting then .next s
          else .next ((s.setChan ch { x with rd := .waiting, blocked := false }).missFor e.voice va (ch, false))
        | some (s1, .ok pa) =>
          .next (s1.tryRead ch e (decide (s1.region pa = .outbound)) above fun s =>
            if s.deadAddr pa then
              ((s.eccResult .hostError pa).setChan ch { s.chan ch with rd := .none }).dmaBusError ch e d.idx
                ⟨d.readIssued, va, pa, false⟩ none
            else s.readGo ch e d ⟨d.readIssued, n, va, some pa, []⟩ above)
        | some (s1, .viol pa w) =>
          .next (s1.tryRead ch e false above fun s =>
            (s.violate e.voice (if w then 6 else 2) false ch va pa).readGo ch e d ⟨d.readIssued, n, va, none, []⟩ above)
        | some (s1, _) => .next s1
  | _, _ => .next s

/-- The first outstanding read of a channel: reads return in order. -/
def Chan.oldestRead (x : Chan) : Option (Desc × Burst) :=
  x.descs.findSome? fun d => d.reads.head?.map fun b => (d, b)

/-- Does a read burst access memory that can err: a voice address, or a product in its slot? -/
def Desc.readsMemory (d : Desc) (b : Burst) : Bool :=
  match d.item with
  | some i => i.base.isSome
  | none => b.pa.isSome

/-- The oldest outstanding read's data comes into its buffer block, or meets a bus error (R121, R144, R159). -/
def State.readReturned (s : State) (ch : Nat) (r : MemResult) : State :=
  let x := s.chan ch
  match s.dmaElem ch, x.oldestRead with
  | some e, some (d, b) =>
    let pa := b.pa.getD 0
    let mem := d.readsMemory b
    if mem && (memBad r || s.deadAddr pa) then
      (s.eccResult (if memBad r then r else .hostError) pa).dmaBusError ch e d.idx ⟨b.start, b.va, pa, false⟩ none
    else
      let data := match d.item, b.pa with
        | some i, _ => s.itemBytes i b.start b.len
        | none, some p => s.readPhys p b.len
        | none, none => zeros b.len
      let s1 := if mem then s.eccResult r pa else s
      s1.setChan ch ((s1.chan ch).mapDesc d.idx fun y =>
        { y with reads := y.reads.drop 1, buf := y.buf ++ [{ b with bytes := data }] })
  | _, _ => s

/-- READ_BURST_RETURN (R159): read data of a burst returns into its buffer block. -/
def execReadBurstReturn (ch : Nat) (r : MemResult) (s : State) : Host.Outcome State Fault Refusal :=
  .next (s.readReturned ch r)

/-- Free the buffer blocks whose every byte is written or discarded (R159). -/
def Desc.settle (d : Desc) : Desc :=
  { d with buf := d.buf.filter fun b => decide (d.writeIssued < b.start + b.len) ||
      (d.failed ++ d.writes).any fun w => decide (w.start < b.start + b.len) && decide (b.start < w.start + w.len) }

/-- What a write burst is charged: what the quota of a software channel has left, and the rest of it in units of 512 bytes,
which it borrows (R153; DEDUCED, log entry 31); of a beat-bound channel what is metered (R155). -/
def State.chargeOf (s : State) (c : Nat) (e : Elem) (pa : Option Nat) (n : Nat) : Nat :=
  let left := if s.pastBar then 0 else e.u32 16 - s.rd .CH_USED c
  if dmaBeatBound e then (if (pa.bind s.writeRes).isSome then n else 0)
  else if n ≤ left then n else left + (n - left + 511) / 512 * 512

/-- Issue a write burst: charge it and complete what it completes (R153, R155, R160, R165). Bytes for the outbound window
leave at once, and a violating burst is acknowledged at once (Table 6.6). -/
def State.writeGo (s : State) (c : Nat) (e : Elem) (d : Desc) (b : Burst) (lent : Bool) : State :=
  let s0 := s.served 8 c e
  let s1 := (if lent then s0.lendTo e.voice else s0).addWrap .CH_USED c (s.chargeOf c e b.pa b.len)
  let s2 := match b.pa with
    | none => s1
    | some p =>
      let t := if decide (s1.region p = Region.outbound) then s1.writePhys p b.bytes else s1
      match (if dmaBeatBound e then s1.writeRes p else none) with
      | some r => t.charge e.voice r b.len
      | none => t
  let x := s2.chan c
  let y := { x.mapDesc d.idx (fun z =>
      { z with
        writeIssued := z.writeIssued + b.len
        writes := if b.pa.isSome then z.writes ++ [b] else z.writes }.settle) with
    wr := .none
    blocked := false
    asks := false
    lent := lent
    stalls := x.stalls.filter fun k => k != 4 && k != 6 }
  (s2.setChan c y).completeIfDone c

/-- Does the channel's write side stand in fermata? -/
def State.writeHeld (s : State) (c : Nat) : Bool :=
  (s.trans.slots.any fun e => match e.2 with | some f => decide (f.op = .dmaWrite c) | none => false) ||
    s.trans.noSlot.any fun f => decide (f.op = .dmaWrite c)

/-- Does a channel wait with a write burst that could issue now (R29, R159)? -/
def State.waitsWrite (s : State) (c : Nat) (x : Chan) (e : Elem) : Bool :=
  x.blocked && (x.stalls.contains 6 || x.asks) && !s.overQuota c e none 1 && decide (s.writesInFlight < 128)

/-- WRITE_BURST_ISSUE (R160): the next write burst of the first descriptor, once its bytes are buffered and it has
translated; `rest` is whether the arbiter lends rest. A stop, a halt or a fermata of the channel holds no write of a
descriptor that it does not concern (R151). -/
def execWriteBurstIssue (ch : Nat) (rest : Bool) (s : State) : Host.Outcome State Fault Refusal :=
  let x := s.chan ch
  match s.dmaElem ch, x.descs with
  | some e, d :: _ =>
    let n := d.writeLen d.writeIssued
    if s.writeHeld ch ∨ d.ended.isSome ∨ d.fail.isSome ∨ d.total ≤ d.writeIssued then .next s
    else if d.fill && d.waiting then .next (s.waitChan ch)
    else match d.data d.writeIssued n with
      | none => .next s
      | some raw =>
        let va := d.dstAt d.writeIssued
        match s.sideNow e.voice va true x.wr with
        | none =>
          if x.wr = .waiting then .next s
          else .next ((s.setChan ch { x with wr := .waiting, blocked := false }).missFor e.voice va (ch, true))
        | some (s1, .ok pa) =>
          let above := s1.overQuota ch e (some pa) n
          if 128 ≤ s1.writesInFlight then .next (s1.stallAt ch [6])
          else if above && !s1.mayLend e rest then .next (s1.askRest ch e)
          else if !above && !s1.grantTurn 8 ch e s1.waitsWrite then .next s1
          else if s1.deadAddr pa then
            .next ((s1.eccResult .hostError pa).dmaBusError ch e d.idx ⟨d.writeIssued, va, pa, true⟩ none)
          else
            .next ((s1.spend d n).writeGo ch e d ⟨d.writeIssued, n, va, some pa, s1.burstData d d.writeIssued raw⟩ above)
        | some (s1, .viol pa w) =>
          let above := s1.overQuota ch e none n
          if above && !s1.mayLend e rest then .next (s1.askRest ch e)
          else if !above && !s1.grantTurn 8 ch e s1.waitsWrite then .next s1
          else
            let s2 := if d.readViolated d.writeIssued n then s1
              else s1.violate e.voice (if w then 6 else 3) true ch va pa
            .next (s2.writeGo ch e d ⟨d.writeIssued, n, va, none, raw⟩ above)
        | some (s1, _) => .next s1
  | _, _ => .next s

/-- The acknowledgement of a burst of a descriptor that has completed already (R165): its bytes are written, or its bus error
is counted and latched; the completion stands (DESIGN CHOICE, log entry 95). -/
def State.ackFlying (s : State) (c idx : Nat) (b : Burst) (t : List (Nat × Burst)) (r : MemResult) : State :=
  let pa := b.pa.getD 0
  let s1 := (s.eccResult r pa).setChan c { s.chan c with flying := t }
  (if memBad r then s1.latchBusError c idx b.va pa true false else s1.land c b).completeIfDone c

/-- The acknowledgement of a burst of the first descriptor: its bytes are written, or a bus error strikes it. Bursts issued
before an error complete as well (R171). -/
def State.ackBurst (s : State) (c : Nat) (e : Elem) (d : Desc) (b : Burst) (r : MemResult) : State :=
  let pa := b.pa.getD 0
  let s1 := (s.eccResult r pa).setChan c ((s.chan c).mapDesc d.idx fun y => { y with writes := y.writes.drop 1 })
  if memBad r then s1.dmaBusError c e d.idx ⟨b.start, b.va, pa, true⟩ (some b)
  else
    let s2 := s1.land c b
    (s2.setChan c ((s2.chan c).mapDesc d.idx Desc.settle)).completeIfDone c

/-- WRITE_BURST_ACK (R165): the channel's oldest outstanding write burst is acknowledged; the last one of a barrier
descriptor completes it. -/
def execWriteBurstAck (ch : Nat) (r : MemResult) (s : State) : Host.Outcome State Fault Refusal :=
  match s.dmaElem ch, (s.chan ch).flying, (s.chan ch).descs with
  | some _, (idx, b) :: t, _ => .next (s.ackFlying ch idx b t r)
  | some e, [], d :: _ =>
    match d.writes with
    | b :: _ => .next (s.ackBurst ch e d b r)
    | [] => .next s
  | _, _, _ => .next s

/-! ### Event lines and commands in a halted descriptor -/

/-- Does a lower-numbered channel wait for this line (R170)? -/
def State.lowerWaiter (s : State) (c line : Nat) : Bool :=
  s.dma.ch.any fun e => decide (e.1 < c) &&
    e.2.descs.any fun d => d.waiting && d.ended.isNone && d.aux % 64 == line

/-- EVENT_LINE_WAIT_END (R170): the first descriptor of the channel that waits takes a credit of its line and may
read; a line of another voice satisfies the wait with no credit, and is a violation. -/
def execEventLineWaitEnd (ch : Nat) (s : State) : Host.Outcome State Fault Refusal :=
  let x := s.chan ch
  match s.dmaElem ch, x.descs.find? (fun d => d.waiting && d.ended.isNone) with
  | some e, some d =>
    let line := d.aux % 64
    let go (t : State) : State :=
      t.setChan ch { x.mapDesc d.idx (fun y => { y with waited := true }) with blocked := false }
    if !s.rdB .EVL_STATUS line 9 || s.rdF .EVL_STATUS line 25 16 != e.voice then
      .next (go (s.violate e.voice 2 false ch 0 0))
    else if s.rdF .EVL_STATUS line 7 0 = 0 || s.lowerWaiter ch line then .next s
    else .next (go (s.wrF .EVL_STATUS line 7 0 (s.rdF .EVL_STATUS line 7 0 - 1)))
  | _, _ => .next s

/-- The CMD field that stands in memory in the halted descriptor (R172). -/
def State.cmdInMemory (s : State) (d : Desc) : Nat :=
  match d.pa with
  | some p => fld 23 22 (leNat (s.readPhys p 4))
  | none => 0

/-- The halted descriptor of a channel that a doorbell asks to look at its CMD. -/
def State.cmdDesc (s : State) (c : Nat) : Option Desc :=
  let x := s.chan c
  if x.mode = .halted ∧ x.cmdLook ∧ ¬ x.fetchHalt then x.descs.find? fun d => d.fail.isSome else none

/-- A look that finds neither command leaves the channel halted until the next doorbell (R172). -/
def State.cmdNone (s : State) (c : Nat) (cmd : Nat) : State :=
  if cmd = 0 ∨ cmd = 3 then s.setChan c { s.chan c with cmdLook := false } else s

/-- A halted descriptor goes on: the write bursts that met an error issue again, in transfer order (R160, R172). -/
def Desc.reissue (d : Desc) : Desc :=
  { d with fail := none, failed := [], writes := sortBy (·.start) (d.failed ++ d.writes) }

/-- DMA_CMD_RESUME (R172): CMD RESUME in the halted descriptor reissues the failing burst. -/
def execDmaCmdResume (ch : Nat) (s : State) : Host.Outcome State Fault Refusal :=
  match s.cmdDesc ch with
  | none => .next s
  | some d =>
    let cmd := s.cmdInMemory d
    if cmd = 1 then
      .next (s.setChan ch { (s.chan ch).mapDesc d.idx Desc.reissue with
        mode := .run
        cmdLook := false })
    else .next (s.cmdNone ch cmd)

/-- DMA_CMD_ABORT (R172): CMD ABORT completes the halted descriptor BUS_ERROR, in ring order (R151), and stops the
channel. -/
def execDmaCmdAbort (ch : Nat) (s : State) : Host.Outcome State Fault Refusal :=
  match s.cmdDesc ch with
  | none => .next s
  | some d =>
    let cmd := s.cmdInMemory d
    if cmd = 2 then
      let s1 := (s.setChan ch { s.chan ch with mode := .run, cmdLook := false }).endDesc ch d.idx 2 d.fail
      .next (s1.setChan ch { s1.chan ch with mode := .stopped })
    else .next (s.cmdNone ch cmd)

/-- OUTBOUND_COMPLETION_TIMEOUT (R384): the channel's oldest outbound read times out: a bus error. -/
def execOutboundCompletionTimeout (ch : Nat) (s : State) : Host.Outcome State Fault Refusal :=
  match (s.chan ch).oldestRead with
  | some (_, b) => match b.pa with
    | some p => if s.region p = .outbound then .next (s.readReturned ch .hostError) else .next s
    | none => .next s
  | none => .next s

end Sys2Proof.Machine
end

