-- ==== Sys2Proof/Machine/Pipes.lean ====
section
/-!
DEFINITION. The image pipes (ch. 08, R199 to R223): taking lines, merging, emitting output lines, the probe.
-/

namespace Sys2Proof.Machine

/-- A pipe. -/
def State.pipe (s : State) (p : Nat) : Pipe := Tab.get {} s.pipes p

/-- Set a pipe. -/
def State.setPipe (s : State) (p : Nat) (x : Pipe) : State := { s with pipes := Tab.set {} s.pipes p x }

/-- The streams of a PIPE record, by slot. -/
def pipeStreams (e : Elem) : List Nat := (List.range (e.u8 8)).map fun k => e.u16 (12 + 2 * k)

/-- MERGE. -/
def pipeMerge (e : Elem) : Nat := e.u8 9

/-- The slot of a stream in its pipe. -/
def slotOf (e : Elem) (i : Nat) : Nat := (findIdx? (fun j => j == i) (pipeStreams e)).getD 0

/-- The output under which a slot's lines leave (ch. 08, Model). -/
def outputOf (e : Elem) (slot : Nat) : Nat := e.u16 (12 + 2 * (if slot < pipeMerge e then 0 else slot))

/-- The slots that feed an output. -/
def feeders (e : Elem) (out : Nat) : List Nat := (List.range (e.u8 8)).filter fun k => outputOf e k == out

/-- The stream as which a stream's lines leave: its pipe's output, or itself. -/
def State.outOf (s : State) (i : Nat) : Nat :=
  match s.pipeOf i with
  | some e => outputOf e (slotOf e i)
  | none => i

/-- A stream's frame of a beat that an epoch change struck while lines of it were in flight (R400): it carries EPOCH, and so does
every row that it supplies. -/
def State.cutFrame (s : State) (i beat : Nat) : State :=
  let x := s.strm i
  (s.setStrm i { x with frames := x.frames.map fun f => if f.beat = beat then { f with epoch := true } else f }).markRows
    (s.outOf i) beat false true

/-- The frame of an output and beat in a pipe. -/
def Pipe.frame (x : Pipe) (out beat : Nat) : PipeFrame :=
  (x.frames.find? fun f => f.stream == out && f.beat == beat).getD ⟨out, beat, [], 0, 0, [], [], []⟩

/-- Put a frame into a pipe. -/
def Pipe.setFrame (x : Pipe) (f : PipeFrame) : Pipe :=
  { x with frames := (x.frames.filter fun g => !(g.stream == f.stream && g.beat == f.beat)) ++ [f] }

/-- The next line to take: the oldest that waits for one of the pipe's streams (R202), with its port. -/
def State.nextLine (s : State) (e : Elem) : Option (Nat × BufLine) :=
  let all := s.ports.flatMap fun p => (p.2.buffer.filter fun l => (pipeStreams e).contains l.stream).map fun l => (p.1, l)
  (sortBy (fun a => a.2.arrival) all).head?

/-- A line enters its output's frame after black level and flat-field (R212 to R214). -/
def State.feedLine (s : State) (e : Elem) (out beat y : Nat) (pix : List (List Int)) (mrg : List Nat) (st : Stamp)
    (enc : Nat) : State :=
  let x := s.pipe e.id
  let f := x.frame out beat
  s.setPipe e.id (x.setFrame { f with
    lines := Tab.put y pix f.lines
    processed := max f.processed (y + 1)
    stamps := Tab.put y (st, enc) f.stamps
    mrg := if mrg.isEmpty then f.mrg else Tab.put y mrg f.mrg })

/-- A merged line of values M goes through black level and flat-field into its frame. -/
def State.feedRaw (s : State) (e : Elem) (out beat y : Nat) (m : List Nat) (st : Stamp) (enc : Nat) : State :=
  let g := (s.pipe e.id).gains
  s.feedLine e out beat y
    ((List.zip (List.range m.length) m).map fun p => [((flatField e g p.2 p.1 y : Nat) : Int)])
    (if pipeMerge e = 1 then [] else m) st enc

/-- Discard a waiting line of the merge buffer (R211): merged line missing. -/
def State.dropMerge (s : State) (e : Elem) (l : MergeLine) : State :=
  let x := s.pipe e.id
  ((((s.setPipe e.id { x with merge := x.merge.erase l }).bump .PIPE_MRG_DROP e.id).setB .PIPE_STATUS e.id 2).markMissing
    (outputOf e 0) l.beat).dropStat (e.u16 (12 + 2 * l.slot)) l.beat l.line

/-- A line of one exposure: it waits for its partners, or completes the merged line (R211). -/
def State.mergeTake (s : State) (e : Elem) (l : MergeLine) : State :=
  let x := s.pipe e.id
  let mates := x.merge.filter fun m => m.beat == l.beat && m.line == l.line
  if mates.length + 1 = pipeMerge e then
    let all := sortBy (·.slot) (l :: mates)
    let m := (List.range l.samples.length).map fun k => mergeValue e (all.map fun a => (a.samples[k]?).getD 0)
    let first := (all.head?).getD l
    (s.setPipe e.id { x with merge := x.merge.filter fun m => !(m.beat == l.beat && m.line == l.line) }).feedRaw e
      (outputOf e 0) l.beat l.line m first.stamp first.enc
  else
    let used := sumN (x.merge.map fun m => 2 * m.samples.length)
    let s1 := if 262144 < used + 2 * l.samples.length then
      match (sortBy (·.arrival) x.merge).head? with
      | some o => s.dropMerge e o
      | none => s
      else s
    let y := s1.pipe e.id
    s1.setPipe e.id { y with merge := y.merge ++ [l] }

/-- Has a feeder's frame of a beat closed, or has the beat passed without one? -/
def State.feederClosed (s : State) (i beat : Nat) : Bool :=
  match s.frameOf i beat with
  | some f => !f.isOpen
  | none => s.tempo.isOpen && s.tempo.beats.head?.map (·.num) != some beat

/-- Has an output's frame closed, with no line of it waiting ahead of the pipe? -/
def State.outputClosed (s : State) (e : Elem) (out beat : Nat) : Bool :=
  (feeders e out).all fun k =>
    let i := e.u16 (12 + 2 * k)
    s.feederClosed i beat && !s.linesWait i beat

/-- A merged frame that has closed discards the lines that still wait, and counts as an underrun where it lacks
lines (R211, R229). -/
def State.settleMerge (s : State) (e : Elem) (beat : Nat) : State :=
  if pipeMerge e = 1 || !s.outputClosed e (outputOf e 0) beat then s
  else
    let s1 := ((s.pipe e.id).merge.filter fun l => l.beat == beat).foldl (fun s l => s.dropMerge e l) s
    let h := match s1.elem 0x0008 (outputOf e 0) with | some x => streamHeight x | none => 0
    if ((s1.pipe e.id).frame (outputOf e 0) beat).lines.length < h then s1.markMissing (outputOf e 0) beat else s1

/-- Settle the merges of the beats being captured or processed. -/
def State.settleMerges (s : State) : State :=
  (s.elems 0x0009).foldl (fun s e => s.liveBeats.foldl (fun s b => s.settleMerge e b.num) s) s

/-- FRAME_START (R180, R182, R185). -/
def execFrameStart (port link vc : Nat) (p : ShortHead) (s : State) : Host.Outcome State Fault Refusal :=
  .next (s.frameStart port link vc p.corrected p.first).settleMerges

/-- FRAME_END (R182, R211). -/
def execFrameEnd (port link vc : Nat) (p : ShortHead) (s : State) : Host.Outcome State Fault Refusal :=
  .next (s.frameEnd port link vc p.corrected p.first).settleMerges

/-- An accepted line goes through unpack and linearisation, to the statistics unit and on (R199, R208, R223). -/
def State.processLine (s : State) (e x : Elem) (l : BufLine) : State :=
  let w := streamWidth x
  let dt := x.u8 11
  let slot := slotOf e l.stream
  let out := outputOf e slot
  if dtClass dt = 0 then
    let lin := (List.range w).map fun k => s.linearise e.id (unpackRaw dt l.bytes k)
    let s1 := s.statLine x l.beat l.line l.stamp lin
    let p := s1.pipe e.id
    let f := p.frame out l.beat
    let s2 := s1.setPipe e.id (p.setFrame { f with lin := Tab.put (slot * 65536 + l.line) lin f.lin })
    if slot < pipeMerge e ∧ 1 < pipeMerge e then
      s2.mergeTake e ⟨slot, l.beat, l.line, l.arrival, l.stamp, l.enc, lin⟩
    else s2.feedRaw e out l.beat l.line lin l.stamp l.enc
  else
    let pix := (List.range w).map fun k => unpackColour dt l.bytes k
    let tap := pix.map fun px => ((px[if dtClass dt = 1 then 0 else 1]?).getD 0).toNat
    (s.statLine x l.beat l.line l.stamp tap).feedLine e out l.beat l.line pix [] l.stamp l.enc

/-- PIPE_LINE_TAKE (R201, R202): the pipe takes its next waiting line, within its entry of the bar, or refuses it. -/
def execPipeLineTake (pipe : Nat) (s : State) : Host.Outcome State Fault Refusal :=
  match s.elem 0x0009 pipe with
  | none => .next s
  | some e =>
    match s.nextLine e with
    | none => .next s
    | some (p, l) =>
      match s.elem 0x0008 l.stream with
      | none => .next s
      | some x =>
        let y := s.port p
        let s1 := s.setPort p { y with buffer := y.buffer.erase l }
        let q := s1.pipe pipe
        let n := Tab.get 0 q.pix l.beat + streamWidth x
        if s1.rate 0 pipe < n then
          .next (((s1.bump .PIPE_OVQ_CNT pipe).setB .PIPE_STATUS pipe 1).markMissing l.stream l.beat).settleMerges
        else
          .next ((s1.setPipe pipe { q with pix := Tab.set 0 q.pix l.beat n }).processLine e x l).settleMerges

/-! ### Output -/

/-- A pixel as it leaves each stage, for output and probe. -/
structure PixOut where
  ff : Nat
  def_ : Int
  static : Bool
  dynamic : Bool
  dms : List Int
  mat : List Int
  clips : Nat
  out : List Nat
  deriving DecidableEq, Repr

/-- The neighbourhood view of a raw output's frame. -/
def State.rawView (s : State) (e : Elem) (f : PipeFrame) (w h : Nat) : RawView :=
  let d := match s.elem 0x000B f.stream with
    | some r => (List.range (r.u16 8)).map fun k => r.u32 (12 + 4 * k)
    | none => []
  ⟨w, h, e.u8 10, e.u16 32, e.u16 34, d, f.lines⟩

/-- The stages from defect correction on for one pixel (Table 8.2). -/
def State.pixelOut (s : State) (e : Elem) (cls : Nat) (v : RawView) (x y : Nat) : PixOut :=
  let fmt := e.u8 11
  let tail (ff : Nat) (d : Int) (st dy : Bool) (dms input : List Int) : PixOut :=
    let m := matrixRaw e input
    let c := m.map clamp20
    ⟨ff, d, st, dy, dms, c, ((List.zip m c).filter fun p => p.1 != p.2).length, c.map fun k => s.compand e.id k⟩
  if cls ≠ 0 then
    tail 0 0 false false [] ((((Tab.get [] v.lines y)[x]?)).getD [])
  else
    let (p, st, dy) := v.p x y
    let ff := (v.f x y).toNat
    if fmt = 0 then ⟨ff, p, st, dy, [], [], 0, [s.compand e.id p]⟩
    else if v.cfa = 4 then tail ff p st dy [] [p]
    else
      let c := v.rgb x y
      tail ff p st dy c c

/-- The value of a component for a probe register. -/
def comp (l : List Int) (k : Nat) : Nat := ((l[k]?).getD 0).toNat

/-- Latch the probe where it selects a pixel of this line (Table 8.7). -/
def State.probe (s : State) (e : Elem) (f : PipeFrame) (y : Nat) (pix : List PixOut) : State :=
  let n := e.id
  let slot := s.rdF .PROBE_SEL n 1 0
  let x := s.rdF .PROBE_XY n 13 0
  if !s.rdB .PROBE_SEL n 31 || s.rdF .PROBE_XY n 31 16 != y || !(feeders e f.stream).contains slot then s
  else match pix[x]? with
    | none => s
    | some p =>
      let lin := ((Tab.get [] f.lin (slot * 65536 + y))[x]?).getD 0
      let s1 := s.wr .PROBE_LIN n lin
      if 0 < slot ∧ slot < pipeMerge e then s1
      else
        let s2 := ((s1.wr .PROBE_BEAT n f.beat).wr .PROBE_MRG n (((Tab.get [] f.mrg y)[x]?).getD 0)).wr .PROBE_FF n p.ff
        let s3 := s2.wr .PROBE_DEF n (p.def_.toNat + b2n p.static * 2 ^ 30 + b2n p.dynamic * 2 ^ 31)
        let s4 := (List.range 3).foldl (fun s k =>
          (s.wr .PROBE_DMS (3 * n + k) (comp p.dms k)).wr .PROBE_MAT (3 * n + k) (comp p.mat k)) s3
        (s4.wr .PROBE_OUT (2 * n) ((p.out[0]?).getD 0 + (p.out[1]?).getD 0 * 65536)).wr .PROBE_OUT (2 * n + 1)
          ((p.out[2]?).getD 0)

/-- The body of a LINES frame (R326). -/
def linesBody (stream line col n beat : Nat) (st : Stamp) (enc gen flags : Nat) (pix : List Byte) : List Byte :=
  let b := [BitVec.ofNat 8 stream, 0] ++ toLe 2 line ++ toLe 2 col ++ toLe 2 n ++ toLe 8 beat ++ toLe 8 st.sec
    ++ toLe 4 st.ns ++ toLe 4 enc ++ toLe 2 gen ++ toLe 2 flags ++ toLe 4 0 ++ pix
  b ++ zeros (roundUp b.length 4 - b.length)

/-- Send the columns from `col` on of a line to the partner, in frames of at most 16,384 pixel bytes, none beyond the
system section's tie-link entry (R326). -/
def State.sendLine (s : State) (bpp stream line beat : Nat) (st : Stamp) (enc gen flags : Nat) :
    Nat → Nat → List Byte → State
  | 0, _, _ => s
  | fuel + 1, col, pix =>
    if pix.isEmpty then s
    else
      let n := min (16384 / max 1 bpp) (pix.length / max 1 bpp)
      let body := linesBody stream line col n beat st enc gen flags (pix.take (n * bpp))
      let cost := body.length + 20
      if s.rate 0 0x23 < s.charged 0 0x23 + cost then s
      else ((s.charge 0 0x23 cost).tieSend 8 body).sendLine bpp stream line beat st enc gen flags fuel (col + n)
        (pix.drop (n * bpp))

/-- A line that the partner has asked for crosses the tie link (R326). -/
def State.tieLine (s : State) (i line beat bpp : Nat) (st : Stamp) (enc gen flags : Nat) (bytes : List Byte) : State :=
  match s.tie.config with
  | none => s
  | some c =>
    if s.tieState ≠ 2 then s
    else match c.requests.find? fun r => r.1 == i with
      | none => s
      | some (_, l, r) =>
        let pix := (bytes.drop (l * bpp)).take (bytes.length - (l + r) * bpp)
        s.sendLine bpp i line beat st enc gen flags (pix.length + 1) 0 pix

/-- The next line a frame can emit (R203): a present one, with line y + 5 processed or the frame closed. -/
def State.emitReady (s : State) (e : Elem) (f : PipeFrame) : Option Nat :=
  match f.lines.find? fun l => decide (f.emitted ≤ l.1) with
  | none => none
  | some l =>
    if l.1 + 6 ≤ f.processed ∨
        (s.outputClosed e f.stream f.beat ∧ !(s.pipe e.id).merge.any fun m => m.beat == f.beat && f.stream == outputOf e 0)
    then some l.1 else none

/-- PIPE_LINE_EMIT (R203, R207): an output's next line leaves the pipe, is placed in its row (R225), and crosses the tie
link where the partner wants it. -/
def execPipeLineEmit (stream : Nat) (s : State) : Host.Outcome State Fault Refusal :=
  match s.pipeOf stream, s.elem 0x0008 stream with
  | some e, some x =>
    let p := s.pipe e.id
    match (sortBy (·.beat) (p.frames.filter fun f => f.stream == stream)).findSome? fun f =>
        (s.emitReady e f).map fun y => (f, y) with
    | none => .next s
    | some (f, y) =>
      let v := s.rawView e f (streamWidth x) (streamHeight x)
      let pix := (List.range (streamWidth x)).map fun k => s.pixelOut e (dtClass (x.u8 11)) v k y
      let bytes := pix.flatMap fun o => outBytes (e.u8 11) o.out
      let (st, enc) := Tab.get (⟨0, 0⟩, 0) f.stamps y
      let gen := ((s.frameOf stream f.beat).map (·.setgen)).getD 0
      let fed := (feeders e stream).filterMap fun k => s.frameOf (e.u16 (12 + 2 * k)) f.beat
      let flags := b2n (fed.any (·.atDeadline)) + 128 * b2n (fed.any (·.epoch))
      let s1 := s.setPipe e.id (p.setFrame { f with emitted := y + 1 })
      let s2 := s1.addF .PIPE_DYN_CNT e.id 31 0 ((pix.filter (·.dynamic)).length)
      let s3 := s2.addF .PIPE_CLIP_CNT e.id 31 0 (sumN (pix.map (·.clips)))
      .next (((s3.probe e f y pix).placeLine stream f.beat y bytes st gen).tieLine stream y f.beat (fmtBytes (e.u8 11))
        st enc gen flags bytes)
  | _, _ => .next s

/-! ### At a barline, and reset -/

/-- A pipe at the barline that opens `beat` after `last` (R201, R203): the count of the closed beat shows in PIPE_PIX,
lines of beats before `last` are abandoned. -/
def State.pipeBarline (s : State) (beat last : Nat) (p : Nat) : State :=
  let x := s.pipe p
  (s.setPipe p { x with
    merge := x.merge.filter fun l => l.beat == beat || l.beat == last
    frames := x.frames.filter fun f => f.beat == beat || f.beat == last
    pix := x.pix.filter fun e => e.1 == beat || e.1 == last }).wr .PIPE_PIX p (Tab.get 0 x.pix last)

/-- Frames of which a pipe still holds lines: stream and beat, those that wait for their partners and those not yet emitted. -/
def State.pipeHolds (s : State) (e : Elem) : List (Nat × Nat) :=
  let x := s.pipe e.id
  ((x.merge.map fun l => (e.u16 (12 + 2 * l.slot), l.beat)) ++
    ((x.frames.filter fun f => f.lines.any fun l => decide (f.emitted ≤ l.1)).flatMap fun f =>
      (feeders e f.stream).map fun k => (e.u16 (12 + 2 * k), f.beat))).eraseDups

/-- A pipe reset (R400): contexts and merge buffer are cleared, the gain store stays; frames in flight close, and those of which
the pipe held lines lack them. -/
def State.resetPipe (s : State) (p : Nat) : State :=
  match s.elem 0x0009 p with
  | none => s
  | some e =>
    let held := s.pipeHolds e
    let s1 := (pipeStreams e).foldl (fun s i => match s.elem 0x0008 i with
      | some x => match (s.strm i).openFrame with
        | some f => (s.closeFrame x .idle false true).cutFrame i f.beat
        | none => s
      | none => s) s
    let s2 := held.foldl (fun (s : State) h => (s.cutFrame h.1 h.2).markMissing (s.outOf h.1) h.2) s1
    s2.setPipe p { gains := (s2.pipe p).gains, pix := (s2.pipe p).pix }

end Sys2Proof.Machine
end

