-- ==== Sys2Proof/Machine/Services.lean ====
section
/-!
DEFINITION. The on-chip services (ch. 11, R253 to R269): staging, slots and tiles, the three engines, result records.
WINDOW_CUT stands here because it waits, as tiles do, for complete rows.
-/

namespace Sys2Proof.Machine

/-! ### Complete rows -/

/-- Has everything a stream captured in a beat left its pipe: no line waits, merges or stands unemitted? -/
def State.streamQuiet (s : State) (i beat : Nat) : Bool :=
  match s.pipeOf i with
  | none => true
  | some e =>
    let x := s.pipe e.id
    ((feeders e i).all fun k => !s.linesWait (e.u16 (12 + 2 * k)) beat) &&
      !((i == outputOf e 0) && x.merge.any fun m => m.beat == beat) &&
      ((x.frame i beat).lines.all fun l => decide (l.1 < (x.frame i beat).emitted))

/-- Is a row of a source complete: each local member placed it, or has nothing more to place? A partner segment is
filled when it has not arrived (R233). -/
def State.rowReady (s : State) (x : Source) (beat row : Nat) : Bool :=
  (s.segments x).all fun g => (s.rowInfo x row).has g.1 ||
    match x.group, x.stream with
    | some e, _ => match s.memberElem e g.1 with
      | some m => s.streamQuiet m.id beat
      | none => true
    | none, some e => s.streamQuiet e.id beat
    | none, none => true

/-- Are `n` rows of a beat's frame from line `y` on complete? -/
def State.rowsReady (s : State) (x : Source) (beat r0 y n : Nat) : Bool :=
  (List.range n).all fun l => s.rowReady x beat (r0 + y + l)

/-- Are the rows complete that the cut of a window needs: its own, and of a group all, which are judged with it (R231)? -/
def State.cutReady (s : State) (x : Source) (w : Elem) (beat r0 : Nat) : Bool :=
  if x.group.isSome then s.rowsReady x beat r0 0 x.height else s.rowsReady x beat r0 (winY w) (winH w)

/-- WINDOW_CUT (R235): the next uncut window of the beat being processed is cut, once its rows are complete. -/
def execWindowCut (window : Nat) (s : State) : Host.Outcome State Fault Refusal :=
  match s.cutBeat with
  | none => .next s
  | some n =>
    match (s.cutOrder n).find? fun w => !s.isCut w n with
    | some w =>
      if w.id ≠ window then .next s
      else match s.winSource w with
        | none => .next s
        | some x => match s.firstRow x n with
          | none => .next s
          | some r0 =>
            if s.cutReady x w n r0 then
              if s.extestPlays then .fault .extestPlaying else .next (s.cutWindow w n false)
            else .next s
    | none => .next s

/-! ### Instances and tiles -/

/-- The SERVICE record of an instance in effect. -/
def State.svcElem (s : State) (i : Nat) : Option Elem := s.elem 0x000F i

/-- The window of an instance. -/
def State.svcWin (s : State) (e : Elem) : Option Elem := s.elem 0x000D (e.u16 10)

/-- Radius r of a mark instance. -/
def markR (e : Elem) : Nat := e.u32 28
/-- tw. -/
def markW (e : Elem) : Nat := e.u16 32
/-- th. -/
def markH (e : Elem) : Nat := e.u16 34

/-- Width and height over which an instance's tiles are numbered (R256). -/
def svcArea (e w : Elem) : Nat × Nat := if svcKind e = 1 then (markW e, markH e) else (winW w, winH w)

/-- Tiles of an instance. -/
def tileCount (e w : Elem) : Nat :=
  let a := svcArea e w
  ((a.1 + 63) / 64) * ((a.2 + 63) / 64)

/-- X, Y, W, H of a tile. -/
def tileRect (e w : Elem) (t : Nat) : Nat × Nat × Nat × Nat :=
  let a := svcArea e w
  let nx := max 1 ((a.1 + 63) / 64)
  let x := 64 * (t % nx)
  let y := 64 * (t / nx)
  (x, y, min 64 (a.1 - x), min 64 (a.2 - y))

/-- The nominal position of a template (R261). -/
def markPos (e w : Elem) : Nat × Nat := ((winW w - markW e) / 2, (winH w - markH e) / 2)

/-- A window record with another rectangle, in window coordinates. -/
def subWin (w : Elem) (x y ww h : Nat) : Elem :=
  { w with raw := w.raw.take 12 ++ toLe 2 (winX w + x) ++ toLe 2 (winY w + y) ++ toLe 2 ww ++ toLe 2 h ++ w.raw.drop 20 }

/-- The rectangle of the window that an instance's tile covers: for a mark, its search region. -/
def tileWin (e w : Elem) (t : Nat) : Elem :=
  let (x, y, a, b) := tileRect e w t
  if svcKind e = 1 then
    let (cx, cy) := markPos e w
    subWin w (cx + x - markR e) (cy + y - markR e) (a + 2 * markR e) (b + 2 * markR e)
  else subWin w x y a b

/-- The part of the window that is an instance's input (R269). -/
def inputWin (e w : Elem) : Elem :=
  if svcKind e = 1 then
    let (cx, cy) := markPos e w
    subWin w (cx - markR e) (cy - markR e) (markW e + 2 * markR e) (markH e + 2 * markR e)
  else w

/-- The work of an instance on a beat. -/
def State.job (s : State) (i v beat : Nat) : Job :=
  (s.svc.jobs.find? fun j => j.inst == i && j.beat == beat).getD ⟨i, v, beat, [], false, 0, 0, false⟩

/-- Put back the work of an instance. -/
def State.setJob (s : State) (j : Job) : State :=
  { s with svc := { s.svc with
    jobs := (s.svc.jobs.filter fun k => !(k.inst == j.inst && k.beat == j.beat)) ++ [j] } }

/-- A tile of a job. -/
def Job.tile (j : Job) (t : Nat) : Tile := Tab.get {} j.tiles t

/-- Set a tile of a job. -/
def Job.setTile (j : Job) (t : Nat) (x : Tile) : Job := { j with tiles := Tab.set {} j.tiles t x }

/-- Tiles of a job in a state. -/
def Job.count (j : Job) (p : TileState → Bool) : Nat := (j.tiles.filter fun x => p x.2.st).length

/-- Is the beat's work of an instance still to be done? -/
def Job.live (j : Job) : Bool := !j.finished && j.status == 0

/-- Does the group that feeds an instance drop the beat (R231)? A group that may is judged where it was not yet. -/
def State.svcDropped (s : State) (w : Elem) (beat : Nat) : State × Bool :=
  match s.winSource w with
  | some x => match x.group with
    | some g =>
      let t := if s.lockstep g beat then s.judgeGroup x g beat else s
      (t, t.groupDropped g.id beat)
    | none => (s, false)
  | none => (s, true)

/-- Are the rows complete that decide whether a source's beat is dropped: all rows, where its group may drop it (DEDUCED, log
entry 96)? -/
def State.dropKnown (s : State) (w : Elem) (beat : Nat) : Bool :=
  match s.winSource w with
  | some x => match x.group, s.firstRow x beat with
    | some g, some r0 => !s.lockstep g beat || s.rowsReady x beat r0 0 x.height
    | _, _ => true
  | none => true

/-! ### Result records (R269) -/

/-- Bytes of a pixel component. -/
def wideFmt (fmt : Nat) : Bool := !(fmt == 1 || fmt == 3 || fmt == 0x80)

/-- The components of the pixel at index `k` of bytes in a format. -/
def pixelComps (fmt : Nat) (l : List Byte) (k : Nat) : List Nat :=
  let n := pixBytes fmt
  if wideFmt fmt then (List.range (n / 2)).map fun c => leAt l (n * k + 2 * c) 2
  else (List.range n).map fun c => byteAt l (n * k + c)

/-- e of R259: the largest absolute difference of components. -/
def pixelDiff (a b : List Nat) : Nat :=
  (List.zip a b).foldl (fun m p => max m (max p.1 p.2 - min p.1 p.2)) 0

/-- How a pixel of a compare instance is classified (Table 11.3); `open_`: its tile was not computed. -/
inductive PixClass where
  | good
  | bad (excess : Nat)
  | masked
  | fill
  | skipped
  | open_
  deriving DecidableEq, Repr

/-- The class of a pixel of a computed tile. -/
def classify (fmt : Nat) (t : Tile) (k : Nat) : PixClass :=
  let tol := byteAt t.tol k
  let e := pixelDiff (pixelComps fmt t.pixels k) (pixelComps fmt t.ref k)
  let lim := if wideFmt fmt then 256 * tol else tol
  if tol = 255 then .masked
  else if (t.fill[k]?).getD false then .fill
  else if lim < e then .bad (e - lim) else .good

/-- The classes of a window's pixels, row by row. -/
def Job.classes (j : Job) (e w : Elem) (fmt : Nat) : List (List PixClass) :=
  let nx := (winW w + 63) / 64
  (List.range (winH w)).map fun y => (List.range (winW w)).map fun x =>
    let t := y / 64 * nx + x / 64
    let r := tileRect e w t
    let tile := j.tile t
    match tile.st with
    | .done => classify fmt tile ((y - r.2.1) * r.2.2.1 + (x - r.1))
    | .skipped => .skipped
    | _ => .open_

/-- A blob under construction (Table 11.4); `first` is its first raster index. -/
structure Blob where
  first : Nat
  x0 : Nat
  y0 : Nat
  x1 : Nat
  y1 : Nat
  area : Nat
  peak : Nat
  fl : Nat
  deriving DecidableEq, Repr

/-- Two blobs that turn out to be one. -/
def Blob.join (a b : Blob) : Blob :=
  ⟨min a.first b.first, min a.x0 b.x0, min a.y0 b.y0, max a.x1 b.x1, max a.y1 b.y1, a.area + b.area,
    max a.peak b.peak, a.fl ||| b.fl⟩

/-- Labelling in raster order (R260): the blob each provisional label belongs to, the blobs, the labels of the row above
and of this row so far (0 for none), labels used, pixels left without one. -/
structure Label where
  root : Tab Nat
  blobs : Tab Blob
  above : List Nat
  row : List Nat
  used : Nat
  lost : Bool
  deriving DecidableEq, Repr

/-- The class at window coordinates. -/
def classAt (cl : List (List PixClass)) (x y : Nat) : PixClass := (((cl[y]?).getD [])[x]?).getD .good

/-- Does a pixel touch one that fill or a skip masks? -/
def nearMasked (c : List (List PixClass)) (x y : Nat) : Bool :=
  (List.range 3).any fun dy => (List.range 3).any fun dx =>
    decide (1 ≤ x + dx) && decide (1 ≤ y + dy) &&
      match classAt c (x + dx - 1) (y + dy - 1) with
      | .fill | .skipped => true
      | _ => false

/-- Merge the blob of root `b` into that of root `a`. -/
def Label.merge (l : Label) (a b : Nat) : Label :=
  if a = b then l
  else match l.blobs.find? fun e => e.1 == a, l.blobs.find? fun e => e.1 == b with
    | some x, some y => { l with
        root := l.root.map fun e => if e.2 = b then (e.1, a) else e
        blobs := Tab.put a (x.2.join y.2) (Tab.erase b l.blobs) }
    | _, _ => l

/-- One pixel enters the labelling. -/
def Label.pixel (c : List (List PixClass)) (w h y : Nat) (l : Label) (x : Nat) : Label :=
  match classAt c x y with
  | .bad excess =>
    let near := ((List.range 3).map fun d => if x + d = 0 then 0 else (l.above[x + d - 1]?).getD 0) ++
      [if x = 0 then 0 else (l.row.head?).getD 0]
    let roots := (near.filter fun k => k != 0).map fun k => Tab.get 0 l.root k
    let fl := b2n (nearMasked c x y) + 2 * b2n (x == 0 || y == 0 || x + 1 == w || y + 1 == h)
    let b : Blob := ⟨y * w + x, x, y, x, y, 1, min 65535 excess, fl⟩
    match roots with
    | r :: rest =>
      let l1 := rest.foldl (fun l k => l.merge (Tab.get 0 l.root r) k) l
      let a := Tab.get 0 l1.root r
      let old := ((l1.blobs.find? fun e => e.1 == a).map (·.2)).getD b
      { l1 with
        blobs := Tab.put a (old.join b) l1.blobs
        row := (near.find? fun k => k != 0).getD 0 :: l1.row }
    | [] =>
      if 16384 ≤ l.used then { l with row := 0 :: l.row, lost := true }
      else
        let k := l.used + 1
        { l with
          root := Tab.put k k l.root
          blobs := Tab.put k b l.blobs
          row := k :: l.row
          used := k }
  | _ => { l with row := 0 :: l.row }

/-- Label a whole window. -/
def labelAll (c : List (List PixClass)) (w h : Nat) : Label :=
  (List.range h).foldl (fun l y =>
    let m := (List.range w).foldl (Label.pixel c w h y) l
    { m with above := m.row.reverse, row := [] }) ⟨[], [], [], [], 0, false⟩

/-- A blob entry. -/
def Blob.bytes (b : Blob) : List Byte :=
  toLe 2 b.x0 ++ toLe 2 b.y0 ++ toLe 2 b.x1 ++ toLe 2 b.y1 ++ toLe 4 b.area ++ toLe 2 b.peak ++ [BitVec.ofNat 8 b.fl, 0]

/-- The body of a compare result: flags, COUNT, the 16 body bytes and the entries (R260, R269). -/
def Job.compare (j : Job) (e w : Elem) (fmt : Nat) : Nat × Nat × List Byte × List Byte :=
  let c := j.classes e w fmt
  let all := c.flatten
  let l := labelAll c (winW w) (winH w)
  let blobs := sortBy (·.first) (l.blobs.map (·.2))
  let keep := blobs.filter fun b => decide (e.u32 28 ≤ b.area)
  let shown := keep.take (e.u32 32)
  let lost := keep.length - shown.length
  let defpix := (all.filter fun p => match p with | .bad _ => true | _ => false).length
  let fills := all.any fun p => p == .fill
  ((if fills then 2 else 0) + (if l.lost then 512 else 0) + (if 0 < lost then 1024 else 0), shown.length,
    toLe 4 defpix ++ toLe 4 (blobs.length - keep.length) ++ toLe 4 lost ++ toLe 4 0, shown.flatMap Blob.bytes)

/-- The 8-bit value of a pixel for the mark engine (R261). -/
def markValue (fmt : Nat) (l : List Byte) (k : Nat) : Nat :=
  let comps := pixelComps fmt l k
  if wideFmt fmt then (comps[if fmt = 4 then 1 else 0]?).getD 0 / 256 else (comps[if fmt = 3 then 1 else 0]?).getD 0

/-- The sums of R261 at one offset: Sw, Sww, St, Stt, Stw over the computed tiles. -/
def Job.sums (j : Job) (e w : Elem) (fmt dx dy : Nat) : Nat × Nat × Nat × Nat × Nat :=
  (List.range (tileCount e w)).foldl (fun a t =>
    let x := j.tile t
    if x.st ≠ .done then a
    else
      let (_, _, tw, th) := tileRect e w t
      let rw := tw + 2 * markR e
      (List.range (tw * th)).foldl (fun a k =>
        let p := markValue fmt x.pixels ((k / tw + dy) * rw + k % tw + dx)
        let q := byteAt x.ref k
        (a.1 + p, a.2.1 + p * p, a.2.2.1 + q, a.2.2.2.1 + q * q, a.2.2.2.2 + q * p)) a) (0, 0, 0, 0, 0)

/-- num, Dw and Dt at an offset, counted from (-r, -r) (R261). -/
def Job.score (j : Job) (e w : Elem) (fmt dx dy : Nat) : Int × Int × Int :=
  let (sw, sww, st, stt, stw) := j.sums e w fmt dx dy
  let n := markW e * markH e
  ((n * stw : Nat) - (sw * st : Nat), (n * sww : Nat) - (sw * sw : Nat), (n * stt : Nat) - (st * st : Nat))

/-- s in units of 2^-15, with `g` more fraction bits, truncated (R262). -/
def scoreAt (g : Nat) (x : Int × Int × Int) : Nat :=
  if x.2.1 * x.2.2 ≤ 0 ∨ x.1 ≤ 0 then 0
  else isqrt ((x.1 * 2 ^ (15 + g)).toNat ^ 2 / (x.2.1 * x.2.2).toNat)

/-- δ on an axis in Q16.16 from exact scores (R263). -/
def markDelta (sm s0 sp : Int) : Int :=
  let d := 2 * (sm - 2 * s0 + sp)
  if d = 0 then 0
  else if 0 < d then clampI (-32768) 32768 (roundDiv (65536 * (sm - sp)) d.toNat)
  else clampI (-32768) 32768 (roundDiv (65536 * (sp - sm)) (-d).toNat)

/-- The best offset in raster order (R262). -/
def Job.winner (j : Job) (e w : Elem) (fmt : Nat) : Option (Nat × Nat × Int × Int × Int) :=
  let k := 2 * markR e + 1
  (List.range (k * k)).foldl (fun best i =>
    let c := j.score e w fmt (i % k) (i / k)
    if c.1 ≤ 0 ∨ c.2.1 ≤ 0 then best
    else match best with
      | none => some (i % k, i / k, c.1, c.2.1, c.2.2)
      | some b => if b.2.2.1 ^ 2 * c.2.1 < c.1 ^ 2 * b.2.2.2.1 then some (i % k, i / k, c.1, c.2.1, c.2.2) else best) none

/-- The body of a mark result: its flags and 16 bytes (R262, R263, R269). SCORE lies within 1 of the exact value, DX and DY
within 1/256 pixel: the errors are free values. -/
def Job.mark (j : Job) (e w : Elem) (fmt use : Nat) : Nat × List Byte :=
  match j.winner e w fmt with
  | none => (2048, zeros 16)
  | some (px, py, c) =>
    if c.2.2 ≤ 0 then (2048, zeros 16)
    else
      let r := markR e
      let s15 := (scoreAt 1 c + 1) / 2
      let sc := (clampI 0 32767 (clampI 0 32767 s15 + clampI (-1) 1 (Config.error use))).toNat
      let at_ (x y : Nat) : Int := scoreAt 24 (j.score e w fmt x y)
      let ex := px = 0 ∨ px = 2 * r
      let ey := py = 0 ∨ py = 2 * r
      let dx := if ex then 0 else markDelta (at_ (px - 1) py) (at_ px py) (at_ (px + 1) py)
      let dy := if ey then 0 else markDelta (at_ px (py - 1)) (at_ px py) (at_ px (py + 1))
      let err (n : Nat) : Int := clampI (-256) 256 (Config.error n)
      ((if ex then 4096 else 0) + (if ey then 8192 else 0),
        toLe 4 (toBits 32 (((px : Int) - r) * 65536 + dx + (if ex then 0 else err (use + 1)))) ++
          toLe 4 (toBits 32 (((py : Int) - r) * 65536 + dy + (if ey then 0 else err (use + 2)))) ++ toLe 2 sc ++ zeros 6)

/-- Complete a result (R269): its record waits for delivery, the instance's registers follow. -/
def State.finishJob (s : State) (j : Job) (e w : Elem) (x : Source) (r0 : Nat) (ovr : Bool) : State :=
  let use := s.fresh
  let part := s.buildPart (inputWin e w) x j.beat r0 false
  let nskip := j.count fun t => t == .skipped
  let (fl, count, body, entries) : Nat × Nat × List Byte × List Byte :=
    if svcKind e = 0 then j.compare e w x.fmt
    else if svcKind e = 1 then let m := j.mark e w x.fmt use; (m.1, 1, m.2, [])
    else (0, 0, toLe 4 j.written ++ zeros 12, [])
  let flags := (part.flags % 256 ||| fl ||| b2n ovr) + (if 0 < nskip then 256 else 0)
  let len := 64 + entries.length
  let head := toLe 2 0x5653 ++ [1, BitVec.ofNat 8 (svcKind e)] ++ toLe 2 e.voice ++ toLe 2 e.id ++ toLe 2 (e.u16 10)
    ++ toLe 2 flags ++ toLe 4 (((s.beatRec j.beat).map (·.gen)).getD 0) ++ toLe 8 j.beat ++ [BitVec.ofNat 8 j.status, 0]
    ++ bytesAt part.bytes 44 2 ++ toLe 2 (tileCount e w) ++ toLe 2 (j.count fun t => t == .done) ++ toLe 2 nskip
    ++ toLe 2 count ++ toLe 4 len ++ bytesAt part.bytes 46 2 ++ toLe 2 0
    ++ toLe 4 (if len = 64 then 0 else crc32c entries) ++ body
  let s1 := { s with fresh := s.fresh + 3 }.setJob { j with finished := true, tiles := [] }
  let s2 := (s1.wr .SVC_BEAT e.id j.beat).wr .SVC_LAST e.id (j.status + flags * 65536)
  let s3 := if bit 0 flags then s2.bump .SVC_OVR_CNT e.id else s2
  { s3 with svc := { s3.svc with
    items := s3.svc.items ++ [Item.mk (16384 + e.id) e.voice j.beat len none (head ++ entries)] } }

/-- Is every tile of a job computed or skipped? -/
def Job.tilesDone (j : Job) (n : Nat) : Bool :=
  (List.range n).all fun t => match (j.tile t).st with | .done | .skipped => true | _ => false

/-! ### Service memory (R257, R264, R268, Table 4.4) -/

/-- Cut a run of bytes into accesses that do not cross a 512-byte block (R118). -/
def pieces (a n : Nat) : Nat → List (Nat × Nat)
  | 0 => []
  | fuel + 1 =>
    if n = 0 then []
    else
      let k := min n (512 - a % 512)
      (a, k) :: pieces (a + k) (n - k) fuel

/-- How a service access ended. -/
inductive SvcEnd where
  | ok
  | fault (va : Nat) (c : Cause) (l : Nat)
  | busError
  deriving DecidableEq, Repr

/-- Read bytes for an instance through its voice's translation, access by access; a violating access reads zero and counts.
Answers the bytes of the accesses that completed. `r` is how memory answers the first access, well those after it. -/
def State.svcRead (s : State) (v elem : Nat) (r : MemAnswers) : List (Nat × Nat) → State × SvcEnd × List (List Byte)
  | [] => (s, .ok, [])
  | (a, n) :: t =>
    match s.translate v a false r.walk with
    | (s1, .fault c l) => (s1, .fault a c l, [])
    | (s1, .busError _) => (s1, .busError, [])
    | (s1, .viol pa w) =>
      let (s2, e, b) := (s1.violate v (if w then 6 else 5) false elem a pa).svcRead v elem {} t
      (s2, e, zeros n :: b)
    | (s1, .ok pa) =>
      let s2 := s1.charge v 0x20 n
      if memBad r.data || s2.deadAddr pa then
        ((s2.eccResult (if memBad r.data then r.data else .hostError) pa), .busError, [])
      else
        let (s3, e, b) := (s2.eccResult r.data pa).svcRead v elem {} t
        (s3, e, s2.readPhys pa n :: b)

/-- Translate the accesses of a write before any byte is written (R136, R138). Answers where each leads. -/
def State.svcReach (s : State) (v : Nat) : List (Nat × Nat) → State × SvcEnd × List Xlat
  | [] => (s, .ok, [])
  | (a, _) :: t =>
    match s.translate v a true [] with
    | (s1, .fault c l) => (s1, .fault a c l, [])
    | (s1, .busError _) => (s1, .busError, [])
    | (s1, x) =>
      let (s2, e, l) := s1.svcReach v t
      (s2, e, x :: l)

/-- Write accesses that have translated; a violating one is discarded and counts. -/
def State.svcPut (s : State) (v elem : Nat) : List (Nat × Nat) → List Xlat → List Byte → State × SvcEnd
  | (a, n) :: t, .viol pa w :: l, b => (s.violate v (if w then 6 else 5) true elem a pa).svcPut v elem t l (b.drop n)
  | (_, n) :: t, .ok pa :: l, b =>
    if s.deadAddr pa then (s.eccResult .hostError pa, .busError)
    else ((s.charge v 0x20 n).writePhys pa (b.take n)).svcPut v elem t l (b.drop n)
  | _, _, _ => (s, .ok)

/-- Write bytes for an instance through its voice's translation: all of them, or none where one faults (R138). -/
def State.svcWrite (s : State) (v elem : Nat) (ps : List (Nat × Nat)) (b : List Byte) : State × SvcEnd :=
  match s.svcReach v ps with
  | (s1, .ok, l) => s1.svcPut v elem ps l b
  | (s1, end_, _) => (s1, end_)

/-- The accesses of `h` rows of `n` bytes, `pitch` bytes apart, from an address on. -/
def rowPieces (a n pitch h : Nat) : List (Nat × Nat) :=
  (List.range h).flatMap fun l => pieces (a + l * pitch) n (n / 512 + 2)

/-- The reads a tile stages through translation (R257). -/
def stageReads (e w : Elem) (bpp t : Nat) : List (Nat × Nat) × List (Nat × Nat) :=
  let (x, y, a, b) := tileRect e w t
  if svcKind e = 0 then
    (rowPieces (e.u64 12 + (y * winW w + x) * bpp) (a * bpp) (winW w * bpp) b,
      rowPieces (e.u64 20 + y * winW w + x) a (winW w) b)
  else if svcKind e = 1 then (rowPieces (e.u64 12 + y * markW e + x) a (markW e) b, [])
  else ([], [])

/-- The pixels of a window's rows, and which of them are fill. -/
def State.regionBytes (s : State) (x : Source) (w : Elem) (r0 : Nat) : List Byte × List Bool :=
  ((List.range (winH w)).flatMap fun l => s.cutRow x w (r0 + winY w + l) false,
    (List.range (winH w)).flatMap fun l =>
      let inf := s.rowInfo x (r0 + winY w + l)
      (s.segments x).flatMap fun g => List.replicate (clip g.2.1 g.2.2 (winX w) (winW w)).2 (!inf.has g.1))

/-- An instance's work ends with a status: its result completes with no further tile (Table 11.6). -/
def State.endJob (s : State) (j : Job) (e w : Elem) (x : Source) (r0 status : Nat) : State :=
  let s1 := s.dropFermata fun f => f.elem == j.inst &&
    (match f.op with | .serviceRead _ _ | .serviceWrite _ _ => true | _ => false) && f.beat == some j.beat
  s1.finishJob { j with status := status } e w x r0 false

/-- Stage a tile's inputs (R257): the window's pixels from the ring, charged to the system section, the reference inputs
through translation. A fault keeps what is staged; staging goes on at the faulting read (R268). -/
def State.stageTile (s : State) (j : Job) (e w : Elem) (x : Source) (r0 t : Nat) (r : MemAnswers) : State :=
  let (refs, tols) := stageReads e w (pixBytes x.fmt) t
  let old := j.tile t
  let (px, fill) := s.regionBytes x (tileWin e w t) r0
  let tile := if old.begun then old else { old with begun := true, pixels := px, fill := fill }
  let s0 := if old.begun then s else s.charge 0 0x20 px.length
  let (s1, end_, new) := s0.svcRead e.voice e.id r ((refs ++ tols).drop tile.inputs.length)
  let all := tile.inputs ++ new
  match end_ with
  | .ok => s1.setJob (j.setTile t { tile with
      st := .staged
      inputs := []
      ref := (all.take refs.length).flatten
      tol := (all.drop refs.length).flatten })
  | .fault va c l =>
    ((s1.setJob (j.setTile t { tile with st := .fermata, inputs := all })).bump .SVC_FAULT_CNT e.id).enterFermata
      ⟨e.voice, .serviceRead e.id t, va, c, l, some j.beat, t, e.id⟩
  | .busError => s1.endJob j e w x r0 2

/-- Bytes that a tile has still to read through translation. -/
def stageLeft (e w : Elem) (bpp t : Nat) (x : Tile) : Nat :=
  let (refs, tols) := stageReads e w bpp t
  sumN (((refs ++ tols).drop x.inputs.length).map (·.2))

/-- May a tile of an instance be staged now (R257)? A voice of class 0 or 1 never goes beyond its entry, nor past tick 4,095
(R26, R27); a class-2 voice goes on lent rest. -/
def State.mayStage (s : State) (j : Job) (e w : Elem) (x : Source) (r0 t : Nat) : Bool :=
  j.live && decide (t < tileCount e w) && (j.tile t).st == .waiting && decide ((j.count fun k => k == .staged) < 2) &&
    !s.stopped e.voice j.beat &&
    (let left := stageLeft e w (pixBytes x.fmt) t (j.tile t)
     s.classOf e.voice == 2 ||
      (!s.pastBar && (left == 0 || decide (s.charged e.voice 0x20 + left ≤ s.rate e.voice 0x20)))) &&
    (let tw := tileWin e w t
     s.rowsReady x j.beat r0 (winY tw) (winH tw))

/-- TILE_STAGE_END (R257): the staging of a tile of the beat being processed ends; `r` is how memory answers its first read
through translation. -/
def execTileStageEnd (inst tile : Nat) (r : MemAnswers) (s : State) : Host.Outcome State Fault Refusal :=
  match s.cutBeat, s.svcElem inst with
  | some n, some e => match s.svcWin e with
    | some w => if !s.dropKnown w n then .next s else match s.svcDropped w n, s.winSource w with
      | (s1, false), some x => match s1.firstRow x n with
        | some r0 =>
          let j := s1.job inst e.voice n
          .next (if s1.mayStage j e w x r0 tile then s1.stageTile j e w x r0 tile r else s1)
        | none => .next s1
      | (s1, _), _ => .next s1
    | none => .next s
  | _, _ => .next s

/-! ### Slots (R258) -/

/-- Slots of a voice on an engine: start and end tick. -/
def State.slotsOf (s : State) (v eng : Nat) : List (Nat × Nat) :=
  match s.voiceElem 0x0017 v 0 with
  | none => []
  | some e => ((List.range (e.u16 8)).filter fun k => e.u8 (12 + 8 * k) == 0x10 + eng && e.u8 (13 + 8 * k) == 1).map
      fun k => (e.u16 (14 + 8 * k), e.u16 (14 + 8 * k) + e.u32 (16 + 8 * k))

/-- The elapsed time of a bar tick of this beat. -/
def State.tickTime (s : State) (t : Nat) : Nat := s.tempo.last + (t * s.rd .BAR_TICK 0) * 16777216

/-- SLOT_START (R26, R258): the next slot of a voice on an engine begins. -/
def execSlotStart (engine voice : Nat) (s : State) : Host.Outcome State Fault Refusal :=
  if !s.tempo.isOpen || !s.tempo.playing then .next s
  else match (sortBy (·.1) (s.slotsOf voice engine)).find? fun k => decide (s.clock.elapsed < s.tickTime k.2) with
    | none => .next s
    | some k =>
      let s1 := s.runTo (s.tickTime k.1)
      .next { s1 with svc := { s1.svc with slot := Tab.set none s1.svc.slot engine (some (voice, k.2)) } }

/-- The voice whose slot runs on an engine now, and the elapsed time it ends. -/
def State.slotNow (s : State) (eng : Nat) : Option (Nat × Nat) :=
  match Tab.get none s.svc.slot eng with
  | some (v, t) => if s.tempo.isOpen && decide (s.clock.elapsed < s.tickTime t) then some (v, s.tickTime t) else none
  | none => none

/-- The next unit of work of a voice on an engine: instance and tile, or the closing step of a mark. -/
def State.nextUnit (s : State) (v eng beat : Nat) : Option (Elem × Option Nat) :=
  (sortBy (·.id) ((s.elems 0x000F).filter fun e => e.voice == v && svcEngine e == eng)).findSome? fun e =>
    match s.svcWin e with
    | none => none
    | some w =>
      let j := s.job e.id v beat
      if !j.live then none
      else match j.tiles.find? fun t => t.2.st == .staged with
        | some t => some (e, some t.1)
        | none => if svcKind e = 1 ∧ j.tilesDone (tileCount e w) ∧ !j.closed then some (e, none) else none

/-- The cost of a unit in FCLK cycles (Table 11.2). -/
def State.unitCost (s : State) (e : Elem) (tile : Option Nat) : Nat :=
  let k := (2 * markR e + 1) ^ 2
  if svcKind e = 0 then 272
  else if svcKind e = 1 then (match tile with | some _ => 4 * k + 64 | none => k + 64)
  else 64 + (4096 * (match (s.svcWin e).bind s.winSource with | some x => pixBytes x.fmt | none => 1) + 63) / 64

/-- The start of the next slot of another voice on an engine in this bar. -/
def State.nextOther (s : State) (v eng : Nat) : Option Nat :=
  let l := ((s.elems 0x0017).filter fun e => e.voice != v).flatMap fun e => (s.slotsOf e.voice eng).map fun k => s.tickTime k.1
  (sortBy id (l.filter fun t => decide (s.clock.elapsed < t))).head?

/-- Class-2 voices in the order in which rest of an engine is lent to them, round-robin behind the last one (R27): those
with an instance on it, and on the server engine those with a request. -/
def State.lentOrder (s : State) (eng : Nat) : List Nat :=
  let last := Tab.get 0 s.svc.rr eng
  let vs := (((s.elems 0x000F).filter fun e => svcEngine e == eng).map (·.voice) ++
    (if eng = 6 then s.svc.requests.map (·.voice) else [])).filter fun v => s.classOf v == 2
  sortBy (fun v => (v + 1024 - last - 1) % 1024) (vs.foldl (fun a v => if a.contains v then a else a ++ [v]) [])

/-- Is a read of history for a voice's oldest request in fermata? -/
def State.requestHeld (s : State) (v : Nat) : Bool :=
  (s.trans.slots.any fun x => match x.2 with
    | some f => f.voice == v && (match f.op with | .request _ => true | _ => false)
    | none => false) ||
    s.trans.noSlot.any fun f => f.voice == v && (match f.op with | .request _ => true | _ => false)

/-- The image-server instance of a voice (R253). -/
def State.server (s : State) (v : Nat) : Option Elem := (s.elems 0x000F).find? fun e => e.voice == v && svcKind e == 2

/-- The cost of a tile read for a voice's request, in FCLK cycles (Table 11.2). -/
def State.readCost (s : State) (v : Nat) : Nat :=
  match s.server v with
  | some e => s.unitCost e none
  | none => 0

/-- Does a unit of a cost end before the start of the next slot of any other voice on an engine (R258)? -/
def State.lentFits (s : State) (v eng cost : Nat) : Bool :=
  match s.nextOther v eng with
  | some o => decide (s.clock.elapsed + nsU cost < o)
  | none => true

/-- How many units of a cost fit in rest lent to a voice. -/
def State.lentTiles (s : State) (v cost : Nat) : Nat :=
  match s.nextOther v 6 with
  | some o => (o - 1 - s.clock.elapsed) / nsU cost
  | none => 2 ^ 32

/-- Has a voice work for an engine now: a unit, or on the server engine a request; `some cost` with what it takes. -/
def State.engineWork (s : State) (v eng beat : Nat) : Option Nat :=
  match s.nextUnit v eng beat with
  | some (e, t) => some (s.unitCost e t)
  | none => if eng = 6 ∧ (s.svc.requests.any fun r => r.voice == v) ∧ !s.requestHeld v then some (s.readCost v) else none

/-- The voice that rest of an engine is lent to now: the first in turn that has work which fits (R27, R258). The owner of the
slot has no work that may start. -/
def State.lentVoice (s : State) (eng beat : Nat) : Option Nat :=
  let busy := match s.slotNow eng with
    | some (v, end_) => match s.engineWork v eng beat with
      | some c => decide (s.clock.elapsed + nsU c ≤ end_)
      | none => false
    | none => false
  if busy then none
  else (s.lentOrder eng).find? fun v => match s.engineWork v eng beat with
    | some c => s.lentFits v eng c
    | none => false

/-- The unit an engine takes now, and whether on lent rest (R258, R27). Ticks 0 to 15 are kept for the barline (R26). -/
def State.pickUnit (s : State) (eng beat : Nat) : Option (Elem × Option Nat × Bool) :=
  let own := match s.slotNow eng with
    | some (v, end_) => match s.nextUnit v eng beat with
      | some (e, t) => if s.clock.elapsed + nsU (s.unitCost e t) ≤ end_ then some (e, t, false) else none
      | none => none
    | none => none
  if !s.tempo.playing then none
  else match own with
  | some x => some x
  | none => ((s.lentVoice eng beat).bind fun v => s.nextUnit v eng beat).map fun u => (u.1, u.2, true)

/-- An engine. -/
def State.engine (s : State) (k : Nat) : Option Running := Tab.get none s.svc.running k

/-- TILE_START (R258): an idle engine takes its next staged unit. The history write of a server's beat begins with its
first tile: an older beat in that slot is no longer held (R264). -/
def execTileStart (engine : Nat) (s : State) : Host.Outcome State Fault Refusal :=
  match s.engine engine, s.cutBeat with
  | none, some n => match s.pickUnit engine n with
    | none => .next s
    | some (e, t, lent) =>
      let j := s.job e.id e.voice n
      let s1 := match t with
        | some k => s.setJob (j.setTile k { j.tile k with st := .running })
        | none => s
      let d := max 1 (e.u32 28)
      .next { s1 with svc := { s1.svc with
        running := Tab.set none s1.svc.running engine
          (some ⟨e.id, n, t, lent, s.clock.elapsed + nsU (s.unitCost e t)⟩)
        rr := if lent then Tab.set 0 s1.svc.rr engine e.voice else s1.svc.rr
        held := if svcKind e = 2 then s1.svc.held.filter fun h => !(h.1 == e.id && h.2 % d == n % d && h.2 != n)
          else s1.svc.held } }
  | _, _ => .next s

/-! ### The image server's history (R264) -/

/-- S of a server: a history slot's size. -/
def State.histSize (s : State) (w : Elem) : Nat := s.partLen w

/-- The voice address of a beat's history slot. -/
def State.histAddr (s : State) (e w : Elem) (beat : Nat) : Nat := e.u64 12 + beat % max 1 (e.u32 28) * s.histSize w

/-- The tag of a history slot: a part's, with PART where a tile was skipped. -/
def State.histTag (s : State) (j : Job) (w : Elem) (x : Source) (r0 : Nat) : List Byte :=
  let p := s.buildPart w x j.beat r0 false
  let fl := p.flags ||| (if 0 < (j.count fun t => t == .skipped) then 2 else 0)
  p.bytes.take 10 ++ toLe 2 fl ++ (p.bytes.drop 12).take 52

/-- Write a server's tile, or its tag as tile number `n` (R264): before the tag come the zero bytes that pad the payload
(R236). -/
def State.histWrite (s : State) (j : Job) (e w : Elem) (x : Source) (r0 t : Nat) : State :=
  let bpp := pixBytes x.fmt
  let n := tileCount e w
  let base := s.histAddr e w j.beat
  let (tx, ty, a, b) := tileRect e w t
  let pad := s.histSize w - 64 - s.payLen w
  let (ps, bytes) :=
    if t = n then (pieces (base + 64 + s.payLen w) pad 2 ++ pieces base 64 2, zeros pad ++ s.histTag j w x r0)
    else (rowPieces (base + 64 + (ty * winW w + tx) * bpp) (a * bpp) (winW w * bpp) b, (j.tile t).pixels)
  match s.svcWrite e.voice e.id ps bytes with
  | (s1, .ok) =>
    if t = n then
      let s2 := { s1 with svc := { s1.svc with held := s1.svc.held ++ [(e.id, j.beat)] } }
      s2.finishJob { j with closed := true } e w x r0 false
    else s1.setJob { j.setTile t { j.tile t with st := .done, pixels := [] } with written := j.written + bytes.length }
  | (s1, .fault va c l) =>
    let j1 := if t = n then j else j.setTile t { j.tile t with st := .fermata }
    ((s1.setJob j1).bump .SVC_FAULT_CNT e.id).enterFermata ⟨e.voice, .serviceWrite e.id t, va, c, l, some j.beat, t, e.id⟩
  | (s1, .busError) => s1.endJob j e w x r0 2

/-- Where every tile of a job is done, the result completes; a server writes its tag first, a mark waits for its closing
step (R258). -/
def State.settleJob (s : State) (inst beat : Nat) (e w : Elem) (x : Source) (r0 : Nat) : State :=
  let j := s.job inst e.voice beat
  if !j.live || !j.tilesDone (tileCount e w) then s
  else if svcKind e = 2 then (if j.closed then s.finishJob j e w x r0 false else s.histWrite j e w x r0 (tileCount e w))
  else if svcKind e = 1 && !j.closed then s
  else s.finishJob j e w x r0 false

/-- TILE_END (R258 to R264): the unit an engine runs ends; a unit whose beat is past is dropped (Table 1.4). -/
def execTileEnd (engine : Nat) (s : State) : Host.Outcome State Fault Refusal :=
  match s.engine engine with
  | none => .next s
  | some q =>
    let s0 := s.runTo q.ends
    let s1 := { s0 with svc := { s0.svc with running := Tab.set none s0.svc.running engine none } }
    let s2 := s1.bump .ENG_TILES engine
    let s3 := if q.lent then s2.bump .ENG_LENT engine else s2
    match s3.svcElem q.inst with
    | none => .next s3
    | some e =>
      let j := s3.job q.inst e.voice q.beat
      match (s3.svcWin e), (s3.svcWin e).bind s3.winSource with
      | some w, some x => match s3.firstRow x q.beat with
        | none => .next s3
        | some r0 =>
          if s3.cutBeat ≠ some q.beat ∨ !j.live ∨ !(s3.svc.jobs.any fun y => y.inst == q.inst && y.beat == q.beat) then .next s3
          else
            let s4 := match q.tile with
              | none => s3.setJob { j with closed := true }
              | some t =>
                if svcKind e = 2 then s3.histWrite j e w x r0 t
                else s3.setJob (j.setTile t { j.tile t with st := .done })
            .next (s4.settleJob q.inst q.beat e w x r0)
      | _, _ => .next s3

/-! ### Fault decisions on a tile (R141, R268) -/

/-- The context of a service operation: record, window, source, first row. -/
def State.svcCtx (s : State) (inst beat : Nat) : Option (Elem × Elem × Source × Nat) :=
  match s.svcElem inst with
  | none => none
  | some e => match s.svcWin e with
    | none => none
    | some w => match s.winSource w with
      | none => none
      | some x => (s.firstRow x beat).map fun r0 => (e, w, x, r0)

/-- RETRY: the tile waits for its staging to go on, or, its inputs staged, for the engine to take it again (R138, R268); a
tag is written again. -/
def State.svcRetry (s : State) (inst tile beat : Nat) (write : Bool) : State :=
  match s.svcCtx inst beat with
  | none => s
  | some (e, w, x, r0) =>
    let j := s.job inst e.voice beat
    if write && decide (tileCount e w ≤ tile) then s.histWrite j e w x r0 tile
    else s.setJob (j.setTile tile { j.tile tile with st := if write then .staged else .waiting })

/-- SKIP: the tile is left out; a tag that is skipped stays unwritten. -/
def State.svcSkip (s : State) (inst tile beat : Nat) : State :=
  match s.svcCtx inst beat with
  | none => s
  | some (e, w, x, r0) =>
    let j := s.job inst e.voice beat
    let s1 := s.bump .SVC_SKIP_CNT inst
    let s2 := if tile < tileCount e w then s1.setJob (j.setTile tile { st := .skipped })
      else s1.setJob { j with closed := true }
    s2.settleJob inst beat e w x r0

/-- ABORT: the result completes FAULT_ABORTED. -/
def State.svcAbort (s : State) (inst beat : Nat) : State :=
  match s.svcCtx inst beat with
  | none => s
  | some (e, w, x, r0) => s.endJob (s.job inst e.voice beat) e w x r0 7

/-- The first request of a voice becomes one whose reply is LOST. -/
def loseFirst (v : Nat) : List Request → List Request
  | [] => []
  | r :: t => if r.voice = v then { r with lost := true } :: t else r :: loseFirst v t

/-- SKIP or ABORT of the read for an image request: its reply carries LOST (DESIGN CHOICE, log entry 23). -/
def State.loseRequest (s : State) (v : Nat) : State :=
  { s with svc := { s.svc with requests := loseFirst v s.svc.requests } }

/-! ### At a barline, and halts -/

/-- Processing deadline of a beat (R37, R268): unfinished results complete with OVR from the tiles done. Answers the
voices with one, each result once. -/
def State.finishServices (s : State) (beat : Nat) : State × List Nat :=
  let idle := match s.beatRec beat with | some b => b.idle | none => true
  let (s1, l) := if idle then (s, []) else (s.elems 0x000F).foldl (fun a e =>
    match s.svcCtx e.id beat with
    | none => a
    | some (e, w, x, r0) =>
      let j := a.1.job e.id e.voice beat
      let (s0, drop) := a.1.svcDropped w beat
      if j.finished || drop || s0.stopped e.voice beat then (s0, a.2)
      else (s0.finishJob j e w x r0 true, a.2 ++ [e.voice])) (s, [])
  let s2 := s1.dropFermata fun f => (match f.op with | .serviceRead _ _ | .serviceWrite _ _ => true | _ => false) &&
    f.beat == some beat
  ({ s2 with svc := { s2.svc with
    jobs := s2.svc.jobs.filter fun j => j.beat != beat
    slot := [] } }, l)

/-- Voice halt (R92, R268): no result for any beat still in processing. -/
def State.haltServices (s : State) (v : Nat) : State :=
  { s with svc := { s.svc with
    jobs := s.svc.jobs.filter fun j => j.voice != v
    requests := s.svc.requests.filter fun r => r.voice != v
    items := s.svc.items.filter fun i => !(i.voice == v && i.src / 16384 == 1) } }

/-- ENG_STATUS (Table 11.9). -/
def State.engStatus (s : State) (k : Nat) : Nat :=
  match s.engine k with
  | some q => (if q.lent then 2 else 1) + q.inst * 256 + (match s.svcElem q.inst with | some e => e.voice | none => 0) * 65536
  | none => match s.slotNow k, s.cutBeat with
    | some (v, _), some n =>
      match (s.elems 0x000F).find? fun e => e.voice == v && svcEngine e == k && (s.job e.id v n).live with
      | some e => 3 + e.id * 256 + v * 65536
      | none => 0
    | _, _ => 0

end Sys2Proof.Machine
end

