-- ==== Sys2Proof/Machine/Voices.lean ====
section
/-!
DEFINITION. Voice pages: access, notifications, queue releases, fault decisions, invalidation (ch. 04, ch. 05); and the
memory's own events: scrub, refresh multiplier, shortfall (R145 to R147).
-/

namespace Sys2Proof.Machine

/-! ### Access to a voice page -/

/-- The PATH code of a register path (Table 4.7). -/
def pathCode (p : Path) : Nat := match p with | .pcie => 0 | .netctl => 1 | .debug => 0

/-- An access to offset `ofs` of a voice's page: the debug port does not reach voice pages (R426, R429), the page of an
undeclared voice is a violation (Table 4.4), and any other access acts. -/
def State.pageAccess (s : State) (p : Path) (v ofs : Nat) (write : Bool) (act : State → State) : State :=
  if p == .debug || !s.domUp .FABRIC || 1024 ≤ v then s
  else if s.declared v then act s
  else s.violate v (pathCode p) write 0 ofs 0

/-- A write to an offset of the voice page that acts. -/
def State.pageWrite (s : State) (p : Path) (v ofs : Nat) (act : State → State) : State := s.pageAccess p v ofs true act

/-! ### Notifications (R111) -/

/-- The vector of a pending bit is sent once where its mask bit falls while it is set. -/
def State.unmaskBit (old : Nat) (v k : Nat) (s : State) : State :=
  if bit k old && !s.rdB .VW_IRQ_MASK v k && s.rdB .VW_IRQ_STATUS v k then s.msix (2 * v + k) else s

/-- A write of VW_IRQ_MASK. -/
def State.maskWrite (s : State) (v w : Nat) : State :=
  let old := s.rd .VW_IRQ_MASK v
  (((s.wr .VW_IRQ_MASK v (w % 4)).unmaskBit old v 0)).unmaskBit old v 1

/-- VW_IRQ_MASK_WRITE (R111). -/
def execVwIrqMaskWrite (p : Path) (voice : Nat) (v : Word) (s : State) : Host.Outcome State Fault Refusal :=
  .next (s.pageWrite p voice 0x2C fun s => s.maskWrite voice v.toNat)

/-- A write of VIOL_INFO: VALID clears the whole record (R119). -/
def State.violClear (s : State) (w : Nat) : State :=
  if bit 15 w then ((((s.wr .VIOL_INFO 0 0).wr .VIOL_BEAT 0 0).wr .VIOL_VA 0 0).wr .VIOL_PA 0 0) else s

/-- VIOL_INFO_CLEAR (R119). -/
def execViolInfoClear (p : Path) (v : Word) (s : State) : Host.Outcome State Fault Refusal :=
  .next (if s.regOpen p .FABRIC then s.violClear v.toNat else s)

/-! ### Posts that wait (R106) -/

/-- QUEUE_POST_RELEASE (R106): the oldest post that waits at a queue is made, once the queue has room; `m` is how memory
answers it (R144). -/
def execQueuePostRelease (q : QueueRef) (m : MemAnswers) (s : State) : Host.Outcome State Fault Refusal :=
  .next (s.releasePost q.voice q.queue m)

/-! ### Fault decisions (R141) -/

/-- FAULT_SLOT_TAKE (R139): the voice's oldest operation that waits for a slot takes a free one. -/
def execFaultSlotTake (voice : Nat) (s : State) : Host.Outcome State Fault Refusal :=
  match s.freeSlot voice, s.trans.noSlot.find? fun f => f.voice == voice with
  | some k, some f => .next ({ s with trans := { s.trans with noSlot := s.trans.noSlot.erase f } }.takeSlot f k)
  | _, _ => .next s

/-- The operation a decision names: its slot is in fermata and the tag is the slot's (R141). -/
def State.decided (s : State) (v slot tag : Nat) : Option Fermata :=
  if slot < 16 ∧ Tab.get 0 s.trans.tags (v * 16 + slot) = tag then s.slotOp v slot else none

/-- Does another operation of a channel stand in fermata? -/
def State.chanHeld (s : State) (c : Nat) : Bool :=
  (s.trans.slots.any fun e => match e.2 with | some f => f.ofChan c | none => false) ||
    s.trans.noSlot.any fun f => f.ofChan c

/-- The failing burst of a channel's faulted side. -/
def State.faultBurst (s : State) (c : Nat) (f : Fermata) (write : Bool) : DmaFail :=
  match (s.chan c).descs.find? fun d => d.idx == f.aux with
  | some d => ⟨if write then d.writeIssued else d.readIssued, f.va, 0, write⟩
  | none => ⟨0, f.va, 0, write⟩

/-- The state of a channel that one of its faulted operations leaves: ACTIVE again once none is left in fermata; a halted or
stopped one stays so (Table 6.4). -/
def State.unfault (s : State) (c : Nat) : ChMode :=
  if (s.chan c).mode = .fermata then (if s.chanHeld c then .fermata else .run) else (s.chan c).mode

/-- RETRY of a data burst: the side walks again; an earlier bus error then meets the channel's policy (ch. 6,
Corners). -/
def State.retrySide (s : State) (c : Nat) (f : Fermata) (write : Bool) : State :=
  let x := s.chan c
  let s1 := (s.setChan c { x with
    mode := s.unfault c
    rd := if write then x.rd else .waiting
    wr := if write then .waiting else x.wr }).missFor f.voice f.va (c, write)
  match (s1.chan c).descs.findSome? (fun d => d.fail.map fun g => (d, g)), s1.dmaElem c with
  | some (d, g), some e => if (s1.chan c).mode = .run then s1.busPolicy c e d.idx g else s1
  | _, _ => s1

/-- SKIP or ABORT of a data burst: the descriptor ends with the status and its residue; ABORT stops the channel. -/
def State.endSide (s : State) (c : Nat) (f : Fermata) (write stop : Bool) : State :=
  let b := s.faultBurst c f write
  let s0 := (s.dropFermata fun g => g.ofChan c && g.aux == f.aux).dropWaiter c
  let s1 := (s0.setChan c { s0.chan c with mode := s0.unfault c, rd := .none, wr := .none })
  let s2 := s1.endDesc c f.aux (if stop then 7 else 6) (some b)
  if stop then s2.setChan c { s2.chan c with mode := .stopped } else s2

/-- SKIP or ABORT of a descriptor fetch: the descriptor was never read and moved nothing. Its LEN is not known, and its
RESIDUE is 0 (DESIGN CHOICE, log entry 94). -/
def State.endFetch (s : State) (c : Nat) (f : Fermata) (stop : Bool) : State :=
  match s.dmaElem c with
  | none => s
  | some e =>
    let d : Desc := ⟨f.aux, none, zeros 32, none, 0, 0, [], [], 0, [], [], false, none, none⟩
    let s1 := s.writeback c e d (if stop then 7 else 6) 0 (some ⟨0, f.va, 0, false⟩) true
    s1.setChan c { s1.chan c with mode := if stop then .stopped else s1.unfault c }

/-- RETRY of a post: the walk is made again, and on success the post. -/
def State.retryPost (s : State) (f : Fermata) (p : Post) : State :=
  match s.makePost p {} with
  | (s1, .done) => s1
  | (s1, .faulted c l va) => s1.enterFermata { f with cause := c, level := l, va := va }

/-- RETRY (Table 5.6). -/
def State.retryOp (s : State) (f : Fermata) : State :=
  match f.op with
  | .dmaRead c => s.retrySide c f false
  | .dmaWrite c => s.retrySide c f true
  | .fetch c => s.setChan c { s.chan c with mode := s.unfault c }
  | .post p => s.retryPost f p
  | .serviceRead i t => s.svcRetry i t (f.beat.getD 0) false
  | .request _ => s
  | .serviceWrite i t => s.svcRetry i t (f.beat.getD 0) true

/-- SKIP (Table 5.6). -/
def State.skipOp (s : State) (f : Fermata) : State :=
  match f.op with
  | .dmaRead c => s.endSide c f false false
  | .dmaWrite c => s.endSide c f true false
  | .fetch c => s.endFetch c f false
  | .post p => (s.setDropped p.voice p.queue).postEnded p
  | .serviceRead i t | .serviceWrite i t => s.svcSkip i t (f.beat.getD 0)
  | .request _ => s.loseRequest f.voice

/-- ABORT (Table 5.6). -/
def State.abortOp (s : State) (f : Fermata) : State :=
  match f.op with
  | .dmaRead c => s.endSide c f false true
  | .dmaWrite c => s.endSide c f true true
  | .fetch c => s.endFetch c f true
  | .post p => (s.setDropped p.voice p.queue).postEnded p
  | .serviceRead i _ | .serviceWrite i _ => s.svcAbort i (f.beat.getD 0)
  | .request _ => s.loseRequest f.voice

/-- A decision through VW_FAULT_RESUME: it frees the slot and acts; one that names no operation is ignored. -/
def State.faultDecision (s : State) (v slot tag action : Nat) : State :=
  match s.decided v slot tag with
  | none => s
  | some f =>
    let s1 := s.releaseSlot v slot
    match action with
    | 1 => s1.retryOp f
    | 2 => s1.skipOp f
    | 3 => s1.abortOp f
    | _ => s

/-- FAULT_RETRY (R141). -/
def execFaultRetry (p : Path) (voice slot tag : Nat) (s : State) : Host.Outcome State Fault Refusal :=
  .next (s.pageWrite p voice 0x68 fun s => s.faultDecision voice slot tag 1)

/-- FAULT_SKIP (R141). -/
def execFaultSkip (p : Path) (voice slot tag : Nat) (s : State) : Host.Outcome State Fault Refusal :=
  .next (s.pageWrite p voice 0x68 fun s => s.faultDecision voice slot tag 2)

/-- FAULT_ABORT (R141). -/
def execFaultAbort (p : Path) (voice slot tag : Nat) (s : State) : Host.Outcome State Fault Refusal :=
  .next (s.pageWrite p voice 0x68 fun s => s.faultDecision voice slot tag 3)

/-! ### Invalidation (R133, R134) -/

/-- An invalidation starts: BUSY. -/
def State.startInval (s : State) (v : Nat) (i : Inval) : State :=
  { s.setB .VW_TLB_STAT v 0 with trans := { s.trans with busy := Tab.set none s.trans.busy v (some i) } }

/-- A voice asks for an invalidation: it starts, or is held, or makes the held one voice-wide. -/
def State.askInval (s : State) (v : Nat) (i : Inval) : State :=
  match Tab.get none s.trans.busy v with
  | none => s.startInval v i
  | some _ =>
    let j := match Tab.get none s.trans.held v with | none => i | some _ => ⟨0, 0⟩
    { s.setB .VW_TLB_STAT v 1 with trans := { s.trans with held := Tab.set none s.trans.held v (some j) } }

/-- A write of VW_TLB_INV: VPN, and SCOPE unless it is the reserved code, take effect, and an invalidation starts (R15,
R133). -/
def State.tlbInv (s : State) (v w : Nat) : State :=
  let scope := if fld 25 24 w = 3 then s.rdF .VW_TLB_INV v 25 24 else fld 25 24 w
  (s.wr .VW_TLB_INV v (fld 23 0 w + scope * 2 ^ 24)).askInval v ⟨scope, fld 23 0 w⟩

/-- TLB_INVALIDATE (R133). -/
def execTlbInvalidate (p : Path) (voice : Nat) (v : Word) (s : State) : Host.Outcome State Fault Refusal :=
  .next (s.pageWrite p voice 0x60 fun s => s.tlbInv voice v.toNat)

/-- Does a burst in flight of a voice's channel use an entry that an invalidation removes? -/
def State.invalBusy (s : State) (v : Nat) (i : Inval) : Bool :=
  s.dma.ch.any fun e =>
    (match s.dmaElem e.1 with | some d => d.voice == v | none => false) &&
      let bursts := e.2.flying.map (·.2) ++ e.2.descs.flatMap fun d =>
        (if d.item.isSome then [] else d.reads) ++ d.writes
      bursts.any fun b => s.trans.tlb.any fun t => i.matches v t && t.covers v b.va

/-- A walker's answer that a side has not used is forgotten where an invalidation may remove its page: the side translates
anew. -/
def State.forgetAnswers (s : State) (v : Nat) (i : Inval) : State :=
  let clear (va : Option Nat) (x : SideXlat) : SideXlat :=
    match x, va with
    | .answer r, some a => if i.mayMatch a then .none else .answer r
    | y, _ => y
  { s with dma := { s.dma with ch := s.dma.ch.map fun e =>
    if (match s.dmaElem e.1 with | some d => d.voice == v | none => false) then
      (e.1, { e.2 with
        rd := clear (e.2.readDesc.map fun d => d.srcAt d.readIssued) e.2.rd
        wr := clear (e.2.descs.head?.map fun d => d.dstAt d.writeIssued) e.2.wr })
    else e } }

/-- INVALIDATION_COMPLETE (R133, R143): the busy invalidation of a voice ends once no burst uses an entry it removes; the
held one starts, and a fault record that its ring kept from being posted is tried again. -/
def execInvalidationComplete (voice : Nat) (s : State) : Host.Outcome State Fault Refusal :=
  match Tab.get none s.trans.busy voice with
  | none => .next s
  | some i =>
    if s.invalBusy voice i then .next s
    else
      let s1 := (s.tlbRemove fun e => i.matches voice e).forgetAnswers voice i
      let n := (s1.rdF .VW_TLB_STAT voice 31 16 + 1) % 65536
      let s2 := ((s1.wr .VW_TLB_STAT voice (n * 65536)))
      let s3 := { s2 with trans := { s2.trans with busy := Tab.set none s2.trans.busy voice none } }
      let s4 := match Tab.get none s3.trans.held voice with
        | some j => ({ s3 with trans := { s3.trans with held := Tab.set none s3.trans.held voice none } }).startInval voice j
        | none => s3
      .next (s4.releasePost voice 15 {})

/-- A write of the low word of VW_PTROOT: the new root takes effect and the voice's entries are invalidated (R13,
R134). -/
def State.ptroot (s : State) (v w : Nat) : State :=
  let hi := match Tab.get none s.stage (regKey .VW_PTROOT v) with | some h => h.toNat | none => 0
  (s.wr .VW_PTROOT v (fld 0 0 w + fld 31 11 w * 2 ^ 11 + fld 7 0 hi * 2 ^ 32)).askInval v ⟨0, 0⟩

/-- PTROOT_WRITE (R134). -/
def execPtrootWrite (p : Path) (voice : Nat) (v : Word) (s : State) : Host.Outcome State Fault Refusal :=
  .next (s.pageWrite p voice 0x58 fun s => s.ptroot voice v.toNat)

/-! ### The memory's own events -/

/-- SCRUB_PASS (R145): a pass over the tile store, or over LPDDR5 where DDR_ECC is 1, counts what it corrects and
finds. -/
def execScrubPass (lpddr : Bool) (corrected : Nat) (uncorrectable : List Nat) (s : State) :
    Host.Outcome State Fault Refusal :=
  if lpddr && !s.rdB .MEM_CFG 0 8 then .next s
  else .next (uncorrectable.foldl (fun s a => s.eccResult (.uncorrectable 0) a) (s.addF .ECC_CE_CNT 0 31 0 corrected))

/-- REFMULT_POLL (R146): the refresh multiplier that the LPDDR5 devices report. -/
def execRefmultPoll (mult : Nat) (derated : Bool) (s : State) : Host.Outcome State Fault Refusal :=
  if mult = 1 ∨ mult = 2 ∨ mult = 4 then .next (s.wr .MEM_STATUS 0 (mult + b2n derated * 256)) else .next s

/-- The reservable LPDDR5 capacity per bar (Table 1.2). -/
def State.lpddrCapacity (s : State) : Nat := 4096 * s.rd .PMIN_NS 0 / 100

/-- A shortfall bar is counted (R147); its alert goes out at most once a second (Table 13.5). -/
def State.shortfall (s : State) (unserved : List Nat) : State :=
  let n := min (2 ^ 32 - 1) (sumN unserved)
  let mask := sumN ((List.range 3).map fun k => if (unserved[k]?).getD 0 = 0 then 0 else 2 ^ k)
  let s1 := ((s.bump .SHORT_CNT 0).wr .SHORT_BYTES 0 n).wr .SHORT_CLASS 0 mask
  if s1.net.shortAt.all fun t => decide (t + nsU 1000000000 ≤ s1.clock.elapsed) then { s1 with net := { s1.net with shortAt := some s1.clock.elapsed } }.alert 0x0A n else s1

/-- SHORTFALL_CHECK (R147, R383): at the end of tick 4,095 the bar is judged, once: `unserved` within-quota LPDDR5 bytes
by class, `served` bytes, and host-port bytes left unserved. -/
def execShortfallCheck (unserved : List Nat) (served hostUnserved : Nat) (s : State) :
    Host.Outcome State Fault Refusal :=
  if !s.tempo.isOpen || s.tempo.judged then .next s
  else
    let s0 := s.runTo (s.tickTime 4096)
    let s1 := { s0 with tempo := { s0.tempo with judged := true } }
    let s2 := if 0 < hostUnserved then s1.bump .HOST_SHORT_CNT 0 else s1
    .next (if 0 < sumN unserved ∧ served < s2.lpddrCapacity then s2.shortfall unserved else s2)

end Sys2Proof.Machine
end

