-- ==== Sys2Proof/Machine/Net.lean ====
section
/-!
DEFINITION. The uplinks (ch. 13, R300 to R320): states, modules, keys, flows, alerts, heartbeats; and the frames answered
in hardware and the image server's replies (R265 to R267, R270).
-/

namespace Sys2Proof.Machine

/-! ### Epochs (R398) -/

/-- A block's epoch advances, modulo 256. -/
def State.nextEpoch (s : State) (k : Nat) : State := s.wrF .EPOCH_TAB k 7 0 ((s.rdF .EPOCH_TAB k 7 0 + 1) % 256)

/-! ### Uplink states (R302) -/

/-- NET_STATUS.STATE (Table 13.2): 0 OFF, 1 DOWN, 2 UP, 3 RETRAIN. -/
def State.netState (s : State) (u : Nat) : Nat := s.rdF .NET_STATUS u 1 0

/-- Where an item of a flow may go. -/
inductive Route where
  | flow (via : Nat)
  | wait
  | drop
  deriving DecidableEq, Repr

/-- The fallback of a flow, where its uplink is UP (R311). -/
def State.fallback (s : State) (e : Elem) : Option Nat :=
  let k := e.u16 42
  match s.flowElem k with
  | some g => if k ≠ 0xFFFF ∧ s.netUp (g.u8 8) then some k else none
  | none => none

/-- Route an item of a flow (R311, R312). -/
def State.route (s : State) (e : Elem) : Route :=
  if s.tieRouted e then
    if s.tieState = 2 then .flow e.id
    else match s.fallback e with | some k => .flow k | none => .drop
  else if s.netUp (e.u8 8) then .flow e.id
  else match s.fallback e with | some k => .flow k | none => .wait

/-- Route an item of a flow at its first datagram, or keep to its route (R311, R312): answers the flow it goes by. -/
def State.routeItem (s : State) (e : Elem) (i : FlowItem) : Route :=
  match i.via with
  | none => s.route e
  | some g => match s.flowElem g with
    | none => .drop
    | some x =>
      if s.tieRouted x then (if s.tieState = 2 then .flow g else .drop)
      else if s.netUp (x.u8 8) then .flow g else .wait

/-- Items of routed flows that can go nowhere are dropped at once (R312). -/
def State.dropForwards (s : State) : State :=
  (s.elems 0x0011).foldl (fun (s : State) e =>
    let go := (s.flow e.id).items.filter fun i => s.routeItem e i == .drop
    if go.isEmpty then s
    else (s.mapItems e.id fun l => l.filter fun i => !go.contains i).addF .FWD_DROP 0 31 0 go.length) s

/-- An uplink leaves UP (R302): waiting frames are discarded and counted. Its alerts wait in the alert queue. -/
def State.leaveUp (s : State) (u code : Nat) : State :=
  let x := s.uplink u
  let lost := x.egress
  let s1 := (s.wrF .NET_STATUS u 1 0 code).addF .EGR_DROP u 31 0 lost.length
  let s2 := s1.setUplink u { x with egress := [], tx := none }
  let s3 := { s2 with net := { s2.net with
    alerts := s2.net.alerts.map fun (a : Alert) => if a.placed = some u then { a with placed := none } else a } }
  ((lost.foldl (fun (s : State) f => s.discard u f) s3).dropForwards).alertPump

/-- UPLINK_UP (R302): block lock has been held for 100 ms with few PCS errors. -/
def execUplinkUp (uplink : Nat) (s : State) : Host.Outcome State Fault Refusal :=
  match s.netElem uplink with
  | none => .next s
  | some e =>
    if s.netState uplink ≠ 1 ∨ s.blockOff (48 + uplink) ∨ e.u32 44 ≤ s.rdF .PCS_ERR_WIN uplink 31 0 ∨ !s.domUp .NET then .next s
    else .next (((s.wrF .NET_STATUS uplink 3 0 2).alert 0x04 uplink).startTx uplink)

/-- UPLINK_DOWN (R302): block lock, the signal or the module is lost. -/
def execUplinkDown (uplink : Nat) (modAbs los txFault : Bool) (s : State) : Host.Outcome State Fault Refusal :=
  if s.netState uplink = 0 then .next s
  else
    let s1 := s.wrF .NET_STATUS uplink 4 2 (b2n modAbs + 2 * b2n los + 4 * b2n txFault)
    .next (if s1.netState uplink = 2 then s1.leaveUp uplink 1 else s1)

/-- UPLINK_RETRAIN (R302): PCS errors are counted; at PCS_LIMIT an uplink that is UP enters RETRAIN. -/
def execUplinkRetrain (uplink errors : Nat) (s : State) : Host.Outcome State Fault Refusal :=
  match s.netElem uplink with
  | none => .next s
  | some e =>
    let s1 := (s.addF .PCS_ERR_WIN uplink 31 0 errors).addF .PCS_ERR_CNT uplink 31 0 errors
    if s1.netState uplink = 2 ∧ e.u32 44 ≤ s1.rdF .PCS_ERR_WIN uplink 31 0 then
      let s2 := ((((s1.leaveUp uplink 3).bump .RETRAIN_CNT uplink).setB .NET_STATUS uplink 8).nextEpoch (48 + uplink)).vector0
      let s3 := s2.setUplink uplink { s2.uplink uplink with retrainEnds := s2.clock.elapsed + nsU 10000000 }
      .next (s3.alert 0x03 uplink)
    else .next s1

/-- RETRAIN_END (R302): after 10 ms the uplink goes to DOWN. -/
def execRetrainEnd (uplink : Nat) (s : State) : Host.Outcome State Fault Refusal :=
  if s.netState uplink ≠ 3 then .next s
  else .next ((s.runTo (s.uplink uplink).retrainEnds).wrF .NET_STATUS uplink 1 0 1)

/-- Does the device accept a received frame (R300, R301)? FCS, length, tag, and destination MAC; `bcast`: it is an ARP request,
which may be broadcast; `ip`: it has an IP destination. -/
def State.frameOk (s : State) (u : Nat) (h : RxHead) (bcast ip : Bool) : Bool :=
  match s.netElem u with
  | none => false
  | some e =>
    let tci := beAt e.raw 18 2
    h.fcsOk && decide (64 ≤ h.len) && decide (h.len ≤ e.u16 10) &&
      (h.dst == beAt e.raw 12 6 || (bcast && h.dst == 2 ^ 48 - 1)) &&
      (match h.tags with
        | [] => tci == 0
        | [t] => tci != 0 && t % 4096 == tci % 4096
        | _ => false) &&
      (!ip || (h.plain && e.u8 (if h.v6 then 25 else 24) != 0 && h.dip == s.netIp u h.v6))

/-- A received frame is dropped (R301). -/
def State.dropFrame (s : State) (u : Nat) (h : RxHead) : State :=
  if s.netElem u = none ∨ !s.netUp u then s
  else if h.fcsOk then s.bump .RX_OTHER u else (s.bump .RX_OTHER u).bump .FCS_ERR_CNT u

/-- FRAME_DROP (R301): a frame that is not accepted, or that no handler takes. One that is accepted and has a handler is that
handler's. -/
def execFrameDrop (uplink : Nat) (f : RxFrame) (s : State) : Host.Outcome State Fault Refusal :=
  .next (if f.handled && s.frameOk uplink f.head false true then s else s.dropFrame uplink f.head)

/-- FRAME_TX_END (R310): the frame on the wire completes, and the next one starts. -/
def execFrameTxEnd (uplink : Nat) (s : State) : Host.Outcome State Fault Refusal :=
  let x := s.uplink uplink
  if x.tx.isNone then .next s
  else
    let s1 := s.runTo x.txEnds
    .next ((s1.setUplink uplink { s1.uplink uplink with tx := none }).startTx uplink)

/-! ### Modules (R300) -/

/-- A write of MOD_CMD with GO starts a transfer, unless one runs. -/
def State.modCmd (s : State) (u w : Nat) : State :=
  if !bit 31 w || s.rdB .MOD_STATUS u 0 then s else (s.wr .MOD_CMD u w).setB .MOD_STATUS u 0

/-- The transfer of a module's two-wire master ends; an unpowered cage does not answer. -/
def State.modEnd (s : State) (u : Nat) (r : CciResult) (data : Byte) : State :=
  if !s.rdB .MOD_STATUS u 0 then s
  else
    let w := s.rd .MOD_CMD u
    let ok := r == .ack && (s.netElem u).isSome
    let s1 := (s.clrB .MOD_STATUS u 0).setB .MOD_STATUS u 1
    if !ok then s1.setB .MOD_STATUS u 2
    else if bit 9 w then s1.wr .MOD_DATA u data.toNat
    else s1.emit (.module u (w % 512) (s1.rd .MOD_DATA u % 256))

/-- MODULE_READ (R300). -/
def execModuleRead (p : Path) (uplink : Nat) (v : Word) (r : CciResult) (data : Byte) (s : State) :
    Host.Outcome State Fault Refusal :=
  .next (if uplink < 2 ∧ s.entryOpen p .MOD_CMD uplink then (s.modCmd uplink v.toNat).modEnd uplink r data else s)

/-- MODULE_WRITE (R300). -/
def execModuleWrite (p : Path) (uplink : Nat) (v : Word) (r : CciResult) (s : State) :
    Host.Outcome State Fault Refusal :=
  .next (if uplink < 2 ∧ s.entryOpen p .MOD_CMD uplink then (s.modCmd uplink v.toNat).modEnd uplink r 0 else s)

/-! ### Keys (R305, R306) -/

/-- Install a voice's key and reset its LAST_SEQ. -/
def State.installKey (s : State) (v : Nat) (key : List Byte) (owned : Bool) : State :=
  { s with net := { s.net with keys := Tab.set none s.net.keys v (some ⟨key, owned, 0⟩) } }

/-- The conductor installs a key, or a CTLKEY record does: not where the voice owns its key. -/
def State.giveKey (s : State) (v : Nat) (key : List Byte) : State :=
  match s.netKey v with
  | some k => if k.owned then s else s.installKey v key false
  | none => s.installKey v key false

/-- A write of KEY_DATA word `k`; word 3 installs the key. -/
def State.keyData (s : State) (k w : Nat) : State :=
  if k < 3 then s.wr .KEY_DATA k w
  else
    let key := toLe 4 (s.rd .KEY_DATA 0) ++ toLe 4 (s.rd .KEY_DATA 1) ++ toLe 4 (s.rd .KEY_DATA 2) ++ toLe 4 w
    s.giveKey (s.rdF .KEY_SEL 0 9 0) key

/-- KEY_INSTALL (R305): a write of KEY_DATA3. -/
def execKeyInstall (p : Path) (v : Word) (s : State) : Host.Outcome State Fault Refusal :=
  .next (if s.regOpen p .FABRIC then s.keyData 3 v.toNat else s)

/-! ### Received messages (R303 to R305, R95) -/

/-- Does a message's trailer verify under the key of the voice it names (R304)? -/
def State.ysfVerified (s : State) (v : Nat) (b : List Byte) : Bool :=
  match s.netKey v with
  | some k => bit 1 (leAt b 12 2) && decide (48 ≤ b.length) && b.drop (b.length - 16) == cmac k.key (b.take (b.length - 16))
  | none => false

/-- SEQ of a message is new (R305). -/
def State.seqNew (s : State) (v seq : Nat) : Bool :=
  match s.netKey v with
  | some k => let d := (seq + 2 ^ 32 - k.lastSeq) % 2 ^ 32; decide (1 ≤ d) && decide (d < 2 ^ 31)
  | none => false

/-- SEQ becomes LAST_SEQ. -/
def State.takeSeq (s : State) (v seq : Nat) : State :=
  match s.netKey v with
  | some k => { s with net := { s.net with keys := Tab.set none s.net.keys v (some { k with lastSeq := seq }) } }
  | none => s

/-- Fill a bucket of `rate` tokens a second and capacity `cap` up to now and take one token (R267); buckets count
10^-6 tokens and start full. -/
def takeToken (b : Option Bucket) (rate cap now : Nat) : Bucket × Bool :=
  let full := cap * 1000000
  let have_ := match b with
    | none => full
    | some x => min full (x.tokens + (now - x.at_) * rate / nsU 1000)
  if 1000000 ≤ have_ then (⟨have_ - 1000000, now⟩, true) else (⟨have_, now⟩, false)

/-- Take a token of a voice's request bucket (R267). -/
def State.requestToken (s : State) (v : Nat) : State × Bool :=
  let rate := match s.server v with | some e => e.u32 32 | none => 10
  let (b, ok) := takeToken (Tab.get none s.svc.buckets v) rate ((rate + 9) / 10) s.clock.elapsed
  ({ s with svc := { s.svc with buckets := Tab.set none s.svc.buckets v (some b) } }, ok)

/-- Receive a message on an uplink: its frame and port, header, trailer, voice, sequence and token (R95, R301, R303 to R305,
R314). Answers the voice it acts for. -/
def State.ysfAccept (s : State) (u typ : Nat) (m : ControlMsg) : State × Option Nat :=
  let b := m.bytes
  let v := leAt b 4 2
  let seq := leAt b 8 4
  if s.netElem u = none ∨ !s.netUp u then (s, none)
  else if !s.frameOk u m.head false true ∨ m.head.dport ≠ s.rdF .CTL_PORT u 15 0 then (s.dropFrame u m.head, none)
  else if b.length < 32 ∨ leAt b 0 2 ≠ 0x4659 ∨ leAt b 2 1 ≠ 1 ∨ leAt b 3 1 ≠ typ then (s.bump .RX_OTHER u, none)
  else if 1024 ≤ v ∨ !s.ysfVerified v b ∨ !s.declared v ∨ !s.netctl v ∨ !s.seqNew v seq then (s.bump .AUTH_DROP u, none)
  else
    let (s1, ok) := (s.takeSeq v seq).requestToken v
    if ok then (s1, some v) else (s1.bump .SRV_RATE_DROP 0, none)

/-- The body of an authenticated message. -/
def ysfBody (b : List Byte) : List Byte := (b.drop 32).take (b.length - 48)

/-! ### Replies (R315) -/

/-- P of R307 for an uplink and addresses: `v6`, a tag, a trailer. -/
def datagramSize (maxframe : Nat) (v6 tag auth : Bool) : Nat :=
  (maxframe - (18 + (if tag then 4 else 0) + (if v6 then 40 else 20) + 40 + (if auth then 16 else 0))) / 64 * 64

/-- A reply frame to the source of a message, with its tag (R266). -/
def State.replyFrame (s : State) (u : Nat) (h : RxHead) (msg : List Byte) : NetFrame :=
  s.ysfFrame u h.src h.tags.head? h.v6 h.ip h.port msg

/-- The one REPLY to a control message: it goes on rest and is charged to no voice (R313, R315). -/
def State.controlReply (s : State) (u : Nat) (m : ControlMsg) (v : Nat) (data : List Byte) : State :=
  let msg := s.ysfAuth 4 v 0xFFFF (leAt m.bytes 8 4) 1 (2 ^ 64 - 1) 0 data.length (zeros 8 ++ data)
  s.enqueue u { group := 4, voice := v, tclass := 6, flow := 0xFFFF, frame := s.replyFrame u m.head msg }

/-- The messages of an image reply (R307, R315): `p` data bytes each, the last with the status. -/
def imageReplies (reqId status p : Nat) : Nat → Nat → List Byte → List (Nat × Bool × List Byte)
  | 0, _, _ => []
  | fuel + 1, ofs, data =>
    let last := decide (data.length ≤ p)
    let body := toLe 4 reqId ++ [BitVec.ofNat 8 (if last then status else 0xFF), 1, 0, 0] ++ data.take p
    (ofs, last, body) :: (if last then [] else imageReplies reqId status p fuel (ofs + p) (data.drop p))

/-- Send an image reply (R266): traffic class 0 of the acting voice. -/
def State.imageReply (s : State) (r : Request) (status : Nat) (data : List Byte) : State :=
  let p := datagramSize (s.maxframe r.uplink) r.v6 r.vlan.isSome true - 8
  (imageReplies r.reqId status p (data.length / max 1 p + 1) 0 data).foldl (fun s x =>
    let msg := s.ysfAuth 4 r.voice 0xFFFF r.seq (b2n x.2.1) r.beat x.1 data.length x.2.2
    s.enqueue r.uplink { group := 3, voice := r.voice, tclass := 0, flow := 0xFFFF, frame := s.ysfFrame r.uplink r.mac r.vlan r.v6 r.ip r.port msg }) s

/-! ### Image requests (R265 to R267, R314) -/

/-- Is the body of a REQUEST of the form of R314? -/
def requestOk (b : List Byte) : Bool :=
  b.length == 16 && leAt b 3 1 == 0 && [1, 2, 4, 8].contains (leAt b 2 1)

/-- Set the request queue; SRV_PENDING follows. -/
def State.setRequests (s : State) (l : List Request) : State :=
  { s with svc := { s.svc with requests := l } }.wrF .SRV_PENDING 0 6 0 l.length

/-- IMAGE_REQUEST (R314, R267). -/
def execImageRequest (uplink : Nat) (m : ControlMsg) (s : State) : Host.Outcome State Fault Refusal :=
  match s.ysfAccept uplink 5 m with
  | (s1, none) => .next s1
  | (s1, some v) =>
    let b := ysfBody m.bytes
    if !requestOk b then .next (s1.bump .RX_OTHER uplink)
    else if 64 ≤ s1.svc.requests.length then .next (s1.bump .SRV_FULL_DROP 0)
    else
      let h := m.head
      let r : Request := Request.mk v uplink h.src h.v6 h.ip h.port (leAt m.bytes 16 8) (leAt b 0 2) (leAt b 4 2) (leAt b 6 2)
        (leAt b 8 2) (leAt b 10 2) (leAt b 2 1) (leAt b 12 4) (leAt m.bytes 8 4) false h.tags.head? false 0 []
      .next ((s1.bump .SRV_REQ_CNT 0).setRequests (s1.svc.requests ++ [r]))

/-- Pixels of a reply: columns and rows. -/
def Request.size (r : Request) : Nat × Nat := ((r.w + r.step - 1) / max 1 r.step, (r.h + r.step - 1) / max 1 r.step)

/-- Bytes of a pixel of a window; a free value where there is no such window. -/
def State.windowPix (s : State) (w : Nat) : Nat :=
  match (s.elem 0x000D w).bind s.winSource with
  | some x => pixBytes x.fmt
  | none => 1 + (Config.undefined 0).toNat % 6

/-- The accesses that read a request's pixels, row by row: one byte run for each pixel where STEP is above 1. -/
def requestReads (r : Request) (base pitch bpp : Nat) : List (Nat × Nat) :=
  let (c, h) := r.size
  (List.range h).flatMap fun j =>
    let row := base + (r.y + j * r.step) * pitch + r.x * bpp
    if r.step = 1 then pieces row (c * bpp) (c * bpp / 512 + 2)
    else (List.range c).flatMap fun i => pieces (row + i * r.step * bpp) bpp 2

/-- Take a request out of the queue. -/
def State.endRequest (s : State) (r : Request) : State := s.setRequests (s.svc.requests.erase r)

/-- Change the voice's oldest request. -/
def State.mapRequest (s : State) (r : Request) (f : Request → Request) : State :=
  s.setRequests (s.svc.requests.map fun q => if q == r then f q else q)

/-- The tiles of a window that a request reads (Table 11.2). -/
def Request.tilesOf (r : Request) : Nat :=
  if r.w = 0 ∨ r.h = 0 then 0
  else ((r.x + r.w - 1) / 64 + 1 - r.x / 64) * ((r.y + r.h - 1) / 64 + 1 - r.y / 64)

/-- The beat that a request means: one held under its number, the newest where a rejoin gave two that number (R329). -/
def State.heldBeat (s : State) (inst n : Nat) : Nat :=
  match s.svc.held.reverse.find? fun h => h.1 == inst && h.2 % 2 ^ 64 == n with
  | some h => h.2
  | none => n

/-- A request that is answered without its pixels: the status that the final message carries (Table 11.5). A beat that was
held when the request began and is so no more, or whose read was skipped or aborted, is lost. -/
def State.serveStatus (s : State) (r : Request) (e w : Elem) : Option Nat :=
  let (c, h) := r.size
  if r.lost then some 3
  else if !s.svc.held.contains (e.id, s.heldBeat e.id r.beat) then some (if r.begun then 3 else 1)
  else if winW w < r.x + r.w ∨ winH w < r.y + r.h ∨ 4194304 < 64 + c * h * s.windowPix w.id then some 2
  else none

/-- The last tile of a request is read: the stored tag and the pixels go out (R265). A fault leaves the request queued, with
what it has read, until its decision (R268). -/
def State.serveRead (s : State) (r : Request) (e w : Elem) (m : MemAnswers) : State :=
  let base := s.histAddr e w (s.heldBeat e.id r.beat)
  let bpp := s.windowPix w.id
  let ps := pieces base 64 2 ++ requestReads r (base + 64) (winW w * bpp) bpp
  match s.svcRead r.voice e.id m (ps.drop r.got.length) with
  | (s1, .ok, data) => (s1.endRequest r).imageReply r 0 (r.got ++ data).flatten
  | (s1, .fault va k l, data) =>
    ((s1.mapRequest r fun q => { q with got := q.got ++ data }).bump .SVC_FAULT_CNT e.id).enterFermata
      ⟨r.voice, .request e.id, va, k, l, none, 0, e.id⟩
  | (s1, .busError, _) => ((s1.endRequest r).bump .SRV_NOTHELD 0).imageReply r 3 []

/-- A request for which `k` more tiles have been read. -/
def Request.read (r : Request) (k : Nat) : Request := { r with begun := true, tiles := r.tiles + k }

/-- `k` tile reads of a request, of `cost` FCLK cycles each, on lent rest or not: they take their time and count (Table 11.2,
R258). -/
def State.serveTiles (s : State) (r : Request) (k cost : Nat) (lent : Bool) : State :=
  let s1 := (s.runTo (s.clock.elapsed + nsU (k * cost))).addF .ENG_TILES 6 31 0 k
  let s2 := { if lent then s1.addF .ENG_LENT 6 31 0 k else s1 with svc := { s1.svc with
    rr := if lent then Tab.set 0 s1.svc.rr 6 r.voice else s1.svc.rr } }
  s2.mapRequest r fun _ => r.read k

/-- Serve a request from history (R265) for up to `n` tile reads; one that needs more goes on at the next service. -/
def State.serveHeld (s : State) (r : Request) (e w : Elem) (n cost : Nat) (lent : Bool) (m : MemAnswers) : State :=
  match s.serveStatus r e w with
  | some k => (if k = 2 then s.endRequest r else (s.endRequest r).bump .SRV_NOTHELD 0).imageReply r k []
  | none =>
    let k := min n (r.tilesOf - r.tiles)
    let s1 := s.serveTiles r k cost lent
    if r.tilesOf ≤ r.tiles + k then s1.serveRead (r.read k) e w m else s1

/-- Serve a request whose window is not its voice's server's: a violation, answered with zeros (R265). Table 4.6 has no
VIOL_VA for it, which is a free value; ELEM is the voice's server, and 0 without one (DESIGN CHOICE, log entry 97). -/
def State.serveViolation (s : State) (r : Request) (elem : Nat) : State :=
  let (c, h) := r.size
  let n := c * h * s.windowPix r.window
  let (k, t) := s.freeUse
  ((t.violate r.voice 7 false elem (Config.undefined k).toNat 0).endRequest r).imageReply r 0 (zeros (if 4194304 < 64 + n then 0 else 64 + n))

/-- May the server engine serve a voice's request now (R267): it is idle, no history write of the voice waits, and the voice
holds the slot or rest is lent to it. Answers whether on lent rest, and for how many tile reads there is time (Table 11.2,
R258). -/
def State.serveTurn (s : State) (v : Nat) : Option (Bool × Nat) :=
  match s.cutBeat with
  | none => none
  | some n =>
    let cost := max 1 (s.readCost v)
    if (s.engine 6).isSome || !s.tempo.playing || (s.nextUnit v 6 n).isSome || s.requestHeld v then none
    else match s.slotNow 6 with
      | some (o, end_) =>
        if o = v then some (false, (end_ - s.clock.elapsed) / nsU cost)
        else if s.lentVoice 6 n = some v then some (true, s.lentTiles v cost) else none
      | none => if s.lentVoice 6 n = some v then some (true, s.lentTiles v cost) else none

/-- SERVER_REQUEST_SERVE (R265, R267): the voice's oldest queued request is served; `m` is how memory answers its first
read. -/
def execServerRequestServe (voice : Nat) (m : MemAnswers) (s : State) : Host.Outcome State Fault Refusal :=
  match s.svc.requests.find? (fun q => q.voice == voice), s.serveTurn voice with
  | some q, some (lent, n) =>
    match s.server voice with
    | none => .next (s.serveViolation q 0)
    | some e =>
      if e.u16 10 ≠ q.window then .next (s.serveViolation q e.id)
      else match s.svcWin e with
        | none => .next (s.serveViolation q e.id)
        | some w => .next (s.serveHeld q e w n (s.readCost voice) lent m)
  | _, _ => .next s

/-! ### Frames answered in hardware (R270) -/

/-- A frame answered in hardware: traffic class 6, on rest only, charged to no voice. -/
def State.hwAnswer (s : State) (u : Nat) (h : RxHead) (b : NetBody) : State :=
  s.enqueue u { group := 4, voice := 0, tclass := 6, flow := 0xFFFF, frame := ⟨s.netMac u, h.src, h.tags.head?, b⟩ }

/-- ARP_REQUEST: an ARP request for the uplink's IPv4 address. -/
def execArpRequest (uplink : Nat) (h : RxHead) (ip target : Nat) (s : State) : Host.Outcome State Fault Refusal :=
  match s.netElem uplink with
  | none => .next s
  | some e =>
    if !s.netUp uplink then .next s
    else if !s.frameOk uplink h true false ∨ e.u8 24 = 0 ∨ target ≠ s.netIp uplink false then .next (s.dropFrame uplink h)
    else .next ((s.bump .ARP_CNT uplink).hwAnswer uplink h (.arp (s.netIp uplink false) ip))

/-- ICMP_ECHO_REQUEST (R270): an echo request from IPv4 address `ip` to the uplink's, no longer than MAXFRAME. -/
def execIcmpEchoRequest (uplink : Nat) (h : RxHead) (ip ident seqNum : Nat) (data : List Byte) (s : State) :
    Host.Outcome State Fault Refusal :=
  if s.netElem uplink = none ∨ !s.netUp uplink then .next s
  else if !s.frameOk uplink h false true ∨ h.v6 then .next (s.dropFrame uplink h)
  else
    let (b, ok) := takeToken (Tab.get none s.svc.icmp uplink) 1000 16 s.clock.elapsed
    let s1 := { s with svc := { s.svc with icmp := Tab.set none s.svc.icmp uplink (some b) } }
    .next (if ok then (s1.bump .ICMP_CNT uplink).hwAnswer uplink h (.echo (s.netIp uplink false) ip ident seqNum data)
      else s1.bump .ICMP_DROP uplink)

/-! ### Flows (R307 to R312) -/

/-- The frame of a flow around a message (R308): the source addresses of its uplink. -/
def State.flowFrame (s : State) (e : Elem) (msg : List Byte) : NetFrame :=
  let v6 := e.u8 16 == 6
  ⟨s.netMac (e.u8 8), beAt e.raw 36 6, if bit 0 (e.u8 17) then some (beAt e.raw 18 2) else none,
    .udp v6 (s.netIp (e.u8 8) v6) (beAt e.raw 20 (if v6 then 16 else 4)) (e.u16 14) (e.u16 12) msg⟩

/-- The next datagram of an item that flow `g` carries for flow `f` (R307). -/
def State.datagram (s : State) (f : Nat) (i : FlowItem) (g : Elem) : Nat × EgFrame :=
  let p := datagramSize (s.flowMax g) (g.u8 16 == 6) (bit 0 (g.u8 17)) false
  let n := min p (i.item.len - i.sent)
  let last := decide (i.item.len ≤ i.sent + n)
  let msg := ysfHeader 1 g.voice g.id (s.flow g.id).seq (b2n last) i.item.beat i.sent i.item.len ++ s.itemBytes i.item i.sent n
  (n, ⟨3, g.voice, g.u8 9, g.id, s.flowFrame g msg, f, i.item.beat⟩)

/-- Send the next datagram of an item of flow `f` by flow `g`, where it may start now (R307, R309): it waits at the uplink, or
crosses the tie link. -/
def State.sendDatagram (s : State) (f : Nat) (i : FlowItem) (g : Elem) : State :=
  let (n, eg) := s.datagram f i g
  let k := s.groupNow (g.u8 8) eg
  if k = 5 then s
  else
    let s1 := s.setFlow g.id { s.flow g.id with seq := ((s.flow g.id).seq + 1) % 2 ^ 32 }
    let s2 := s1.mapItems f fun l => l.map fun j => if j = i then { i with sent := i.sent + n, via := some g.id } else j
    if s.tieRouted g then (s2.tieSend 9 eg.frame.bytes).flowSent { eg with group := k } 0x23
    else s2.enqueue (g.u8 8) { eg with group := k }

/-- Is a datagram of a flow waiting at its uplink? -/
def State.flowWaits (s : State) (e : Elem) : Bool := (s.uplink (e.u8 8)).egress.any fun x => x.flow == e.id

/-- The item whose datagrams a flow sends now: the oldest with bytes left. -/
def FlowSt.now (x : FlowSt) : Option FlowItem := x.items.find? fun i => decide (i.sent < i.item.len)

/-- FLOW_FRAME_READY (R309, R311): the next frame of a flow's item becomes eligible; one that waits already starts where it may. -/
def execFlowFrameReady (flow : Nat) (s : State) : Host.Outcome State Fault Refusal :=
  match s.flowElem flow, (s.flow flow).now with
  | some e, some i => match s.routeItem e i with
    | .wait => .next s
    | .drop => .next ((s.mapItems flow fun l => l.erase i).bump .FWD_DROP 0)
    | .flow k => match s.flowElem k with
      | none => .next s
      | some g => .next (if s.flowWaits g then s.startTx (g.u8 8) else s.sendDatagram flow i g)
  | some e, none => .next (if s.flowWaits e then s.startTx (e.u8 8) else s)
  | _, _ => .next s

/-- At tick 16 of beat B the items of beat B - 2 that a flow names become due on it; an item that its flow can only drop
is dropped (R311, R312). -/
def State.flowDue (s : State) (e : Elem) (l : List Item) : State :=
  let mine := l.filter fun i => i.src == e.u16 10 && i.voice == e.voice
  if mine.isEmpty then s
  else (s.mapItems e.id fun x => x ++ mine.map fun i => FlowItem.mk i 0 none false).dropForwards

/-- At barline N + 3 the datagrams not handed to the MAC are dropped (R37, R311). Answers the voices of the items dropped. -/
def State.flowDeadline (s : State) (beat : Nat) : State × List Nat :=
  let s0 := { s with net := { s.net with up := s.net.up.map fun u => (u.1, { u.2 with
    egress := u.2.egress.filter fun f => !(decide (f.flow < 2048) && f.beat == beat) }) } }
  s.net.flows.foldl (fun a e =>
    let (go, keep) := e.2.items.partition fun i => i.item.beat == beat
    if go.isEmpty then a
    else
      let v := match s.flowElem e.1 with | some x => x.voice | none => 0
      ((a.1.setFlow e.1 { a.1.flow e.1 with items := keep }).addF .FLOW_DROP e.1 31 0 go.length, a.2 ++ go.map fun _ => v)) (s0, [])

/-- A new bar: the flows' charges start at 0 (R30). -/
def State.flowQuota (s : State) : State :=
  { s with net := { s.net with flows := (s.net.flows.map fun e => (e.1, { e.2 with charged := 0 })).filter fun e => e.2 != {} } }

/-- A voice is halted: its flows' items and waiting frames are dropped (R92). -/
def State.haltFlows (s : State) (v : Nat) : State :=
  let fs := (s.elems 0x0011).filter fun e => e.voice == v
  let s1 := fs.foldl (fun s e => if (s.flow e.id).items.isEmpty then s
    else s.setFlow e.id { s.flow e.id with items := [] }) s
  { s1 with net := { s1.net with up := s1.net.up.map fun u => (u.1, { u.2 with
    egress := u.2.egress.filter fun f => !(f.voice == v && (f.group == 3 || decide (f.flow < 2048))) }) } }

/-! ### Alerts and heartbeats (R316 to R320) -/

/-- A write of ALERT_RAISE: a code below 0x80 is ignored (R316). -/
def State.alertRaise (s : State) (w : Nat) : State := if 0x80 ≤ w % 256 then s.alert (w % 256) 0 else s

/-- ALERT_RAISE. -/
def execAlertRaise (p : Path) (v : Word) (s : State) : Host.Outcome State Fault Refusal :=
  .next (if s.regOpen p .FABRIC then s.alertRaise v.toNat else s)

/-- A write of ALERT_CLR releases ALERTn where neither condition holds (R319). -/
def State.alertClear (s : State) (w : Nat) : State :=
  if !bit 0 w ∨ (!s.net.alerts.isEmpty ∧ s.alertPath = 3) ∨ s.rdB .ALERT_STATUS 0 11 then s else s.clrB .ALERT_STATUS 0 10

/-- ALERT_CLR. -/
def execAlertClr (p : Path) (v : Word) (s : State) : Host.Outcome State Fault Refusal :=
  .next (if s.regOpen p .FABRIC then s.alertClear v.toNat else s)

/-- The body of a HEARTBEAT (R320). -/
def State.heartbeatBody (s : State) : List Byte :=
  toLe 4 (s.rd .SCORE_GEN 0) ++ [BitVec.ofNat 8 (s.netState 0 + 4 * s.netState 1), BitVec.ofNat 8 s.servoState,
    BitVec.ofNat 8 s.tieState, BitVec.ofNat 8 s.net.alerts.length]

/-- An uplink sends its HEARTBEAT, on rest. -/
def State.heartbeat (s : State) (u : Nat) : State :=
  if !s.alertAvail u then s
  else
    let x := s.uplink u
    let msg := s.ysfAuth 6 0 0xFFFF x.hbSeq 1 s.beatField 0 8 s.heartbeatBody
    (s.setUplink u { x with hbSeq := (x.hbSeq + 1) % 2 ^ 32 }).enqueue u
      { group := 4, voice := 0, tclass := 6, flow := 0xFFFF, frame := s.alertFrame u msg }

/-- NS_ROLLOVER (R302, R320): the clock reaches its next whole second. -/
def execNsRollover (s : State) : Host.Outcome State Fault Refusal :=
  if !s.domUp .TIME then .next s
  else
    let s1 := s.runToClock (nsU ((s.clock.sec + 1) * 1000000000))
    let s2 := (s1.wr .PCS_ERR_WIN 0 0).wr .PCS_ERR_WIN 1 0
    .next ((s2.heartbeat 0).heartbeat 1)

end Sys2Proof.Machine
end

