-- ==== Sys2Proof/Machine/Tie.lean ====
section
/-!
DEFINITION. The tie link (ch. 13, R321 to R329), but for what it does at a barline.
-/

namespace Sys2Proof.Machine

/-! ### Frames (R322) -/

/-- Is the tie link on, with its lanes locked? -/
def State.tieOn (s : State) : Bool := s.tieRole != 0 && s.rdB .TIE_STATUS 0 3

/-- Does a TACK cover a TSEQ? Both count modulo 2^32. -/
def tackCovers (tack tseq : Nat) : Bool := decide ((tack + 2 ^ 32 - tseq) % 2 ^ 32 < 2 ^ 31)

/-- A TACK covers reliable frames and the mirrored alerts among them (R317, R322). -/
def State.tieAck (s : State) (tack : Nat) : State :=
  let gone := s.net.alerts.filter fun a => match a.tseq with | some n => tackCovers tack n | none => false
  let s1 := { s with tie := { s.tie with unacked := s.tie.unacked.filter fun f => !tackCovers tack f.tseq } }
  if gone.isEmpty then s1
  else
    let s2 := { s1 with net := { s1.net with alerts := s1.net.alerts.filter fun a => !gone.contains a } }
    s2.alertRoom.alertPump

/-- A frame arrives: whether it is taken. A frame whose CRC fails is discarded and counted (R322). -/
def State.tieIn (s : State) (h : TieHdr) : State × Bool :=
  if !s.tieOn then (s, false)
  else if !h.crcOk then (s.bump .TIE_CRC_ERR 0, false)
  else (s.tieAck h.tack, true)

/-- A frame with a body that changes the state arrives. -/
def State.tieTake (s : State) (h : TieHdr) (act : State → State) : State :=
  match s.tieIn h with
  | (s1, true) => act s1
  | (s1, false) => s1

/-- A reliable frame arrives: it is taken in order, and acknowledged. -/
def State.tieTakeReliable (s : State) (h : TieHdr) (act : State → State) : State :=
  s.tieTake h fun s1 =>
    if h.tseq = (s1.tie.recvSeq + 1) % 2 ^ 32 then
      (act { s1 with tie := { s1.tie with recvSeq := h.tseq } }).tieSend 0x0B []
    else s1.tieSend 0x0B []

/-- TIE_ACK_RX (R322). -/
def execTieAckRx (h : TieHdr) (s : State) : Host.Outcome State Fault Refusal := .next (s.tieTake h id)

/-- TIE_RESEND (R322): the oldest reliable frame is 100 µs old, uncovered; it and every later one are resent. -/
def execTieResend (s : State) : Host.Outcome State Fault Refusal :=
  match s.tie.unacked with
  | [] => .next s
  | f :: _ =>
    if !s.tieOn then .next s
    else
      let s1 := s.runTo (f.sentAt + nsU 100000)
      let s2 := s1.tie.unacked.foldl (fun s g => (s.emit (tieOut g.ttype g.tseq s.tie.recvSeq true g.body)).bump .TIE_RESEND 0) s1
      .next { s2 with tie := { s2.tie with unacked := s2.tie.unacked.map fun g => { g with sentAt := s2.clock.elapsed } } }

/-! ### CONFIG (R323) -/

/-- Partner members of this device's groups: group, member, stream, TRIM_L, TRIM_R. -/
def State.partnerMembers (s : State) : List (Elem × Nat × Nat × Nat × Nat) :=
  (s.elems 0x000C).flatMap fun g => ((List.range (groupMembers g)).filter fun k => isPartner g k).map fun k =>
    (g, k, memberStream g k, g.u16 (20 + 8 * k), g.u16 (22 + 8 * k))

/-- The answer to a request for a stream: WIDTH 0 where there is none with a pipe. -/
def State.tieAnswer (s : State) (n : Nat) : Nat × Nat × Nat × Nat :=
  match s.elem 0x0008 n, s.pipeOf n with
  | some e, some p => (n, streamWidth e, streamHeight e, p.u8 11)
  | _, _ => (n, 0, 0, 0)

/-- The CONFIG this device sends now. -/
def State.ownConfig (s : State) : TieConfig :=
  ⟨s.tieRole, s.rd .PMIN_NS 0, s.partnerMembers.map fun m => (m.2.2.1, m.2.2.2.1, m.2.2.2.2),
    match s.tie.config with | some c => c.requests.map fun r => s.tieAnswer r.1 | none => []⟩

/-- The bytes of a CONFIG body, whose layout the spec does not give (DESIGN CHOICE, log entry 26). -/
def configBytes (c : TieConfig) : List Byte :=
  toLe 4 c.role ++ toLe 4 c.pmin ++ toLe 2 c.requests.length ++ toLe 2 c.answers.length
    ++ (c.requests.flatMap fun r => toLe 4 r.1 ++ toLe 2 r.2.1 ++ toLe 2 r.2.2)
    ++ (c.answers.flatMap fun a => toLe 2 a.1 ++ toLe 2 a.2.1 ++ toLe 2 a.2.2.1 ++ toLe 2 a.2.2.2)

/-- Send CONFIG (R323). -/
def State.sendConfig (s : State) : State := if s.tieOn then s.tieReliable 0x01 (configBytes s.ownConfig) else s

/-- Has CONFIG been exchanged without a conflict, every own request answered (R323)? -/
def State.exchanged (s : State) : Bool :=
  match s.tie.config with
  | none => false
  | some c => c.role + s.tieRole == 3 && c.pmin == s.rd .PMIN_NS 0 &&
      s.partnerMembers.all fun m => c.answers.any fun a => a.1 == m.2.2.1

/-- Columns that an answer contributes to a group. -/
def partnerShare (c : TieConfig) (stream l r : Nat) : Nat :=
  match c.answers.find? fun a => a.1 == stream with
  | some a => a.2.1 - l - r
  | none => 0

/-- Does a partner member pass the checks of R323? -/
def State.memberOk (s : State) (c : TieConfig) (m : Elem × Nat × Nat × Nat × Nat) : Bool :=
  let (g, _, n, l, r) := m
  match c.answers.find? fun a => a.1 == n with
  | none => true
  | some a =>
    let mine := s.partnerMembers.filter fun x => x.1.id == g.id
    decide (0 < a.2.1) && a.2.2.1 == s.groupH g && a.2.2.2 == s.groupFmt g && decide (l + r < a.2.1) &&
      ((mine.any fun x => !c.answers.any fun b => b.1 == x.2.2.1) ||
        sumN (mine.map fun x => partnerShare c x.2.2.1 x.2.2.2.1 x.2.2.2.2) == g.u16 12 - s.localShare g)

/-- Judge the members by a CONFIG: one that newly fails sets CFG_ERR and raises TIE_CFG_ERR (R323). -/
def State.judgeMembers (s : State) (c : TieConfig) : State :=
  let bad := s.partnerMembers.filter fun m => !s.memberOk c m
  let s1 := bad.foldl (fun s m =>
    if s.tie.bad.contains (m.1.id * 16 + m.2.1) then s
    else (s.setB .TIE_STATUS 0 10).alert 0x07 (m.1.id * 256 + m.2.1)) s
  { s1 with tie := { s1.tie with bad := bad.map fun m => m.1.id * 16 + m.2.1 } }

/-- Set TIE_STATUS.STATE; routed items that can go nowhere now are dropped (R312), and the alert path follows. -/
def State.setTie (s : State) (code : Nat) : State := (s.wrF .TIE_STATUS 0 2 0 code).dropForwards.alertPump

/-- An ISLAND whose lanes are locked and whose CONFIG is exchanged starts REJOINING (Table 13.9). -/
def State.tieAdvance (s : State) : State :=
  if s.tieState = 3 ∧ s.tieOn ∧ s.exchanged then { s with tie := { s.tie with good := 0, missed := 0 } }.setTie 4 else s

/-- Take a CONFIG of the partner: its answers give the widths of the members (R225, R323). -/
def State.takeConfig (s : State) (c : TieConfig) : State :=
  { s with tie := { s.tie with
    config := some c
    widths := (c.answers.map fun (a : Nat × Nat × Nat × Nat) => (a.1, a.2.1)) ++
      s.tie.widths.filter fun (w : Nat × Nat) => !c.answers.any fun a => a.1 == w.1 } }.judgeMembers c

/-- TIE_CONFIG_RX (R323): the CONFIG is judged; new requests are answered with a CONFIG of the device's own. -/
def execTieConfigRx (h : TieHdr) (c : TieConfig) (s : State) : Host.Outcome State Fault Refusal :=
  .next (s.tieTakeReliable h fun s1 =>
    let known := match s1.tie.config with | some d => d.requests == c.requests | none => false
    let s2 := s1.takeConfig c
    (if known then s2 else s2.sendConfig).tieAdvance)

/-! ### Lanes, and splits (R327, R328) -/

/-- The reliable frames of a direction end with its sequence numbers; mirrored alerts that were not acknowledged stay queued, to
be sent anew (R328). -/
def State.unmirror (s : State) : State :=
  { s with
    net := { s.net with alerts := s.net.alerts.map fun a => { a with tseq := none } }
    tie := { s.tie with unacked := [] } }

/-- The tempo source in use: FALLBACK on a follow that is an island (R21, R328). -/
def State.tempoSrc (s : State) : Nat :=
  let src := s.rdF .TEMPO_CFG 0 2 0
  if src = 4 ∧ (s.tieState = 3 ∨ s.tieState = 4) then s.rdF .TEMPO_CFG 0 6 4 else src

/-- A position moved forward by `n` counts in the direction of TEMPO_CFG.DIR (R22). -/
def State.encForward (s : State) (pos n : Nat) : Nat :=
  if s.rdB .TEMPO_CFG 0 10 then (pos + 2 ^ 32 - n % 2 ^ 32) % 2 ^ 32 else (pos + n) % 2 ^ 32

/-- A tempo source comes into use: the encoder's first target from an origin (R22, R328), and the first TIMER event one
TIMER_NS from now, where Table 1.1 gives the period only (DESIGN CHOICE, log entry 108). -/
def State.startTempo (s : State) (origin : Nat) : State :=
  { s with tempo := { s.tempo with
    target := s.encForward origin (s.rd .TEMPO_DIV 0)
    timerDue := s.clock.elapsed + nsU (s.rd .TIMER_NS 0) } }

/-- Enter ISLAND (Table 13.9): a follow takes its tempo from FALLBACK, and a servo whose reference is the tie link loses it
(R282, R328). -/
def State.island (s : State) : State :=
  let s1 := s.setTie 3
  let s2 := if s1.rdF .TEMPO_CFG 0 2 0 = 4 then s1.startTempo s1.tie.encAt else s1
  if s2.hasPrimary ∧ s2.refIsTie s2.servoAlt then s2.loseRef else s2

/-- A joined device detects a split (R327). -/
def State.split (s : State) : State :=
  let s1 := ((s.bump .TIE_SPLIT_CNT 0).wr .TIE_SPLIT_BEAT 0 (s.rd .BEAT_NUM 0)).setB .TIE_STATUS 0 8
  (s1.vector0.island).alert 0x05 (s.rd .BEAT_NUM 0)

/-- The link fails in a state: JOINED splits, REJOINING falls back (Table 13.9). -/
def State.tieFails (s : State) : State :=
  if s.tieState = 2 then s.split else if s.tieState = 4 then s.setTie 3 else s

/-- TIE_LANE_LOCK (R323): the lanes gain lock; the reliable sequences start anew, and CONFIG is sent. -/
def execTieLaneLock (s : State) : Host.Outcome State Fault Refusal :=
  if s.tieRole = 0 ∨ s.rdB .TIE_STATUS 0 3 ∨ s.blockOff 50 ∨ !s.domUp .FABRIC then .next s
  else
    let s1 := s.setB .TIE_STATUS 0 3
    .next { s1 with tie := { s1.tie with
      sendSeq := 0
      recvSeq := 0
      unacked := []
      config := none
      missed := 0
      hbJudgedAt := s1.clock.elapsed } }.sendConfig

/-- The lanes lose lock: the epoch advances (Table 18.5). -/
def State.laneLoss (s : State) : State :=
  if !s.rdB .TIE_STATUS 0 3 then s
  else
    let s1 := (s.clrB .TIE_STATUS 0 3).nextEpoch 50
    let s2 := s1.unmirror.tieFails
    { s2 with tie := { s2.tie with config := none, lines := [] } }

/-- TIE_LANE_LOCK_LOSS (R327). -/
def execTieLaneLockLoss (s : State) : Host.Outcome State Fault Refusal := .next s.laneLoss

/-- TIE_FORMING_TIMEOUT (Table 13.9): IDLE_NS after the commit without joining. -/
def execTieFormingTimeout (s : State) : Host.Outcome State Fault Refusal :=
  if s.tieState ≠ 1 then .next s
  else .next ((s.runTo (s.tie.formedAt + nsU (s.rd .IDLE_NS 0))).island)

/-! ### Heartbeats (R327) -/

/-- TIE_HEARTBEAT_TX: one every PMIN_NS of the clock. -/
def execTieHeartbeatTx (s : State) : Host.Outcome State Fault Refusal :=
  if !s.tieOn then .next s
  else
    let s1 := s.runTo (s.tie.hbSentAt + nsU (s.rd .PMIN_NS 0))
    let s2 := { s1 with tie := { s1.tie with hbSentAt := s1.clock.elapsed } }
    let prim := s2.hasPrimary && s2.ptpRole == 0
    .next (s2.tieSend 0x03 (toLe 8 (s2.rd .BEAT_NUM 0) ++ toLe 4 (s2.rd .SCORE_GEN 0) ++
      [BitVec.ofNat 8 s2.servoState, BitVec.ofNat 8 (b2n prim), 0, 0]))

/-- TIE_HEARTBEAT_RX: the partner's state is recorded, and an interval has passed with a heartbeat. -/
def execTieHeartbeatRx (h : TieHdr) (b : TieHeartbeat) (s : State) : Host.Outcome State Fault Refusal :=
  .next (s.tieTake h fun s1 =>
    let s2 := (s1.wrF .TIE_STATUS 0 6 4 b.servo).wrF .TIE_STATUS 0 7 7 (b2n b.tiePrimary)
    { s2 with tie := { s2.tie with
      missed := 0
      good := s2.tie.good + 1
      hbJudgedAt := s2.clock.elapsed } }.tieAdvance)

/-- TIE_HEARTBEAT_MISS: a heartbeat interval passes without one; the third in a row splits a joined device, the first ends
REJOINING. -/
def execTieHeartbeatMiss (s : State) : Host.Outcome State Fault Refusal :=
  if !s.tieOn then .next s
  else
    let s1 := s.runTo (s.tie.hbJudgedAt + nsU (s.rd .PMIN_NS 0))
    let s2 := { s1 with tie := { s1.tie with
      missed := s1.tie.missed + 1
      good := 0
      hbJudgedAt := s1.clock.elapsed } }.bump .TIE_HB_MISS 0
    .next (if s2.tieState = 4 ∨ 3 ≤ s2.tie.missed then s2.tieFails else s2)

/-! ### Time (R325) -/

/-- TIE_TIME_SYNC_TX: every 62.5 ms a TIME_SYNC and its TIME_FUP. -/
def execTieTimeSyncTx (s : State) : Host.Outcome State Fault Refusal :=
  if !s.tieOn then .next s
  else
    let s1 := s.runTo (s.tie.syncAt + nsU 62500000)
    .next ({ s1 with tie := { s1.tie with syncAt := s1.clock.elapsed } }.tieEventDue 2)

/-- TIE_TIME_SYNC_RX: a TIME_SYNC arrives at t2. -/
def execTieTimeSyncRx (h : TieHdr) (s : State) : Host.Outcome State Fault Refusal :=
  .next (s.tieTake h fun s1 => { s1 with tie := { s1.tie with syncRx := some s1.nowNs } })

/-- TIE_TIME_FUP_RX: the TIME_FUP gives t1, and is answered with TIME_DREQ. -/
def execTieTimeFupRx (h : TieHdr) (t1 : Stamp) (s : State) : Host.Outcome State Fault Refusal :=
  .next (s.tieTake h fun s1 =>
    { s1 with tie := { s1.tie with
      last := s1.tie.syncRx.map fun t2 => (stampInt t1, t2)
      syncRx := none } }.tieEventDue 3)

/-- TIE_TIME_DREQ_RX: answered with the arrival time. -/
def execTieTimeDreqRx (h : TieHdr) (s : State) : Host.Outcome State Fault Refusal :=
  .next (s.tieTake h fun s1 => s1.tieSend 7 (tieStamp s1.nowNs))

/-- TIE_TIME_DRESP_RX: t1 to t4 are complete; the newest TIME_DREQ entry is freed and an offset sample formed (R280). -/
def execTieTimeDrespRx (h : TieHdr) (t4 : Stamp) (s : State) : Host.Outcome State Fault Refusal :=
  .next (s.tieTake h fun s0 =>
    let s1 := s0.agedTie
    match (s1.txq 2).reverse.find? fun e => e.kind == 3 with
    | none => s1
    | some e =>
      let s2 := s1.setTxq 2 ((s1.txq 2).erase e)
      match s2.tie.last with
      | none => s2
      | some (t1, t2) =>
        let d := roundDiv ((t2 - t1) + (stampInt t4 - e.time)) 2
        let l := (d :: s2.tie.delays).take 8
        let mean := roundDiv (l.foldl (· + ·) 0) l.length
        let s3 := { s2 with tie := { s2.tie with delays := l } }.wr .TIE_DELAY 0 (toBits 32 mean)
        match s3.tieRef with
        | none => s3
        | some alt =>
          let s4 := s3.addDelay alt d
          s4.servoSample alt (t1 + sext 32 (s4.rd .ASYM_NS 0) + (s4.servo.ref alt).delay - t2))

/-! ### Lines, forwarded frames and alerts (R312, R317, R326) -/

/-- Has a row of a group been cut by some window (R326)? -/
def State.rowCut (s : State) (g : Elem) (row : Nat) : Bool :=
  (s.elems 0x000D).any fun w => w.u8 8 == 1 && w.u16 10 == g.id && s.tempo.beats.any fun b => !b.idle &&
    s.isCut w b.num && decide (Tab.get 0 b.rows g.id + winY w ≤ row) &&
    decide (row < Tab.get 0 b.rows g.id + winY w + winH w)

/-- Columns gathered so far of a partner line, with those of a frame. -/
def State.gathered (s : State) (g m row col n : Nat) : Nat :=
  if col = 0 then n
  else match s.tie.lines.find? fun l => l.1 == g && l.2.1 == m && l.2.2.1 == row with
    | some l => l.2.2.2 + n
    | none => n

/-- A frame of a partner's member carries OVR or EPOCH: every row of it within the ring does, those that are filled too
(R238). -/
def State.markMember (s : State) (x : Source) (m r0 h : Nat) (ovr epoch : Bool) : State :=
  if !ovr && !epoch then s
  else ((List.range h).filter fun k => s.inRing x (r0 + k)).foldl (fun (s : State) k =>
    let i := s.rowInfo x (r0 + k)
    s.setRow x { i with
      ovr := if ovr then setBit m true i.ovr else i.ovr
      epoch := if epoch then setBit m true i.epoch else i.epoch }) s

/-- Place the columns of a LINES frame (R225, R326): the row's valid bit is set once all of the member's columns are
there. -/
def State.tiePlace (s : State) (g : Elem) (m : Nat) (x : Source) (row : Nat) (l : TieLine) : State :=
  let have_ := s.gathered g.id m row l.col l.cols
  let rest := s.tie.lines.filter fun k => !(k.1 == g.id && k.2.1 == m && k.2.2.1 == row)
  let col := s.memberX g m + l.col
  let cols := s.memberCols g m
  let pix := l.pixels.take ((min l.cols (cols - l.col)) * pixBytes x.fmt)
  let s0 := if cols ≤ have_ then
      { s with tie := { s.tie with lines := rest } }.placeSeg x row m col pix l.stamp l.setgen
    else
      { (s.charge 0 0x20 pix.length).writePhys (x.rowAddr row + col * pixBytes x.fmt) pix with
        tie := { s.tie with lines := rest ++ [(g.id, m, row, have_)] } }
  s0.markMember x m (row - l.line) (s.groupH g) (bit 0 l.flags) (bit 7 l.flags)

/-- A line that arrives after its row has been cut counts once, in however many frames it comes (R326). -/
def State.lateLine (s : State) (l : TieLine) : State :=
  let k := (l.stream, l.beat, l.line)
  if s.tie.late.contains k then s
  else { s.bump .TIE_LINES_LATE 0 with
    tie := { s.tie with late := k :: s.tie.late.filter fun j => j.2.1 == l.beat || (s.beatRec (s.beatOf j.2.1)).isSome } }

/-- Is a beat one that the device has passed and keeps no more? Every row of it has been cut. -/
def State.longPast (s : State) (n : Nat) : Bool :=
  match s.tempo.beats.getLast? with
  | some b => decide (n < b.num % 2 ^ 64)
  | none => false

/-- A partner line arrives: placed, or discarded as late (R326). One of a beat or a row that the ring does not hold is
discarded. -/
def State.tieLineTo (s : State) (l : TieLine) (g : Elem) (m : Nat) : State :=
  if s.tie.bad.contains (g.id * 16 + m) || s.tieState != 2 then s
  else match s.source 1 g.id with
    | none => s
    | some x => match s.firstRow x (s.beatOf l.beat) with
      | none => if s.longPast l.beat then s.lateLine l else s
      | some r0 =>
        let row := r0 + l.line + memberOfs g m
        if s.rowCut g row then s.lateLine l
        else if !s.inRing x row then s
        else s.tiePlace g m x row l

/-- A partner line goes to every member that names its stream. -/
def State.tieLineIn (s : State) (l : TieLine) : State :=
  (s.partnerMembers.filter fun m => m.2.2.1 == l.stream).foldl (fun s m => s.tieLineTo l m.1 m.2.1) s

/-- TIE_LINES_RX. -/
def execTieLinesRx (h : TieHdr) (l : TieLine) (s : State) : Host.Outcome State Fault Refusal :=
  .next (s.tieTake h fun s1 => s1.tieLineIn l)

/-- Read an Ethernet frame without FCS: destination, tag, and a UDP datagram or what follows the tag as it is. -/
def frameOfBytes (b : List Byte) : NetFrame :=
  let tagged := beAt b 12 2 == 0x8100
  let o := if tagged then 18 else 14
  let vlan := if tagged then some (beAt b 14 2) else none
  let et := beAt b (o - 2) 2
  let udp (v6 : Bool) (a u : Nat) : NetBody := .udp v6 0 (beAt b a (if v6 then 16 else 4)) (beAt b u 2) (beAt b (u + 2) 2)
    ((b.drop (u + 8)).take (beAt b (u + 4) 2 - 8))
  ⟨0, beAt b 0 6, vlan,
    if et = 0x0800 ∧ beAt b (o + 9) 1 = 17 then udp false (o + 16) (o + 20)
    else if et = 0x86DD ∧ beAt b (o + 6) 1 = 17 then udp true (o + 24) (o + 40)
    else .raw (b.drop (o - 2))⟩

/-- A frame as an uplink sends it on: with the uplink's own addresses as source (R308, R312). -/
def State.ownSource (s : State) (u : Nat) (f : NetFrame) : NetFrame :=
  { f with
    src := s.netMac u
    body := match f.body with
      | .udp v6 _ ip sp dp p => .udp v6 (s.netIp u v6) ip sp dp p
      | b => b }

/-- Does an uplink carry the IP version of a frame (PREFIX4, PREFIX6)? -/
def carries (e : Elem) (f : NetFrame) : Bool :=
  match f.body with
  | .udp v6 _ _ _ _ _ => e.u8 (if v6 then 25 else 24) != 0
  | _ => true

/-- A forwarded frame leaves by the uplink of the same number, with this device's source addresses (R308, R312). -/
def State.forward (s : State) (u : Nat) (b : List Byte) : State :=
  match s.netElem u with
  | none => s
  | some e =>
    let f := frameOfBytes b
    if !carries e f then s.bump .EGR_DROP u
    else s.enqueue u { group := 3, voice := 0, tclass := 0, flow := forwarded, frame := s.ownSource u f }

/-- TIE_FWD_RX (R312). -/
def execTieFwdRx (h : TieHdr) (uplink : Nat) (bytes : List Byte) (s : State) : Host.Outcome State Fault Refusal :=
  .next (s.tieTake h fun s1 => if s1.tieState = 2 then s1.forward uplink bytes else s1)

/-- TIE_ALERT_RX (R317): the partner's alert is queued as an own one, with MIRRORED set. -/
def execTieAlertRx (h : TieHdr) (bytes : List Byte) (s : State) : Host.Outcome State Fault Refusal :=
  .next (s.tieTakeReliable h fun s1 =>
    (s1.queueAlert (leAt bytes 32 1) (leAt bytes 40 8) ⟨leAt bytes 48 8, leAt bytes 56 4⟩ true).alertPump)

end Sys2Proof.Machine
end

