-- ==== Sys2Proof/Machine/Admit.lean ====
section
/-!
DEFINITION. Admission (ch. 03, R69 to R80): the checks of Table 3.1 over the staged bytes and the resulting score.
-/

namespace Sys2Proof.Machine

/-! ### The staged bytes (R70, R71) -/

/-- Where a bank starts in the flash (R407). -/
def bankStart (k : Nat) : Nat := k * 67108864

/-- Bytes the flash holds, by FLASH_INFO; 0 without a valid SFDP header (R406). -/
def State.flashSize (s : State) : Nat := if s.rdF .FLASH_INFO 0 9 8 = 0 then 0 else 2 ^ s.rdF .FLASH_INFO 0 7 0

/-- Bytes of the flash from an offset on, none at or beyond its density. -/
def State.readFlash (s : State) (o n : Nat) : List Byte :=
  (List.range (min n (s.flashSize - o))).map fun k => Tab.get 0 s.flash (o + k)

/-- Does the staged range lie where R70 allows? -/
def State.rangeOk (s : State) (a n : Nat) : Bool :=
  decide (64 ≤ n) && (decide (a + n ≤ 0x1000000) || (decide (0x2000000000 ≤ a) && decide (a + n ≤ 0x3000000000)) ||
    (s.scoreLive && decide (0x1000000000 ≤ a) && decide (a + n ≤ 0x1000000000 + s.lpddrSize)))

/-- The largest score (R43). -/
def maxScore : Nat := 16777216

/-- The bytes that admission judges: the staged range, or TOTAL_LEN bytes of the bank. Reads of an unreachable outbound
range fail and give zeros (R384; DESIGN CHOICE, log entry 28). -/
def State.stagedBytes (s : State) (x : Staged) : List Byte :=
  if x.flash then
    let h := s.readFlash (bankStart x.bank) 64
    h ++ s.readFlash (bankStart x.bank + 64) (min (hdrTotal h) maxScore - 64)
  else if s.deadAddr x.addr then zeros 64
  else s.readPhys x.addr (min x.len maxScore)

/-! ### Life cycle (R413) -/

/-- The life-cycle state (Table 19.1). -/
def State.lcState (s : State) : Nat := s.rdF .LC_STATE 0 3 0

/-- Check 6: does the state permit the score's KIND and SIGNED (Table 19.3)? -/
def State.lcPermits (s : State) (segue signed : Bool) : Bool :=
  match s.lcState with
  | 1 | 2 => true
  | 3 => signed
  | 6 => signed && !segue
  | _ => false

/-- A key slot (R412). -/
def State.keySlot (s : State) (k : Nat) : KeySlot := Tab.get {} s.lc.slots k

/-- Is a slot programmed, not revoked, and of a usage? -/
def KeySlot.good (k : KeySlot) (usage : Nat) : Bool := k.programmed && !k.revoked && bit usage k.usage

/-- Does the state permit a score signed by this slot (Table 19.3)? -/
def State.scoreSlot (s : State) (k : Nat) : Bool :=
  (s.keySlot k).good 0 && match s.lcState with
    | 1 | 2 => decide (k ≤ 7)
    | 3 => decide (2 ≤ k) && decide (k ≤ 7)
    | 6 => decide (k ≤ 1)
    | _ => false

/-- Verify r and s over a message with a slot's key. -/
def KeySlot.verify (k : KeySlot) (m rs : List Byte) : Bool :=
  ecdsaVerify (beAt k.key 0 32) (beAt k.key 32 32) m (beAt rs 0 32) (beAt rs 32 32)

/-- Check 10 (R68): the signature section and its signature. -/
def State.signatureOk (s : State) (b : List Byte) (x : Section) : Bool :=
  let r := sectionBytes b x
  x.len == 76 && leAt r 0 2 == 0xFF && leAt r 2 2 == 76 && leAt r 4 2 == 0 && leAt r 6 1 == 1 && zeroAt r 7 1 &&
    decide (leAt r 8 1 ≤ 7) && leAt r 9 1 == 1 && zeroAt r 10 2 && s.scoreSlot (leAt r 8 1) &&
    (s.keySlot (leAt r 8 1)).verify (b.take x.ofs) (r.drop 12)

/-! ### Checks 0 to 10 -/

/-- Check 0 and the early failures of a flash load (R70, R71). -/
def State.checkRange (s : State) (x : Staged) : Option Fail :=
  if x.flash then check (decide (bankStart x.bank < s.flashSize)) 0x01
  else if s.rangeOk x.addr x.len then none else failAt 0x06 0xFFFFFFFF

/-- The length rule of check 5: LOAD_LEN, or the flash density (R70, R71). -/
def State.lengthOk (s : State) (x : Staged) (b : List Byte) : Bool :=
  if x.flash then decide (bankStart x.bank + hdrTotal b ≤ s.flashSize) else x.len == hdrTotal b

/-- Checks 1 to 8. -/
def State.checkHeader (s : State) (x : Staged) (b : List Byte) : Option Fail :=
  let l := dirSections b
  firstFail [check (leAt b 0 4 == 0x4F435359) 0x01, check (leAt b 5 1 == 1 && leAt b 4 1 == 0) 0x02,
    check (crc32c (bytesAt b 0 60) == leAt b 60 4) 0x03, check (decide (hdrTotal b ≤ maxScore)) 0x0A,
    check (headerOk b && s.lengthOk x b && (!hdrSegue b || (s.scoreLive && hdrPmin b == s.rd .PMIN_NS 0))) 0x06,
    check (s.lcPermits (hdrSegue b) (hdrSigned b)) 0x05,
    check (crc32c ((b.drop 64).take (16 * hdrSections b)) == leAt b 0x14 4) 0x03,
    check (!(hdrSegue b && l.any fun y => y.kind == 1)) 0x0B,
    check (directoryOk b (fun v => s.load.live.any fun e => e.typ == 0x04 && e.id == v) l) 0x06]

/-- Check 9. -/
def checkCrcs (b : List Byte) (l : List Section) : Option Fail :=
  l.findSome? fun x => if x.kind = 0x0F ∨ x.remove then none
    else if crc32c (sectionBytes b x) = leAt b (x.dirOfs + 12) 4 then none else failAt 0x03 x.ofs

/-- Check 10. -/
def State.checkSignature (s : State) (b : List Byte) (l : List Section) : Option Fail :=
  l.findSome? fun x => if x.kind = 0x0F then (if s.signatureOk b x then none else failAt 0x04 x.ofs) else none

/-! ### The resulting score (R47), and what a failure names (R75) -/

/-- What checks 12 to 15 judge: the staged sections, and the resulting score's elements; `trial` is the state with that
score in effect. -/
structure Judged where
  segue : Bool
  secs : List Section
  live : List Elem
  trial : State
  deriving DecidableEq, Repr

/-- Voices that the staged score names. -/
def Judged.named (a : Judged) : List Nat := (a.secs.filter fun x => x.kind == 2).map (·.voice)

/-- The live score with a staged score applied: the system section first, then voices in ascending number. -/
def resulting (segue : Bool) (live : List Elem) (secs : List Section) : List Elem :=
  let named := (secs.filter fun x => x.kind == 2).map (·.voice)
  let new := secs.flatMap (·.elems)
  if segue then sortBy (fun e => e.voice) ((live.filter fun e => !named.contains e.voice) ++ new) else new

/-- The resulting score's elements of a type. -/
def Judged.all (a : Judged) (typ : Nat) : List Elem := a.trial.elems typ

/-- Is a record of the resulting score a staged one? -/
def Judged.staged (a : Judged) (e : Elem) : Bool := !a.segue || (e.voice != 0 && a.named.contains e.voice)

/-- Does a record name an element (R50, R51)? -/
def Elem.names (e y : Elem) : Bool :=
  match e.typ with
  | 0x02 => y.typ == 0x12 && y.id == e.u8 12
  | 0x06 => y.typ == 0x12 && y.id == e.u8 14
  | 0x0E => y.typ == 0x12 && y.id == e.u8 28
  | 0x0F => y.typ == 0x0D && y.id == e.u16 10
  | 0x10 => y.typ == 0x05 && y.voice == e.voice && (y.id == dmaRingQ e || y.id == dmaDoneQ e)
  | 0x11 => y.typ == 0x11 && y.id == e.u16 42
  | 0x16 => y.typ == 0x07 && y.id == e.u16 8
  | _ => false

/-- Does a directory entry take part in a failure of record `e` with the records `part` (R75): its section holds one of them,
or it removes an element that the record names? -/
def Judged.takesPart (a : Judged) (e : Elem) (part : List Elem) (x : Section) : Bool :=
  (x.elems.any fun y => part.contains y) || (x.remove && a.live.any fun y => y.voice == x.voice && e.names y)

/-- The offset a failing record gives; `part` are the other records that take part in the failure (R75). -/
def Judged.ofs (a : Judged) (e : Elem) (part : List Elem) : Nat :=
  if a.staged e then e.ofs
  else match a.secs.find? (a.takesPart e part) with
    | some x => x.dirOfs
    | none => 64

/-- The offset of a rule that records break jointly: the highest of those in the staged score (R75). -/
def Judged.joint (a : Judged) (e : Elem) (l : List Elem) : Nat :=
  match (e :: l).filter a.staged with
  | [] => a.ofs e l
  | x :: t => t.foldl (fun m y => max m y.ofs) x.ofs

/-- The lowest of some offsets, as a failure. -/
def lowest (code : Nat) (l : List Nat) : Option Fail := (sortBy id l).head?.map fun o => ⟨code, o, 0xFF⟩

/-! ### Check 12 -/

/-- Does a section hold a record? -/
def Section.has (x : Section) (typ id : Nat) : Bool := x.elems.any fun e => e.typ == typ && e.id == id

/-- The records a section must hold (R49, R55). -/
def sectionComplete (x : Section) : Bool :=
  if x.kind = 1 then
    x.has 0x01 0 && x.has 0x02 0 &&
      (!(x.elems.any fun e => [0x0D, 0x0F, 0x10, 0x11].contains e.typ) || x.has 0x05 15)
  else x.kind == 0x0F || x.remove || (x.has 0x04 x.voice && x.has 0x05 15)

/-- A cue of the system section (R51). -/
def State.systemCue (t : State) (k : Nat) : Option Elem := (t.elem 0x12 k).filter fun e => e.voice == 0

/-- SYSTEM against NET (R277). -/
def systemRefs (t : State) (e : Elem) : Bool :=
  (e.u8 11 == 0 || (t.elem 0x18 (e.u8 13)).isSome) && (e.u8 14 != 1 || (t.elem 0x18 (1 - e.u8 13)).isSome)

/-- TEMPO against SYSTEM and CUE (Table 2.6, R21). -/
def tempoRefs (t : State) (e : Elem) : Bool :=
  let follow := t.tieRole == 2
  let uses (k : Nat) : Bool := e.u8 8 == k || (follow && e.u8 9 == k)
  (e.u8 8 != 4 || follow) && (follow || e.u8 9 == 0) &&
    (if uses 1 then decide (16 ≤ e.u32 16) else e.u8 10 == 0 && !bit 0 (e.u8 11) && e.u32 16 == 0) &&
    (uses 2 || !bit 1 (e.u8 11)) &&
    (if uses 3 then (match t.systemCue (e.u8 12) with | some c => cueMode c == 1 | none => false) else e.u8 12 == 0) &&
    (if uses 0 then decide (e.u32 20 ≤ e.u32 28) && e.u32 28 % 4 == 0 else e.u32 28 == 0)

/-- The populated LPDDR5 range of a SYSTEM record (R54). -/
def State.lpddrEnd (t : State) : Nat :=
  let full := 2 * t.sysByte 8 * 1073741824
  0x1000000000 + (if t.sysByte 9 = 1 then full / 8 * 7 else full)

/-- GRANT: each extent lies in one range (R54). -/
def grantRefs (t : State) (e : Elem) : Bool :=
  (grantExtents e).all fun x => decide (x.1 + x.2 ≤ 0x1000000) ||
    (decide (0x2000000000 ≤ x.1) && decide (x.1 + x.2 ≤ 0x3000000000)) ||
    (decide (0x1000000000 ≤ x.1) && decide (x.1 + x.2 ≤ t.lpddrEnd))

/-- Does a link exist on a port? -/
def State.linkExists (t : State) (p k : Nat) : Bool :=
  match t.elem 0x06 p with
  | some e => decide (k < linkCount (e.u8 8))
  | none => false

/-- The class of a pipe: that of its first stream (Table 8.1). -/
def State.pipeClass (t : State) (e : Elem) : Nat :=
  match t.elem 0x08 (e.u16 12) with
  | some x => dtClass (x.u8 11)
  | none => 0

/-- A stream merged away: STREAM[1] to STREAM[MERGE - 1] of a pipe (R200). -/
def State.mergedAway (t : State) (i : Nat) : Bool :=
  (t.elems 0x09).any fun e => (List.range (pipeMerge e)).any fun k => k != 0 && e.u16 (12 + 2 * k) == i

/-- The stream of a pipe against the pipe (R58, R200). -/
def pipeStreamOk (t : State) (e : Elem) (k i : Nat) : Bool :=
  match t.elem 0x08 i, t.elem 0x08 (e.u16 12) with
  | some x, some x0 =>
    let cls := t.pipeClass e
    x.u8 16 == e.id && dtClass (x.u8 11) == cls &&
      (decide (pipeMerge e ≤ k) || (streamWidth x == streamWidth x0 && streamHeight x == streamHeight x0)) &&
      (cls != 0 || decide ((if e.u8 10 = 4 then 2 else 3) ≤ streamHeight x)) &&
      (e.u64 56 == 0 || (decide (streamWidth x ≤ (e.u16 64 - 1) * 2 ^ e.u8 68 + 1) &&
        decide (streamHeight x ≤ (e.u16 66 - 1) * 2 ^ e.u8 68 + 1)))
  | _, _ => false

/-- OUTFMT allowed for a pipe (Table 8.6). -/
def outfmtOk (cls cfa fmt : Nat) : Bool :=
  if fmt = 0 then cls == 0 else if fmt ≤ 2 then cls == 0 && cfa == 4 else cls != 0 || cfa != 4

/-- PIPE against streams and gain map (R57, R58, R200, R458). -/
def pipeRefs (t : State) (e : Elem) : Bool :=
  let l := pipeStreams e
  let cls := t.pipeClass e
  noPair (fun a b => a == b) l && ((List.range l.length).all fun k => pipeStreamOk t e k (e.u16 (12 + 2 * k))) &&
    ((t.elems 0x08).all fun x => x.u8 16 != e.id || l.contains x.id) && (cls == 0 || pipeMerge e == 1) &&
    outfmtOk cls (e.u8 10) (e.u8 11) && (cls == 0 || (e.zero 24 10 && e.u8 10 == 0 && e.u16 34 == 0 && e.u64 56 == 0)) &&
    (e.u64 56 != 2 ^ 64 - 1 || (List.range (e.u16 66)).all fun j => (t.elem 0x19 (512 * e.id + j)).isSome)

/-- DEFECTS (R59, R200). -/
def defectsRefs (t : State) (e : Elem) : Bool :=
  match t.elem 0x08 e.id, t.pipeOf e.id with
  | some x, some p => t.pipeClass p == 0 && !t.mergedAway e.id && (List.range (e.u16 8)).all fun k =>
      let w := e.u32 (12 + 4 * k)
      decide (fld 13 0 w < streamWidth x) && decide (fld 29 14 w < streamHeight x)
  | _, _ => false

/-- Columns a local member keeps of its line (R60). -/
def memberShare (t : State) (g : Elem) (k : Nat) : Nat :=
  match t.memberElem g k with
  | some x => streamWidth x - g.u16 (20 + 8 * k) - g.u16 (22 + 8 * k)
  | none => 0

/-- A local member of a group (R60, R200). -/
def memberRefs (t : State) (g : Elem) (k : Nat) : Bool :=
  match t.memberElem g k with
  | none => false
  | some x => (t.pipeOf x.id).isSome && !t.mergedAway x.id &&
      decide (g.u16 (20 + 8 * k) + g.u16 (22 + 8 * k) < streamWidth x) && streamHeight x == t.groupH g &&
      t.streamFmt x.id == t.groupFmt g

/-- The streams a group names, local and of the partner: its members' STREAM fields. -/
def groupStreams (g : Elem) : List Nat := (List.range (groupMembers g)).map fun k => memberField g k

/-- GROUP (R60, R200, R226). -/
def groupRefs (t : State) (g : Elem) : Bool :=
  let ks := List.range (groupMembers g)
  let loc := ks.filter fun k => !isPartner g k
  let partners := groupMembers g - loc.length
  let share := sumN (loc.map (memberShare t g))
  (loc.all (memberRefs t g)) && (partners == 0 || t.tieRole != 0) &&
    (if partners = 0 then g.u16 12 == share else decide (share + partners ≤ g.u16 12)) &&
    (t.elems 0x0C).all fun h => decide (g.id ≤ h.id) || (groupStreams h).all fun i => !(groupStreams g).contains i

/-- WINDOW (Table 2.18, R200, R226). -/
def windowRefs (t : State) (w : Elem) : Bool :=
  if w.u8 8 = 1 then
    match t.elem 0x0C (w.u16 10) with
    | some g => decide (winX w + winW w ≤ g.u16 12) && decide (winY w + winH w ≤ t.groupH g)
    | none => false
  else
    match t.elem 0x08 (w.u16 10) with
    | some x => (t.groupOf x.id).isNone && !t.mergedAway x.id && decide (winX w + winW w ≤ t.lineWidth x) &&
        decide (winY w + winH w ≤ streamHeight x)
    | none => false

/-- STATS (R240). -/
def statsRefs (t : State) (e : Elem) : Bool :=
  (t.pipeOf e.id).isSome && (e.u8 28 == 0xFF || match t.systemCue (e.u8 28) with | some c => cueMode c == 3 | none => false)

/-- The pixel format of a window (R234). -/
def State.winFmt (t : State) (w : Elem) : Nat :=
  if w.u8 8 = 1 then match t.elem 0x0C (w.u16 10) with | some g => t.groupFmt g | none => 0 else t.streamFmt (w.u16 10)

/-- SERVICE (R51, R253): its window is its own voice's, whichever other voice claims the same number (check 13). -/
def serviceRefs (t : State) (e : Elem) : Bool :=
  match t.voiceElem 0x0D e.voice (e.u16 10) with
  | none => false
  | some w => match svcKind e with
      | 0 => t.winFmt w != 0x80 && decide (e.u32 28 ≤ winW w * winH w)
      | 1 => t.winFmt w != 0x80 && decide (markW e + 2 * markR e ≤ winW w) && decide (markH e + 2 * markR e ≤ winH w)
      | _ => (t.elems 0x0F).all fun f => !(svcKind f == 2 && f.voice == e.voice && decide (f.id < e.id))

/-- The source of a DMA or FLOW record (R51, Table 2.19). -/
def sourceRefs (t : State) (v n : Nat) : Bool :=
  match fld 15 14 n with
  | 0 => (t.elems 0x0D).any fun w => w.voice == v && winProduct w == n % 256
  | 1 => (t.voiceElem 0x0F v (n % 256)).isSome
  | 2 => match t.elem 0x0E (n % 256) with | some e => e.u16 10 == v | none => false
  | _ => true

/-- DMA (R63). -/
def dmaRefs (t : State) (e : Elem) : Bool :=
  let dir (q : Nat) (toDev : Bool) : Bool := match t.voiceElem 0x05 e.voice q with
    | some x => bit 1 (x.u8 9) == toDev
    | none => false
  dir (dmaRingQ e) true && dir (dmaDoneQ e) false && sourceRefs t e.voice (e.u16 12)

/-- Does a NET record turn on the IP version of a flow (R308)? -/
def flowIp (e n : Elem) : Bool := (if e.u8 16 = 4 then n.u8 24 else n.u8 25) != 0

/-- FLOW (Table 2.22, R308). -/
def flowRefs (t : State) (e : Elem) : Bool :=
  sourceRefs t e.voice (e.u16 10) && (e.u32 44 != 0 || t.classOf e.voice == 2) &&
    (e.u16 42 == 0xFFFF || match t.voiceElem 0x11 e.voice (e.u16 42) with | some f => f.u8 8 != e.u8 8 | none => false) &&
    match t.elem 0x18 (e.u8 8) with
    | some n => flowIp e n
    | none => t.tieRole != 0

/-- BUNDLE (R51, Table 2.27). -/
def bundleRefs (t : State) (e : Elem) : Bool :=
  match t.elem 0x07 (e.u16 8) with
  | none => false
  | some x => x.u16 10 == e.voice && (List.range (e.u8 10)).all fun k =>
      (x.u8 12 != 1 || decide (e.u16 (16 + 8 * k) < 256)) && decide (e.u32 (20 + 8 * k) < 2 ^ (8 * x.u8 13))

/-- GMAP (R57). -/
def gmapRefs (t : State) (e : Elem) : Bool :=
  match t.elem 0x09 (e.id / 512) with
  | some p => p.u64 56 == 2 ^ 64 - 1 && decide (e.id % 512 < p.u16 66) && e.u16 8 == p.u16 64
  | none => false

/-- What a record's relations to others must meet. -/
def refsOk (t : State) (e : Elem) : Bool :=
  match e.typ with
  | 0x01 => systemRefs t e
  | 0x02 => tempoRefs t e
  | 0x03 => grantRefs t e
  | 0x06 => e.u8 14 == 0xFF || (t.systemCue (e.u8 14)).isSome
  | 0x07 => t.linkExists (e.id / 4) (e.id % 4)
  | 0x08 => t.linkExists (e.u8 8) (e.u8 9) && (e.u8 16 == 0xFF || (t.elem 0x09 (e.u8 16)).isSome)
  | 0x09 => pipeRefs t e
  | 0x0A => match t.elem 0x09 (e.id / 2) with | some p => e.id % 2 == 1 || t.pipeClass p == 0 | none => false
  | 0x0B => defectsRefs t e
  | 0x0C => groupRefs t e
  | 0x0D => windowRefs t e
  | 0x0E => statsRefs t e
  | 0x0F => serviceRefs t e
  | 0x10 => dmaRefs t e
  | 0x11 => flowRefs t e
  | 0x12 => (cueMode e != 2 || match t.elem 0x02 0 with | some p => decide (cueOffset e + cueWidth e + 8 ≤ p.u32 20) | none => true) &&
      (cueMode e != 3 || (t.elems 0x0E).any fun x => x.u8 28 == e.id)
  | 0x16 => bundleRefs t e
  | 0x19 => gmapRefs t e
  | _ => true

/-- The records that break a rule jointly with a record, where they may lie above it in the score (R75): the cue whose CMODE
is not the one that TEMPO.CUE or LOCK_CUE needs, and a flow's FALLBACK on the same uplink or NET record without its IP
version. Of the other rules that relate two records the one judged is the higher one already. -/
def jointWith (t : State) (e : Elem) : List Elem :=
  let cue (k mode : Nat) : List Elem := (t.systemCue k).toList.filter fun c => cueMode c != mode
  match e.typ with
  | 0x02 => if e.u8 8 = 3 ∨ (t.tieRole = 2 ∧ e.u8 9 = 3) then cue (e.u8 12) 1 else []
  | 0x0E => cue (e.u8 28) 3
  | 0x11 => ((t.voiceElem 0x11 e.voice (e.u16 42)).toList.filter fun f => f.u8 8 == e.u8 8) ++
      (t.elem 0x18 (e.u8 8)).toList.filter fun n => !flowIp e n
  | _ => []

/-- Check 12. -/
def Judged.check12 (a : Judged) : Option Fail :=
  match a.secs.find? fun x => !sectionComplete x with
  | some x => failAt 0x06 x.dirOfs
  | none => lowest 0x06 ((a.trial.load.eff.filter fun e => !refsOk a.trial e).map fun e => a.joint e (jointWith a.trial e))

/-! ### Check 13 -/

/-- The service staging of the tile store (R255). -/
def staging : Nat × Nat := (0xF00000, 0x100000)

/-- Two records claim one thing (R52, R54, R56, R63, R64, R240, R255). -/
def claimsClash (e f : Elem) : Bool :=
  let same := e.typ == f.typ
  (same && e.id == f.id && e.voice != f.voice && !([0x05, 0x16, 0x17].contains e.typ)) ||
    (same && match e.typ with
      | 0x03 => (grantExtents e).any fun x => (grantExtents f).any fun y => overlap x y
      | 0x07 => e.id / 4 == f.id / 4 && e.u8 8 == f.u8 8
      | 0x08 => e.u32 8 == f.u32 8
      | 0x0E => e.u8 28 != 0xFF && e.u8 28 == f.u8 28
      | 0x10 => e.voice != f.voice && e.u8 14 != 0xFF && e.u8 14 == f.u8 14
      | 0x13 => procOut e != 7 && procOut e == procOut f && (e.u8 11 != f.u8 11 || e.u16 14 != f.u16 14)
      | _ => false) ||
    (e.typ == 0x03 && f.typ == 0x0F && (grantExtents e).any fun x => overlap x staging)

/-- The offsets of all clashes of a list's records. -/
def Judged.clashes (a : Judged) : List Elem → List Nat
  | [] => []
  | e :: t => (t.filter fun f => claimsClash e f || claimsClash f e).map (fun f => a.joint e [f]) ++ a.clashes t

/-- Check 13. -/
def Judged.check13 (a : Judged) : Option Fail := lowest 0x07 (a.clashes a.trial.load.eff)

/-! ### Check 14 (R74) -/

/-- Windows per product (R61). -/
def Judged.checkProducts (a : Judged) : Option Fail :=
  lowest 0x0A (((a.all 0x0D).filter fun w =>
    ((a.all 0x0D).filter fun y => y.voice == w.voice && winProduct y == winProduct w && decide (y.id < w.id)).length == 16).map
      fun w => a.ofs w [])

/-- Payload bytes of a window. -/
def State.winPay (t : State) (w : Elem) : Nat := winW w * winH w * pixBytes (t.winFmt w)

/-- Window payloads (R236). -/
def Judged.checkPayloads (a : Judged) : Option Fail :=
  lowest 0x0A (((a.all 0x0D).filter fun w => decide (0xFFFFFFC0 < a.trial.winPay w)).map fun w => a.ofs w [])

/-- 64 KiB. -/
def k64 : Nat := 65536

/-- The highest room of `size` bytes between `lo` and `top` beside the used areas, given from the highest down: R227's
carving. -/
def freeTop (lo size : Nat) : Nat → List (Nat × Nat) → Option Nat
  | top, [] => if lo + size ≤ top then some (top - size) else none
  | top, u :: t =>
    if top ≤ u.1 ∨ u.1 + u.2 ≤ lo then freeTop lo size top t
    else if u.1 + u.2 + size ≤ top then some (top - size)
    else freeTop lo size u.1 t

/-- Carve an area downward from the top of the highest extent with room (R227, R342, R348). -/
def carve (extents : List (Nat × Nat)) (used : List Area) (size : Nat) : Option Nat :=
  let u := (sortBy (fun x => x.1) (used.map fun a => (a.base / k64 * k64, roundUp (a.base + a.size) k64 - a.base / k64 * k64))).reverse
  (sortBy (fun x => x.1) extents).reverse.findSome? fun x => freeTop x.1 size (x.1 + x.2) u

/-- The extents an area may be carved from: rings and slots lie in voice 0's LPDDR5 extents (R227), process rings and serial
areas in any extent of their owner's grant (R342, R348). -/
def State.carveFrom (t : State) (kind v : Nat) : List (Nat × Nat) :=
  if kind < 3 then (t.grant 0).filter fun x => decide (0x1000000000 ≤ x.1) && decide (x.1 < 0x2000000000) else t.grant v

/-- An area to carve: its numbers and size, the voice whose grant it lies in, the record that a failure names and those
that take part in it. -/
structure Want where
  kind : Nat
  voice : Nat
  id : Nat
  size : Nat
  owner : Nat
  rec_ : Elem
  part : List Elem
  deriving DecidableEq, Repr

/-- Carve wanted areas in order, beside the used ones; the first that does not fit fails. -/
def Judged.carveAll (a : Judged) (used : List Area) : List Want → Except Fail (List Area)
  | [] => .ok []
  | w :: t =>
    match carve (a.trial.carveFrom w.kind w.owner) used (roundUp w.size k64) with
    | none => .error ⟨0x0A, a.ofs w.rec_ w.part, 0xFF⟩
    | some b =>
      let x : Area := ⟨w.kind, w.voice, w.id, b, roundUp w.size k64⟩
      match a.carveAll (x :: used) t with
      | .ok l => .ok (x :: l)
      | .error f => .error f

/-- The areas that hold after the last commit, its overlap included. -/
def State.heldAreas (s : State) : List Area :=
  match s.load.overlap with
  | some o => o.areas
  | none => s.align.areas.filter fun x => x.kind != 9

/-- The windows of a product among some elements, in ascending ID. -/
def productRecs (l : List Elem) (v p : Nat) : List (Nat × List Byte) :=
  (l.filter fun w => w.typ == 0x0D && w.voice == v && winProduct w == p).map fun w => (w.id, w.raw)

/-- Does a segue keep an area (R227, R342, R348)? -/
def Judged.keeps (a : Judged) (x : Area) : Bool :=
  match x.kind with
  | 0 | 1 => true
  | 2 => let new := productRecs a.trial.load.eff x.voice (x.id / 2)
         !new.isEmpty && new == productRecs a.live x.voice (x.id / 2)
  | 3 => (a.all 0x13).any fun e => e.voice == x.voice
  | 4 => match a.trial.elem 0x14 x.id with | some e => e.voice == x.voice | none => false
  | _ => false

/-- The rings and product slots of the resulting score (R227), in carving order. -/
def Judged.imageWants (a : Judged) : List Want :=
  let t := a.trial
  let wins := a.all 0x0D
  let groups := (sortBy (fun g => g.id) (a.all 0x0C)).map fun g =>
    ⟨0, 0, g.id, t.groupR g * g.u16 12 * pixBytes (t.groupFmt g), 0, g, []⟩
  let streams := (sortBy (fun x => x.id) ((a.all 0x08).filter fun x => wins.any fun w => w.u8 8 == 0 && w.u16 10 == x.id)).map
    fun x => ⟨1, 0, x.id, 2 * streamHeight x * t.lineWidth x * pixBytes (t.streamFmt x.id), 0, x,
      wins.filter fun w => w.u8 8 == 0 && w.u16 10 == x.id⟩
  let firsts := wins.filter fun w => !(wins.any fun y => y.voice == w.voice && winProduct y == winProduct w && decide (y.id < w.id))
  let slots := (sortBy (fun w => w.voice * 256 + winProduct w) firsts).flatMap fun w =>
    let n := sumN ((wins.filter fun y => y.voice == w.voice && winProduct y == winProduct w).map fun y =>
      64 + roundUp (t.winPay y) 64)
    [⟨2, w.voice, 2 * winProduct w, n, 0, w, []⟩, ⟨2, w.voice, 2 * winProduct w + 1, n, 0, w, []⟩]
  groups ++ streams ++ slots

/-- The voices that declare records of a type, ascending. -/
def Judged.voicesOf (a : Judged) (typ : Nat) : List Nat := sortBy id ((a.all typ).map (·.voice)).eraseDups

/-- The process rings (R342). -/
def Judged.ringWants (a : Judged) : List Want :=
  (a.voicesOf 0x13).flatMap fun v => ((sortBy (fun e => e.id) ((a.all 0x13).filter fun e => e.voice == v)).take 1).map fun e =>
    ⟨3, v, 0, 65536, v, e, []⟩

/-- The SERIAL records of a voice in ascending port. -/
def Judged.serials (a : Judged) (v : Nat) : List Elem := sortBy (fun e => e.id) ((a.all 0x14).filter fun e => e.voice == v)

/-- Serial blocks of the voices, ascending (R348): one block for a voice's added ports. -/
def Judged.carveSerial (a : Judged) (used kept : List Area) : List Nat → Except Fail (List Area)
  | [] => .ok []
  | v :: t =>
    let add := (a.serials v).filter fun e => !(kept.any fun x => x.kind == 4 && x.voice == v && x.id == e.id)
    match (a.serials v).head? with
    | none => a.carveSerial used kept t
    | some first =>
      if add.isEmpty then a.carveSerial used kept t
      else match a.carveAll used [⟨4, v, 0, 16384 * add.length, v, first, []⟩] with
        | .error f => .error f
        | .ok l =>
          let base := (l.head?.map (·.base)).getD 0
          let ports := (List.range add.length).map fun k =>
            (⟨4, v, ((add[k]?).map (·.id)).getD 0, base + 16384 * k, 16384⟩ : Area)
          match a.carveSerial (l ++ used) kept t with
          | .error f => .error f
          | .ok r => .ok (ports ++ r)

/-- Statistics memory (R241). -/
def Judged.checkStats (a : Judged) : Option Fail :=
  let l := sortBy (fun e => e.id) (a.all 0x0E)
  let len (e : Elem) : Nat := match a.trial.elem 0x08 e.id with | some x => 3 * recLen (e.u8 8) (streamHeight x) | none => 0
  (l.find? fun e => decide (4194304 < sumN ((l.filter fun f => decide (f.id ≤ e.id)).map len))).bind fun e => failAt 0x0A (a.ofs e [])

/-- Result memory (R254). -/
def Judged.checkResults (a : Judged) : Option Fail :=
  let l := sortBy (fun e => e.id) (a.all 0x0F)
  let upTo (e : Elem) : List Elem := l.filter fun f => decide (f.id ≤ e.id)
  let len (e : Elem) : Nat := if svcKind e = 0 then 2 * (64 + 16 * e.u32 32) else 128
  (l.find? fun e => decide (2097152 < sumN ((upTo e).map len))).bind fun e => failAt 0x0A (a.ofs e (upTo e))

/-- Check 14: the areas of the resulting score, or the first capacity exceeded (R74). -/
def Judged.check14 (a : Judged) (s : State) : Except Fail (List Area) :=
  let kept := if a.segue then s.heldAreas.filter a.keeps else []
  let used := if a.segue then s.heldAreas ++ s.align.areas else []
  let isNew (w : Want) : Bool := !(kept.any fun x => x.kind == w.kind && x.voice == w.voice && x.id == w.id)
  match firstFail [a.checkProducts, a.checkPayloads] with
  | some f => .error f
  | none => match a.carveAll used (a.imageWants.filter isNew) with
    | .error f => .error f
    | .ok l1 => match firstFail [a.checkStats, a.checkResults] with
      | some f => .error f
      | none => match a.carveAll (l1 ++ used) (a.ringWants.filter isNew) with
        | .error f => .error f
        | .ok l2 => match a.carveSerial (l2 ++ l1 ++ used) kept (a.voicesOf 0x14) with
          | .error f => .error f
          | .ok l3 => .ok (kept ++ l1 ++ l2 ++ l3)

/-! ### Check 15 (R77 to R79) -/

/-- The SLOTS records of the budget set, in the order of R77. -/
def Judged.budget (a : Judged) : List Elem :=
  let new := a.secs.flatMap fun x => x.elems.filter fun e => e.typ == 0x17
  let old := a.live.filter fun e => e.typ == 0x17
  if a.segue then (old.filter fun e => !a.named.contains e.voice) ++ (old.filter fun e => a.named.contains e.voice) ++ new else new

/-- The budget set's entries for a resource: record, index, entry. -/
def Judged.entries (a : Judged) (res : Nat) : List (Elem × Nat × SlotEntry) :=
  a.budget.flatMap fun e => ((slotEntries e).zipIdx.filter fun x => x.1.res == res).map fun x => (e, x.2, x.1)

/-- A failure of check 15 at an entry. -/
def Judged.failEntry (a : Judged) (code res : Nat) (e : Elem) (k : Nat) (part : List Elem) : Fail :=
  ⟨code, a.ofs e part, res + k % 1024 * 256⟩

/-- The first entry that shares a tick with an earlier entry of another voice (R78). -/
def shared : List (Elem × Nat × SlotEntry) → List (Elem × Nat × SlotEntry) → Option (Elem × Nat × SlotEntry)
  | _, [] => none
  | seen, x :: t =>
    if seen.any fun y => y.1.voice != x.1.voice && overlap (y.2.2.start, y.2.2.amount) (x.2.2.start, x.2.2.amount) then some x
    else shared (seen ++ [x]) t

/-- The slots of one engine (R78). -/
def Judged.checkEngine (a : Judged) (code : Nat) : Option Fail :=
  let l := a.entries code
  let recs := l.map (·.1)
  let lacks (e : Elem) : Bool := a.trial.classOf e.voice != 2 && !(match a.trial.voiceElem 0x17 e.voice 0 with
    | some x => (slotEntries x).any fun y => y.res == code
    | none => false)
  match l.find? fun x => decide (x.2.2.start < 16) || decide (4096 < x.2.2.start + x.2.2.amount) with
  | some x => some (a.failEntry 0x08 code x.1 x.2.1 recs)
  | none => match shared [] l with
    | some x => some (a.failEntry 0x08 code x.1 x.2.1 recs)
    | none => ((sortBy (fun e => e.voice * 256 + e.id) ((a.all 0x0F).filter fun e => svcEngine e + 0x10 == code)).find? lacks).map
        fun e => a.failEntry 0x08 code e 0 []

/-- The capacity of a resource per bar (Table 1.2, R77, R321, R383). -/
def State.capacity (t : State) (res : Nat) : Nat :=
  let p := match t.elem 0x02 0 with | some e => e.u32 20 | none => 0
  if res ≤ 0x0F then 16 * p / 10
  else if res = 0x20 then 4096 * p / 100
  else if res = 0x21 ∨ res = 0x22 then match t.elem 0x18 (res - 0x21) with
    | some n => if n.u8 8 = 0 then 3125 * p / 1000 else 125 * p / 100
    | none => 0
  else if res = 0x23 then (if t.tieRole = 0 then 0 else 6 * p)
  else 6 * p

/-- The first entry at which a running sum exceeds a capacity. -/
def sumOver (cap : Nat) : Nat → List (Elem × Nat × SlotEntry) → Option (Elem × Nat × SlotEntry)
  | _, [] => none
  | n, x :: t => if cap < n + x.2.2.amount then some x else sumOver cap (n + x.2.2.amount) t

/-- The resource a flow charges (R79, R312). -/
def State.flowRes (t : State) (e : Elem) : Nat := if (t.elem 0x18 (e.u8 8)).isNone && t.tieRole != 0 then 0x23 else 0x21 + e.u8 8

/-- The channels and flows of a voice that draw on a resource, each with its share (R79). -/
def State.draws (t : State) (v res : Nat) : List (Elem × Nat) :=
  let ch := (sortBy (fun e => e.id) (t.elems 0x10)).filter fun e => e.voice == v && e.u8 8 == 0 && e.u8 20 == res
  let fl := (sortBy (fun e => e.id) (t.elems 0x11)).filter fun e => e.voice == v && t.flowRes e == res
  ch.map (fun e => (e, e.u32 16)) ++ fl.map fun e => (e, e.u32 44)

/-- The first of some shares at which their sum exceeds a limit. -/
def drawOver (cap : Nat) : Nat → List (Elem × Nat) → Option Elem
  | _, [] => none
  | n, x :: t => if cap < n + x.2 then some x.1 else drawOver cap (n + x.2) t

/-- R79 for one voice and resource. -/
def Judged.checkVoice (a : Judged) (code res v : Nat) : Option Fail :=
  let l := a.trial.draws v res
  let es := match a.trial.voiceElem 0x17 v 0 with | some x => (slotEntries x).zipIdx | none => []
  match es.find? fun x => x.1.res == res, l with
  | none, x :: _ =>
    if a.trial.classOf v != 2 then some (a.failEntry code res x.1 0 [])
    else (drawOver 0 0 l).map fun _ => a.failEntry code res x.1 0 []
  | some x, _ => (drawOver x.1.amount 0 l).map fun e => a.failEntry code res e x.2 []
  | none, [] => none

/-- The voice sections in the order of R77. -/
def Judged.voiceOrder (a : Judged) : List Nat :=
  let l := (a.all 0x04).map (·.voice)
  if a.segue then (l.filter fun v => !a.named.contains v) ++ l.filter fun v => a.named.contains v else l

/-- The rates of one resource (R77, R79). -/
def Judged.checkRate (a : Judged) (res : Nat) : Option Fail :=
  let code := if res = 0x20 then 0x09 else 0x0A
  let l := a.entries res
  match sumOver (a.trial.capacity res) 0 l with
  | some x => some (a.failEntry code res x.1 x.2.1 (l.map (·.1)))
  | none => a.voiceOrder.findSome? fun v => a.checkVoice code res v

/-- Check 15. -/
def Judged.check15 (a : Judged) : Option Fail :=
  match ((List.range 7).map (· + 0x10)).findSome? a.checkEngine with
  | some f => some f
  | none => ((List.range 16) ++ [0x20, 0x21, 0x22, 0x23, 0x24]).findSome? a.checkRate

/-! ### Admission -/

/-- Check 16 (R84): is the commit barline still reachable? Before barline 0 the beat counts as -1. -/
def State.reachable (s : State) (commit : Nat) : Bool :=
  let c := s.rd .BEAT_NUM 0
  if c = 2 ^ 64 - 1 then decide (1 ≤ commit) else decide (c + 2 ≤ commit)

/-- What a staged score is judged against. -/
def State.judged (s : State) (segue : Bool) (secs : List Section) : Judged :=
  ⟨segue, secs, s.load.live, { s with load := { s.load with eff := resulting segue s.load.live secs } }⟩

/-- The key slot of a signed score. -/
def signer (b : List Byte) (l : List Section) : Option Nat :=
  (l.find? fun x => x.kind == 0x0F).map fun x => leAt b (x.ofs + 8) 1

/-- Checks 12 to 16 over the records read. -/
def State.admitRecords (s : State) (x : Staged) (b : List Byte) (secs : List Section) : Except Fail Score :=
  let a := s.judged (hdrSegue b) secs
  match firstFail [a.check12, a.check13] with
  | some f => .error f
  | none => match a.check14 s with
    | .error f => .error f
    | .ok areas => match a.check15 with
      | some f => .error f
      | none =>
        if hdrSegue b && !s.reachable (hdrCommit b) then .error ⟨0x0C, 0, 0xFF⟩
        else .ok ⟨hdrSegue b, hdrCommit b, secs, areas, signer b secs, x⟩

/-- Checks 1 to 16 over the staged bytes. -/
def State.admitBytes (s : State) (x : Staged) (b : List Byte) : Except Fail Score :=
  let l := dirSections b
  match s.checkHeader x b with
  | some f => .error f
  | none => match firstFail [checkCrcs b l, s.checkSignature b l] with
    | some f => .error f
    | none => match readSections b l with
      | .error o => .error ⟨0x06, o, 0xFF⟩
      | .ok secs => s.admitRecords x b secs

/-- Admission of the staged score (Table 3.1): the score, or the first failure. -/
def State.admission (s : State) (x : Staged) : Except Fail Score :=
  match s.checkRange x with
  | some f => .error f
  | none => s.admitBytes x (s.stagedBytes x)

end Sys2Proof.Machine
end

