-- ==== Sys2Proof/Machine/Check.lean ====
section
/-!
DEFINITION. The check channels (ch. 16, R368 to R374).
-/

namespace Sys2Proof.Machine

/-- The channel a voice's VW_CHK_CTRL selects, where it is the voice's own. -/
def State.chkElem (s : State) (v : Nat) : Option Elem :=
  (s.elem 0x0015 (s.rdF .VW_CHK_CTRL v 3 0)).filter fun e => e.voice == v

/-- An access at an offset of the page to a channel that is not the voice's own (R374). -/
def State.chkViolate (s : State) (v ofs : Nat) (write : Bool) : State :=
  s.violate v 8 write (s.rdF .VW_CHK_CTRL v 3 0) ofs 0

/-- A channel's register. -/
def State.chkReg (s : State) (c : Nat) : Nat := Tab.get 0 s.checks c

/-- Set a channel's register and its count of bytes. -/
def State.setChk (s : State) (c v n : Nat) : State := { s with checks := Tab.set 0 s.checks c v }.wr .CHK_BYTES c n

/-- A channel takes its init value (R371, R373). -/
def State.chkInit (s : State) (e : Elem) : State := s.setChk e.id (crcKind (e.u8 8)).init 0

/-- A write of VW_CHK_DATA feeds the selected channel with the low SIZE bytes (R370). -/
def State.chkFeed (s : State) (v w : Nat) : State :=
  match s.chkElem v with
  | none => s.chkViolate v 0x70 true
  | some e =>
    let n := 2 ^ s.rdF .VW_CHK_CTRL v 5 4
    s.setChk e.id (crcFeed (crcKind (e.u8 8)) (s.chkReg e.id) (toLe n w)) ((s.rd .CHK_BYTES e.id + n) % 2 ^ 32)

/-- The result that a read of VW_CHK_DATA returns (R369, R370). -/
def State.chkRead (s : State) (v : Nat) : State × Nat :=
  match s.chkElem v with
  | none => (s.chkViolate v 0x70 false, 0)
  | some e => (s, s.chkReg e.id ^^^ (crcKind (e.u8 8)).final)

/-- A write of VW_CHK_CTRL: CH and SIZE take effect, then RESTART (R371). -/
def State.chkCtrl (s : State) (v w : Nat) : State :=
  let s1 := s.fieldWrite .VW_CHK_CTRL v w
  if !bit 8 w then s1
  else match s1.chkElem v with
    | none => s1.chkViolate v 0x6C true
    | some e => s1.chkInit e

/-- CHECK_FEED (R370). -/
def execCheckFeed (p : Path) (voice : Nat) (v : Word) (s : State) : Host.Outcome State Fault Refusal :=
  .next (s.pageWrite p voice 0x70 fun s => s.chkFeed voice v.toNat)

/-- CHECK_RESTART (R371). -/
def execCheckRestart (p : Path) (voice : Nat) (v : Word) (s : State) : Host.Outcome State Fault Refusal :=
  .next (s.pageWrite p voice 0x6C fun s => s.chkCtrl voice v.toNat)

end Sys2Proof.Machine
end

