-- ==== Sys2Proof/Machine/Host.lean ====
section
/-!
DEFINITION. The host port (ch. 17, R375 to R388): resets of domain HOST, its epoch, the MSI-X table and AER.
-/

namespace Sys2Proof.Machine

/-! ### The epoch of the host port (R385, R399) -/

/-- Does a burst go through the outbound window? -/
def State.outboundBurst (s : State) (b : Burst) : Bool :=
  match b.pa with
  | some p => decide (s.region p = .outbound)
  | none => false

/-- The outbound requests of a descriptor in flight: its reads of host memory, and its writes that are not acknowledged,
which are what a barrier read waits for (R165). -/
def State.outboundOf (s : State) (d : Desc) : Nat :=
  (if d.item.isSome then 0 else (d.reads.filter s.outboundBurst).length) + (d.writes.filter s.outboundBurst).length

/-- A descriptor of a channel ends with EPOCH_LOST: its outbound bursts that were not acknowledged are not written, and
the channel goes on (Table 18.6). -/
def State.epochLost (s : State) (c : Nat) (d : Desc) : State :=
  let s1 := s.addF .HOST_EPOCH_CNT 0 31 0 (s.outboundOf d)
  let x := s1.chan c
  if x.first d.idx then
    let s2 := (s1.dropFermata fun f => f.ofChan c && f.aux == d.idx).dropWaiter c
    let held := (s2.trans.slots.any fun e => match e.2 with | some f => f.ofChan c | none => false) ||
      s2.trans.noSlot.any fun f => f.ofChan c
    let lost (d : Desc) : Desc := { d with
      failed := d.failed ++ d.writes.filter s2.outboundBurst
      writes := d.writes.filter fun b => !s2.outboundBurst b }
    let s3 := s2.setChan c { (s2.chan c).mapDesc d.idx lost with mode := if held then .fermata else .run }
    s3.completeChain c 4 none
  else s1.endDesc c d.idx 4 none

/-- Writes of completed descriptors that left for the host await no acknowledgement any more. -/
def State.landOutbound (s : State) (c : Nat) : State :=
  let l := (s.chan c).flying
  if l.any fun x => s.outboundBurst x.2 then
    (s.setChan c { s.chan c with flying := l.filter fun x => !s.outboundBurst x.2 }).landAll c
      ((l.map (·.2)).filter s.outboundBurst)
  else s

/-- Every outbound request in flight ends with the epoch (R385). A descriptor that waits behind the channel's first ends
before it. -/
def State.endOutbound (s : State) : State :=
  s.dma.ch.foldl (fun s e =>
    (e.2.descs.reverse.filter fun d => d.ended.isNone && decide (s.outboundOf d ≠ 0)).foldl
      (fun s d => s.epochLost e.1 d) (s.landOutbound e.1)) s

/-- The registers of domain HOST (Table 17.2). -/
def hostRegs : List RegId :=
  [.HOST_LINK, .HOST_BADACC_CNT, .HOST_BERR_CNT, .HOST_EPOCH_CNT, .HOST_TAG_STALL, .HOST_SHORT_CNT, .HOST_DOWN_CNT,
    .MSIX_PBA, .MSIX_TABLE]

/-- A reset of domain HOST (R376): the epoch advances and its registers return to their reset values; the link-down event
and the requests it ends are counted after that. -/
def State.hostReset (s : State) (down : Bool) : State :=
  let s1 := (s.nextEpoch 51).resetBlock hostRegs fun _ _ => false
  let s2 := if down then s1.bump .HOST_DOWN_CNT 0 else s1
  s2.endOutbound

/-- HOST_RESET (R376); ignored while domain HOST is in reset or gated (R404). -/
def execHostReset (k : HostResetKind) (s : State) : Host.Outcome State Fault Refusal :=
  .next (if s.domUp .HOST ∧ (k ≠ .fundamental ∨ s.pinsSeen) then s.hostReset (decide (k = .linkDown)) else s)

/-- HOST_LINK_UP (R375): the link has trained; the host's settings show in HOST_LINK. -/
def execHostLinkUp (speed width : Nat) (msixEnable extTag : Bool) (s : State) : Host.Outcome State Fault Refusal :=
  .next (if s.domUp .HOST then
    s.wrF .HOST_LINK 0 10 0 (speed % 16 + width % 16 * 16 + 256 + b2n msixEnable * 512 + b2n extTag * 1024)
  else s)

/-! ### Inbound accesses, MSI-X and AER -/

/-- The requests the device accepts (R378): 1 or 2 DW, every byte enabled, aligned to their length. -/
def inboundOk (q : InboundReq) : Bool := q.full && ((q.dw == 1 && q.addr % 4 == 0) || (q.dw == 2 && q.addr % 8 == 0))

/-- INBOUND_UNSUPPORTED_ACCESS (R378): any other request than those accepted is counted; a write is ignored and a read returns
zero. An accepted one is one of the register commands, or two of them, the high DW of a write and the low DW of a read first
(DEDUCED, log entry 114). -/
def execInboundUnsupportedAccess (q : InboundReq) (s : State) : Host.Outcome State Fault Refusal :=
  if inboundOk q then .next s
  else
    let s1 := if s.domUp .HOST then s.bump .HOST_BADACC_CNT 0 else s
    .next (if q.write then s1 else { s1 with lastRead := 0 })

/-- Unmask a vector: its pending message is sent (R381). -/
def State.unmaskVector (s : State) (vec : Nat) : State :=
  let s1 := s.clrB .MSIX_TABLE (4 * vec + 3) 0
  if s1.rdB .MSIX_PBA (vec / 32) (vec % 32) then (s1.clrB .MSIX_PBA (vec / 32) (vec % 32)).msix vec else s1

/-- MSIX_UNMASK (R381): the host clears a vector's mask bit. -/
def execMsixUnmask (vec : Nat) (s : State) : Host.Outcome State Fault Refusal :=
  .next (if s.domUp .HOST ∧ vec < 2048 then s.unmaskVector vec else s)

/-- AER_ERROR (R387): the error is reported, and the TLP is ignored or discarded. -/
def execAerError (k : AerKind) (s : State) : Host.Outcome State Fault Refusal :=
  .next (if s.domUp .HOST then s.emit (.aer k) else s)

end Sys2Proof.Machine
end

