-- ==== Sys2Proof/Machine/Serial.lean ====
section
/-!
DEFINITION. The serial ports (ch. 15, R347 to R367).
-/

namespace Sys2Proof.Machine

/-! ### Records and times -/

/-- A port's record in effect. -/
def State.serElem (s : State) (p : Nat) : Option Elem := s.elem 0x0014 p

/-- SMODE: 0 UART, 1 RS-485, 2 LIN commander, 3 LIN responder. -/
def serMode (e : Elem) : Nat := e.u8 13
/-- Data bits (FMT). -/
def serBits (e : Elem) : Nat := 7 + e.u8 12 % 4
/-- Parity code (FMT). -/
def serParity (e : Elem) : Nat := e.u8 12 / 4 % 4
/-- Stop bits (FMT). -/
def serStops (e : Elem) : Nat := if bit 4 (e.u8 12) then 2 else 1
/-- SLEEP. -/
def serSleep (e : Elem) : Nat := e.u8 15

/-- D (R352). -/
def serDiv (e : Elem) : Nat := (25600000000 + e.u32 8 / 2) / max 1 (e.u32 8)

/-- `n` UCLK periods of 10 ns. -/
def uclk (n : Nat) : Nat := nsU (10 * n)

/-- `k` bit times by a divider (R352). -/
def divTime (d k : Nat) : Nat := uclk (k * d / 256)

/-- `k` bit times by the port's divider. -/
def bitTime (e : Elem) (k : Nat) : Nat := divTime (serDiv e) k

/-- Bits of a character on the line. -/
def charBits (e : Elem) : Nat := 1 + serBits e + (if serParity e = 0 then 0 else 1) + serStops e

/-- Frame time. -/
def frameTime (e : Elem) : Nat := bitTime e (charBits e)

/-! ### The area (R348 to R350) -/

/-- A port. -/
def State.ser (s : State) (p : Nat) : SerPort := Tab.get {} s.serial p

/-- Set a port. -/
def State.putSer (s : State) (p : Nat) (x : SerPort) : State := { s with serial := Tab.set {} s.serial p x }

/-- The divider in use: a LIN frame's own, or the port's (R352, R363). -/
def SerPort.div (x : SerPort) (e : Elem) : Nat :=
  match x.lin with
  | some f => f.div
  | none => serDiv e

/-- The device-physical base of a port's area. -/
def State.serBase (s : State) (p : Nat) : Nat := s.rd .SER_AREA p

/-- Write bytes into a port's area; a write that meets a bus error is dropped (R348). -/
def State.serWrite (s : State) (p ofs : Nat) (b : List Byte) : State :=
  if s.deadAddr (s.serBase p) then s.bump .SER_WR_ERR p else s.writePhys (s.serBase p + ofs) b

/-- A word of a port's area. -/
def State.serWord (s : State) (p ofs : Nat) : Nat := leNat (s.readPhys (s.serBase p + ofs) 4)

/-- SER_STATUS.STATE (Table 15.8). -/
def State.serState (s : State) (p : Nat) : Nat :=
  let x := s.ser p
  match s.serElem p with
  | none => 0
  | some e =>
    if s.isHalted e.voice then 5
    else if x.search.isSome then 4
    else if x.asleep then 3
    else if x.tx.isSome || x.rx.isSome || x.lin.isSome || x.de then 2
    else 1

/-- Set a port; SER_STATUS follows, and STATE in its area where it changes. -/
def State.setSer (s : State) (p : Nat) (x : SerPort) : State :=
  let old := s.serState p + 256 * b2n (s.ser p).badIdx
  let s1 := s.putSer p x
  let st := s1.serState p
  let s2 := s1.wr .SER_STATUS p (st + 8 * b2n x.de + 16 * b2n x.rxd)
  let new_ := st + 256 * b2n x.badIdx
  if new_ = old ∨ st = 0 then s2 else s2.serWrite p 0x20 (toLe 4 new_)

/-- Raise events of a port (Table 15.2). -/
def State.serEvent (s : State) (p bits : Nat) : State :=
  let x := s.ser p
  s.setSer p { x with events := x.events ||| bits }

/-- The owner's notify queue: its lowest-numbered device-to-voice queue in 0 to 14 (R350). -/
def State.notifyQueue (s : State) (v : Nat) : Option Nat :=
  (List.range 15).find? fun q => (s.ring v q).present && !(s.ring v q).toDev

/-- May the port act: it is declared, its owner not halted, the block up? -/
def State.serLive (s : State) (p : Nat) : Option Elem :=
  match s.serElem p with
  | some e => if s.isHalted e.voice || !s.domUp .FABRIC then none else some e
  | none => none

/-- Fetch TX entries into the FIFO, up to 16 (Model). -/
def State.serFill (s : State) (p : Nat) : Nat → State
  | 0 => s
  | n + 1 =>
    let x := s.ser p
    if 16 ≤ x.fifo.length ∨ x.fetch = x.txProd ∨ s.deadAddr (s.serBase p) then s
    else (s.putSer p { x with
      fifo := x.fifo ++ [s.serWord p (0x1000 + 4 * (x.fetch % 1024))]
      fetch := incIndex x.fetch }).serFill p n

/-- OP of the command read, where it is one not yet taken (R350). -/
def SerPort.newCmd (x : SerPort) : Nat := if x.cmd / 16777216 = x.ack / 16777216 then 0 else x.cmd % 16

/-- Write CMD_ACK for the command read, with its result; CMD_DONE is raised unless the command ends in sleep. -/
def State.serAckSeq (s : State) (p seq result ev : Nat) : State :=
  let x := s.ser p
  let a := result + seq * 16777216
  (s.serWrite p 0x18 (toLe 4 a)).setSer p { x with
    ack := a
    events := x.events ||| ev }

/-- The same for the command read last. -/
def State.serAck (s : State) (p result ev : Nat) : State := s.serAckSeq p ((s.ser p).cmd / 16777216) result ev

/-- An OP that no command has is answered BAD at once; while a search runs it waits for the search's end (R350). -/
def State.serRefuse (s : State) (p : Nat) : State :=
  if 4 ≤ (s.ser p).newCmd ∧ (s.ser p).search.isNone then s.serAck p 5 16 else s

/-- The port reads TX_PROD, RX_CONS, CMD and WAKE (R350). -/
def State.serRead (s : State) (p : Nat) : State :=
  if s.deadAddr (s.serBase p) then s
  else
    let x := s.ser p
    let prod := s.serWord p 0x04
    let ok := decide ((prod + 2 ^ 32 - x.txCons) % 2 ^ 32 ≤ 1024)
    let y := { x with
      txProd := if ok then prod else x.txProd
      badIdx := !ok
      events := if ok then x.events else x.events ||| 128
      rxCons := s.serWord p 0x10
      cmd := s.serWord p 0x14
      wake := s.serWord p 0x1C }
    ((s.setSer p y).serFill p 16).serRefuse p

/-- A port wakes for a cause (R358 to R360). -/
def State.serWake (s : State) (p cause : Nat) : State :=
  let x := s.ser p
  s.setSer p { x with
    asleep := false
    events := x.events ||| 4
    cause := cause }

/-- An accepted doorbell write reaches the ports that notify by that queue (R350, R358). -/
def State.serDoorbell (s : State) (v q : Nat) : State :=
  if s.notifyQueue v ≠ some q then s
  else ((s.elems 0x0014).filter fun e => e.voice == v).foldl (fun s e =>
    if s.isHalted v then s
    else
      let s1 := if (s.ser e.id).asleep then s.serWake e.id 3 else s
      s1.serRead e.id) s

/-- SERIAL_AREA_POLL (R350): the reading of every 1 ms of an awake port. -/
def execSerialAreaPoll (port : Nat) (s : State) : Host.Outcome State Fault Refusal :=
  match s.serLive port with
  | none => .next s
  | some _ =>
    if (s.ser port).asleep then .next s
    else
      let s1 := s.runTo ((s.ser port).pollAt + nsU 1000000)
      .next ((s1.putSer port { s1.ser port with pollAt := s1.clock.elapsed }).serRead port)

/-- SERIAL_NOTIFY_POST (R351): pending events are posted once the last post is 100 µs old. -/
def execSerialNotifyPost (port : Nat) (s : State) : Host.Outcome State Fault Refusal :=
  match s.serElem port with
  | none => .next s
  | some e =>
    let x := s.ser port
    match s.notifyQueue e.voice with
    | none => .next s
    | some q =>
      if x.events = 0 then .next s
      else
        let s1 := s.runTo (x.postAt + nsU 100000)
        let body := toLe 2 x.events ++ [BitVec.ofNat 8 x.cause, 0] ++ toLe 4 x.rxProd ++ toLe 4 x.txCons ++ toLe 4 x.ack
          ++ toLe 8 (s1.rd .BEAT_NUM 0)
        let s2 := s1.setSer port { x with
          events := 0
          cause := 0
          aborted := false
          postAt := s1.clock.elapsed
          rxNew := if bit 0 x.events then 0 else x.rxNew }
        .next (s2.post ⟨e.voice, q, 3, b2n x.aborted, false, port, body, none, none⟩)

/-! ### Commands (R350, R358, R365, R366) -/

/-- SERIAL_SLEEP (R358). -/
def execSerialSleep (port : Nat) (s : State) : Host.Outcome State Fault Refusal :=
  match s.serLive port with
  | none => .next s
  | some e =>
    let x := s.ser port
    if x.newCmd ≠ 1 ∨ x.search.isSome ∨ x.asleep then .next s
    else if serSleep e = 0 then .next (s.serAck port 5 16)
    else .next (s.setSer port { x with sleepAsked := true })

/-- SERIAL_SLEEP_ENTER (R358): the transmitter is idle and DE low. A character in reception completes first. -/
def execSerialSleepEnter (port : Nat) (s : State) : Host.Outcome State Fault Refusal :=
  match s.serLive port with
  | none => .next s
  | some _ =>
    let x := s.ser port
    if !x.sleepAsked || x.tx.isSome || x.de || x.rx.isSome || x.lin.isSome then .next s
    else .next ((s.setSer port { x with
      sleepAsked := false
      asleep := true
      deaf := false }).serAck port 0 8)

/-! ### Receiving (R354 to R356) -/

/-- Write an RX entry, or discard it where the ring is full (R350). -/
def State.rxEntry (s : State) (p w : Nat) (now : Bool) : State :=
  let x := s.ser p
  if (x.rxProd + 2 ^ 32 - x.rxCons) % 2 ^ 32 = 2048 then (s.bump .SER_RXOVF_CNT p).serEvent p 32
  else
    let s1 := s.serWrite p (0x2000 + 4 * (x.rxProd % 2048)) (toLe 4 w)
    let prod := incIndex x.rxProd
    let s2 := s1.serWrite p 0x0C (toLe 4 prod)
    let n := x.rxNew + 1
    let t := match s.serElem p with | some e => s.clock.elapsed + 2 * frameTime e | none => s.clock.elapsed
    s2.setSer p { s2.ser p with
      rxProd := prod
      rxNew := n
      events := if 16 ≤ n || now then x.events ||| 1 else x.events
      idleAt := some t }

/-- SERIAL_RX_IDLE (R351): the line has idled for two frame times after a written entry. -/
def execSerialRxIdle (port : Nat) (s : State) : Host.Outcome State Fault Refusal :=
  match (s.ser port).idleAt, (s.ser port).rx with
  | none, _ | _, some _ => .next s
  | some t, none =>
    let s1 := s.runTo t
    let x := s1.ser port
    .next (s1.setSer port { x with
      idleAt := none
      events := x.events ||| 1 })

/-- SERIAL_START_EDGE (R355, R359, R360): the receiver hunts: it is not silenced by DE, and a port that a start edge woke has
seen RXD high for one frame time. Asleep, the receiver clocked by SCLK begins a character, and ends it before the other
takes over. -/
def execSerialStartEdge (v : StartEdge) (s : State) : Host.Outcome State Fault Refusal :=
  match s.serElem v.port with
  | none => .next s
  | some e =>
    let x := s.ser v.port
    if !s.pinsSeen ∨ x.sclk then .next s
    else if x.asleep then .next (if serSleep e = 2 then s.setSer v.port { x with sclk := true } else s)
    else if x.rx.isSome ∨ (serMode e = 1 ∧ x.de) ∨ (x.deaf ∧ v.high < charBits e * serDiv e / 256) then .next s
    else .next (s.setSer v.port { x with
      deaf := false
      rx := some s.clock.elapsed
      rxd := false })

/-- The level changes that count: a level that fewer than 3 samples read is passed over (R355). -/
def qualified : List Nat → List Nat
  | a :: b :: t => if b < a + 3 then qualified t else a :: qualified (b :: t)
  | l => l

/-- RXD some time after a start edge, by the level changes after it. -/
def rxHigh (l : List Nat) (t : Nat) : Bool := (l.filter fun x => decide (x ≤ t)).length % 2 == 1

/-- The centre of the `n`-th bit after an anchor, by divider `d` (R355). -/
def rxCentre (d : Nat) (a : Nat × Nat) : Nat := a.1 + (2 * a.2 + 1) * d / 512

/-- Re-anchoring in mode 0: each transition after the last centre and no later than the next moves it (Table 15.5). -/
def reanchor (d : Nat) (l : List Nat) (prev : Nat) (a : Nat × Nat) : Nat × Nat :=
  l.foldl (fun a t => if prev < t ∧ t ≤ rxCentre d a then (t, 0) else a) a

/-- The value of a bit at its centre, and whether its samples disagree (Table 15.5). -/
def rxSample (d : Nat) (resync : Bool) (l : List Nat) (c : Nat) : Bool × Bool :=
  let x := rxHigh l c
  let a := rxHigh l (c - d / 2048)
  let b := rxHigh l (c + d / 2048)
  if resync then (x, false) else ((a && b) || (x && (a || b)), !(a == x && x == b))

/-- The bits of a character from the start bit on: centre, value, and whether the samples disagree. `a` is the anchor: its
time and the bits since; `prev` the last centre. -/
def rxBits (d : Nat) (resync : Bool) (l : List Nat) : Nat → Nat × Nat → Option Nat → List (Nat × Bool × Bool)
  | 0, _, _ => []
  | n + 1, a, prev =>
    let b := match prev with
      | some p => if resync then reanchor d l p a else a
      | none => a
    let c := rxCentre d b
    (c, rxSample d resync l c) :: rxBits d resync l n (b.1, b.2 + 1) (some c)

/-- A character read from what RXD does, by divider `d`, in mode 0 or 1 of Table 15.5 (R355, R356). -/
def rxRead (w : RxWave) (e : Elem) (d : Nat) (resync : Bool) : RxChar :=
  let n := serBits e
  let p := if serParity e = 0 then 0 else 1
  let l := rxBits d resync (qualified w.edges) (2 + n + p) (0, 0) none
  let at_ (k : Nat) : Nat × Bool × Bool := (l[k]?).getD (0, true, false)
  if (at_ 0).2.1 then ⟨0, false, false, false, true, (at_ 0).1⟩
  else
    { data := sumN ((List.range n).map fun k => b2n (at_ (k + 1)).2.1 * 2 ^ k)
      parityBit := p == 1 && (at_ (n + 1)).2.1
      stopOk := (at_ (1 + n + p)).2.1
      noise := l.any fun b => b.2.2
      falseStart := false
      last := (at_ (1 + n + p)).1 }

/-- The parity bit that goes with a character. -/
def parityOf (e : Elem) (data : Nat) : Bool :=
  let ones := sumN ((List.range 9).map fun k => b2n (bit k data))
  if serParity e = 2 then ones % 2 == 0 else ones % 2 == 1

/-- Error flags of a received character as in Table 15.4: PARITY, FRAME, NOISE, BREAK (R355, R356). A break has a first stop bit
of 0, and so FRAME too (DEDUCED, log entry 113). -/
def rxFlags (e : Elem) (c : RxChar) : Nat :=
  let d := c.data % 2 ^ serBits e
  let brk := d == 0 && !c.stopOk && (serParity e == 0 || !c.parityBit)
  (if serParity e ≠ 0 ∧ c.parityBit ≠ parityOf e d then 512 else 0) + (if c.stopOk then 0 else 1024)
    + (if c.noise then 2048 else 0) + (if brk then 4096 else 0)

/-- Count a character and its errors. -/
def State.rxCount (s : State) (p fl : Nat) : State :=
  let s0 := s.addWrap .SER_RX_CNT p 1
  let s1 := if bit 9 fl then s0.bump .SER_PAR_CNT p else s0
  let s2 := if bit 10 fl then s1.bump .SER_FRM_CNT p else s1
  if bit 11 fl then s2.bump .SER_NOISE_CNT p else s2

/-! ### LIN (R361 to R363) -/

/-- The protected identifier. -/
def linPid (i : Nat) : Nat :=
  let b := fun k => b2n (bit k i)
  i % 64 + ((b 0 + b 1 + b 2 + b 4) % 2) * 64 + ((b 1 + b 3 + b 4 + b 5 + 1) % 2) * 128

/-- The checksum of a frame (R361). -/
def linSum (i : Nat) (enhanced : Bool) (data : List Nat) : Nat :=
  let s0 := if enhanced ∧ i ≠ 60 ∧ i ≠ 61 then linPid i else 0
  255 - data.foldl (fun s b => if 255 < s + b then s + b - 255 else s + b) s0

/-- A frame's deadline after its break's falling edge, in bit times (R361). -/
def linLimit (len : Nat) : Nat := (14 * (34 + 10 * (len + 1)) + 9) / 10

/-- A frame ends: its summary is written and its error flags are counted (Table 15.4). An entry that is on the line still
leaves it with its last bit (R350, R361). -/
def State.linEnd (s : State) (p : Nat) (f : LinFrame) : State :=
  let fl := f.flags
  let w := f.ident + 64 * b2n f.publish + 128 * b2n f.enhanced + 256 * b2n f.responder + f.got.length * 512 + 65536
    + fl * 1048576
  let n := sumN ((List.range 6).map fun k => b2n (bit k fl))
  let x := s.ser p
  let k := f.left + b2n (x.tx.any fun t => t.entry && !t.stale)
  let s0 := match x.tx with
    | some t => s.addWrap .SER_TX_CNT p (if t.bits = 20 ∧ f.expect.length = 2 then 1 else t.bits / 10)
    | none => s
  let s1 := s0.setSer p { x with
    lin := none
    tx := none
    fifo := x.fifo.drop f.left
    txCons := (x.txCons + k) % 2 ^ 32 }
  let s2 := if k = 0 then s1 else s1.serWrite p 0x08 (toLe 4 (x.txCons + k))
  (s2.addF .SER_LIN_ERR_CNT p 31 0 n).rxEntry p w true

/-- LIN_FRAME_DEADLINE (R361): an incomplete response ends with NO_RESPONSE. -/
def execLinFrameDeadline (port : Nat) (s : State) : Host.Outcome State Fault Refusal :=
  match (s.ser port).lin with
  | none => .next s
  | some f => .next ((s.runTo f.ends).linEnd port { f with flags := f.flags ||| 8 })

/-- LIN_BREAK_DETECT (R363): a responder takes RXD low for at least 11 bit times, then high, as a break, and has timed the sync
field, whose D' it uses from then on; the deadline counts from the falling edge of the break (R361). -/
def execLinBreakDetect (port : Nat) (b : LinBreak) (s : State) : Host.Outcome State Fault Refusal :=
  match s.serLive port with
  | none => .next s
  | some e =>
    if !s.pinsSeen ∨ serMode e ≠ 3 ∨ (s.ser port).asleep ∨ 256 * b.low < 11 * serDiv e ∨ b.high = 0 then .next s
    else
      let d := 32 * b.sync
      let s1 := s.wr .SER_LINDIV port (d % 2 ^ 28)
      let f : LinFrame := ⟨0, false, false, true, 8, true, [], [], [], 0, 0,
        s1.clock.elapsed + divTime d (linLimit 8) - uclk (b.low + b.high + b.sync), d⟩
      let far := decide (100 * d < 86 * serDiv e) || decide (114 * serDiv e < 100 * d)
      let s2 := s1.setSer port { s1.ser port with
        lin := some f
        rx := none }
      .next (if far then s2.linEnd port { f with flags := 16 } else s2)

/-- Put a character of the device's own on the line: a response byte or a checksum. -/
def State.linSend (s : State) (p : Nat) (f : LinFrame) : State :=
  match f.toSend with
  | [] => s
  | b :: rest =>
    let x := s.ser p
    (s.setSer p { x with
      tx := some ⟨b, false, 10, false, false⟩
      lin := some { f with
        toSend := rest
        expect := f.expect ++ [b]
        got := if rest.isEmpty then f.got else f.got ++ [b] } }).emit (.serial p b false)

/-- Entry `i` of the LIN table: a read that meets a bus error leaves what was read last, or zeros, which ignore the frame
(R348). -/
def State.linEntry (s : State) (p i : Nat) : List Byte :=
  if s.deadAddr (s.serBase p) then Tab.get (zeros 16) (s.ser p).table i else s.readPhys (s.serBase p + 0x400 + 16 * i) 16

/-- A responder has its PID (R363): it looks its table up and publishes, subscribes or ignores. -/
def State.linPidIn (s0 : State) (p : Nat) (f : LinFrame) (b : Nat) : State :=
  let i := b % 64
  if linPid i ≠ b then s0.linEnd p { f with flags := 2, ident := i }
  else
    let ent := s0.linEntry p i
    let s := s0.putSer p { s0.ser p with table := Tab.set (zeros 16) (s0.ser p).table i ent }
    let act := leAt ent 0 1
    let len := leAt ent 1 1
    let enh := bit 0 (leAt ent 2 1)
    if len = 0 ∨ 8 < len ∨ act = 0 ∨ 2 < act then s.setSer p { s.ser p with lin := none }
    else
      let g := { f with
        ident := i
        enhanced := enh
        len := len
        waitPid := false
        publish := decide (act = 1)
        ends := f.ends + divTime f.div (linLimit len) - divTime f.div (linLimit 8) }
      if act = 2 then s.setSer p { s.ser p with lin := some g }
      else
        let data := (List.range len).map fun k => leAt ent (4 + k) 1
        let s1 := s.setSer p { s.ser p with
          ts := s.clock.elapsed + divTime f.div 2
          bits := 0 }
        s1.linSend p { g with toSend := data ++ [linSum i enh data] }

/-- A byte arrives in a LIN frame (R361 to R363): a readback, the PID, data or the checksum. -/
def State.linByte (s : State) (p : Nat) (e : Elem) (f : LinFrame) (c : RxChar) : State :=
  let b := c.data % 256
  let g := if c.stopOk then f else { f with flags := f.flags ||| 32 }
  match g.expect with
  | want :: rest =>
    if b = 0 ∧ !c.stopOk ∧ want = 0x55 then s.setSer p { s.ser p with lin := some f }
    else if b ≠ want then s.linEnd p { g with flags := g.flags ||| 1 }
    else
      let h := { g with expect := rest }
      let done := rest.isEmpty && h.publish && h.toSend.isEmpty && decide (h.left = 0) && decide (h.got.length = h.len)
        && (s.ser p).tx.all fun t => !t.entry
      if done then s.linEnd p h else s.setSer p { s.ser p with lin := some h }
  | [] =>
    if g.waitPid then s.linPidIn p g b
    else if g.publish then s.setSer p { s.ser p with lin := some g }
    else if g.got.length < g.len then
      let h := { g with got := g.got ++ [b] }
      (s.setSer p { s.ser p with lin := some h }).rxEntry p ((if bit 12 (rxFlags e c) then 0 else b) + rxFlags e c) false
    else s.linEnd p { g with flags := g.flags ||| (if b = linSum g.ident g.enhanced g.got then 0 else 4) }

/-- SERIAL_RX_CHAR_END (R355, R356): the character in reception has its first stop bit. A responder writes nothing of what comes
outside its frames (R363). -/
def execSerialRxCharEnd (port : Nat) (w : RxWave) (s : State) : Host.Outcome State Fault Refusal :=
  match s.serElem port, (s.ser port).rx with
  | some e, some t0 =>
    let c := rxRead w e ((s.ser port).div e) (e.u8 14 == 0)
    let s0 := s.runTo (t0 + uclk c.last)
    let x := s0.ser port
    let s1 := s0.setSer port { x with
      rx := none
      idleAt := x.idleAt.map fun _ => s0.clock.elapsed + 2 * frameTime e
      rxd := c.stopOk || c.falseStart }
    if c.falseStart then .next (s1.bump .SER_FALSE_CNT port)
    else
      let fl := rxFlags e c
      let s2 := s1.rxCount port fl
      let d := if bit 12 fl then 0 else c.data % 2 ^ serBits e
      .next (
        if s2.isHalted e.voice then s2.bump .SER_RXOVF_CNT port
        else match (s2.ser port).search, (s2.ser port).lin with
          | some _, _ => s2
          | none, some f => s2.linByte port e f c
          | none, none => if serMode e = 3 then s2 else s2.rxEntry port (d + fl) false)
  | _, _ => .next s

/-! ### Sleep and wake (R359, R360) -/

/-- SERIAL_WAKE_EDGE (R359): a start edge wakes the port, and its character is lost. -/
def execSerialWakeEdge (port : Nat) (s : State) : Host.Outcome State Fault Refusal :=
  match s.serLive port with
  | none => .next s
  | some e =>
    if !s.pinsSeen ∨ !(s.ser port).asleep ∨ serSleep e ≠ 1 then .next s
    else
      let s1 := (s.serWake port 1).bump .SER_WAKE_LOST port
      .next (s1.setSer port { s1.ser port with deaf := true })

/-- Does a character match ADDR under MASK (R360)? -/
def serMatches (e : Elem) (wake d : Nat) : Bool :=
  let diff := (d ^^^ fld 8 0 wake) &&& fld 24 16 wake
  decide (diff = 0) && (decide (serBits e < 9) || bit 8 d)

/-- D_s: the divider of the receiver clocked by SCLK (R360). -/
def sclkDiv (e : Elem) : Nat := (256000000 + e.u32 8 / 2) / max 1 (e.u32 8)

/-- SERIAL_ADDRESS_MATCH (R360): the SCLK receiver ends a character, in the resynchronising mode: of a sleeping port, or of one
that a doorbell has woken since the character began (ch. 15, Corners). -/
def execSerialAddressMatch (port : Nat) (w : RxWave) (s : State) : Host.Outcome State Fault Refusal :=
  match s.serLive port with
  | none => .next s
  | some e =>
    let x := s.ser port
    if !s.pinsSeen ∨ !(x.asleep || x.sclk) ∨ serSleep e ≠ 2 then .next s
    else
      let c := rxRead w e (sclkDiv e) true
      let s1 := s.setSer port { x with sclk := false }
      if c.falseStart then .next (s1.bump .SER_FALSE_CNT port)
      else if !serMatches e x.wake c.data then .next s1
      else
        let fl := rxFlags e c
        let s2 := if x.asleep then s1.serWake port 2 else s1
        .next ((s2.rxCount port fl).rxEntry port (c.data + fl + 8192) false)

/-! ### Transmitting (R352, R353, R357, R362) -/

/-- Is a TX entry valid for the mode (Table 15.3)? -/
def txValid (e : Elem) (w : Nat) : Bool :=
  let data := w % 65536
  let op := w / 65536 % 16
  decide (w / 1048576 = 0) &&
    (if op = 0 then decide (data < 2 ^ serBits e)
    else if op = 1 then decide (serMode e ≤ 1) && decide (13 ≤ data)
    else if op = 2 then decide (serMode e = 2) && decide (data < 4096) && decide (1 ≤ data / 256) && decide (data / 256 ≤ 8)
    else false)

/-- Entries that a LIN frame entry takes with it. -/
def linTakes (w : Nat) : Nat := if w / 65536 % 16 = 2 ∧ bit 6 w then w / 256 % 16 else 0

/-- Discard `n` entries with BADTX for one fault (R353, R362). -/
def State.skipTx (s : State) (p n bad : Nat) : State :=
  let x := s.ser p
  let cons := (x.txCons + n) % 2 ^ 32
  let s1 := (s.addF .SER_BADTX_CNT p 31 0 bad).serWrite p 0x08 (toLe 4 cons)
  (s1.setSer p { x with
    fifo := x.fifo.drop n
    txCons := cons
    events := x.events ||| 64 }).serFill p 16

/-- Skip entries until a valid one stands first (R353); a published frame with an entry of another kind among its data
goes with them (R362). -/
def State.skipBad (s : State) (p : Nat) (e : Elem) : Nat → State
  | 0 => s
  | n + 1 =>
    match (s.ser p).fifo with
    | [] => s
    | w :: rest =>
      if !txValid e w then (s.skipTx p 1 1).skipBad p e n
      else
        let k := linTakes w
        if (rest.take k).any fun d => !(txValid e d && d / 65536 % 16 == 0) then
          if k ≤ rest.length then (s.skipTx p (k + 1) (k + 1)).skipBad p e n else s
        else s

/-- Is the first entry ready to start? -/
def SerPort.ready (x : SerPort) : Bool :=
  match x.fifo with
  | [] => false
  | w :: rest => decide (linTakes w ≤ rest.length)

/-- Put the first entry of the FIFO on the line, from bit `b` of `ts`. A LIN header counts anew from the start bit that follows
its break of 13 bits and delimiter (R352, R362). -/
def State.txBegin (s : State) (p : Nat) (e : Elem) (ts b : Nat) : State :=
  let x := s.ser p
  match x.fifo with
  | [] => s
  | w :: rest =>
    let op := w / 65536 % 16
    let data := w % 65536
    let y := { x with
      fifo := rest
      ts := ts
      bits := b }
    if op = 2 then
      let i := data % 64
      let f : LinFrame := ⟨i, bit 6 w, bit 7 w, false, data / 256, false, [], [0x55, linPid i], [], linTakes w, 0,
        ts + bitTime e (b + linLimit (data / 256)), serDiv e⟩
      (s.setSer p { y with
        ts := ts + bitTime e (b + 14)
        bits := 0
        tx := some ⟨linPid i, false, 20, true, false⟩
        lin := some f }).emit (.serial p (linPid i) true)
    else
      let n := if op = 1 then data else charBits e
      (s.setSer p { y with tx := some ⟨data, decide (op = 1), n, true, false⟩ }).emit (.serial p data (decide (op = 1)))

/-- SERIAL_TX_START (R357): a ready entry starts an idle transmitter; in RS-485 mode DE rises, from which on RXD is ignored, and
DE_LEAD passes first, unless DE is still high. -/
def execSerialTxStart (port : Nat) (s : State) : Host.Outcome State Fault Refusal :=
  match s.serLive port with
  | none => .next s
  | some e =>
    let x := s.ser port
    if x.asleep ∨ x.tx.isSome ∨ x.search.isSome ∨ x.lin.isSome then .next s
    else
      let s1 := s.skipBad port e 32
      let y := s1.ser port
      if !y.ready then .next s1
      else if serMode e = 1 ∧ !y.de then
        .next ((s1.setSer port { y with
          de := true
          rx := none }).txBegin port e (s1.clock.elapsed + uclk (e.u16 16)) 0)
      else .next ((s1.setSer port { y with tail := none }).txBegin port e s1.clock.elapsed 0)

/-- The transmitter falls idle: TX_EMPTY where nothing is left, and DE_TAIL starts (Table 15.6). -/
def State.txIdle (s : State) (p : Nat) (e : Elem) : State :=
  let x := s.ser p
  s.setSer p { x with
    tx := none
    tail := if serMode e = 1 then some (s.clock.elapsed + uclk (e.u16 18)) else none
    events := if x.txCons = x.txProd then x.events ||| 2 else x.events }

/-- What follows an entry that has left the line: more of its LIN frame, or the next entry at once (R352). After a break the line
idles high for one bit time before the next entry, since R353 does not say how long (DESIGN CHOICE, log entry 112). -/
def State.txFollow (s : State) (p : Nat) (e : Elem) (t : SerTx) : State :=
  let x := s.ser p
  let bits := x.bits + t.bits
  match x.lin with
  | some f =>
    if 0 < f.left then
      match x.fifo with
      | [] => s.setSer p { x with tx := none }
      | w :: rest =>
        let b := w % 256
        let data := f.got ++ [b]
        (s.setSer p { x with
          fifo := rest
          bits := bits
          tx := some ⟨b, false, 10, true, false⟩
          lin := some { f with
            left := f.left - 1
            got := data
            expect := f.expect ++ [b]
            toSend := if f.left = 1 then [linSum f.ident f.enhanced data] else [] } }).emit (.serial p b false)
    else if f.toSend.isEmpty then
      let s1 := s.setSer p { x with tx := none }
      if f.publish && f.expect.isEmpty then s1.linEnd p f else s1
    else (s.setSer p { x with bits := bits }).linSend p f
  | none =>
    let s1 := if t.stale then s else s.skipBad p e 32
    let y := s1.ser p
    if t.stale || !y.ready || (s1.serLive p).isNone || y.search.isSome then s1.txIdle p e
    else if t.brk then (s1.setSer p { y with tx := none }).txBegin p e (s1.clock.elapsed + bitTime e 1) 0
    else (s1.setSer p { y with tx := none }).txBegin p e y.ts bits

/-- SERIAL_TX_CHAR_END (R353): the last bit of what is on the line leaves it. -/
def execSerialTxCharEnd (port : Nat) (s : State) : Host.Outcome State Fault Refusal :=
  match s.serElem port, (s.ser port).tx with
  | some e, some t =>
    let x0 := s.ser port
    let s1 := s.runTo (x0.ts + divTime (x0.div e) (x0.bits + t.bits))
    let s2 := if t.brk then s1 else s1.addWrap .SER_TX_CNT port (t.bits / charBits e)
    if t.entry ∧ !t.stale then
      let cons := incIndex x0.txCons
      let s3 := (s2.serWrite port 0x08 (toLe 4 cons)).setSer port { s2.ser port with txCons := cons }
      .next ((s3.serFill port 16).txFollow port e t)
    else .next (s2.txFollow port e t)
  | _, _ => .next s

/-- SERIAL_DE_TAIL_END (R357): DE falls and the receiver resumes hunting. -/
def execSerialDeTailEnd (port : Nat) (s : State) : Host.Outcome State Fault Refusal :=
  match (s.ser port).tail with
  | none => .next s
  | some t =>
    let s1 := s.runTo t
    .next (s1.setSer port { s1.ser port with
      de := false
      tail := none })

/-! ### Roll call (R364 to R366) -/

/-- The bytes of a PROBE or PING, with their CRC-8. -/
def rollFrame (b : List Byte) : List Byte := b ++ [BitVec.ofNat 8 (crc8 b)]

/-- Start a slot: DE rises, the frame goes out after DE_LEAD, DE falls DE_TAIL after it, and the slot's end is set (Table 15.6,
R364). -/
def State.rollSlot (s : State) (p : Nat) (e : Elem) (q : Search) (frame : List Byte) (bits : Nat) : State :=
  let t := s.clock.elapsed + uclk (e.u16 16)
  let s1 := s.setSer p { s.ser p with
    de := true
    rx := none
    tail := some (t + bitTime e (frame.length * charBits e) + uclk (e.u16 18))
    search := some { q with
      probes := q.probes + 1
      ends := t + bitTime e bits } }
  (frame.foldl (fun s b => s.emit (.serial p b.toNat false)) s1).addWrap .SER_TX_CNT p frame.length

/-- Members of `a` that are in `b` too. -/
def both (a b : List Nat) : List Nat := a.filter fun n => b.contains n

/-- The lists of Table 15.7: LIST, UNION, GONE. -/
def Search.lists (q : Search) (result : Nat) : List Nat × List Nat × List Nat :=
  let all := sortBy id (q.confirmed.flatMap id).eraseDups
  let list := match q.confirmed with
    | [] => []
    | a :: t => if result = 1 then (q.confirmed.getLast?).getD [] else t.foldl both a
  (sortBy id list, if result = 1 then sortBy id list else all, sortBy id q.gone.eraseDups)

/-- Bytes of a list of IDs in its 128 places. -/
def idBytes (l : List Nat) : List Byte := bytesAt ((l.take 128).flatMap fun n => toLe 4 n) 0 512

/-- A search ends with a result: Table 15.7 is written, then CMD_ACK, and CMD_DONE is raised; another command that came
while it ran is then answered BAD (ch. 15, Corners). -/
def State.rollEnd (s : State) (p : Nat) (q : Search) (result : Nat) : State :=
  let (l, u, g) := q.lists result
  let b := [BitVec.ofNat 8 result, BitVec.ofNat 8 q.number] ++ toLe 2 (min 128 l.length) ++ toLe 2 (min 128 u.length)
    ++ toLe 2 (min 128 g.length) ++ toLe 4 q.probes ++ zeros 20 ++ idBytes l ++ idBytes u ++ idBytes g
  let s1 := s.serWrite p 0x800 b
  let x := s1.ser p
  let s2 := (s1.setSer p { x with
    search := none
    aborted := x.aborted || q.halted }).serAckSeq p q.seq result 16
  if (s2.ser p).newCmd = 0 ∨ q.halted then s2 else s2.serAck p 5 16

/-- Begin search number `n` of a command. -/
def State.rollSearch (s : State) (p : Nat) (e : Elem) (q : Search) : State :=
  let probe := rollFrame ([0xF0, 0] ++ toLe 4 0)
  (s.bump .SER_RC_CNT p).rollSlot p e { q with
    number := q.number + 1
    stack := [(0, 0)]
    found := []
    pings := none } probe 94

/-- A search's list is confirmed (R366): the command ends, or another search runs. -/
def State.rollConfirm (s : State) (p : Nat) (e : Elem) (q : Search) : State :=
  let r := { q with confirmed := q.confirmed ++ [q.found] }
  if 2 ≤ r.number ∧ q.confirmed.getLast? = some q.found then s.rollEnd p r 1
  else if r.limit ≤ r.number then s.rollEnd p r 2
  else s.rollSearch p e r

/-- The next slot of a search (R365). -/
def State.rollNext (s : State) (p : Nat) (e : Elem) (q : Search) : State :=
  if q.cancelled then s.rollEnd p q 4
  else match q.pings, q.stack with
    | none, (pre, lvl) :: _ => s.rollSlot p e q (rollFrame ([0xF0, BitVec.ofNat 8 lvl] ++ toLe 4 pre)) 94
    | none, [] => match sortBy id q.found with
      | [] => s.rollConfirm p e q
      | a :: t => s.rollSlot p e { q with pings := some (a :: t, false) } (rollFrame ([0xF1] ++ toLe 4 a)) 144
    | some (a :: _, _), _ => s.rollSlot p e q (rollFrame ([0xF1] ++ toLe 4 a)) 144
    | some ([], _), _ => s.rollConfirm p e q

/-- Is an answer present in a probe slot: a start edge from 1 to 12 bit times after the probe (R364)? -/
def answered (e : Elem) (answer : List RollChar) : Bool :=
  answer.any fun a => decide (serDiv e ≤ 256 * a.after) && decide (256 * a.after ≤ 12 * serDiv e)

/-- The character of an answer, as the receiver reads it. -/
def rollRead (a : RollChar) (e : Elem) : RxChar := rxRead a.wave e (serDiv e) (e.u8 14 == 0)

/-- Is an answer to a ping valid, and complete within 74 bit times (R364)? -/
def pingOk (e : Elem) (i : Nat) (answer : List RollChar) : Bool :=
  (answer.map fun a => BitVec.ofNat 8 (rollRead a e).data) == rollFrame ([0x5A] ++ toLe 4 i) &&
    answer.all fun a => !(rollRead a e).falseStart && rxFlags e (rollRead a e) &&& 0x1600 == 0 &&
      decide (256 * (a.after + (rollRead a e).last) ≤ 74 * serDiv e)

/-- The characters of an answer are counted (R355, R356). -/
def State.rollCount (s : State) (p : Nat) (e : Elem) (answer : List RollChar) : State :=
  answer.foldl (fun s a =>
    let c := rollRead a e
    if c.falseStart then s.bump .SER_FALSE_CNT p else s.rxCount p (rxFlags e c)) s

/-- A probe slot is judged: its subtree is searched next, or an ID is found. -/
def State.probeJudge (s : State) (p : Nat) (e : Elem) (q : Search) (pre lvl : Nat) (yes : Bool) : State :=
  let rest := q.stack.drop 1
  if !yes then s.rollNext p e { q with stack := rest }
  else if lvl = 32 then
    if 128 ≤ q.found.length then s.rollEnd p q 3
    else s.rollNext p e { q with
      stack := rest
      found := q.found ++ [pre] }
  else s.rollNext p e { q with stack := (pre, lvl + 1) :: (pre + 2 ^ (31 - lvl), lvl + 1) :: rest }

/-- A ping slot is judged: a failed ping is repeated once, then the ID is gone. -/
def State.pingJudge (s : State) (p : Nat) (e : Elem) (q : Search) (a : Nat) (t : List Nat) (again ok : Bool) : State :=
  if ok then s.rollNext p e { q with pings := some (t, false) }
  else if !again then s.rollNext p e { q with pings := some (a :: t, true) }
  else s.rollNext p e { q with
    pings := some (t, false)
    found := q.found.filter fun n => n != a
    gone := q.gone ++ [a] }

/-- ROLLCALL_SLOT_END (R364). -/
def execRollcallSlotEnd (port : Nat) (answer : List RollChar) (s : State) : Host.Outcome State Fault Refusal :=
  match s.serElem port, (s.ser port).search with
  | some e, some q =>
    let s0 := s.runTo q.ends
    let s1 := (s0.setSer port { s0.ser port with
      de := false
      tail := none }).rollCount port e answer
    match q.pings, q.stack with
    | none, (pre, lvl) :: _ => .next (s1.probeJudge port e q pre lvl (answered e answer))
    | none, [] => .next (s1.rollNext port e q)
    | some (a :: t, again), _ => .next (s1.pingJudge port e q a t again (pingOk e a answer))
    | some ([], _), _ => .next (s1.rollNext port e q)
  | _, _ => .next s

/-- SERIAL_ROLLCALL (R365): the search starts, or the command is answered BAD. -/
def execSerialRollcall (port : Nat) (s : State) : Host.Outcome State Fault Refusal :=
  match s.serLive port with
  | none => .next s
  | some e =>
    let x := s.ser port
    let lim := x.cmd / 256 % 16
    if x.newCmd ≠ 2 ∨ x.search.isSome ∨ x.asleep then .next s
    else if serMode e ≠ 1 ∨ serBits e ≠ 8 ∨ serDiv e / 256 < e.u16 18 ∨ lim < 2 then
      .next ((s.serWrite port 0x800 [5]).serAck port 5 16)
    else if x.tx.isSome ∨ x.de then .next s
    else .next (s.rollSearch port e ⟨x.cmd / 16777216, 0, 0, lim, [], [], none, [], [], false, false, 0⟩)

/-- SERIAL_CANCEL (R366): the search ends after the current slot; with none running the command is answered BAD. -/
def execSerialCancel (port : Nat) (s : State) : Host.Outcome State Fault Refusal :=
  match s.serLive port with
  | none => .next s
  | some _ =>
    let x := s.ser port
    if x.newCmd ≠ 3 ∨ x.asleep then .next s
    else match x.search with
      | some q => .next (s.setSer port { x with search := some { q with
        cancelled := true
        seq := x.cmd / 16777216 } })
      | none => .next (s.serAck port 5 16)

/-! ### Handover and halt (R367) -/

/-- A running search ends ABORTED at a handover (R367). -/
def State.rollAbort (s : State) (p : Nat) : State :=
  match (s.ser p).search with
  | some q => s.rollEnd p { q with halted := true } 4
  | none => s

/-- A running search ends ABORTED after its slot, its owner being halted (R366, R367). -/
def State.rollHalt (s : State) (p : Nat) : State :=
  match (s.ser p).search with
  | some q => s.putSer p { s.ser p with search := some { q with
    cancelled := true
    halted := true } }
  | none => s

/-- What a port keeps over a handover to owner `v`: with another owner nothing has been read, and only the line goes on. -/
def SerPort.handed (x : SerPort) (v : Nat) : SerPort :=
  if x.owner = some v then x
  else
    { owner := some v
      tx := x.tx
      ts := x.ts
      bits := x.bits
      de := x.de
      tail := x.tail
      rx := x.rx
      rxd := x.rxd
      deaf := x.deaf }

/-- The area's device fields at a commit or handover (R349, R367). -/
def State.serInit (s : State) (p v : Nat) : State :=
  let x := (s.ser p).handed v
  let ack := x.ack % 256 + x.cmd / 16777216 * 16777216
  let y := { x with
    txCons := x.txProd
    fetch := x.txProd
    fifo := []
    rxProd := x.rxCons
    ack := ack
    asleep := false
    sleepAsked := false
    rxNew := 0
    lin := none
    tx := x.tx.map fun t => { t with stale := true } }
  let s1 := s.setSer p y
  let s2 := s1.serWrite p 0 ([0x53, 0x52, 1, BitVec.ofNat 8 p])
  (((s2.serWrite p 0x08 (toLe 4 y.txCons)).serWrite p 0x0C (toLe 4 y.rxProd)).serWrite p 0x18 (toLe 4 ack)).serWrite p 0x20
    (toLe 4 (s2.serState p + 256 * b2n y.badIdx))

/-- The registers of a declared port (Table 15.8). -/
def State.serRegs (s : State) (e : Elem) (base : Nat) : State :=
  ((((s.wr .SER_CFG e.id (e.u8 12 % 32 + serMode e % 4 * 32 + e.u8 14 % 2 * 128 + serSleep e % 4 * 256 + e.voice * 1024 + 1048576)).wr
    .SER_DIV e.id (serDiv e % 2 ^ 28)).wr .SER_AREA e.id base).wr .SER_DE_CFG e.id (e.u16 16 + e.u16 18 * 65536))

/-- A port's record comes into effect (R349, R367). -/
def State.serStart (s : State) (e : Elem) : State :=
  let base := match s.area 4 e.voice e.id with | some a => a.base | none => 0
  ((s.rollAbort e.id).serRegs e base).serInit e.id e.voice

/-- A port's record goes: its FIFOs are discarded and it writes its area no more; a character on the line completes. -/
def State.serStop (s : State) (p : Nat) : State :=
  let s1 := s.rollAbort p
  let x := s1.ser p
  ((s1.wr .SER_CFG p 0).putSer p { x with
    fifo := []
    lin := none
    tx := x.tx.map fun t => { t with stale := true } }).wr .SER_STATUS p 0

/-- The owner of a port is halted (R367): STATE reads 5 (Table 15.8). -/
def State.serHalt (s : State) (v : Nat) : State :=
  ((s.elems 0x0014).filter fun e => e.voice == v).foldl (fun s e =>
    let s1 := s.rollHalt e.id
    (s1.setSer e.id (s1.ser e.id)).serWrite e.id 0x20 (toLe 4 (s1.serState e.id + 256 * b2n (s1.ser e.id).badIdx))) s

end Sys2Proof.Machine
end

