-- ==== Sys2Proof/Machine/Elements.lean ====
section
/-!
DEFINITION. Score elements coming into effect and going out of it: their configuration registers, the register entries
that return to their reset values (R432), and what each element starts and ends (R82, R86, Table 3.4).
-/

namespace Sys2Proof.Machine

/-! ### Elements and their register entries -/

/-- Are two elements byte-identical for one owner (R86)? -/
def Elem.same (a b : Elem) : Bool := a.typ == b.typ && a.voice == b.voice && a.raw == b.raw

/-- The elements of `a` that `b` does not hold unchanged. -/
def changed (a b : List Elem) : List Elem := a.filter fun e => !b.any fun f => e.same f

/-- The elements in effect of a score: its records, and the rate entries of its SLOTS records, which hand over on their
own. -/
def withRates (l : List Elem) : List Elem :=
  l ++ (l.filter fun e => e.typ == 0x17).map fun e => { e with typ := slotsRates }

/-- Registers of a voice's page (Table 4.5): those that hold a value of their own, and those with a latch (R13). -/
def pageRegs : List RegId :=
  [.VW_OVR, .VW_EVENT, .VW_IRQ_MASK, .VW_IRQ_STATUS, .VW_QPOST, .VW_QERR, .VW_QSEL, .VW_PTROOT, .VW_TLB_INV, .VW_TLB_STAT,
    .VW_FAULT_RESUME, .VW_CHK_CTRL, .VW_BEAT, .VW_BEAT_TIME_S, .VW_SEGUE_BEAT, .VW_QBASE]

/-- Registers of a port (Table 7.5). -/
def portRegs : List RegId :=
  [.P_CFG, .P_STATUS, .P_ECC_CORR, .P_ECC_DROP, .P_CRC_ERR, .P_LEN_ERR, .P_UNKNOWN, .P_LATE, .P_EXTRA, .P_FIFO_OVF,
    .P_TRIG_SUP, .P_LANE_ERR, .P_CCI_CMD, .P_CCI_REG, .P_CCI_DATA, .P_CCI_STATUS, .P_CCI_NAK_CNT, .P_BDL_DEFER_CNT,
    .P_BDL_STRADDLE_CNT, .P_BDL_FAIL_CNT]

/-- Registers of a pipe with one entry (Table 8.7). -/
def pipeRegs : List RegId :=
  [.PIPE_CFG, .PIPE_STATUS, .PIPE_PIX, .PIPE_OVQ_CNT, .PIPE_MRG_DROP, .PIPE_DYN_CNT, .PIPE_CLIP_CNT, .PROBE_SEL,
    .PROBE_XY, .PROBE_BEAT, .PROBE_LIN, .PROBE_MRG, .PROBE_FF, .PROBE_DEF]

/-- Registers of a DMA channel (Table 6.9). -/
def chanRegs : List RegId :=
  [.DMA_CH_CFG, .CH_QUOTA, .CH_USED, .CH_ERR_PA, .CH_ERR_VA, .CH_ERR_IDX, .CH_BYTES, .CH_DONE_CNT, .CH_STALL_CNT,
    .CH_NODESC_CNT, .CH_BERR_CNT]

/-- Registers of a process channel (Table 14.3). -/
def procRegs : List RegId :=
  [.PROC_CH_CFG, .CH_LAST, .CH_MEAN, .CH_MIN, .CH_MAX, .CH_COUNT, .CH_FLAGS, .CH_OPEN_CNT]

/-- Registers of a serial port (Table 15.8). -/
def serialRegs : List RegId :=
  [.SER_CFG, .SER_DIV, .SER_STATUS, .SER_LINDIV, .SER_AREA, .SER_DE_CFG, .SER_PAR_CNT, .SER_FRM_CNT, .SER_NOISE_CNT,
    .SER_FALSE_CNT, .SER_RXOVF_CNT, .SER_WAKE_LOST, .SER_LIN_ERR_CNT, .SER_RC_CNT, .SER_BADTX_CNT, .SER_WR_ERR,
    .SER_TX_CNT, .SER_RX_CNT]

/-- Registers of an uplink with one entry (Table 13.10). -/
def uplinkRegs : List RegId :=
  [.NET_CFG, .NET_STATUS, .PCS_ERR_WIN, .PCS_ERR_CNT, .RETRAIN_CNT, .FCS_ERR_CNT, .RX_OTHER, .AUTH_DROP, .EGR_DROP,
    .ALERT_MAC, .ALERT_PORT, .CTL_PORT, .MOD_CMD, .MOD_DATA, .MOD_STATUS]

/-- Entry `i` of each register. -/
def entries (l : List RegId) (i : Nat) : List (RegId × Nat) := l.map fun r => (r, i)

/-- The register entries of an element (R432). -/
def elemRegs (e : Elem) : List (RegId × Nat) :=
  match e.typ with
  | 0x06 => entries portRegs e.id
  | 0x07 => [(.SEN_SETGEN, e.id)]
  | 0x08 => entries [.STR_SEQ, .STR_LINES, .STR_SHORT] e.id
  | 0x09 => entries pipeRegs e.id ++ (List.range 3).flatMap (fun k => entries [.PROBE_DMS, .PROBE_MAT] (3 * e.id + k)) ++
      (List.range 2).map fun k => (.PROBE_OUT, 2 * e.id + k)
  | 0x0C => entries [.GRP_CFG, .GRP_STATUS, .GRP_RING_BASE, .GRP_RING_ROWS, .GRP_PART_CNT, .GRP_DROP_CNT, .GRP_FILL_SEG] e.id
  | 0x0D => entries [.WIN_CFG, .WIN_PART_CNT] e.id
  | 0x0E => entries [.STAT_CFG, .STAT_STATUS, .STAT_BEAT, .STAT_MEAN, .STAT_REC_CNT, .STAT_DROP_CNT] e.id
  | 0x0F => entries [.SVC_CFG, .SVC_BEAT, .SVC_LAST, .SVC_SKIP_CNT, .SVC_OVR_CNT, .SVC_FAULT_CNT] e.id
  | 0x10 => entries chanRegs e.id
  | 0x11 => entries [.FLOW_SENT, .FLOW_DROP] e.id
  | 0x12 => entries [.CUE_CFG, .CUE_STATUS, .CUE_NEXT_S, .CUE_NEXT_NS, .CUE_ARM_NS, .CUE_ARM_S, .CUE_CNT] e.id
  | 0x13 => entries procRegs e.id
  | 0x14 => entries serialRegs e.id
  | 0x15 => entries [.CHK_CFG, .CHK_BYTES] e.id
  | 0x18 => entries uplinkRegs e.id ++ (List.range 4).map fun k => (.ALERT_IP, 4 * e.id + k)
  | _ => []

/-! ### Configuration registers -/

/-- P_CFG (ch. 07). -/
def portCfg (e : Elem) : Nat :=
  e.u8 8 + e.u8 11 * 4 + e.u8 15 * 16 + e.u8 14 * 256 + e.u16 12 * 65536

/-- PIPE_CFG (ch. 08). -/
def State.pipeCfg (s : State) (e : Elem) : Nat :=
  e.u8 8 + e.u8 9 * 8 + e.u8 10 * 32 + e.u8 11 * 256 + b2n (s.lut e.id 0).isSome * 65536 + b2n (s.lut e.id 1).isSome * 2 ^ 17
    + b2n (e.u64 56 != 0) * 2 ^ 18 + s.pipeClass e * 2 ^ 19 + 2 ^ 31

/-- GRP_CFG (Table 9.3). -/
def State.grpCfg (s : State) (e : Elem) : Nat :=
  e.u8 8 + e.u8 9 * 32 + 64 + s.groupFmt e * 256 + e.u16 12 * 65536

/-- WIN_CFG (Table 9.3). -/
def winCfg (e : Elem) : Nat := e.voice + 1024 + e.u8 8 * 2048 + winProduct e * 4096

/-- STAT_CFG (Table 10.5). -/
def statCfg (e : Elem) : Nat := e.u8 8 + e.u8 9 * 16 + e.u8 28 * 256 + e.u8 29 * 65536 + 2 ^ 19 + e.u16 10 * 2 ^ 20

/-- SVC_CFG (Table 11.9). -/
def svcCfg (e : Elem) : Nat := svcKind e + e.u8 9 * 4 + 32 + e.u16 10 * 64 + e.voice * 65536

/-- CH_CFG (ch. 06). -/
def chanCfg (e : Elem) : Nat :=
  e.voice + 1024 + e.u8 8 * 2048 + e.u8 9 % 4 * 4096 + dmaRingQ e * 65536 + dmaDoneQ e * 2 ^ 20 + e.u8 14 * 2 ^ 24

/-- NET_CFG (Table 13.10). -/
def netCfg (e : Elem) : Nat := e.u8 8 + e.u8 9 * 2 + 8 + e.u16 10 * 65536

/-- CHK_CFG (Table 16.2). -/
def chkCfg (e : Elem) : Nat := e.u8 8 + 4 + e.voice * 65536

/-- The event lines follow the DMA records in effect (R169): one that a record of `kept` declares runs on, any other starts
with its credits at 0 (R170). -/
def State.eventLines (s : State) (kept : List Elem) : State :=
  (List.range 64).foldl (fun s l =>
    match (s.elems 0x10).filter fun e => e.u8 14 == l with
    | [] => if s.rdB .EVL_STATUS l 9 then s.wr .EVL_STATUS l 0 else s
    | e :: t => if (e :: t).any fun f => kept.any fun g => f.same g then s else s.wr .EVL_STATUS l (512 + e.voice * 65536)) s

/-! ### Elements that start -/

/-- A queue takes effect: both indices are 0 (R101). -/
def State.startQueue (s : State) (e : Elem) : State :=
  s.setRing e.voice e.id { present := true, base := e.u64 16, log2 := e.u8 8, toDev := bit 1 (e.u8 9), msix := bit 0 (e.u8 9) }

/-- A port at a commit: every link it has enters INIT (Table 7.3). -/
def State.startPort (s : State) (e : Elem) : State :=
  (List.range (linkCount (e.u8 8))).foldl (fun s k => s.setLink e.id k 1)
    ((s.wr .P_CFG e.id (portCfg e)).wrF .P_STATUS e.id 7 0 0)

/-- A group at a commit: its ring is in place. -/
def State.startGroup (s : State) (e : Elem) : State :=
  let base := match s.area 0 0 e.id with | some a => a.base | none => 0
  (((s.wr .GRP_CFG e.id (s.grpCfg e)).wr .GRP_RING_BASE e.id base).wr .GRP_RING_ROWS e.id (s.groupR e)).wrF .GRP_STATUS e.id 18
    18 0

/-- An uplink at a commit: it leaves UP and enters DOWN (Table 13.2). -/
def State.startNet (s : State) (e : Elem) : State := (s.leaveUp e.id 1).wr .NET_CFG e.id (netCfg e)

/-- An element takes effect at a barline or commit whose clock time is `bar`; bundles fall due in beat `target`. -/
def State.startElem (s : State) (bar target : Nat) (e : Elem) : State :=
  match e.typ with
  | 0x05 => s.startQueue e
  | 0x06 => s.startPort e
  | 0x09 => s.wr .PIPE_CFG e.id (s.pipeCfg e)
  | 0x0C => s.startGroup e
  | 0x0D => s.wr .WIN_CFG e.id (winCfg e)
  | 0x0E => s.wr .STAT_CFG e.id (statCfg e)
  | 0x0F => s.wr .SVC_CFG e.id (svcCfg e)
  | 0x10 => (s.wr .DMA_CH_CFG e.id (chanCfg e)).wr .CH_QUOTA e.id (e.u32 16)
  | 0x12 => s.declareCue e bar
  | 0x13 => s.procStart e
  | 0x14 => s.serStart e
  | 0x15 => (s.chkInit e).wr .CHK_CFG e.id (chkCfg e)
  | 0x16 => s.addDue e target
  | 0x18 => s.startNet e
  | _ => s

/-! ### Elements that end -/

/-- A queue goes, or its ring is replaced: the device never touches the old ring again, and posts that wait for it are
discarded (ch. 04, Corners). -/
def State.stopQueue (s : State) (v q : Nat) : State :=
  let s1 := s.dropFermata fun f => f.postTo v q
  { s1.setRing v q {} with posts := s1.posts.filter fun p => !(p.voice == v && p.queue == q) }

/-- An old-generation bundle that is still due is not written, and is posted ABANDONED (R197); it never started, so that
its WRITTEN is a free value. -/
def State.stopBundle (s : State) (e : Elem) : State :=
  let p := e.u16 8 / 4
  let x := s.port p
  let mine (b : DueBundle) : Bool := b.voice == e.voice && b.id == e.id && b.sensor == e.u16 8
  (x.due.filter mine).foldl (fun s b => s.freeUse.2.postBundle b 5 0 false (Config.undefined s.freeUse.1).toNat true)
    (s.setPort p { x with due := x.due.filter fun b => !mine b })

/-- A channel's old generation ends at B + 2: a descriptor in progress completes ABORTED (Table 3.4, R173). -/
def State.stopChan (s : State) (c : Nat) : State := (s.abortChan c).removeChan c

/-- An instance goes: its work and its history go with it. -/
def State.stopService (s : State) (i : Nat) : State :=
  { s with svc := { s.svc with
    jobs := s.svc.jobs.filter fun j => j.inst != i
    held := s.svc.held.filter fun h => h.1 != i } }

/-- A flow goes: frames of it that wait are not sent. -/
def State.stopFlow (s : State) (f : Nat) : State :=
  let s1 := s.setFlow f {}
  { s1 with net := { s1.net with up := s1.net.up.map fun u => (u.1, { u.2 with
    egress := u.2.egress.filter fun x => x.flow != f }) } }

/-- A voice goes (R88): its page, its cached translations, its requests, its key and its
halt. -/
def State.stopVoice (s : State) (v : Nat) : State :=
  let s1 := (s.dropFermata fun f => f.voice == v).resetRegs (entries pageRegs v)
  { s1 with
    load := { s1.load with halted := s1.load.halted.filter fun x => x != v }
    trans := { s1.trans with tlb := s1.trans.tlb.filter fun e => e.voice != v }
    svc := { s1.svc with
      requests := s1.svc.requests.filter fun r => r.voice != v
      buckets := Tab.erase v s1.svc.buckets }
    net := { s1.net with keys := Tab.erase v s1.net.keys } }

/-- An element goes out of effect at its handover; its register entries return to their reset values (R432). -/
def State.stopElem (s : State) (e : Elem) : State :=
  let s1 := match e.typ with
    | 0x05 => s.stopQueue e.voice e.id
    | 0x0F => s.stopService e.id
    | 0x10 => s.stopChan e.id
    | 0x11 => s.stopFlow e.id
    | 0x12 => s.removeCue e.id
    | 0x13 => s.procStop e.id
    | 0x14 => s.serStop e.id
    | 0x15 => s.setChk e.id 0 0
    | 0x16 => s.stopBundle e
    | _ => s
  s1.resetRegs (elemRegs e)

end Sys2Proof.Machine
end

