-- ==== Sys2Proof/Machine/Load.lean ====
section
/-!
DEFINITION. Loading a score, full loads, segues and voice halts (ch. 03, R69 to R93, R124, R135, R213, R403, R409).
-/

namespace Sys2Proof.Machine

/-! ### LOAD_STATUS and READY -/

/-- STATE of LOAD_STATUS from what the planes hold: CHECKING, APPLYING, ARMED, PENDING or IDLE. -/
def Load.state (l : Load) : Nat :=
  if l.staged.isSome then 1 else if l.applying.isSome then 4 else if l.armed.isSome then 2 else if l.pend.isSome then 3 else 0

/-- Change the score planes; LOAD_STATUS.STATE and PENDING_BEAT follow. -/
def State.setLoad (s : State) (l : Load) : State :=
  ({ s with load := l }.wrF .LOAD_STATUS 0 2 0 l.state).wr .PENDING_BEAT 0 (match l.pend with | some c => c.commit | none => 0)

/-- Drive READY (R409). -/
def State.setReady (s : State) (b : Bool) : State := { s with ready := b }.wrF .PWR_STATUS 0 1 1 (b2n b)

/-- The voices that a score names (R47). -/
def Score.named (c : Score) : List Nat := (c.secs.filter fun x => x.kind == 2).map (·.voice)

/-- The declared voices, voice 0 first. -/
def State.voices (s : State) : List Nat := 0 :: (s.elems 0x04).map (·.id)

/-! ### Voice halt (R92, R93) -/

/-- Does a waiting post report work that a halt of the voice ends: the halt notice of a descriptor (R171)? -/
def reportsHalted (v : Nat) (p : Post) : Bool := p.voice == v && p.typ == 1 && bit 42 (leAt p.body 16 8)

/-- Halt a voice, in both of its generations (R92): descriptors complete ABORTED, work and products are dropped,
operations in fermata end. A voice that is not declared has nothing to end and no page to report in; it is halted all the
same. -/
def State.haltWork (s : State) (v : Nat) : State :=
  if s.isHalted v then s
  else
    let s1 := { s with
      load := { s.load with halted := insertBy id v s.load.halted }
      posts := s.posts.filter fun p => !reportsHalted v p }
    let s2 := ((s1.elems 0x10).filter fun e => e.voice == v).foldl (fun s e => s.haltChan e.id) s1
    let s3 := ((s2.haltServices v).dropFermata fun f => f.voice == v).haltFlows v
    let s4 := { s3 with align := { s3.align with products := s3.align.products.filter fun p => p.voice != v } }
    if s4.declared v then (s4.serHalt v).voiceEvent v 4 else s4

/-- Halt a voice: what it ends counts as one FCLK cycle for the violation record (DESIGN CHOICE, log entry 104). -/
def State.haltVoice (s : State) (v : Nat) : State := s.oneCycle fun s => s.haltWork v

/-- VOICE_HALT (R92): a write that names voice 0 is ignored. -/
def execVoiceHalt (p : Path) (v : Word) (s : State) : Host.Outcome State Fault Refusal :=
  .next (if s.regOpen p .FABRIC ∧ v.toNat % 1024 ≠ 0 then s.haltVoice (v.toNat % 1024) else s)

/-- A commit releases the halt of voices (R93): stopped channels are IDLE again. -/
def State.releaseHalts (s : State) (l : List Nat) : State :=
  let go := l.filter s.isHalted
  let s1 := { s with load := { s.load with halted := s.load.halted.filter fun v => !go.contains v } }
  let s2 := ((s1.elems 0x10).filter fun e => go.contains e.voice).foldl (fun s e =>
    if (s.chan e.id).mode = .stopped then s.setChan e.id {} else s) s1
  go.foldl (fun s v => if s.declared v then s.voiceEvent v 5 else s) s2

/-! ### Commands of LOAD_CTRL (R69, R91) -/

/-- Discard the pending segue; the voices it names learn of it. -/
def State.discardPend (s : State) : State :=
  match s.load.pend with
  | none => s
  | some c => c.named.foldl (fun s v => if s.declared v then s.voiceEvent v 1 else s) (s.setLoad { s.load with pend := none })

/-- Start admission of a staged score (R70, R71); a flash whose SFDP header has not been read is read first (R406; DEDUCED,
log entry 29). -/
def State.startLoad (s : State) (x : Staged) : State :=
  let s1 := s.setLoad { s.load with staged := some x }
  if x.flash && s.rdF .FLASH_INFO 0 9 8 == 0 && !s.rdB .BOOT_STATUS 0 4 then
    { s1 with power := { s1.power with sfdp := true } }
  else s1

/-- GO (R91): refused while a load is in progress or a full load is armed. -/
def State.loadGo (s : State) : State :=
  if s.load.staged.isSome || s.load.applying.isSome || s.load.armed.isSome then s.setB .LOAD_STATUS 0 17
  else s.startLoad ⟨s.rdF .LOAD_CTRL 0 3 2 == 1, s.rd .LOAD_ADDR 0, s.rd .LOAD_LEN 0, s.rdF .LOAD_CTRL 0 5 4, false⟩

/-- A write of LOAD_CTRL: SRC and BANK, then CANCEL, then GO. -/
def State.loadCtrl (s : State) (w : Nat) : State :=
  let s1 := s.fieldWrite .LOAD_CTRL 0 w
  let s2 := if bit 1 w then s1.discardPend else s1
  if bit 0 w then s2.loadGo else s2

/-- LOAD_GO (R69, R91). -/
def execLoadGo (p : Path) (v : Word) (s : State) : Host.Outcome State Fault Refusal :=
  .next (if s.regOpen p .FABRIC then s.loadCtrl v.toNat else s)

/-- LOAD_CANCEL (R91). -/
def execLoadCancel (p : Path) (v : Word) (s : State) : Host.Outcome State Fault Refusal :=
  .next (if s.regOpen p .FABRIC then s.loadCtrl v.toNat else s)

/-! ### The shadow plane of a full load (R81) -/

/-- No beat is open and no tempo event is held: TEMPO_CFG.EN is 0 (R456). -/
def State.stopTempo (s : State) : State :=
  { ((s.clrB .TEMPO_CFG 0 31).wrF .TEMPO_STATUS 0 1 0 0).wrF .TEMPO_STATUS 0 4 2 0 with
    tempo := { s.tempo with isOpen := false, held := [], playing := false } }

/-- A full load opens its shadow plane. With a score live, at barline H, a pending segue is discarded, every voice halts and
no further barline comes (R81); READY falls (R409). -/
def State.openShadow (s : State) (c : Score) : State :=
  let s1 := s.discardPend
  let s2 := (if s.scoreLive then s1.voices.foldl (fun s v => s.haltVoice v) s1 else s1).stopTempo.setReady false
  s2.setLoad { s2.load with armed := none, applying := some c, applied := false }

/-! ### The end of admission (R73 to R76, R89) -/

/-- Boot tries its next bank, if one is left (R405). -/
def State.bootNext (s : State) : State :=
  match s.power.banks with
  | [] => s
  | k :: t => { s with power := { s.power with banks := t } }.startLoad ⟨true, 0, 0, k, true⟩

/-- BOOT_CODES takes a bank's load status code (R407). -/
def State.bootCode (s : State) (x : Staged) (code : Nat) : State :=
  if x.boot then s.wrF .BOOT_CODES 0 (8 * x.bank + 7) (8 * x.bank) code else s

/-- Write the result of an admission: CODE, LOAD_FAIL_OFS, LOAD_FAIL_RES (R73, R75, R76). -/
def State.loadResult (s : State) (f : Fail) : State :=
  ((s.wrF .LOAD_STATUS 0 15 8 f.code).wr .LOAD_FAIL_OFS 0 f.ofs).wr .LOAD_FAIL_RES 0 f.res

/-- An admitted segue becomes the pending one, in place of the one before it as a whole (R83, R89). -/
def State.pendSegue (s : State) (c : Score) : State :=
  let old := match s.load.pend with | some d => d.named | none => []
  let s1 := s.setLoad { s.load with pend := some c }
  let s2 := (old.filter fun v => !c.named.contains v).foldl (fun s v => if s.declared v then s.voiceEvent v 1 else s) s1
  c.named.foldl (fun s v => if s.declared v then s.voiceEvent v 0 else s) s2

/-- An admitted score is armed, pends, or opens its shadow plane at once (R81, R83). -/
def State.takeScore (s : State) (c : Score) : State :=
  if c.segue then s.pendSegue c
  else if s.scoreLive then s.setLoad { s.load with armed := some c }
  else s.openShadow c

/-- ADMISSION_END (R73): the checks of Table 3.1 end. -/
def execAdmissionEnd (s : State) : Host.Outcome State Fault Refusal :=
  match s.load.staged with
  | none => .next s
  | some x =>
    if !s.domUp .FABRIC || (x.flash && s.power.sfdp) then .next s
    else
      let s1 := s.setLoad { s.load with staged := none }
      match s.admission x with
      | .error f => .next ((((s1.bootCode x f.code).loadResult f).setB .LOAD_STATUS 0 16).vector0.bootNext)
      | .ok c =>
        let s2 := (s1.bootCode x 0).loadResult ⟨0, 0xFFFFFFFF, 0xFF⟩
        let s3 := { s2 with power := { s2.power with banks := [] } }
        .next (((s3.takeScore c).setB .LOAD_STATUS 0 16).vector0)

/-! ### APPLYING (R82, R124, R213) -/

/-- 16-bit values of a run of bytes. -/
def u16s : List Byte → List Nat
  | a :: b :: t => (a.toNat + 256 * b.toNat) :: u16s t
  | _ => []

/-- Read a memory-held gain map through voice 0's translation; none where a read faults. A violating read gives zeros and
counts, under a PATH that the spec does not state: a free value (R213; log entry 30). -/
def State.mapRead (s : State) (p : Nat) : List (Nat × Nat) → State × Option (List Byte)
  | [] => (s, some [])
  | (a, n) :: t =>
    match s.translate 0 a false [] with
    | (s1, .ok pa) =>
      if s1.deadAddr pa then (s1, none)
      else
        let (s2, b) := s1.mapRead p t
        (s2, b.map fun l => s1.readPhys pa n ++ l)
    | (s1, .viol pa w) =>
      let path := if w then 6 else (Config.undefined s1.fresh).toNat % 16
      let (s2, b) := (s1.freeUse.2.violate 0 path false p a pa).mapRead p t
      (s2, b.map fun l => zeros n ++ l)
    | (s1, _) => (s1, none)

/-- The gain store of a pipe whose map lies in GMAP records (R57). -/
def rowGains (recs : List Elem) (e : Elem) : List Nat :=
  (List.range (e.u16 66)).flatMap fun j => match recs.find? fun r => r.typ == 0x19 && r.id == 512 * e.id + j with
    | some r => u16s ((r.raw.drop 12).take (8 * e.u16 64))
    | none => List.replicate (4 * e.u16 64) 0

/-- Load a pipe's gain store (R213): unity and GM_FAULT where a read faults. -/
def State.loadGains (s : State) (recs : List Elem) (e : Elem) : State :=
  let n := e.u16 64 * e.u16 66
  let s0 := s.clrB .PIPE_STATUS e.id 0
  if e.u64 56 = 0 then s0.setPipe e.id {}
  else if e.u64 56 = 2 ^ 64 - 1 then s0.setPipe e.id { gains := some (rowGains recs e) }
  else match s0.mapRead e.id (pieces (e.u64 56) (8 * n) (8 * n / 512 + 2)) with
    | (s1, some b) => s1.setPipe e.id { gains := some (u16s b) }
    | (s1, none) => (s1.setPipe e.id { gains := some (List.replicate (4 * n) 0x4000) }).setB .PIPE_STATUS e.id 0

/-- LPDDR5 for a SYSTEM record: a change of DDR_GIB or DDR_ECC, judged against MEM_RETAIN, loses every byte (R124,
R397). Lost bytes read as bytes that nothing has written do, with DDR_ECC 0 as with 1 (DESIGN CHOICE, log entry 3). -/
def State.applyMemory (s : State) (e : Elem) : State :=
  let want := e.u8 8 + e.u8 9 * 256 + 512
  let s1 := if s.rd .MEM_RETAIN 0 = want then s
    else { s with mem := s.mem.filter fun c => decide (c.1 < 0x1000000000) }
  (s1.wr .MEM_RETAIN 0 want).wr .MEM_CFG 0 want

/-- The second read of the GMAP records (R72): they are taken as they stand in the staging range now. -/
def State.readAgain (s : State) (x : Staged) (l : List Elem) : List Elem :=
  let b := s.stagedBytes x
  l.map fun e => if e.typ == 0x19 then { e with raw := bytesAt b e.ofs e.raw.length } else e

/-- FULL_LOAD_APPLY (R82): the GMAP records are read again (R72), the score's memory is set up and the gain maps are read, with
the new grants in force. -/
def execFullLoadApply (s : State) : Host.Outcome State Fault Refusal :=
  match s.load.applying with
  | none => .next s
  | some c =>
    if s.load.applied || !s.domUp .FABRIC then .next s
    else
      let l := withRates (resulting false [] c.secs)
      let s1 := match l.find? fun e => e.typ == 0x01 with | some e => s.applyMemory e | none => s
      let s2 := { s1 with
        load := { s1.load with applied := true, eff := (s1.load.eff.filter fun e => e.typ != 3) ++ l.filter fun e => e.typ == 3 }
        trans := { s1.trans with tlb := [], walks := [], misses := [] }
        pipes := [] }
      let rows := s.readAgain c.src l
      .next ((l.filter fun e => e.typ == 9).foldl (fun s e => s.loadGains rows e) s2)

/-! ### The commit of a full load (R82) -/

/-- The tempo registers of a TEMPO record (Table 1.5): TEMPO_CFG with EN set. -/
def State.applyTempo (s : State) (e : Elem) : State :=
  let cfg := e.u8 8 + e.u8 9 * 16 + e.u8 10 * 256 + e.u8 11 % 4 * 1024 + e.u8 12 * 4096 + 2 ^ 31
  (((((s.wr .TEMPO_CFG 0 cfg).wr .TEMPO_DIV 0 (e.u32 16)).wr .PMIN_NS 0 (e.u32 20)).wr .IDLE_NS 0 (e.u32 24)).wr .TIMER_NS 0
    (e.u32 28)).wr .BAR_TICK 0 (e.u32 20 / 16)

/-- The blocks of the old score go: register entries of elements that are removed or changed return to their reset values
(R432), the frame sequences start at 0 (R184), and nothing of the old beats stays but the direct transfers of unchanged ports
(R198). -/
def State.clearBlocks (s : State) (old new : List Elem) (areas : List Area) : State :=
  let faults := (List.range 16).filter fun p => s.rdB .PIPE_STATUS p 0
  let s1 := (s.resetRegs ((changed old new).flatMap elemRegs)).resetRegs
    ((old.filter fun e => e.typ == 8).map fun e => (.STR_SEQ, e.id))
  let s2 := faults.foldl (fun s p => s.setB .PIPE_STATUS p 0) s1
  { s2 with
    queues := []
    posts := []
    trans := { s2.trans with tlb := [], walks := [], misses := [], slots := [], noSlot := [] }
    dma := { s2.dma with ch := [] }
    streams := []
    ports := (s2.ports.filter fun x => x.2.direct.isSome && old.any fun e => e.typ == 6 && e.id == x.1 && new.any e.same).map
      fun x => (x.1, { direct := x.2.direct })
    pipes := s2.pipes.map fun e => (e.1, { gains := e.2.gains })
    align := ⟨areas, [], [], [], [], [], []⟩
    stats := []
    locks := []
    svc := { s2.svc with
      jobs := []
      slot := []
      running := []
      rr := []
      items := []
      requests := []
      buckets := []
      held := [] }
    net := { s2.net with flows := [] } }

/-- Elements that run on their own beside the blocks end before the score changes: cues, process channels, serial ports,
check channels, uplinks. -/
def State.endOld (s : State) (new : List Elem) : State :=
  let gone := s.load.eff.filter fun e => !new.any fun f => f.typ == e.typ && f.id == e.id
  gone.foldl (fun s e =>
    match e.typ with
    | 0x12 => s.removeCue e.id
    | 0x13 => s.procStop e.id
    | 0x14 => s.serStop e.id
    | 0x15 => s.setChk e.id 0 0
    | 0x18 => s.leaveUp e.id 0
    | 0x04 => s.stopVoice e.id
    | _ => s) s

/-- The tie link at the commit of a full load (Table 13.9): the partner's last CONFIG stands until it sends another (DESIGN
CHOICE, log entry 101). -/
def State.tieCommit (s : State) : State :=
  let s0 := s.wr .TIE_CFG 0 s.tieRole
  let s1 := if s0.tieRole = 0 then s0.unmirror else s0
  let s2 := { s1 with tie := { s1.tie with
    widths := []
    bad := []
    lines := []
    good := 0
    missed := 0
    formedAt := s1.clock.elapsed
    encAt := s1.tempoPos } }
  let s3 := match s2.tie.config with | some c => s2.takeConfig c | none => s2
  (if s3.tieRole = 0 then s3.setTie 0 else s3.setTie 1).sendConfig

/-- Voice 0's key from a CTLKEY record (R306). -/
def State.takeCtlKey (s : State) : State :=
  match s.elem 0x1A 0 with
  | some e => s.giveKey 0 (bytesAt e.raw 8 16)
  | none => s

/-- What is numbered anew at the commit of a full load (R18, R82, R340). R82 writes LAST_COMMIT_BEAT and does not say with
what: a free value (log entry 49). -/
def State.commitNumbers (s : State) : State :=
  let id := match s.elem 0x01 0 with | some e => e.u32 20 | none => 0
  let (n, t) := s.freeUse
  ((((t.addWrap .SCORE_GEN 0 1).wr .SCORE_ID 0 id).wr .LAST_COMMIT_BEAT 0 (Config.undefined n).toNat).wr .BEAT_NUM 0 (2 ^ 64 - 1)).wr .AGG_SEQ 0
    0xFFFFFFFF

/-- The tempo starts (R20, R22): no beat is open until barline 0 (R456). -/
def State.commitTempo (s : State) : State :=
  let s1 := match s.elem 0x02 0 with | some e => s.applyTempo e | none => s
  let s2 := { s1.wrF .TEMPO_STATUS 0 1 0 1 with
    tempo := ⟨false, s1.clock.elapsed, [], 0, 0, false, false, [], []⟩ }
  s2.startTempo s2.tempoPos

/-- BOOT_STATUS once a bank's score has committed (Table 18.9). -/
def State.bootDone (s : State) (c : Score) : State :=
  if c.src.boot then (s.wrF .BOOT_STATUS 0 6 5 c.src.bank).setB .BOOT_STATUS 0 7 else s

/-- Every OFF of BLK_CTRL ends (R402). -/
def State.endOffs (s : State) : State := (List.range 64).foldl (fun s k => if s.blockOff k then s.clrB .EPOCH_TAB k 9 else s) s

/-- At a commit the blocks that the live score leaves unused are power-gated and keep no state (R403). -/
def State.powerDown (s : State) : State :=
  { s with
    proc := { s.proc with ch := s.proc.ch.filter fun c => (s.elem 0x13 c.1).isSome }
    serial := s.serial.filter fun c => (s.elem 0x14 c.1).isSome }.resetBlock ([Block.PORT, .PIPE, .SVC, .NET, .TIE, .PROC, .SER].flatMap Block.regs) fun r i => !s.unused r i

/-- The commit of a full load (R82): every block takes its configuration from the score. -/
def State.commitFull (s : State) (c : Score) : State :=
  let new := withRates (resulting false [] c.secs)
  let was := s.outsNamed
  let halted := s.load.halted
  let s1 := (s.endOld new).clearBlocks s.load.eff new c.areas
  let s2 := s1.setLoad { s1.load with
    live := resulting false [] c.secs
    eff := new
    applying := none
    applied := false
    overlap := none
    halted := [] }
  let s3 := s2.endOffs.commitNumbers.commitTempo
  let s4 := ((new.foldl (fun s e => s.startElem (stampTotal s.now) 0 e) s3).waitCues.eventLines []).excFollow was
  let s5 := (halted.foldl (fun s v => if s.declared v then s.voiceEvent v 5 else s) s4).takeCtlKey.servoCommit.tieCommit
  (((s5.bootDone c).setReady true).setB .LOAD_STATUS 0 18).powerDown

/-- FULL_LOAD_COMMIT (R82). -/
def execFullLoadCommit (s : State) : Host.Outcome State Fault Refusal :=
  match s.load.applying with
  | some c => if s.load.applied && s.domUp .FABRIC then .next (s.commitFull c).vector0 else .next s
  | none => .next s

/-! ### Segues (R83 to R90) -/

/-- TYPE and ELEM of what an element that ends may post, in the order in which posts of one instant arrive (R105). -/
def Elem.postKey (e : Elem) : Nat :=
  match e.typ with
  | 0x10 => 65536 + e.id
  | 0x16 => 2 * 65536 + e.u16 8
  | 0x14 => 3 * 65536 + e.id
  | _ => 0

/-- Hand over the elements of some types for some voices to the live score (Table 3.4): what changed or went ends, what
changed or came starts at the barline whose clock time is `bar`. -/
def State.handOver (s : State) (voices : List Nat) (keep : Elem → Bool) (types : List Nat) (bar target : Nat) : State :=
  let mine (e : Elem) : Bool := types.contains e.typ && voices.contains e.voice
  let old := s.load.eff.filter fun e => mine e && !keep e
  let new := (withRates s.load.live).filter mine
  let s1 := (sortBy Elem.postKey (changed old new)).foldl (fun s e => s.stopElem e) s
  let s2 := { s1 with load := { s1.load with
    eff := sortBy (fun e => e.voice) ((s1.load.eff.filter fun e => !mine e || keep e) ++ new.filter fun e => !keep e) } }
  (changed new old).foldl (fun s e => s.startElem bar target e) s2

/-- The areas at a step of an overlap: areas of the kinds that hand over now come from the new generation, and those of the
old one stay reserved until it is freed (R85). -/
def Align.takeAreas (a : Align) (new : List Area) (kinds : List Nat) : Align :=
  let (go, stay) := a.areas.partition fun x => kinds.contains x.kind
  let left := go.filter fun x => !new.contains x
  { a with areas := stay ++ (new.filter fun x => kinds.contains x.kind) ++ left.map fun x => { x with kind := 9 } }

/-- A ring that the segue carved takes the lines of the commit beat and later ones (R227). -/
def Align.newRings (a : Align) (old : List Area) (ord : Nat) : Align :=
  let new := a.areas.filter fun x => x.kind == 1 && !old.any fun y => y.kind == 1 && y.id == x.id
  { a with since := new.foldl (fun t x => Tab.set 0 t (256 + x.id) ord) a.since }

/-- A bundle that runs while a segue naming its voice commits is of the old generation (R196). -/
def Port.oldRun (x : Port) (voices : List Nat) : Port :=
  { x with run := x.run.map fun r => { r with old := r.old || voices.contains r.b.voice } }

/-- The segue commits at the barline that opens beat B (R83, R85, R93): CUE, BUNDLE, PROC, SERIAL, CHECK and added or
changed VOICE records hand over; software channels whose record goes fetch no new descriptor. -/
def State.commitSegue (s : State) (c : Score) (bar ord : Nat) : State :=
  let was := s.outsNamed
  let b := s.rd .BEAT_NUM 0
  let dead := c.named.filter s.isHalted
  let s1 := s.setLoad { s.load with
    live := resulting true s.load.live c.secs
    pend := none
    overlap := some ⟨ord, c.named, c.areas, dead⟩ }
  let s2 := { s1 with
    align := (s1.align.takeAreas c.areas [0, 1, 3, 4]).newRings s1.align.areas ord
    ports := s1.ports.map fun (x : Nat × Port) => (x.1, x.2.oldRun c.named) }
  let s3 := (s2.addWrap .SCORE_GEN 0 1).wr .LAST_COMMIT_BEAT 0 b
  let removed (e : Elem) : Bool := e.typ == 0x04 && !s3.load.live.any fun f => f.typ == 4 && f.id == e.id
  let s4 := (s3.handOver c.named removed [0x04, 0x12, 0x13, 0x14, 0x15, 0x16] bar b).excFollow was
  let s5 := ((changed (s4.elems 0x10) s4.load.live).filter fun e => c.named.contains e.voice && !dmaBeatBound e).foldl (fun s e =>
    s.setChan e.id { s.chan e.id with draining := true }) s4
  let s6 := (c.named.filter s5.declared).foldl (fun s v => s.voiceEvent v 2) s5
  let s7 := ((s6.elems 0x14).filter fun (e : Elem) => dead.contains e.voice && s.load.eff.any fun f => f.same e).foldl
    (fun (s : State) e => s.serStart e) (s6.releaseHalts c.named)
  (s7.sendConfig.setB .LOAD_STATUS 0 18).vector0

/-- At B + 1 WINDOW, SERVICE and slot entries hand over (Table 3.4). -/
def State.segueSecond (s : State) (o : Overlap) (bar : Nat) : State :=
  let s1 := s.handOver o.voices (fun _ => false) [0x0D, 0x0F, 0x17] bar 0
  { s1 with align := s1.align.takeAreas o.areas [2] }

/-- At B + 2 the rest hands over, removed voices go, and the old generation is freed (R85, R88). -/
def State.segueThird (s : State) (o : Overlap) (bar : Nat) : State :=
  let gone := o.voices.filter fun v => !s.load.live.any fun f => f.typ == 4 && f.id == v
  let s1 := (s.handOver o.voices (fun _ => false) [0x04, 0x05, 0x10, 0x11, slotsRates] bar 0).eventLines s.load.eff
  let s2 := gone.foldl (fun s v => s.stopVoice v) s1
  let s3 := { s2 with
    load := { s2.load with overlap := none }
    align := { s2.align with areas := o.areas } }
  ((o.voices.filter s3.declared).foldl (fun s v => s.voiceEvent v 3) s3).powerDown

/-- The handovers that fall on the barline with an ordinal, B + 1 and B + 2 of the segue that committed last. -/
def State.segueStep (s : State) (bar ord : Nat) : State :=
  match s.load.overlap with
  | none => s
  | some o => if ord = o.ord + 1 then s.segueSecond o bar else if o.ord + 2 ≤ ord then s.segueThird o bar else s

end Sys2Proof.Machine
end

