-- ==== Sys2Proof/Machine/Power.lean ====
section
/-!
DEFINITION. Resets, block control, standby and boot (ch. 18, R391 to R409).
-/

namespace Sys2Proof.Machine

/-! ### What a reset clears (R394, R395) -/

/-- The blocks of the register map. -/
def allBlocks : List Block :=
  [.SYS, .BEAT, .MEM, .DMA, .PORT, .PIPE, .SVC, .TIME, .NET, .TIE, .PROC, .SER, .CHK, .HOST, .LC, .VW]

/-- The registers of the domains that `p` names. -/
def regsOf (p : Dom → Bool) : List RegId := (allBlocks.flatMap Block.regs).filter fun r => p r.row.dom

/-- The entries of a register table that belong to the registers `rs`. -/
def keepRegs {α : Type} (rs : List RegId) (l : Tab α) : Tab α := l.filter fun e => rs.any fun r => r.code == e.1 % 512

/-- The first byte of LPDDR5 (Table 5.1). -/
def lpddrBase : Nat := 0x1000000000

/-- The bytes of LPDDR5. -/
def lpddrCells (l : List Host.Cell) : List Host.Cell := l.filter fun c => decide (lpddrBase ≤ c.1)

/-- A reset of every domain but AON, and but TIME where `time` says so (Table 18.4); LPDDR5 is kept or lost. The debug
scope falls and the challenge ends (R416, R427). -/
def State.clearDomains (s : State) (time lpddr : Bool) : State :=
  let rs := regsOf fun d => d == .AON || (time && d == .TIME)
  let s1 : State := { State.reset with
    regs := keepRegs rs s.regs
    latch := keepRegs rs s.latch
    stage := keepRegs rs s.stage
    mem := if lpddr then lpddrCells s.mem else []
    hostMem := s.hostMem
    flash := s.flash
    clock := if time then s.clock else ⟨0, 0, 0, 0⟩
    cues := if time then (s.cues.filter fun e => e.2.active).map fun e => (e.1, { e.2 with next := none, grid := none, gone := true, waits := false })
      else []
    caps := if time then s.caps else []
    servo := if time then s.servo else {}
    ptp := if time then s.ptp else {}
    power := { s.power with standby := false, asked := false, banks := [], sfdp := false, block := none }
    lc := { s.lc with unlocked := none, valid := false }
    out := s.out
    lastRead := s.lastRead
    fresh := s.fresh
    pending := s.pending }
  ((List.range 8).foldl (fun s k => s.resetReg .LC_CHALLENGE k) s1).wrF .PWR_STATUS 0 0 0 (b2n s.power.supply)

/-! ### Boot (R405 to R408) -/

/-- The flash banks that a boot mode tries (Table 18.7). -/
def bootBanks (strap : Nat) : List Nat :=
  if 1 ≤ strap ∧ strap ≤ 4 then [strap - 1] else if strap = 5 then [0, 1, 2, 3] else []

/-- The boot sequence from step 3 of Table 18.8: in a flash mode the SFDP header is read first. -/
def State.boot (s : State) : State :=
  let l := bootBanks (s.rdF .BOOT_STATUS 0 2 0)
  { s with power := { s.power with banks := l, sfdp := !l.isEmpty } }

/-- SFDP_READ_END (R406): FLASH_INFO takes the density and the read mode; a flash without the header fails every load.
Then boot tries its first bank. -/
def execSfdpReadEnd (r : Sfdp) (s : State) : Host.Outcome State Fault Refusal :=
  if !s.power.sfdp then .next s
  else
    let info := r.density % 256 + (if r.quad then 512 else 256) + (if 24 < r.density % 256 then 1024 else 0)
    let s1 := (s.wr .FLASH_INFO 0 (if r.valid then info else 0)).wrF .BOOT_STATUS 0 4 4 (b2n !r.valid)
    let s2 := { s1 with power := { s1.power with sfdp := false } }
    .next (if s2.load.state = 0 then s2.bootNext else s2)

/-! ### Resets (R391, R393, R395) -/

/-- The life-cycle state that the fuse copies give (R411): the later where both decode, SCRAPPED where neither does. -/
def Lc.fused (l : Lc) : Nat :=
  match l.fuse1, l.fuse2 with
  | some a, some b => max a b
  | some a, none | none, some a => a
  | none, none => 15

/-- A reset as PORn gives it: every domain; the fuses stay, and the state is read from them (R411). -/
def State.porReset (s : State) (straps cause : Nat) (supply : Bool) : State :=
  let s1 : State := { State.reset with
    regs := s.regs.filter fun e => e.1 == regKey .LC_STATE 0
    hostMem := s.hostMem
    flash := s.flash
    power := { supply := supply }
    lc := {
      slots := s.lc.slots
      fuse1 := s.lc.fuse1
      fuse2 := s.lc.fuse2 }
    out := s.out
    lastRead := s.lastRead
    fresh := s.fresh
    pending := s.pending }
  let s2 := ((s1.wrF .LC_STATE 0 3 0 s.lc.fused).wr .RST_CAUSE 0 cause).wr .BOOT_STATUS 0 (straps % 8 + if straps % 8 = 6 then 8 else 0)
  (s2.wrF .PWR_STATUS 0 0 0 (b2n supply)).boot

/-- The straps latched last. -/
def State.straps (s : State) : Nat := s.rdF .BOOT_STATUS 0 2 0

/-- POWER_ON_RESET (R395, R405, R408): PORn rises, the straps are latched, and the device boots. -/
def execPowerOnReset (b : BootIn) (s : State) : Host.Outcome State Fault Refusal :=
  .next (s.porReset b.straps 1 b.procSupply)

/-- BROWNOUT (R391): as PORn, with RST_CAUSE.BROWNOUT; the BOOT balls are latched again at the levels they had. -/
def execBrownout (s : State) : Host.Outcome State Fault Refusal := .next (s.porReset s.straps 0x21 s.power.supply)

/-- A clock reset begins (R393): LPDDR5 is lost, and every domain but AON is held. -/
def State.clockReset (s : State) (cause : Nat) : State :=
  let s1 := ((s.clearDomains false false).setB .RST_CAUSE 0 cause).clrB .MEM_RETAIN 0 9
  { s1 with power := { s1.power with clock := true } }

/-- REFCLK_LOST (R393). -/
def execRefclkLost (s : State) : Host.Outcome State Fault Refusal := .next (s.clockReset 4)

/-- PLL_UNLOCK (R393): PLL_SYS (0), PLL_PIX (1) or PLL_DDR (2) loses lock. -/
def execPllUnlock (pll : Nat) (s : State) : Host.Outcome State Fault Refusal :=
  .next (if pll < 3 then s.clockReset 3 else s)

/-- CLOCK_RESET_RELEASE (R393, R397): the device boots from step 3 with its latched straps. -/
def execClockResetRelease (s : State) : Host.Outcome State Fault Refusal :=
  .next (if s.power.clock then { s with power := { s.power with clock := false } }.boot else s)

/-- A reset of every domain but AON that keeps LPDDR5 in self-refresh (R396): it boots from step 3, unless a clock reset
still holds the device. -/
def State.warm (s : State) (time : Bool) (cause : Nat) : State :=
  let s1 := (s.clearDomains time true).setB .RST_CAUSE 0 cause
  if s1.power.clock then s1 else s1.boot

/-- RESET_PIN (R395): RSTn is low for 1 µs. -/
def execResetPin (s : State) : Host.Outcome State Fault Refusal := .next (if s.pinsSeen then s.warm false 1 else s)

/-- A write of RST_CTRL: WARM acts only under its key. -/
def State.rstCtrl (s : State) (w : Nat) : State := if bit 0 w ∧ fld 31 16 w = 0x5753 then s.warm false 2 else s

/-- WARM_RESET (R395). -/
def execWarmReset (p : Path) (v : Word) (s : State) : Host.Outcome State Fault Refusal :=
  .next (if s.regOpen p .AON then s.rstCtrl v.toNat else s)

/-! ### Standby (R404) -/

/-- The servo enters LOSS and holds HOLD_Y; the alert that a loss raises has no path in standby. -/
def State.standbyServo (s : State) : State :=
  if s.servoState = 0 ∨ s.servoState = 4 then s else (s.hold 4).setB .SERVO_STATUS 0 9

/-- Standby takes effect: the pending segue and an armed load are discarded, every voice halts, READY falls, and every domain
but AON and TIME is gated. -/
def State.enterStandby (s : State) : State :=
  let s1 := s.discardPend
  let s2 := s1.setLoad { s1.load with armed := none }
  let s3 := ((s2.voices.foldl (fun s v => s.haltVoice v) s2).setReady false).standbyServo.clearDomains true true
  { s3 with power := { s3.power with standby := true } }

/-- A write of PWR_CTRL: STANDBY takes effect at the next barline, or at once where TEMPO_CFG.EN is 0. -/
def State.pwrCtrl (s : State) (w : Nat) : State :=
  if !bit 0 w then s
  else if s.scoreLive then { s with power := { s.power with asked := true } }
  else s.enterStandby

/-- STANDBY (R404). -/
def execStandby (p : Path) (v : Word) (s : State) : Host.Outcome State Fault Refusal :=
  .next (if s.regOpen p .AON then s.pwrCtrl v.toNat else s)

/-- WAKE_PIN (R404): a falling edge of WAKEn ends standby; while standby is being entered, the entry completes and the wake
follows (ch. 18, Corners). -/
def execWakePin (s : State) : Host.Outcome State Fault Refusal :=
  if !s.pinsSeen then .next s
  else
    let s1 := if s.power.asked then s.enterStandby else s
    .next (if s1.power.standby then s1.warm true 6 else s1)

/-! ### Block control (R398 to R402) -/

/-- The actions that Table 18.5 allows an index: 1 RESET, 2 OFF, 3 ON. -/
def blockAllows (k action : Nat) : Bool :=
  if k < 32 ∨ (48 ≤ k ∧ k ≤ 50) then decide (1 ≤ action) && decide (action ≤ 3)
  else if k < 48 ∨ k = 51 then action == 1 else false

/-- Is a block declared by the live score? The host port always is (DEDUCED, log entry 71). -/
def State.blockDeclared (s : State) (k : Nat) : Bool :=
  if k < 32 then (s.elem 0x06 k).isSome
  else if k < 48 then (s.elem 0x09 (k - 32)).isSome
  else if k < 50 then (s.netElem (k - 48)).isSome
  else if k = 50 then s.tieRole != 0
  else k == 51

/-- A reset of domain PORT: its registers return to their reset values, the score's configuration is taken anew, and what
was in flight ends (R400; Table 18.6). The settings generations stay (ch. 18, Corners). -/
def State.portReset (s : State) (p : Nat) : State :=
  let lost := ((s.port p).buffer.map fun l => (l.stream, l.beat)).eraseDups
  let cut := ((s.elems 0x0008).filter fun e => e.u8 8 == p).filterMap fun e =>
    (s.strm e.id).openFrame.map fun f => (e.id, f.beat)
  let s1 := (s.nextEpoch p).resetRegs (entries portRegs p)
  let s2 := (match s1.elem 0x06 p with | some e => s1.wr .P_CFG p (portCfg e) | none => s1).resetPort p
  let s3 := cut.foldl (fun (s : State) x => s.cutFrame x.1 x.2) s2
  lost.foldl (fun (s : State) x => (s.cutFrame x.1 x.2).markMissing x.1 x.2) s3

/-- A reset of domain NET: likewise; the uplink enters DOWN. -/
def State.netReset (s : State) (u : Nat) : State :=
  let s1 := (s.nextEpoch (48 + u)).resetRegs (elemRegs ⟨0, 0x18, u, 0, []⟩)
  let s2 := s1.leaveUp u 1
  match s2.netElem u with | some e => s2.wr .NET_CFG u (netCfg e) | none => s2

/-- A reset of domain TIE: the lanes lose lock with it, which is one event (R398). -/
def State.tieReset (s : State) : State := if s.rdB .TIE_STATUS 0 3 then s.laneLoss else s.nextEpoch 50

/-- RESET of a block. -/
def State.resetOne (s : State) (k : Nat) : State :=
  if k < 32 then s.portReset k
  else if k < 48 then (s.nextEpoch k).resetPipe (k - 32)
  else if k < 50 then s.netReset (k - 48)
  else if k = 50 then s.tieReset
  else s.hostReset false

/-- OFF of a block: a port's TRIG falls, an uplink leaves UP, the tie lanes lose lock. -/
def State.offOne (s : State) (k : Nat) : State :=
  let s1 := s.setB .EPOCH_TAB k 9
  if k < 32 then s1.setPort k { s1.port k with trig := false }
  else if k < 50 then s1.leaveUp (k - 48) 1
  else s1.laneLoss

/-- ON of a block: a port is reset; the epoch advances as an OFF ends. -/
def State.onOne (s : State) (k : Nat) : State :=
  let s1 := s.clrB .EPOCH_TAB k 9
  if k < 32 then s1.portReset k
  else if s.blockOff k then s1.nextEpoch k else s1

/-- A write of BLK_CTRL with GO: refused, or the action is performed and BUSY set (R402). -/
def State.blkCtrl (s : State) (w : Nat) : State :=
  let k := fld 5 0 w
  let a := fld 9 8 w
  if !bit 31 w then s
  else if !blockAllows k a || !s.blockDeclared k || s.rdB .BLK_STATUS 0 0 || s.rdF .LOAD_STATUS 0 2 0 == 4 then
    s.setB .BLK_STATUS 0 1
  else
    let s1 := (s.setB .BLK_STATUS 0 0).setB .EPOCH_TAB k 8
    let s2 := { s1 with power := { s1.power with block := some (k, a) } }
    if a = 1 then s2.resetOne k else if a = 2 then s2.offOne k else s2.onOne k

/-- BLOCK_RESET (R402). -/
def execBlockReset (p : Path) (v : Word) (s : State) : Host.Outcome State Fault Refusal :=
  .next (if s.regOpen p .FABRIC then s.blkCtrl v.toNat else s)

/-- BLOCK_OFF (R402). -/
def execBlockOff (p : Path) (v : Word) (s : State) : Host.Outcome State Fault Refusal :=
  .next (if s.regOpen p .FABRIC then s.blkCtrl v.toNat else s)

/-- BLOCK_ON (R402). -/
def execBlockOn (p : Path) (v : Word) (s : State) : Host.Outcome State Fault Refusal :=
  .next (if s.regOpen p .FABRIC then s.blkCtrl v.toNat else s)

/-- BLOCK_RESET_DONE (R401, R402): no reply of the old epoch can arrive any more, and the action ends. -/
def execBlockResetDone (s : State) : Host.Outcome State Fault Refusal :=
  match s.power.block with
  | none => .next s
  | some (k, _) =>
    let s1 := ((s.clrB .BLK_STATUS 0 0).setB .BLK_STATUS 0 2).clrB .EPOCH_TAB k 8
    .next { s1 with power := { s1.power with block := none } }

/-- STALE_REPLY_DISCARD (R401): a reply with an earlier epoch of a block is discarded and counted. -/
def execStaleReplyDiscard (epochIndex : Nat) (s : State) : Host.Outcome State Fault Refusal :=
  .next (if epochIndex < 52 ∧ s.domUp .FABRIC then s.addF .EPOCH_TAB epochIndex 31 16 1 else s)

end Sys2Proof.Machine
end

