-- ==== Sys2Proof/Machine/Barline.lean ====
section
/-!
DEFINITION. Tempo events, barlines and their sequence (ch. 01, R17 to R39; R83 to R85, R142, R156, R174, R224, R252, R324,
R329, R339).
-/

namespace Sys2Proof.Machine

/-! ### Deadlines (Table 1.3, step 2) -/

/-- Capture deadline of a beat (R37): frames still open close, the rows that their missing lines would have reached carry OVR,
those of a merged exposure in its output; and the statistics units bind their records (R229, R250). -/
def State.captureEnd (s : State) (b : BeatRec) : State :=
  let cut := (s.elems 0x0008).filterMap fun e => (s.strm e.id).openFrame.map fun f => (e.id, f.beat)
  let s1 := cut.foldl (fun (s : State) x => s.markRows (s.outOf x.1) x.2 true false) s.captureDeadline.settleMerges
  if b.idle then s1 else s1.bindStats b.num

/-- Processing deadline of a beat (R37, R235, R252): records, results and products complete, and its products become items.
Answers the voices of the abandoned ones. -/
def State.processEnd (s : State) (n : Nat) : State × List Nat :=
  let (s1, a) := (s.finishStats n).finishServices n
  let (s2, b) := s1.finishProducts n
  let new := (s2.productItems n).filter fun i => !s2.stopped i.voice n
  ({ s2 with svc := { s2.svc with items := s2.svc.items ++ new } }, a ++ b)

/-- The state of a channel whose item is abandoned: FERMATA and HALTED end, where nothing else of it is in fermata
(Table 6.4); STOPPED stays. -/
def State.unhold (s : State) (c : Nat) : ChMode :=
  if (s.chan c).mode = .stopped then .stopped else if s.chanHeld c then .fermata else .run

/-- Abandon a descriptor of a channel (R174): it completes ABANDONED with its residue, a fermata of it ends, and the channel
goes on. -/
def State.abandonDesc (s : State) (c : Nat) (d : Desc) : State :=
  let s0 := (s.dropFermata fun f => f.ofChan c && f.aux == d.idx).dropWaiter c
  let s1 := s0.setChan c { s0.chan c with mode := s0.unhold c, rd := .none, wr := .none }
  s1.endDesc c d.idx 5 none

/-- Drop the items of a beat that found no descriptor (R156); a fetch for one that stands in fermata or halted ends. -/
def State.abandonDue (s : State) (c n : Nat) : State × Nat :=
  let x := s.chan c
  let k := (x.due.filter fun i => i.beat == n).length
  if k = 0 then (s, 0)
  else
    let mine := match x.due with | i :: _ => i.beat == n | [] => false
    let s1 := if mine then s.dropFermata fun f => f.op == .fetch c else s
    let free := mine && (x.fetchHalt || x.mode == .fermata)
    (((s1.setChan c { x with
      due := x.due.filter fun i => i.beat != n
      mode := if free && x.mode != .stopped then (if s1.chanHeld c then .fermata else .run) else x.mode
      fetchHalt := x.fetchHalt && !mine }).addF .CH_NODESC_CNT c 31 0 k), k)

/-- Delivery deadline of a beat on one beat-bound channel. Answers the number of items abandoned. -/
def State.abandonChan (s : State) (c n : Nat) : State × Nat :=
  let mine := (s.chan c).descs.filter fun d => d.ended.isNone && match d.item with | some i => i.beat == n | none => false
  let (s1, k) := (mine.foldl (fun s d => s.abandonDesc c d) s).abandonDue c n
  (s1, mine.length + k)

/-- Is an item taken by a beat-bound channel or a flow of its voice (R252)? -/
def State.taken (s : State) (i : Item) : Bool :=
  (s.elems 0x0010).any (fun e => dmaTakes e i) || (s.elems 0x0011).any fun e => e.u16 10 == i.src && e.voice == i.voice

/-- Delivery deadline of a beat (R37, R142, R174, R252, R311): what is unfinished is abandoned, in class order and ascending
voice. Answers the voices of the abandoned items. -/
def State.deliverEnd (s : State) (n : Nat) : State × List Nat :=
  let chans := sortBy (fun e => s.classOf e.voice * 1024 + e.voice) ((s.elems 0x0010).filter dmaBeatBound)
  let (s1, a) := chans.foldl (fun p e =>
    let (t, k) := p.1.abandonChan e.id n
    (t, p.2 ++ List.replicate k e.voice)) (s, [])
  let s2 := (s1.dropFaulted n).dropPosts fun p => p.queue != 15 && p.beat == some n
  let (s3, b) := s2.flowDeadline n
  let lost := s3.svc.items.filter fun i => i.beat == n && decide (32768 ≤ i.src) && !s3.taken i
  let s4 := { s3 with svc := { s3.svc with items := s3.svc.items.filter fun i => i.beat != n } }
  (lost.foldl (fun s i => s.bump .STAT_DROP_CNT (i.src % 256)) s4, a ++ b)

/-- Count the abandoned items of a barline, and the barline for each voice with one (R38). -/
def State.countOvrs (s : State) (l : List Nat) : State :=
  (sortBy id l.eraseDups).foldl (fun s v =>
    ((s.countOvr v (l.filter fun w => w == v).length).addF .VOICE_OVR_CNT v 31 16 1).addF .VW_OVR v 31 16 1) s

/-- Step 2 of a barline: the deadlines of the three beats before it, newest first. A product whose frame missed its capture
deadline is not abandoned by that: the processing and delivery deadlines alone count items (DESIGN CHOICE, log entry 102: R38
does not say whether an underrun at capture is an abandoned item). -/
def State.deadlines (s : State) : State :=
  let l := s.tempo.beats
  let s1 := match l with | b :: _ => s.captureEnd b | [] => s
  let (s2, a) := match l[1]? with | some b => s1.processEnd b.num | none => (s1, [])
  let (s3, b) := match l[2]? with | some b => s2.deliverEnd b.num | none => (s2, [])
  s3.countOvrs (a ++ b)

/-! ### The barline (R35) -/

/-- What opens a barline: idle, clamped, the number it takes, and the requested and actual encoder positions. -/
structure BarIn where
  idle : Bool
  clamped : Bool
  num : Nat
  encReq : Nat
  encAct : Nat
  deriving DecidableEq, Repr

/-- Step 1 (Table 1.3): the number, the times and the encoder positions of the new beat, and the tempo state. -/
def State.barRegs (s : State) (x : BarIn) : State :=
  let t := s.now
  let s1 := if s.tempo.isOpen then
      s.wr .LAST_PERIOD_NS 0 (min (2 ^ 32 - 1) ((s.clock.elapsed - s.tempo.last) / 4294967296)) else s
  let s2 := ((s1.wr .BEAT_NUM 0 x.num).wr .BEAT_TIME_S 0 t.sec).wr .BEAT_TIME_NS 0 t.ns
  let s3 := ((s2.wr .ENC_REQ 0 x.encReq).wr .ENC_ACT 0 x.encAct).wrF .TEMPO_STATUS 0 1 0 (if x.idle then 2 else 1)
  if x.idle then (s3.bump .IDLE_CNT 0).setB .TEMPO_STATUS 0 10 else s3

/-- What the device keeps of the new beat. -/
def State.newBeat (s : State) (x : BarIn) (rows : Tab Nat) : BeatRec where
  num := x.num
  time := s.now
  encReq := x.encReq
  encAct := x.encAct
  clamped := x.clamped
  idle := x.idle
  split := s.tieSplit
  refSuspect := s.refSuspect
  gen := s.rd .SCORE_GEN 0
  rows := rows
  seq := match s.tempo.beats with | b :: _ => nextAgg b.seq | [] => 0
  procSus := []
  pos := s.tempoEnc
  ord := match s.tempo.beats with | b :: _ => b.ord + 1 | [] => 0

/-- Close the aggregates of the beat that ends (R339, R341). -/
def State.endAggregates (s : State) (period : Nat) : State :=
  match s.tempo.beats with
  | [] => s
  | b :: t =>
    let (s1, sus) := s.closeAggregates b period
    { s1 with tempo := { s1.tempo with beats := { b with procSus := sus } :: t } }

/-- The quotas of the new bar (R25, R30, R153): nothing is used, channels that waited for quota go on. -/
def State.resetQuotas (s : State) : State :=
  let s1 := { s with tempo := { s.tempo with used := [] } }
  let s2 := (List.range 128).foldl (fun s c => if s.rd .CH_USED c = 0 then s else s.wr .CH_USED c 0) s1
  let fresh (x : Chan) : Chan := { x with
    blocked := x.blocked && (!x.stalls.isEmpty || x.descs.any Desc.waiting)
    asks := false
    lent := false }
  let chans := (s2.dma.ch.map fun e => (e.1, fresh e.2)).filter fun e => e.2 != {}
  { s2 with dma := { s2.dma with ch := chans } }.flowQuota

/-- The segue that pends commits when its barline comes, or when a rejoin jumps over it (R83; ch. 13, Corners). -/
def State.segueDue (s : State) (bar ord : Nat) : State :=
  match s.load.pend with
  | some c => if c.commit ≤ s.rd .BEAT_NUM 0 then s.commitSegue c bar ord else s
  | none => s

/-- The lead tells its follow of a barline (Table 13.8, BARLINE). -/
def State.sendBarline (s : State) (x : BarIn) : State :=
  if s.tieRole = 1 ∧ s.tieOn then
    s.tieSend 0x02 (toLe 8 x.num ++ toLe 8 s.now.sec ++ toLe 4 s.now.ns ++ toLe 4 x.encReq ++ toLe 4 x.encAct
      ++ toLe 4 (b2n x.clamped + 2 * b2n x.idle))
  else s

/-- Steps 3 and 4: the beat opens. -/
def State.openBeat (s : State) (x : BarIn) (bar ord : Nat) : State :=
  let last := match s.tempo.beats with | b :: _ => b.num | [] => x.num
  let done := match s.tempo.beats with | _ :: b :: _ => some b.num | _ => none
  let s1 := match done with | some n => s.clearBeat n | none => s
  let s2 := s1.portList.foldl (fun s p => s.portBarline s.idleBeat p) s1
  let s3 := ((s2.elems 0x0009).map (·.id)).foldl (fun s p => s.pipeBarline x.num last p) s2
  let (s4, rows) := s3.advanceRows x.idle
  let s5 := { s4 with
    tempo := { s4.tempo with
      isOpen := true
      last := s4.clock.elapsed
      playing := false
      judged := false
      beats := (s4.newBeat x rows :: s4.tempo.beats).take 4 }
    svc := { s4.svc with slot := [] }
    servo := { s4.servo with stepped := false }
    tie := { s4.tie with encAt := if s4.tieState = 2 then s4.tempoPos else s4.tie.encAt } }
  let s6 := s5.portList.foldl (fun s p => s.openWindows p) s5
  let s7 := (((s6.anchorCues bar).barCues x.idle bar).lockCues ord bar).resetQuotas
  let s8 := (List.range 2).foldl (fun s u => s.startTx u) s7
  (s8.startChecks (match s8.tempo.beats with | b :: _ => b.seq | [] => 0)).sendBarline x

/-- At tick 16 the slot table starts playing (R26) and the items of the beat before the last become due (R154, R311). -/
def State.playTable (s : State) : State :=
  let s1 := { s with tempo := { s.tempo with playing := true } }
  match s.tempo.beats[2]? with
  | none => s1
  | some b =>
    let its := s1.svc.items.filter fun i => i.beat == b.num && !s1.stopped i.voice b.num
    let s2 := (s1.elems 0x0010).foldl (fun s e =>
      let mine := its.filter fun i => dmaTakes e i
      if mine.isEmpty then s else s.setChan e.id { s.chan e.id with due := (s.chan e.id).due ++ mine }) s1
    (s2.elems 0x0011).foldl (fun s e => s.flowDue e its) s2

/-- The barline that ends a beat closes every bundle window still open (R191). -/
def State.closeAll (s : State) : State := s.portList.foldl (fun s p => s.closeWindows p [0, 1, 2, 3]) s

/-- A lead that may join does so at its barline (Table 13.9). -/
def State.leadJoins (s : State) : State :=
  if s.tieRole = 1 ∧ ((s.tieState = 1 ∧ s.tieOn ∧ s.exchanged) ∨ (s.tieState = 4 ∧ 16 ≤ s.tie.good)) then s.setTie 2 else s

/-- A barline with no full load and no standby at it: handovers, a segue due, and the beat (R35). -/
def State.turnBeat (s : State) (x : BarIn) : State :=
  let bar := stampTotal s.now
  let ord := match s.tempo.beats with | b :: _ => b.ord + 1 | [] => 0
  ((s.segueStep bar ord).segueDue bar ord).openBeat x bar ord

/-- The steps of a barline (R35). An armed full load opens its shadow plane at it, and standby takes effect at it. -/
def State.barSteps (s : State) (x : BarIn) : State :=
  let s0 := if s.tempo.isOpen && !s.tempo.playing && decide (s.tickTime 16 ≤ s.clock.elapsed) then s.playTable else s
  let period := min (2 ^ 32 - 1) ((s0.clock.elapsed - s0.tempo.last) / 4294967296)
  let s1 := (((s0.leadJoins.barRegs x).deadlines).endAggregates period).closeAll
  match s1.load.armed with
  | some c => s1.openShadow c
  | none =>
    if s1.power.asked then s1.enterStandby else s1.turnBeat x

/-- Raise a barline (R35): its steps count as one FCLK cycle for the violation record (DESIGN CHOICE, log entry 104). -/
def State.barline (s : State) (x : BarIn) : State := s.oneCycle fun s => s.barSteps x

/-! ### Tempo events (R20 to R34) -/

/-- The encoder positions of a beat: the requested one is the position itself unless an ENCODER target raised it (R31). -/
def State.barIn (s : State) (idle clamped : Bool) (req : Option Nat) : BarIn :=
  let act := if s.tempoSrc = 1 then s.tempoPos else s.rd .ENC_POS 0
  ⟨idle, clamped, (s.rd .BEAT_NUM 0 + 1) % 2 ^ 64 + 2 ^ 64 * s.tie.joins, req.getD act, act⟩

/-- The target that a tempo event of the source in use carries. -/
def State.reqOf (s : State) (target : Nat) : Option Nat := if s.tempoSrc = 1 then some target else none

/-- Change the tempo events held; TEMPO_STATUS.PENDING follows. -/
def State.setHeld (s : State) (l : List Nat) : State :=
  { s with tempo := { s.tempo with held := l } }.wrF .TEMPO_STATUS 0 4 2 l.length

/-- Release the oldest deferred tempo event (R31, R32): its beat is clamped. -/
def State.releaseHeld (s : State) : State :=
  match s.tempo.held with
  | [] => s
  | t :: l => (((s.setHeld l).bump .CLAMP_CNT 0).setB .TEMPO_STATUS 0 8).barline (s.barIn false true (s.reqOf t))

/-- Has PMIN_NS passed since the last barline? -/
def State.pastPmin (s : State) : Bool := decide (s.tempo.last + nsU (s.rd .PMIN_NS 0) ≤ s.clock.elapsed)

/-- Defer a tempo event, or drop it where four are held (R31, R32, R228). -/
def State.deferEvent (s : State) (target : Nat) : State :=
  if s.tempo.held.length < 4 then s.setHeld (s.tempo.held ++ [target])
  else ((s.bump .DROP_CNT 0).setB .TEMPO_STATUS 0 9).dropRows

/-- A tempo event (R31 to R33). A held event that is due is released before it; barline 0 has no barline before it to clamp
against. A follow raises no barline while FORMING (R324). -/
def State.tempoEvent (s : State) (target : Nat) : State :=
  let s1 := if s.pastPmin then s.releaseHeld else s
  if !s1.scoreLive || (s1.tieRole == 2 && s1.tieState == 1) then s1
  else if !s1.tempo.isOpen || (s1.tempo.held.isEmpty && s1.pastPmin) then
    s1.barline (s1.barIn false false (s1.reqOf target))
  else s1.deferEvent target

/-- The outcome of a command that leads from `s` to `t`: a barline raised while EXTEST is current and READY is 1 is undefined
(ch. 19, Corners). -/
def State.played (s t : State) : Host.Outcome State Fault Refusal :=
  if s.extestPlays && (t.tempo.beats != s.tempo.beats || t.power.asked != s.power.asked) then .fault .extestPlaying else .next t

/-- TIMER_PERIOD_EXPIRY (Table 1.1): a tempo event every TIMER_NS of increments (R274). -/
def execTimerPeriodExpiry (s : State) : Host.Outcome State Fault Refusal :=
  if !s.scoreLive || s.tempoSrc != 0 then .next s
  else
    let s1 := s.runTo s.tempo.timerDue
    let s2 := { s1 with tempo := { s1.tempo with timerDue := s1.tempo.timerDue + nsU (s1.rd .TIMER_NS 0) } }
    s.played (s2.tempoEvent 0)

/-- BEATIN_EDGE (R23, R457): BEATIN reads the new level `v`; at the ninth sample its edge counts. -/
def execBeatinEdge (v : Level) (s : State) : Host.Outcome State Fault Refusal :=
  if decide (8 < v.held) && s.pinsSeen && s.scoreLive && s.tempoSrc == 2 && v.high != s.rdB .TEMPO_CFG 0 11 then s.played (s.tempoEvent 0)
  else .next s

/-- DEFERRED_BARLINE_RELEASE (R31, R32): PMIN_NS after the last barline. -/
def execDeferredBarlineRelease (s : State) : Host.Outcome State Fault Refusal :=
  if s.tempo.held.isEmpty then .next s else s.played (s.runTo (s.tempo.last + nsU (s.rd .PMIN_NS 0))).releaseHeld

/-- Does a tempo event fall in or before the TCLK in which the idle time ends (ch. 1, Corners)? -/
def State.eventByIdle (s : State) : Bool :=
  let n := s.ticksFor (s.tempo.last + nsU (s.rd .IDLE_NS 0) - s.clock.elapsed)
  match s.tempoSrc with
  | 0 => decide (s.ticksFor (s.tempo.timerDue - s.clock.elapsed) ≤ n)
  | 3 => match (s.cue (s.rdF .TEMPO_CFG 0 16 12)).next with
    | some t => decide (s.ticksFor (t - s.clock.total) ≤ n)
    | none => false
  | _ => false

/-- IDLE_BARLINE (R34): IDLE_NS after the last barline without a tempo event. A follow of the tie link raises none (R324). -/
def execIdleBarline (s : State) : Host.Outcome State Fault Refusal :=
  if !s.tempo.isOpen || !s.tempo.held.isEmpty || s.tempoSrc == 4 || s.eventByIdle then .next s
  else
    let s1 := s.runTo (s.tempo.last + nsU (s.rd .IDLE_NS 0))
    s.played (s1.barline (s1.barIn true false none))

/-- How far the tempo encoder is past its target, in the direction of travel, as a signed 32-bit number (R22). -/
def State.pastTarget (s : State) : Int :=
  let p := s.tempoPos
  let d : Nat := if s.rdB .TEMPO_CFG 0 10 then (s.tempo.target + 2 ^ 32 - p) % 2 ^ 32 else (p + 2 ^ 32 - s.tempo.target) % 2 ^ 32
  if d < 2 ^ 31 then (d : Int) else (d : Int) - 2 ^ 32

/-- Raise a tempo event for every target reached, and advance the target (R22, R32); `n` bounds their number. -/
def State.encTargets (s : State) : Nat → State
  | 0 => s
  | n + 1 =>
    if !s.scoreLive || s.tempoSrc != 1 || decide (s.pastTarget < 0) then s
    else
      let t := s.tempo.target
      let s1 := { s with tempo := { s.tempo with target := s.encForward t (s.rd .TEMPO_DIV 0) } }
      (s1.tempoEvent t).encTargets n

/-- ENCODER_COUNT (R345, R457, R22): A and B read new levels for `held` TCLK samples; the device acts on them at the one after
FILT. -/
def execEncoderCount (k : Nat) (v : LevelsAB) (held : Nat) (s : State) : Host.Outcome State Fault Refusal :=
  if 4 ≤ k ∨ !s.encAccepts k held ∨ !s.domUp .PROC ∨ !s.pinsSeen then .next s
  else
    let s1 := s.encCount k v.a v.b
    if s1.tempoSrc = 1 ∧ k = s1.rdF .TEMPO_CFG 0 9 8 then
      s.played (s1.encTargets (s1.pastTarget.toNat / max 1 (s1.rd .TEMPO_DIV 0) + 1))
    else .next s1

/-- CUE_LEADING_EDGE (R290): the pending edge of a cue; one that the tempo record selects is a tempo event first. -/
def execCueLeadingEdge (cue : Nat) (s : State) : Host.Outcome State Fault Refusal :=
  match (s.cue cue).next with
  | none => .next s
  | some t =>
    let s1 := s.runToClock t
    let s2 := if s1.scoreLive && s1.tempoSrc == 3 && s1.rdF .TEMPO_CFG 0 16 12 == cue then s1.tempoEvent 0 else s1
    s.played (match s2.cueElem cue with
      | some e => if (s2.cue cue).next = some t then s2.cueLead e t else s2
      | none => s2)

/-- The adoption barline of a follow (R329). -/
def State.adopt (s : State) (b : TieBarline) : State :=
  let own := (s.rd .BEAT_NUM 0 + 1) % 2 ^ 64
  let ofs := (b.beat + 2 ^ 64 - own) % 2 ^ 64
  let s0 := { s with tie := { s.tie with joins := s.tie.joins + 1 } }
  let s1 := (((s0.wr .TIE_REJOIN_OFS 0 ofs).setB .TIE_STATUS 0 9).vector0.setTie 2).setHeld []
  s1.alert 0x06 ofs

/-- TIE_BARLINE_RX (R324, R329, Table 13.9): on a joined follow the lead's barline; in FORMING and REJOINING it joins. -/
def execTieBarlineRx (h : TieHdr) (b : TieBarline) (s : State) : Host.Outcome State Fault Refusal :=
  match s.tieIn h with
  | (s1, false) => .next s1
  | (s1, true) =>
    if s1.tieRole ≠ 2 ∨ !s1.scoreLive then .next s1
    else
      let x (t : State) : BarIn := ⟨bit 1 b.flags, bit 0 b.flags, b.beat % 2 ^ 64 + 2 ^ 64 * t.tie.joins, b.encReq, b.encAct⟩
      let tie := s1.rdF .TEMPO_CFG 0 2 0 == 4
      if s1.tieState = 2 then (if tie then s.played (s1.barline (x s1)) else .next s1)
      else if s1.tieState = 1 ∧ s1.exchanged then
        (if tie then s.played ((s1.setTie 2).barline (x s1)) else .next (s1.setTie 2))
      else if s1.tieState = 4 ∧ 16 ≤ s1.tie.good then s.played ((s1.adopt b).barline (x (s1.adopt b)))
      else .next s1

/-- SLOT_TABLE_START (R26, R35 step 5): tick 16 of the bar. -/
def execSlotTableStart (s : State) : Host.Outcome State Fault Refusal :=
  .next (if s.tempo.isOpen && !s.tempo.playing then (s.runTo (s.tickTime 16)).playTable else s)

end Sys2Proof.Machine
end

