-- ==== Sys2Proof/Machine/Lc.lean ====
section
/-!
DEFINITION. The life cycle, its commands and tokens, and the TAP (ch. 19, R410 to R427), but for DBG_ACCESS.
-/

namespace Sys2Proof.Machine

/-! ### Transitions (R410, R411, R422) -/

/-- What a fuse copy of the state holds after programming: one that does not verify no longer decodes (R411, ch. 19). -/
def fuseCopy (target n : Nat) : Option Nat := if Config.fuseFails n then none else some (target % 16)

/-- The fuses take a new state, the second copy first, and the device resets as PORn does (R411, R422). -/
def State.lcProgram (s : State) (target : Nat) : State :=
  let (n, s1) := s.freeUse
  let (k, s2) := s1.freeUse
  let s3 := { s2 with lc := { s2.lc with
    fuse2 := fuseCopy target n
    fuse1 := fuseCopy target k } }
  let s4 := s3.wr .LC_STATE 0 (s.lcState * 256)
  s4.porReset s4.straps 1 s4.power.supply

/-- A transition: every voice halts; RETURNED and SCRAPPED first erase Table 19.6, whose end LC_ERASE_END is. -/
def State.lcTransition (s : State) (target : Nat) : State :=
  let s1 := s.voices.foldl (fun s v => s.haltVoice v) s
  if target = 6 ∨ target = 15 then { s1 with lc := { s1.lc with erasing := some target } } else s1.lcProgram target

/-- LC_ERASE_END (R422): everything of Table 19.6 is zero, and the new state is programmed. -/
def execLcEraseEnd (s : State) : Host.Outcome State Fault Refusal :=
  match s.lc.erasing with
  | none => .next s
  | some t => .next (s.lcProgram t)

/-! ### Commands (R420) -/

/-- A command in progress will report a result. -/
def State.lcReport (s : State) (code : Nat) : State := { s with lc := { s.lc with result := some code } }

/-- Is the LC block, or an admission, in the way of a command? -/
def State.lcBusy (s : State) : Bool :=
  s.rdB .LC_STATUS 0 0 || s.rdF .LOAD_STATUS 0 2 0 == 1 || s.rdF .LOAD_STATUS 0 2 0 == 4

/-- A command or token check runs: refused with BUSY, or BUSY is set and it is carried out; the result comes with
LC_COMMAND_DONE. -/
def State.lcRun (s : State) (act : State → State) : State :=
  if s.lcBusy then s.wrF .LC_STATUS 0 7 4 1 else act (s.setB .LC_STATUS 0 0)

/-- LC_COMMAND_DONE (R420): RESULT is written, BUSY clears, DONE sets, and vector 0 is sent. -/
def execLcCommandDone (s : State) : Host.Outcome State Fault Refusal :=
  match s.lc.result with
  | none => .next s
  | some c =>
    let s1 := ((s.wrF .LC_STATUS 0 7 4 c).clrB .LC_STATUS 0 0).setB .LC_STATUS 0 8
    let s2 := { s1 with lc := { s1.lc with result := none } }
    .next (if s2.domUp .FABRIC then s2.vector0 else s2)

/-- The challenge is consumed: LC_CHALLENGE reads 0 (R416). -/
def State.endChallenge (s : State) : State :=
  (List.range 8).foldl (fun (s : State) k => s.wr .LC_CHALLENGE k 0) { s with lc := { s.lc with valid := false } }

/-- GETCHAL (R416): 32 fresh random bytes. -/
def State.lcGetchal (s : State) : State :=
  let n := s.fresh
  ((List.range 8).foldl (fun (s : State) k => s.wr .LC_CHALLENGE k (Config.random n k).toNat)
    { s.freeUse.2 with lc := { s.lc with valid := true } }).lcReport 0

/-- The bytes of LC_TOKEN from an offset on. -/
def State.tokenBytes (s : State) : List Byte := (List.range 48).flatMap fun k => toLe 4 (s.rd .LC_TOKEN k)

/-- Set a key slot. -/
def State.setSlot (s : State) (k : Nat) (x : KeySlot) : State :=
  { s with lc := { s.lc with slots := Tab.set {} s.lc.slots k x } }

/-- PROGKEY (R414): the slot takes the key in LC_TOKEN and USAGE; where its fuses do not verify, FUSE_FAIL is reported, and the
slot reads as programmed and revoked (R412). -/
def State.lcProgkey (s : State) (k usage : Nat) : State :=
  let may := decide (k < 8) && (s.lcState == 1 || (s.lcState == 2 && decide (2 ≤ k))) && usage != 0
  if !may then s.lcReport 2
  else if (s.keySlot k).programmed then s.lcReport 5
  else
    let (n, t) := s.freeUse
    (t.setSlot k ⟨true, Config.fuseFails n, usage, s.tokenBytes.take 64⟩).lcReport (if Config.fuseFails n then 7 else 0)

/-- Revoke a slot; an armed full load or a pending segue that it signed is discarded (R415). -/
def State.revokeSlot (s : State) (k : Nat) : State :=
  let s1 := s.setSlot k { s.keySlot k with revoked := true }
  let by_ (c : Option Score) : Bool := match c with | some x => x.slot == some k | none => false
  let s2 := if by_ s1.load.armed then s1.setLoad { s1.load with armed := none } else s1
  if by_ s2.load.pend then s2.discardPend else s2

/-- A slot is revoked and the result reported: FUSE_FAIL where the fuse does not verify, and the slot reads as revoked then too
(R412). -/
def State.revokeReport (s : State) (k : Nat) : State :=
  let (n, t) := s.freeUse
  (t.revokeSlot k).lcReport (if Config.fuseFails n then 7 else 0)

/-- REVOKE (R415): in MAKER_TEST and FIELD_OPEN. -/
def State.lcRevoke (s : State) (k : Nat) : State :=
  if s.lcState ≠ 1 ∧ s.lcState ≠ 2 then s.lcReport 2
  else if !(s.keySlot k).programmed || (s.keySlot k).revoked then s.lcReport 5
  else s.revokeReport k

/-- Is there a good owner slot of a usage, `but` left out? -/
def State.ownerSlot (s : State) (usage : Nat) (but : Option Nat) : Bool :=
  [2, 3, 4, 5, 6, 7].any fun k => but != some k && (s.keySlot k).good usage

/-- May ADVANCE move the device from its state to a target (Table 19.2, R421)? -/
def State.mayAdvance (s : State) (target : Nat) : Bool :=
  match s.lcState, target with
  | 15, _ => false
  | _, 15 => true
  | 1, 2 => (s.keySlot 0).programmed && (s.keySlot 1).programmed
  | 2, 3 => s.ownerSlot 0 none && s.ownerSlot 2 none
  | _, _ => false

/-- ADVANCE. -/
def State.lcAdvance (s : State) (target : Nat) : State :=
  if s.mayAdvance target then s.lcTransition target else s.lcReport 2

/-- RELOCK (R427): the debug scope returns to its reset value. -/
def State.lcRelock (s : State) : State := { s with lc := { s.lc with unlocked := none } }.lcReport 0

/-! ### Tokens (R417 to R419) -/

/-- The signer rule of Table 19.5: 2 NOT_PERMITTED, 5 SLOT, 0 where it is met. A REVOKE that R415 refuses is not
permitted. -/
def State.signerRule (s : State) (kind a b arg : Nat) : Nat :=
  let slot (k usage : Nat) : Nat := if (s.keySlot k).good usage then 0 else 5
  let owner (k : Nat) : Bool := decide (2 ≤ k) && decide (k ≤ 7)
  match kind, s.lcState with
  | 1, 2 => if a < 2 ∧ b = 255 ∧ arg = 0 then slot a 3 else 2
  | 1, 3 => if a < 2 ∧ owner b ∧ arg = 0 then max (slot a 3) (slot b 2) else 2
  | 2, 3 =>
    if !owner a || b != 255 then 2
    else if slot a 2 ≠ 0 ∨ !(s.keySlot arg).programmed ∨ (s.keySlot arg).revoked then 5
    else if s.ownerSlot 0 (some arg) && s.ownerSlot 2 (some arg) then 0 else 2
  | 3, 3 => if owner a ∧ b = 255 ∧ arg = 1 then slot a 1 else 2
  | 3, 6 => if a < 2 ∧ b = 255 ∧ (arg = 1 ∨ arg = 2) then slot a 1 else 2
  | _, _ => 2

/-- The checks of R418 in order: the RESULT code. -/
def State.tokenCode (s : State) (t : List Byte) : Nat :=
  let a := leAt t 5 1
  let b := leAt t 6 1
  let chal := (List.range 8).flatMap fun k => toLe 4 (s.rd .LC_CHALLENGE k)
  let structure_ := leAt t 0 4 == 0x4B54434C && decide (1 ≤ leAt t 4 1) && decide (leAt t 4 1 ≤ 3) && zeroAt t 48 16 &&
    leAt t 8 8 == s.rd .LC_UID 0
  if !structure_ then 3
  else if !s.lc.valid || bytesAt t 16 32 != chal then 3
  else
    let r := s.signerRule (leAt t 4 1) a b (leAt t 7 1)
    if r ≠ 0 then r
    else
      let okB := if b = 255 then zeroAt t 128 64 else (s.keySlot b).verify (t.take 64) (bytesAt t 128 64)
      if (s.keySlot a).verify (t.take 64) (bytesAt t 64 64) && okB then 0 else 4

/-- A failed check counts; the eighth locks tokens out (R419). -/
def State.tokenFail (s : State) : State :=
  let n := s.rdF .LC_STATUS 0 15 12 + 1
  let s1 := s.wrF .LC_STATUS 0 15 12 n
  if 8 ≤ n then s1.setB .LC_STATUS 0 16 else s1

/-- Carry out a token that passed: RETURN, REVOKE or DEBUG. -/
def State.tokenAct (s : State) (kind arg : Nat) : State :=
  match kind with
  | 1 => s.lcTransition 6
  | 2 => s.revokeReport arg
  | _ => { s with lc := { s.lc with unlocked := some arg } }.lcReport 0

/-- A token check (R418, R419). -/
def State.lcToken (s : State) (t : List Byte) : State :=
  if s.rdB .LC_STATUS 0 16 then s.lcReport 6
  else
    match s.tokenCode t with
    | 0 => s.endChallenge.tokenAct (leAt t 4 1) (leAt t 7 1)
    | c => (if c = 2 then s.endChallenge else s.endChallenge.tokenFail).lcReport c

/-- A write of LC_CMD: it acts only under its key, and a reserved OP does nothing (R420, R15). -/
def State.lcCmd (s : State) (w : Nat) : State :=
  let arg := fld 11 8 w
  if fld 31 16 w ≠ 0x4C43 then s
  else match fld 3 0 w with
    | 1 => s.lcRun fun s => s.lcGetchal
    | 2 => s.lcRun fun s => s.lcToken s.tokenBytes
    | 3 => s.lcRun fun s => s.lcProgkey arg (fld 15 12 w)
    | 4 => s.lcRun fun s => s.lcRevoke arg
    | 5 => s.lcRun fun s => s.lcAdvance arg
    | 6 => s.lcRun fun s => s.lcRelock
    | _ => s

/-- A write of LC_CMD by a path of the conductor. -/
def State.lcWrite (s : State) (p : Path) (w : Nat) : State := if s.regOpen p .AON then s.lcCmd w else s

/-- LC_GETCHAL (R416). -/
def execLcGetchal (p : Path) (s : State) : Host.Outcome State Fault Refusal := .next (s.lcWrite p 0x4C430001)

/-- LC_TOKEN (R418). -/
def execLcToken (p : Path) (s : State) : Host.Outcome State Fault Refusal := .next (s.lcWrite p 0x4C430002)

/-- LC_PROGKEY (R414). -/
def execLcProgkey (p : Path) (v : Word) (s : State) : Host.Outcome State Fault Refusal := .next (s.lcWrite p v.toNat)

/-- LC_REVOKE (R415). -/
def execLcRevoke (p : Path) (v : Word) (s : State) : Host.Outcome State Fault Refusal := .next (s.lcWrite p v.toNat)

/-- LC_ADVANCE (R421, R422). -/
def execLcAdvance (p : Path) (v : Word) (s : State) : Host.Outcome State Fault Refusal := .next (s.lcWrite p v.toNat)

/-- LC_RELOCK (R427). -/
def execLcRelock (p : Path) (s : State) : Host.Outcome State Fault Refusal := .next (s.lcWrite p 0x4C430006)

/-! ### The TAP (R424, R425) -/

/-- The instruction of a code; any other selects BYPASS (Table 19.6a). -/
def tapCode (code : Nat) : TapInstr :=
  match code with
  | 0x00 => .extest
  | 0x01 => .idcode
  | 0x02 => .samplePreload
  | 0x20 => .dbgChal
  | 0x21 => .dbgToken
  | 0x22 => .dbgAccess
  | _ => .bypass

/-- The instruction selected: BYPASS where it is not available in the state (Table 19.6a). -/
def State.tapPick (s : State) (i : TapInstr) : TapInstr :=
  match i with
  | .idcode | .bypass => i
  | .dbgAccess => if s.dbgScope = 0 ∨ s.lcState = 15 then .bypass else i
  | .extest | .samplePreload | .dbgChal | .dbgToken => if s.lcState = 15 then .bypass else i

/-- Select an instruction; the device resets as RST_CTRL.WARM does where it replaces EXTEST (R425). -/
def State.tapSelect (s : State) (i : TapInstr) : State :=
  let j := s.tapPick i
  let s1 := if s.lc.tap.instr = .extest ∧ j ≠ .extest then s.warm false 2 else s
  { s1 with lc := { s1.lc with tap := { s1.lc.tap with instr := j } } }

/-- What the next Capture-DR returns. -/
def State.setDr (s : State) (n : Nat) : State :=
  { s with
    lc := { s.lc with tap := { s.lc.tap with dr := n } }
    lastRead := BitVec.ofNat 32 n }

/-- The IDCODE (R424). -/
def idcodeValue : Nat := 1 + Config.manufacturer.toNat * 2 + 0x3280 * 4096 + Config.revision.toNat * 2 ^ 28

/-- TAP_RESET (R424): Test-Logic-Reset, with IDCODE selected. -/
def execTapReset (s : State) : Host.Outcome State Fault Refusal := .next (s.tapSelect .idcode)

/-- IDCODE (R424). -/
def execIdcode (s : State) : Host.Outcome State Fault Refusal := .next ((s.tapSelect .idcode).setDr idcodeValue)

/-- BYPASS (R424). -/
def execBypass (s : State) : Host.Outcome State Fault Refusal := .next ((s.tapSelect .bypass).setDr 0)

/-- EXTEST (R425): the boundary register drives the outputs. -/
def execExtest (bits : List Bool) (s : State) : Host.Outcome State Fault Refusal :=
  let s1 := s.tapSelect .extest
  .next (if s1.lc.tap.instr = .extest then { s1 with lc := { s1.lc with tap := { s1.lc.tap with boundary := bits } } } else s1)

/-- EXTEST_EXIT (R425): the instruction that a code names replaces EXTEST. -/
def execExtestExit (code : Nat) (s : State) : Host.Outcome State Fault Refusal :=
  .next (if s.lc.tap.instr = .extest then s.tapSelect (tapCode code) else s)

/-- SAMPLE_PRELOAD (R424). -/
def execSamplePreload (sampled preload : List Bool) (s : State) : Host.Outcome State Fault Refusal :=
  let s1 := s.tapSelect .samplePreload
  .next (if s1.lc.tap.instr = .samplePreload then
    { s1 with lc := { s1.lc with tap := { s1.lc.tap with
      sampled := sampled
      boundary := preload } } }
  else s1)

/-- DBG_CHAL (R424): 256 bits of LC_CHALLENGE, byte 0 lowest. -/
def execDbgChal (s : State) : Host.Outcome State Fault Refusal :=
  let s1 := s.tapSelect .dbgChal
  .next (if s1.lc.tap.instr = .dbgChal then
    s1.setDr (sumN ((List.range 8).map fun k => s1.rd .LC_CHALLENGE k * 2 ^ (32 * k))) else s1.setDr 0)

/-- DBG_TOKEN (R417): Update-DR starts a token check. -/
def execDbgToken (bytes : List Byte) (s : State) : Host.Outcome State Fault Refusal :=
  let s1 := s.tapSelect .dbgToken
  .next (if s1.lc.tap.instr = .dbgToken then s1.lcRun fun s => s.lcToken (bytesAt bytes 0 192) else s1)

end Sys2Proof.Machine
end

