-- ==== Sys2Proof/Machine/Operands.lean ====
section
/-!
DEFINITION. The one operand form of the block that has to be decoded: the offset of a register access, to the entry of the
register map it names (ch. 20). Every other operand of a command is a plain number or value.
-/

namespace Sys2Proof.Machine

/-! ### Decoding (R428, R429) -/

/-- The entry of a row at an offset of its block, and whether it is the high word of a 64-bit register. -/
def RegRow.hit (w : RegRow) (o : Nat) : Option (Nat × Bool) :=
  if o < w.ofs then none
  else
    let d := o - w.ofs
    let outer := if w.stride = 0 then 0 else d / w.stride
    let e := if w.stride = 0 then d else d % w.stride
    let k := e / w.innerStride
    if w.count ≤ outer ∨ e % 4 ≠ 0 then none
    else if w.wide then (if e = 0 then some (outer, false) else if e = 4 then some (outer, true) else none)
    else if w.inner = 1 then (if e = 0 then some (outer, false) else none)
    else if k < w.inner ∧ e = k * w.innerStride then some (outer * w.inner + k, false)
    else none

/-- The register entry at an offset of a block; none in reserved space (R14, R428). -/
def findReg (b : Block) (o : Nat) : Option (RegId × Nat × Bool) :=
  (Block.regs b).findSome? fun r => (r.row.hit o).map fun h => (r, h.1, h.2)

/-- The block of a conductor-space offset (Table 20.1). -/
def blockAt (o : Nat) : Option Block :=
  [Block.SYS, .BEAT, .MEM, .DMA, .PORT, .PIPE, .SVC, .TIME, .NET, .TIE, .PROC, .SER, .CHK, .HOST, .LC][o / 65536 % 16]?

/-- The register entry at an offset of the conductor space. Through network control the MSI-X table and pending-bit array are
reserved space (R429). -/
def conductorReg (p : Path) (o : Nat) : Option (RegId × Nat × Bool) :=
  match blockAt o with
  | none => none
  | some b => match findReg b (o % 65536) with
    | some (r, i, h) => if p = .netctl ∧ (r = .MSIX_PBA ∨ r = .MSIX_TABLE) then none else some (r, i, h)
    | none => none

/-- The register entry at an offset of the page of voice `v` (Table 20.16). -/
def pageReg (v o : Nat) : Option (RegId × Nat × Bool) :=
  match findReg .VW (o % 65536) with
  | some (.VW_DOORBELL, q, h) => if q < 16 then some (.VW_DOORBELL, v * 16 + q, h) else none
  | some (r, _, h) => some (r, v, h)
  | none => none

end Sys2Proof.Machine
end

