-- ==== Sys2Proof/Machine/Bus.lean ====
section
/-!
DEFINITION. Register accesses by PCI Express, network control and the debug port (ch. 20, R11 to R16, R94 to R119, R313,
R426 to R433), and the doorbells (R108).
-/

namespace Sys2Proof.Machine

/-! ### Doorbells (R108 to R110) -/

/-- A doorbell of the voice that a channel fetches by (Tables 6.3 and 6.4): a stopped channel is idle again, a halted one
looks at its command (R172). -/
def State.rungChan (s : State) (v q : Nat) (e : Elem) : State :=
  if e.voice ≠ v ∨ dmaRingQ e ≠ q ∨ s.isHalted v then s
  else
    let x := s.chan e.id
    match x.mode with
    | .stopped => s.setChan e.id { x with mode := .run }
    | .halted => s.setChan e.id { x with cmdLook := true }
    | .run | .fermata => s

/-- A write of INDEX to a doorbell (R108); one of a queue that does not exist is a violation (Table 4.4). -/
def State.doorbell (s : State) (p : Path) (v q w : Nat) : State :=
  let r := s.ring v q
  if !r.present then s.violate v (pathCode p) true 0 (0x1000 + 8 * q) 0
  else if !r.accepts w then s.setB .VW_QPOST v (16 + q)
  else
    let s1 := s.setRing v q (r.rung w)
    let s2 := if r.toDev then (s1.elems 0x0010).foldl (fun s e => s.rungChan v q e) s1 else s1
    let s3 := if q = 15 then s2.releasePost v 15 {} else s2
    s3.serDoorbell v q

/-- DOORBELL_WRITE (R108). -/
def execDoorbellWrite (p : Path) (voice queue : Nat) (v : Word) (s : State) : Host.Outcome State Fault Refusal :=
  .next (if queue < 16 then s.pageWrite p voice (0x1000 + 8 * queue) fun s => s.doorbell p voice queue v.toNat else s)

/-! ### Views -/

/-- The 32 bits of a map of voices: word `w`. -/
def voiceWord (p : Nat → Bool) (w : Nat) : Nat := sumN ((List.range 32).map fun b => if p (32 * w + b) then 2 ^ b else 0)

/-- Does a voice hold an operation in fermata (FERMATA_MAP)? -/
def State.inFermata (s : State) (v : Nat) : Bool :=
  (List.range 16).any (fun k => (s.slotOp v k).isSome) || s.trans.noSlot.any fun f => f.voice == v

/-- The extent that GRANT_SEL selects. -/
def State.grantSel (s : State) : Nat × Nat := ((s.grant (s.rdF .GRANT_SEL 0 9 0))[s.rdF .GRANT_SEL 0 18 16]?).getD (0, 0)

/-- The queue that a voice's VW_QSEL selects. -/
def State.qsel (s : State) (v : Nat) : Ring := s.ring v (s.rdF .VW_QSEL v 3 0)

/-- The slot of LC_KEY_SEL. -/
def State.keySel (s : State) : KeySlot := Tab.get {} s.lc.slots (s.rdF .LC_KEY_SEL 0 2 0)

/-- VW_ID (ch. 4). -/
def State.vwId (s : State) (v : Nat) : Nat :=
  let lap := match s.load.overlap with | some o => o.voices.contains v | none => false
  v + s.classOf v * 1024 + b2n (s.isHalted v) * 4096 + b2n (s.netctl v) * 8192 + b2n lap * 16384

/-- The value of a register entry: what it holds, or what the device computes at the read. -/
def State.view (s : State) (r : RegId) (i : Nat) : Nat :=
  match r with
  | .HALT_MAP => voiceWord s.isHalted i
  | .BEAT_TICK => if !s.tempo.isOpen then 0 else if s.tickNow < 4096 then s.tickNow else 8191
  | .WALK_STATUS => s.trans.walks.length + min 255 s.trans.misses.length * 256
  | .GRANT_BASE => s.grantSel.1
  | .GRANT_SIZE => s.grantSel.2
  | .FERMATA_MAP => voiceWord s.inFermata i
  | .CH_STATE => s.chState i
  | .DMA_STATUS => s.readsInFlight + s.blocksHeld * 2 ^ 9 + s.writesInFlight * 2 ^ 20
  | .GRP_ROW => Tab.get 0 s.align.rowCounter i % 2 ^ 32
  | .ENG_STATUS => s.engStatus i
  | .SRV_PENDING => s.svc.requests.length
  | .CLK_NS => s.clock.ns
  | .TXTS_STATUS => if i = 2 then s.agedTie.rd r i else s.rd r i
  | .CAP_S => match s.capFifo i with | c :: _ => c.stamp.sec | [] => 0
  | .CAP_NS => match s.capFifo i with | c :: _ => c.stamp.ns + 2 ^ 30 + b2n c.rising * 2 ^ 31 | [] => 0
  | .CAP_ENC => match s.capFifo i with | c :: _ => c.enc | [] => 0
  | .KEY_STATE => match s.netKey (s.rdF .KEY_SEL 0 9 0) with | some k => 1 + 2 * b2n k.owned | none => 0
  | .DBG_STATUS =>
    let t := s.lc.tap.instr
    s.dbgScope + b2n (t != .idcode && t != .bypass) * 4 + b2n (t == .extest) * 8
  | .LC_KEY_INFO =>
    let k := s.keySel
    b2n k.programmed + b2n k.revoked * 2 + k.usage * 16 + b2n (decide (s.rdF .LC_KEY_SEL 0 2 0 < 2)) * 256
  | .LC_KEY_Q => leAt s.keySel.key (4 * i) 4
  | .VW_ID => s.vwId i
  | .VW_SCORE_GEN => s.rd .SCORE_GEN 0
  | .VW_BEAT => s.rd .BEAT_NUM 0
  | .VW_BEAT_TIME_S => s.rd .BEAT_TIME_S 0
  | .VW_BEAT_TIME_NS => s.rd .BEAT_TIME_NS 0
  | .VW_SEGUE_BEAT => match s.load.pend with
    | some c => if c.named.contains i then c.commit else 2 ^ 64 - 1
    | none => 2 ^ 64 - 1
  | .VW_QBASE => (s.qsel i).base
  | .VW_QCFG => (s.qsel i).log2 + b2n (s.qsel i).toDev * 32 + b2n (s.qsel i).msix * 64
  | .VW_QPROD => (s.qsel i).prod
  | .VW_QCONS => (s.qsel i).cons
  | .VW_FAULT_PEND => s.faultPend i
  | _ => s.rd r i

/-- The epoch fields that show EPOCH_TAB's value whatever gates their register (R432). -/
def State.withEpoch (s : State) (r : RegId) (i n : Nat) : Nat :=
  match r with
  | .P_STATUS => setFld 15 8 (s.rdF .EPOCH_TAB i 7 0) n
  | .PIPE_STATUS => setFld 15 8 (s.rdF .EPOCH_TAB (32 + i) 7 0) n
  | .HOST_LINK => setFld 23 16 (s.rdF .EPOCH_TAB 51 7 0) n
  | _ => n

/-- What a read finds in a register entry: its reset value where the entry is gated (R432). -/
def State.look (s : State) (r : RegId) (i : Nat) : Nat :=
  s.withEpoch r i (if s.gated r i then r.resetValue i else s.view r i)

/-- Is a bit set in an entry, as a read finds it? -/
def State.seen (s : State) (r : RegId) (i k : Nat) : Bool := bit k (s.look r i)

/-- SYS_EVT (Table 20.2). -/
def State.sysEvt (s : State) : Nat :=
  let any (r : RegId) (n k : Nat) : Bool := (List.range n).any fun i => s.seen r i k
  let caps := (List.range 8).any fun k => s.look .CAP_STATUS k % 32 != 0 && s.seen .CAP_CFG k 2
  b2n (s.seen .LOAD_STATUS 0 16 || s.seen .LOAD_STATUS 0 18)
    + b2n (s.seen .VIOL_INFO 0 15 && s.seen .VIOL_CTRL 0 0) * 2
    + b2n (s.look .ECC_UE_CNT 0 != 0) * 4
    + b2n (any .P_STATUS 32 16) * 8
    + b2n (s.seen .SERVO_STATUS 0 8 || caps) * 16
    + b2n (any .NET_STATUS 2 8) * 32
    + b2n (s.seen .TIE_STATUS 0 8 || s.seen .TIE_STATUS 0 9 || s.seen .TIE_STATUS 0 10) * 64
    + b2n (s.seen .PROC_STATUS 0 1 || any .EXC_STATUS 4 16 || any .CH_FLAGS 16 8) * 128
    + b2n (s.seen .CLK_STATUS 0 8) * 256
    + b2n (s.seen .LC_STATUS 0 8) * 512

/-! ### Reads -/

/-- A read of a register entry that is open: CLK_NS latches the clock (R273), a check channel answers its result (R370), and
any other register its fields, of which RC ones are cleared (R11, R13, R431). -/
def State.regRead (s : State) (r : RegId) (i : Nat) (high : Bool) : State × Nat :=
  match r with
  | .CLK_NS => s.readClkNs
  | .VW_CHK_DATA => s.chkRead i
  | .SYS_EVT => (s, s.sysEvt)
  | _ => s.wordRead r i (s.look r i) high

/-- The registers that show the queue a selector names (Table 4.4). -/
def bySelector (r : RegId) : Bool := r == .VW_QBASE || r == .VW_QCFG || r == .VW_QPROD || r == .VW_QCONS

/-- A read of the conductor space at an offset. A gated entry gives its reset value (R432). -/
def State.conductorRead (s : State) (p : Path) (o : Nat) : State × Nat :=
  match conductorReg p o with
  | none => (s, 0)
  | some (r, i, h) =>
    if s.entryOpen p r i then s.regRead r i h
    else
      let n := if s.regOpen p .AON || s.gated r i then readFields r.row.fields (s.withEpoch r i (r.resetValue i)) else 0
      (s, if h then n / 2 ^ 32 else n % 2 ^ 32)

/-- Is an access at an offset of a declared voice's page a violation: one that its selectors or a doorbell lead to a queue
that does not exist (Table 4.4)? -/
def State.pageViol (s : State) (v : Nat) (r : RegId) (i : Nat) : Bool :=
  (bySelector r && !(s.qsel v).present) || (r == .VW_DOORBELL && !(s.ring v (i % 16)).present)

/-- A read of a voice's page at an offset (R99, R115). -/
def State.pageRead (s : State) (p : Path) (v o : Nat) : State × Nat :=
  if p == .debug || !s.domUp .FABRIC || 1024 ≤ v then (s, 0)
  else if !s.declared v then (s.violate v (pathCode p) false 0 o 0, 0)
  else match pageReg v o with
    | none => (s, 0)
    | some (r, i, h) =>
      if s.pageViol v r i then (s.violate v (pathCode p) false 0 o 0, 0) else s.regRead r i h

/-- A register read by a path (R429). -/
def State.busRead (s : State) (p : Path) (sp : Space) (o : Nat) : State × Nat :=
  match sp with
  | .conductor => s.conductorRead p o
  | .page v => s.pageRead p v o

/-! ### Writes -/

/-- A write of one word of a conductor register that is open: what the register does with it, or its fields by their access
codes. -/
def State.conductorStore (s : State) (r : RegId) (i : Nat) (high : Bool) (w : Nat) : State :=
  match r with
  | .RST_CTRL => s.rstCtrl w
  | .PWR_CTRL => s.pwrCtrl w
  | .BLK_CTRL => s.blkCtrl w
  | .LOAD_CTRL => s.loadCtrl w
  | .VOICE_HALT => if w % 1024 = 0 then s else s.haltVoice (w % 1024)
  | .VIOL_INFO => s.violClear w
  | .P_CCI_CMD => s.cciCmd i w
  | .INCR_BASE => s.incrBase w
  | .STEP_NS => s.stepClock (sext 32 w)
  | .SET_CTRL => s.setClock w
  | .CUE_ARM_NS => s.armCue i w
  | .CAP_POP => s.popCap i w
  | .ALERT_CTRL | .ALERT_PORT => (s.fieldWrite r i w).alertPump
  | .ALERT_RAISE => s.alertRaise w
  | .ALERT_CLR => s.alertClear w
  | .KEY_DATA => s.keyData i w
  | .MOD_CMD => s.modCmd i w
  | .LC_CMD => s.lcCmd w
  | .MSIX_TABLE =>
    let s1 := s.fieldWrite r i w
    if i % 4 = 3 ∧ !bit 0 w then s1.unmaskVector (i / 4) else s1
  | _ => s.wordWrite r i high w

/-- A write to the conductor space at an offset. -/
def State.conductorWrite (s : State) (p : Path) (o w : Nat) : State :=
  match conductorReg p o with
  | none => s
  | some (r, i, h) => if s.entryOpen p r i then s.conductorStore r i h w else s

/-- A write of one word of a voice's page register. -/
def State.pageRegWrite (s : State) (p : Path) (v : Nat) (r : RegId) (i : Nat) (high : Bool) (w : Nat) : State :=
  match r with
  | .VW_IRQ_MASK => s.maskWrite v w
  | .VW_PTROOT => if high then s.wordWrite r v true w else s.ptroot v w
  | .VW_TLB_INV => s.tlbInv v w
  | .VW_FAULT_RESUME => s.faultDecision v (fld 3 0 w) (fld 7 4 w) (fld 9 8 w)
  | .VW_CHK_CTRL => s.chkCtrl v w
  | .VW_CHK_DATA => s.chkFeed v w
  | .VW_DOORBELL => if high then s else s.doorbell p v (i % 16) w
  | _ => s.wordWrite r v high w

/-- A write to a voice's page at an offset (R99, R115). -/
def State.pageStore (s : State) (p : Path) (v o w : Nat) : State :=
  s.pageWrite p v o fun s =>
    match pageReg v o with
    | none => s
    | some (r, i, h) => if s.pageViol v r i then s.violate v (pathCode p) true 0 o 0 else s.pageRegWrite p v r i h w

/-- A register write by a path (R429). -/
def State.busWrite (s : State) (p : Path) (sp : Space) (o w : Nat) : State :=
  match sp with
  | .conductor => s.conductorWrite p o w
  | .page v => s.pageStore p v o w

/-- REGISTER_WRITE (R11). -/
def execRegisterWrite (p : Path) (sp : Space) (ofs : Nat) (v : Word) (s : State) : Host.Outcome State Fault Refusal :=
  .next (s.busWrite p sp ofs v.toNat)

/-- A read by a command: its value is kept as the last read. -/
def State.readBy (s : State) (p : Path) (sp : Space) (o : Nat) : State :=
  let (t, n) := s.busRead p sp o
  { t with lastRead := BitVec.ofNat 32 n }

/-- REGISTER_READ_CLEAR (R11, R431). -/
def execRegisterReadClear (p : Path) (sp : Space) (ofs : Nat) (s : State) : Host.Outcome State Fault Refusal :=
  .next (s.readBy p sp ofs)

/-- WIDE_REGISTER_LOW_READ (R13). -/
def execWideRegisterLowRead (p : Path) (sp : Space) (ofs : Nat) (s : State) : Host.Outcome State Fault Refusal :=
  .next (s.readBy p sp ofs)

/-! ### Control messages (R313) -/

/-- Is a REGS entry well formed: a multiple of 4 in [19:0], SPACE, WRITE and no other bit? -/
def regsEntryOk (a : Nat) : Bool := a % 4 == 0 && a / 2 ^ 26 == 0 && fld 23 20 a == 0

/-- One entry of a REGS message: an access of the acting voice; a voice other than 0 that names the conductor space violates
(Table 4.4). Answers the DATA of the reply: for a violating write the value written (R313), though Table 4.4 says that the
reply carries 0 (DESIGN CHOICE, log entry 105). -/
def State.regsEntry (s : State) (v a d : Nat) : State × Nat :=
  let o := fld 19 0 a
  if bit 24 a ∧ v ≠ 0 then (s.violate v 1 (bit 25 a) 0 o 0, if bit 25 a then d else 0)
  else
    let sp := if bit 24 a then Space.conductor else .page v
    let q := if bit 24 a then o else o % 65536
    if !bit 24 a ∧ 65536 ≤ o then (s, if bit 25 a then d else 0)
    else if bit 25 a then (s.busWrite .netctl sp q d, d) else s.busRead .netctl sp q

/-- The entries of a REGS message, in order. Answers the entries of the reply. -/
def State.regsRun (s : State) (v : Nat) (b : List Byte) : Nat → State × List Byte
  | 0 => (s, [])
  | n + 1 =>
    let a := leAt b 0 4
    let (s1, d) := s.regsEntry v a (leAt b 4 4)
    let (s2, l) := s1.regsRun v (b.drop 8) n
    (s2, toLe 4 a ++ toLe 4 d ++ l)

/-- The entries of a REGS message that names a flow of another voice: reads give 0 and writes do nothing (Table 4.4). -/
def deniedRun (b : List Byte) : Nat → List Byte
  | 0 => []
  | n + 1 =>
    let a := leAt b 0 4
    toLe 4 a ++ toLe 4 (if bit 25 a then leAt b 4 4 else 0) ++ deniedRun (b.drop 8) n

/-- Does a REGS message write? -/
def regsWrites (b : List Byte) (n : Nat) : Bool := (List.range n).any fun k => bit 25 (leAt b (4 + 8 * k) 4)

/-- Does the header of a message name a flow of another voice (Table 4.4)? -/
def State.foreignFlow (s : State) (v : Nat) (b : List Byte) : Bool :=
  match s.elem 0x0011 (leAt b 6 2) with
  | some e => e.voice != v
  | none => false

/-- A message that names a flow of another voice violates, once, by PATH 9; what VIOL_VA then holds, Table 4.6 does not say: a
free value (log entry 97). -/
def State.flowViolation (s : State) (v : Nat) (write : Bool) (b : List Byte) : State :=
  let (n, t) := s.freeUse
  t.violate v 9 write (leAt b 6 2) (Config.undefined n).toNat 0

/-- The number of entries of a REGS body; none where its form is another. -/
def regsCount (b : List Byte) : Option Nat :=
  let n := leAt b 1 1
  if leAt b 0 1 = 1 ∧ leAt b 2 2 = 0 ∧ 1 ≤ n ∧ n ≤ 32 ∧ b.length = 4 + 8 * n ∧
    (List.range n).all (fun k => regsEntryOk (leAt b (4 + 8 * k) 4)) then some n else none

/-- Is a body a SETKEY? -/
def isSetkey (b : List Byte) : Bool := leAt b 0 1 == 2 && leAt b 1 1 == 0 && leAt b 2 2 == 0 && b.length == 20

/-- A CONTROL message that arrives on an uplink (R95, R304, R305, R313). -/
def State.control (s : State) (u : Nat) (m : ControlMsg) : State :=
  match s.ysfAccept u 3 m with
  | (s1, none) => s1
  | (s1, some v) =>
    let b := ysfBody m.bytes
    match regsCount b with
    | some n =>
      if s1.foreignFlow v m.bytes then (s1.flowViolation v (regsWrites b n) m.bytes).controlReply u m v (deniedRun (b.drop 4) n)
      else
        let (s2, l) := s1.regsRun v (b.drop 4) n
        s2.controlReply u m v l
    | none =>
      if !isSetkey b then s1.bump .RX_OTHER u
      else (if s1.foreignFlow v m.bytes then s1.flowViolation v true m.bytes else s1.installKey v (b.drop 4) true).controlReply u m
        v []

/-- CONTROL_REGS (R313). -/
def execControlRegs (uplink : Nat) (m : ControlMsg) (s : State) : Host.Outcome State Fault Refusal :=
  .next (s.control uplink m)

/-- CONTROL_SETKEY (R305, R313). -/
def execControlSetkey (uplink : Nat) (m : ControlMsg) (s : State) : Host.Outcome State Fault Refusal :=
  .next (s.control uplink m)

/-! ### DBG_ACCESS (R426, R427) -/

/-- An access of the debug port to memory, at scope 2: data and ERR. -/
def State.dbgMemory (s : State) (a : Nat) (write : Bool) (d : Nat) : State × Nat × Bool :=
  if s.deadAddr a then
    let s1 := s.eccResult .hostError a
    if write then (s1, 0, false) else (s1.freeUse.2, (Config.undefined s1.fresh).toNat % 2 ^ 32, false)
  else if write then (s.writePhys a (toLe 4 d), 0, false)
  else (s, leNat (s.readPhys a 4), false)

/-- An access of the debug port to a register of the conductor space. -/
def State.dbgRegister (s : State) (o : Nat) (write : Bool) (d : Nat) : State × Nat × Bool :=
  if write then (s.busWrite .debug .conductor o d, 0, false)
  else
    let (t, n) := s.busRead .debug .conductor o
    (t, n, false)

/-- One access of the debug port at its scope. -/
def State.dbgAccess (s : State) (a : Nat) (write : Bool) (d : Nat) : State × Nat × Bool :=
  if s.region a = .regSpace ∧ s.dbgScope ≠ 0 then s.dbgRegister (a - 0x100000000) write d
  else if s.dbgScope = 2 ∧ s.region a ≠ .nothing ∧ s.domUp .FABRIC then s.dbgMemory a write d
  else (s, 0, true)

/-- DBG_ACCESS (R426): one aligned access; the next Capture-DR returns its data in [31:0] and ERR in [73]. In a state where it
is not available it selects BYPASS. -/
def execDbgAccess (addr : Nat) (write : Bool) (data : Word) (s : State) : Host.Outcome State Fault Refusal :=
  let s1 := s.tapSelect .dbgAccess
  if s1.lc.tap.instr != .dbgAccess then .next s1
  else
    let (s2, n, err) := s1.dbgAccess (addr % 2 ^ 40 / 4 * 4) write data.toNat
    .next (s2.setDr (n + b2n err * 2 ^ 73))

end Sys2Proof.Machine
end

