-- ==== Sys2Proof/Machine/Dispatch.lean ====
section
/-!
DEFINITION. One arm per command: the meaning each calls.
-/

namespace Sys2Proof.Machine

def exec (i : Instr) (s : State) : Host.Outcome State Fault Refusal :=
  match i with
  | .registerWrite p sp ofs v => Sys2Proof.Machine.execRegisterWrite p sp ofs v s
  | .registerReadClear p sp ofs => Sys2Proof.Machine.execRegisterReadClear p sp ofs s
  | .wideRegisterLowRead p sp ofs => Sys2Proof.Machine.execWideRegisterLowRead p sp ofs s
  | .timerPeriodExpiry => Sys2Proof.Machine.execTimerPeriodExpiry s
  | .beatinEdge v => Sys2Proof.Machine.execBeatinEdge v s
  | .deferredBarlineRelease => Sys2Proof.Machine.execDeferredBarlineRelease s
  | .idleBarline => Sys2Proof.Machine.execIdleBarline s
  | .slotTableStart => Sys2Proof.Machine.execSlotTableStart s
  | .slotStart engine voice => Sys2Proof.Machine.execSlotStart engine voice s
  | .shortfallCheck unserved served hostUnserved => Sys2Proof.Machine.execShortfallCheck unserved served hostUnserved s
  | .loadGo p v => Sys2Proof.Machine.execLoadGo p v s
  | .loadCancel p v => Sys2Proof.Machine.execLoadCancel p v s
  | .admissionEnd => Sys2Proof.Machine.execAdmissionEnd s
  | .fullLoadApply => Sys2Proof.Machine.execFullLoadApply s
  | .fullLoadCommit => Sys2Proof.Machine.execFullLoadCommit s
  | .voiceHalt p v => Sys2Proof.Machine.execVoiceHalt p v s
  | .controlRegs uplink m => Sys2Proof.Machine.execControlRegs uplink m s
  | .controlSetkey uplink m => Sys2Proof.Machine.execControlSetkey uplink m s
  | .doorbellWrite p voice queue v => Sys2Proof.Machine.execDoorbellWrite p voice queue v s
  | .queuePostRelease q m => Sys2Proof.Machine.execQueuePostRelease q m s
  | .vwIrqMaskWrite p voice v => Sys2Proof.Machine.execVwIrqMaskWrite p voice v s
  | .violInfoClear p v => Sys2Proof.Machine.execViolInfoClear p v s
  | .walkStart => Sys2Proof.Machine.execWalkStart s
  | .walkComplete k r => Sys2Proof.Machine.execWalkComplete k r s
  | .faultSlotTake voice => Sys2Proof.Machine.execFaultSlotTake voice s
  | .faultRetry p voice slot tag => Sys2Proof.Machine.execFaultRetry p voice slot tag s
  | .faultSkip p voice slot tag => Sys2Proof.Machine.execFaultSkip p voice slot tag s
  | .faultAbort p voice slot tag => Sys2Proof.Machine.execFaultAbort p voice slot tag s
  | .tlbInvalidate p voice v => Sys2Proof.Machine.execTlbInvalidate p voice v s
  | .invalidationComplete voice => Sys2Proof.Machine.execInvalidationComplete voice s
  | .ptrootWrite p voice v => Sys2Proof.Machine.execPtrootWrite p voice v s
  | .scrubPass lpddr corrected uncorrectable => Sys2Proof.Machine.execScrubPass lpddr corrected uncorrectable s
  | .refmultPoll mult derated => Sys2Proof.Machine.execRefmultPoll mult derated s
  | .descriptorFetchReturn ch m => Sys2Proof.Machine.execDescriptorFetchReturn ch m s
  | .readBurstIssue ch rest => Sys2Proof.Machine.execReadBurstIssue ch rest s
  | .readBurstReturn ch r => Sys2Proof.Machine.execReadBurstReturn ch r s
  | .writeBurstIssue ch rest => Sys2Proof.Machine.execWriteBurstIssue ch rest s
  | .writeBurstAck ch r => Sys2Proof.Machine.execWriteBurstAck ch r s
  | .eventLineWaitEnd ch => Sys2Proof.Machine.execEventLineWaitEnd ch s
  | .dmaCmdResume ch => Sys2Proof.Machine.execDmaCmdResume ch s
  | .dmaCmdAbort ch => Sys2Proof.Machine.execDmaCmdAbort ch s
  | .outboundCompletionTimeout ch => Sys2Proof.Machine.execOutboundCompletionTimeout ch s
  | .staleReplyDiscard epochIndex => Sys2Proof.Machine.execStaleReplyDiscard epochIndex s
  | .frameStart port link vc p => Sys2Proof.Machine.execFrameStart port link vc p s
  | .frameEnd port link vc p => Sys2Proof.Machine.execFrameEnd port link vc p s
  | .longPacketReceive k => Sys2Proof.Machine.execLongPacketReceive k s
  | .linkLost port link => Sys2Proof.Machine.execLinkLost port link s
  | .cciWriteEnd port r => Sys2Proof.Machine.execCciWriteEnd port r s
  | .cciStretchTimeout port => Sys2Proof.Machine.execCciStretchTimeout port s
  | .cciDirectWrite p port v => Sys2Proof.Machine.execCciDirectWrite p port v s
  | .cciDirectRead p port v => Sys2Proof.Machine.execCciDirectRead p port v s
  | .cciDirectStart port => Sys2Proof.Machine.execCciDirectStart port s
  | .cciDirectEnd port r data => Sys2Proof.Machine.execCciDirectEnd port r data s
  | .pipeLineTake pipe => Sys2Proof.Machine.execPipeLineTake pipe s
  | .pipeLineEmit stream => Sys2Proof.Machine.execPipeLineEmit stream s
  | .windowCut window => Sys2Proof.Machine.execWindowCut window s
  | .statsRecordCompute stream => Sys2Proof.Machine.execStatsRecordCompute stream s
  | .tileStageEnd inst tile m => Sys2Proof.Machine.execTileStageEnd inst tile m s
  | .tileStart engine => Sys2Proof.Machine.execTileStart engine s
  | .tileEnd engine => Sys2Proof.Machine.execTileEnd engine s
  | .imageRequest uplink m => Sys2Proof.Machine.execImageRequest uplink m s
  | .serverRequestServe voice m => Sys2Proof.Machine.execServerRequestServe voice m s
  | .arpRequest uplink h ip target => Sys2Proof.Machine.execArpRequest uplink h ip target s
  | .icmpEchoRequest uplink h ip ident seqNum data => Sys2Proof.Machine.execIcmpEchoRequest uplink h ip ident seqNum data s
  | .frameDrop uplink f => Sys2Proof.Machine.execFrameDrop uplink f s
  | .clkNsRead p => Sys2Proof.Machine.execClkNsRead p s
  | .incrBaseWrite p v => Sys2Proof.Machine.execIncrBaseWrite p v s
  | .clockSet p v => Sys2Proof.Machine.execClockSet p v s
  | .clockStep p v => Sys2Proof.Machine.execClockStep p v s
  | .nsRollover => Sys2Proof.Machine.execNsRollover s
  | .ptpSyncRx m => Sys2Proof.Machine.execPtpSyncRx m s
  | .ptpFollowUpRx m => Sys2Proof.Machine.execPtpFollowUpRx m s
  | .ptpDelayReqTx uplink => Sys2Proof.Machine.execPtpDelayReqTx uplink s
  | .ptpDelayRespRx m => Sys2Proof.Machine.execPtpDelayRespRx m s
  | .delayReqTimeout uplink => Sys2Proof.Machine.execDelayReqTimeout uplink s
  | .ptpSyncTx uplink => Sys2Proof.Machine.execPtpSyncTx uplink s
  | .ptpAnnounceTx uplink => Sys2Proof.Machine.execPtpAnnounceTx uplink s
  | .ptpAnnounceRx uplink a => Sys2Proof.Machine.execPtpAnnounceRx uplink a s
  | .ptpDelayReqRx m => Sys2Proof.Machine.execPtpDelayReqRx m s
  | .ptpHeldMessageSend queue => Sys2Proof.Machine.execPtpHeldMessageSend queue s
  | .servoSyncTimeout => Sys2Proof.Machine.execServoSyncTimeout s
  | .ptpAnnounceTimeout => Sys2Proof.Machine.execPtpAnnounceTimeout s
  | .servoBlockEnd => Sys2Proof.Machine.execServoBlockEnd s
  | .cueLeadingEdge cue => Sys2Proof.Machine.execCueLeadingEdge cue s
  | .cueTrailingEdge cue => Sys2Proof.Machine.execCueTrailingEdge cue s
  | .cueArm p cue v => Sys2Proof.Machine.execCueArm p cue v s
  | .captureEdge k v => Sys2Proof.Machine.execCaptureEdge k v s
  | .capturePop p k v => Sys2Proof.Machine.execCapturePop p k v s
  | .uplinkUp uplink => Sys2Proof.Machine.execUplinkUp uplink s
  | .uplinkDown uplink modAbs los txFault => Sys2Proof.Machine.execUplinkDown uplink modAbs los txFault s
  | .uplinkRetrain uplink errors => Sys2Proof.Machine.execUplinkRetrain uplink errors s
  | .retrainEnd uplink => Sys2Proof.Machine.execRetrainEnd uplink s
  | .keyInstall p v => Sys2Proof.Machine.execKeyInstall p v s
  | .moduleRead p uplink v r data => Sys2Proof.Machine.execModuleRead p uplink v r data s
  | .moduleWrite p uplink v r => Sys2Proof.Machine.execModuleWrite p uplink v r s
  | .flowFrameReady flow => Sys2Proof.Machine.execFlowFrameReady flow s
  | .frameTxEnd uplink => Sys2Proof.Machine.execFrameTxEnd uplink s
  | .alertRaise p v => Sys2Proof.Machine.execAlertRaise p v s
  | .alertClr p v => Sys2Proof.Machine.execAlertClr p v s
  | .tieConfigRx h c => Sys2Proof.Machine.execTieConfigRx h c s
  | .tieBarlineRx h b => Sys2Proof.Machine.execTieBarlineRx h b s
  | .tieHeartbeatRx h b => Sys2Proof.Machine.execTieHeartbeatRx h b s
  | .tieHeartbeatTx => Sys2Proof.Machine.execTieHeartbeatTx s
  | .tieHeartbeatMiss => Sys2Proof.Machine.execTieHeartbeatMiss s
  | .tieLaneLock => Sys2Proof.Machine.execTieLaneLock s
  | .tieLaneLockLoss => Sys2Proof.Machine.execTieLaneLockLoss s
  | .tieFormingTimeout => Sys2Proof.Machine.execTieFormingTimeout s
  | .tieTimeSyncTx => Sys2Proof.Machine.execTieTimeSyncTx s
  | .tieTimeFupRx h t1 => Sys2Proof.Machine.execTieTimeFupRx h t1 s
  | .tieTimeDreqRx h => Sys2Proof.Machine.execTieTimeDreqRx h s
  | .tieTimeDrespRx h t4 => Sys2Proof.Machine.execTieTimeDrespRx h t4 s
  | .tieTimeSyncRx h => Sys2Proof.Machine.execTieTimeSyncRx h s
  | .tieLinesRx h l => Sys2Proof.Machine.execTieLinesRx h l s
  | .tieFwdRx h uplink bytes => Sys2Proof.Machine.execTieFwdRx h uplink bytes s
  | .tieAlertRx h bytes => Sys2Proof.Machine.execTieAlertRx h bytes s
  | .tieAckRx h => Sys2Proof.Machine.execTieAckRx h s
  | .tieResend => Sys2Proof.Machine.execTieResend s
  | .procSample ch code => Sys2Proof.Machine.execProcSample ch code s
  | .excFault out overCurrent senseLow => Sys2Proof.Machine.execExcFault out overCurrent senseLow s
  | .excRampEnd out => Sys2Proof.Machine.execExcRampEnd out s
  | .refMonitor deviation => Sys2Proof.Machine.execRefMonitor deviation s
  | .encoderCount k v held => Sys2Proof.Machine.execEncoderCount k v held s
  | .encoderIndex z => Sys2Proof.Machine.execEncoderIndex z s
  | .encCfgWrite p k v => Sys2Proof.Machine.execEncCfgWrite p k v s
  | .serialAreaPoll port => Sys2Proof.Machine.execSerialAreaPoll port s
  | .serialNotifyPost port => Sys2Proof.Machine.execSerialNotifyPost port s
  | .serialTxStart port => Sys2Proof.Machine.execSerialTxStart port s
  | .serialTxCharEnd port => Sys2Proof.Machine.execSerialTxCharEnd port s
  | .serialDeTailEnd port => Sys2Proof.Machine.execSerialDeTailEnd port s
  | .serialStartEdge v => Sys2Proof.Machine.execSerialStartEdge v s
  | .serialRxCharEnd port w => Sys2Proof.Machine.execSerialRxCharEnd port w s
  | .serialRxIdle port => Sys2Proof.Machine.execSerialRxIdle port s
  | .serialSleep port => Sys2Proof.Machine.execSerialSleep port s
  | .serialSleepEnter port => Sys2Proof.Machine.execSerialSleepEnter port s
  | .serialWakeEdge port => Sys2Proof.Machine.execSerialWakeEdge port s
  | .serialAddressMatch port w => Sys2Proof.Machine.execSerialAddressMatch port w s
  | .serialRollcall port => Sys2Proof.Machine.execSerialRollcall port s
  | .serialCancel port => Sys2Proof.Machine.execSerialCancel port s
  | .rollcallSlotEnd port answer => Sys2Proof.Machine.execRollcallSlotEnd port answer s
  | .linFrameDeadline port => Sys2Proof.Machine.execLinFrameDeadline port s
  | .linBreakDetect port b => Sys2Proof.Machine.execLinBreakDetect port b s
  | .checkFeed p voice v => Sys2Proof.Machine.execCheckFeed p voice v s
  | .checkRestart p voice v => Sys2Proof.Machine.execCheckRestart p voice v s
  | .inboundUnsupportedAccess q => Sys2Proof.Machine.execInboundUnsupportedAccess q s
  | .hostReset k => Sys2Proof.Machine.execHostReset k s
  | .msixUnmask vec => Sys2Proof.Machine.execMsixUnmask vec s
  | .powerOnReset b => Sys2Proof.Machine.execPowerOnReset b s
  | .brownout => Sys2Proof.Machine.execBrownout s
  | .refclkLost => Sys2Proof.Machine.execRefclkLost s
  | .pllUnlock pll => Sys2Proof.Machine.execPllUnlock pll s
  | .pllModUnlock => Sys2Proof.Machine.execPllModUnlock s
  | .resetPin => Sys2Proof.Machine.execResetPin s
  | .warmReset p v => Sys2Proof.Machine.execWarmReset p v s
  | .standby p v => Sys2Proof.Machine.execStandby p v s
  | .wakePin => Sys2Proof.Machine.execWakePin s
  | .blockReset p v => Sys2Proof.Machine.execBlockReset p v s
  | .blockOff p v => Sys2Proof.Machine.execBlockOff p v s
  | .blockOn p v => Sys2Proof.Machine.execBlockOn p v s
  | .blockResetDone => Sys2Proof.Machine.execBlockResetDone s
  | .sfdpReadEnd r => Sys2Proof.Machine.execSfdpReadEnd r s
  | .lcGetchal p => Sys2Proof.Machine.execLcGetchal p s
  | .lcToken p => Sys2Proof.Machine.execLcToken p s
  | .lcProgkey p v => Sys2Proof.Machine.execLcProgkey p v s
  | .lcRevoke p v => Sys2Proof.Machine.execLcRevoke p v s
  | .lcAdvance p v => Sys2Proof.Machine.execLcAdvance p v s
  | .lcRelock p => Sys2Proof.Machine.execLcRelock p s
  | .lcCommandDone => Sys2Proof.Machine.execLcCommandDone s
  | .lcEraseEnd => Sys2Proof.Machine.execLcEraseEnd s
  | .tapReset => Sys2Proof.Machine.execTapReset s
  | .idcode => Sys2Proof.Machine.execIdcode s
  | .extest bits => Sys2Proof.Machine.execExtest bits s
  | .extestExit code => Sys2Proof.Machine.execExtestExit code s
  | .samplePreload sampled preload => Sys2Proof.Machine.execSamplePreload sampled preload s
  | .dbgChal => Sys2Proof.Machine.execDbgChal s
  | .dbgToken bytes => Sys2Proof.Machine.execDbgToken bytes s
  | .dbgAccess addr write data => Sys2Proof.Machine.execDbgAccess addr write data s
  | .bypass => Sys2Proof.Machine.execBypass s
  | .hostLinkUp speed width msixEnable extTag => Sys2Proof.Machine.execHostLinkUp speed width msixEnable extTag s
  | .laneError e => Sys2Proof.Machine.execLaneError e s
  | .excFaultClear out => Sys2Proof.Machine.execExcFaultClear out s
  | .procSupplyLoss => Sys2Proof.Machine.execProcSupplyLoss s
  | .procSupplyReturn => Sys2Proof.Machine.execProcSupplyReturn s
  | .pllModRelock => Sys2Proof.Machine.execPllModRelock s
  | .clockResetRelease => Sys2Proof.Machine.execClockResetRelease s
  | .aerError k => Sys2Proof.Machine.execAerError k s

end Sys2Proof.Machine
end

