-- ==== Sys2Proof/Machine/Step.lean ====
section
/-!
DEFINITION. One step: the command at the front of the queue, or one tick of the clock where none waits.
-/

namespace Sys2Proof.Machine

/-- One TCLK passes with no command waiting; the clock runs while domain TIME is up (R271, R395; DESIGN CHOICE, log
entry 4). -/
def State.idle (s : State) : State := if s.domUp .TIME then s.ticks 1 else s

/-- Take the command at the front of the queue and run its meaning with the queue's rest. -/
def step (s : State) : Host.Outcome State Fault Refusal :=
  match s.pending with
  | [] => .next s.idle
  | c :: rest => exec c { s with pending := rest }

/-- `s` with the command that a word spells put at the front of its queue; no word spells one. -/
def State.withFetchWord (s : State) (nbits w : Nat) : State :=
  match decodeTableWord nbits w with
  | some c => { s with pending := c :: s.pending }
  | none => s

end Sys2Proof.Machine
end

