-- ==== Sys2Proof/Safety.lean ====
section
/-!
DEFINITION. What claims call safe: memory in its canonical form, a time of day, fuses that never go back, and a step that
does not stop.
-/

namespace Sys2Proof.Machine

/-- The canonical form of a memory: addresses strictly rising, and no entry equal to what an unlisted address reads as. -/
abbrev Memory.wf (m : List Host.Cell) : Bool := Tab.wf (0 : Byte) m

/-- Device memory, host memory and the boot flash have the canonical form. -/
def State.memOk (s : State) : Prop := Memory.wf s.mem ∧ Memory.wf s.hostMem ∧ Memory.wf s.flash

/-- The clock holds a time of day: seconds of 64 bits, nanoseconds below one second, a fraction below one nanosecond (R271). -/
abbrev State.clockOk (s : State) : Prop :=
  s.clock.sec < 18446744073709551616 ∧ s.clock.ns < 1000000000 ∧ s.clock.frac < 4294967296

/-- The commands that wait are commands the block can be sent. -/
def State.queueOk (s : State) : Prop := s.pending.all Instr.wf

/-- What holds of the machine at reset and after every step; between two commands no FCLK cycle is being done. -/
def State.Inv (s : State) : Prop := s.memOk ∧ s.clockOk ∧ s.queueOk ∧ s.cycle = none

/-- A key slot as it may become: one that is programmed keeps its key and usage and stays programmed, and once revoked stays
revoked (R414, R415). -/
def slotLater (a b : KeySlot) : Prop :=
  a.programmed = true → b.programmed = true ∧ b.usage = a.usage ∧ b.key = a.key ∧ (a.revoked = true → b.revoked = true)

/-- Each key slot of `t` is a later form of the one of `s`. -/
def State.fusesLater (s t : State) : Prop := ∀ k, slotLater (Tab.get {} s.lc.slots k) (Tab.get {} t.lc.slots k)

/-! ### What a command leaves as it was -/

/-- No register entry but those listed differs. -/
def State.onlyRegs (s t : State) (l : List (RegId × Nat)) : Prop := ∀ r i, (r, i) ∉ l → t.rd r i = s.rd r i

/-- The parts of the machine beside its registers and the queue of commands. The tempo engine counts as four: the bytes charged
this bar (`used`), the beats it keeps (`beat`), the targets of its source (`source`), and the rest. -/
inductive StatePart where
  | latch | stage | mem | hostMem | flash | clock | load | used
  | beat | source | tempo | queues | posts | trans | dma | arrivals | streams
  | ports | pipes | align | stats | locks | svc | cues | caps
  | servo | ptp | net | tie | proc | serial | checks | power
  | lc | ready | out | lastRead | fresh | cycle
  deriving DecidableEq, Repr

/-- A part is the same in both states. -/
def StatePart.same (s t : State) : StatePart → Prop
  | .latch => t.latch = s.latch
  | .stage => t.stage = s.stage
  | .mem => t.mem = s.mem
  | .hostMem => t.hostMem = s.hostMem
  | .flash => t.flash = s.flash
  | .clock => t.clock = s.clock
  | .load => t.load = s.load
  | .used => t.tempo.used = s.tempo.used
  | .beat => t.tempo.isOpen = s.tempo.isOpen ∧ t.tempo.last = s.tempo.last ∧ t.tempo.beats = s.tempo.beats
  | .source => t.tempo.target = s.tempo.target ∧ t.tempo.timerDue = s.tempo.timerDue
  | .tempo => t.tempo.held = s.tempo.held ∧ t.tempo.playing = s.tempo.playing ∧ t.tempo.judged = s.tempo.judged
  | .queues => t.queues = s.queues
  | .posts => t.posts = s.posts
  | .trans => t.trans = s.trans
  | .dma => t.dma = s.dma
  | .arrivals => t.arrivals = s.arrivals
  | .streams => t.streams = s.streams
  | .ports => t.ports = s.ports
  | .pipes => t.pipes = s.pipes
  | .align => t.align = s.align
  | .stats => t.stats = s.stats
  | .locks => t.locks = s.locks
  | .svc => t.svc = s.svc
  | .cues => t.cues = s.cues
  | .caps => t.caps = s.caps
  | .servo => t.servo = s.servo
  | .ptp => t.ptp = s.ptp
  | .net => t.net = s.net
  | .tie => t.tie = s.tie
  | .proc => t.proc = s.proc
  | .serial => t.serial = s.serial
  | .checks => t.checks = s.checks
  | .power => t.power = s.power
  | .lc => t.lc = s.lc
  | .ready => t.ready = s.ready
  | .out => t.out = s.out
  | .lastRead => t.lastRead = s.lastRead
  | .fresh => t.fresh = s.fresh
  | .cycle => t.cycle = s.cycle

/-- No register but those named differs. -/
def State.onlyNamed (s t : State) (l : List RegId) : Prop := ∀ r i, r ∉ l → t.rd r i = s.rd r i

/-- No part but those listed differs. -/
def State.onlyParts (s t : State) (l : List StatePart) : Prop := ∀ p, p ∉ l → p.same s t

/-- Every byte of device memory, of host memory and of the boot flash reads as before. -/
def State.sameBytes (s t : State) : Prop :=
  (∀ pa, t.readByte pa = s.readByte pa) ∧ (∀ a, Tab.get 0 t.hostMem a = Tab.get 0 s.hostMem a) ∧
    ∀ a, Tab.get 0 t.flash a = Tab.get 0 s.flash a

/-- Nothing differs but the register entries and the parts listed, and every byte of memory reads as before. -/
def State.frame (s t : State) (l : List (RegId × Nat)) (ps : List StatePart) : Prop :=
  s.onlyRegs t l ∧ s.onlyParts t ps ∧ s.sameBytes t

/-! ### What a command does -/

/-- The command goes on, to a state with the property. -/
def Gives (c : Instr) (s : State) (post : State → Prop) : Prop := ∃ t, exec c s = .next t ∧ post t

/-- A step that neither faults nor refuses. -/
def State.goesOn (s : State) : Prop := ∃ t, step s = .next t

/-! ### Words of the statements -/

/-- The clock's range: 2^64 seconds in 2^-32 ns. -/
def clockRange : Nat := 2 ^ 64 * 1000000000 * 2 ^ 32

/-- The frequency correction in effect, in ppb: none in FREE. -/
def State.correction (s : State) : Int := if s.rdF .SERVO_STATUS 0 2 0 = 0 then 0 else s.servo.y


/-- A saturating 32-bit counter went up by one, or stays at all ones (R16). -/
def State.countsUp (s t : State) (r : RegId) (i : Nat) : Prop := t.rdF r i 31 0 = min (2 ^ 32 - 1) (s.rdF r i 31 0 + 1)

/-- The time that an arming write names: CUE_ARM_S and the value written, as a clock value in 2^-32 ns. -/
def State.armTime (s : State) (k : Nat) (v : Word) : Nat := (s.rd .CUE_ARM_S k * 1000000000 + v.toNat % 2 ^ 30) * 2 ^ 32

/-- The pending edge of a cue reads as the time `t`: seconds modulo 2^64 and whole nanoseconds. -/
def State.showsEdge (s : State) (k t : Nat) : Prop :=
  s.rd .CUE_NEXT_S k = t / 2 ^ 32 / 1000000000 % 2 ^ 64 ∧ s.rd .CUE_NEXT_NS k = t / 2 ^ 32 % 1000000000

/-- Is the leading edge of cue `k` a tempo event now: the source in use is CUE and names it? -/
abbrev State.cueIsTempo (s : State) (k : Nat) : Prop := s.scoreLive = true ∧ s.tempoSrc = 3 ∧ s.rdF .TEMPO_CFG 0 16 12 = k

/-- A frame was given to an uplink: it waits there, or it is on the wire; behind a frame on the wire it waits last. -/
def State.takesFrame (s t : State) (u : Nat) (f : EgFrame) : Prop :=
  (f ∈ (t.uplink u).egress ∨ Out.frame u f.frame f.frame.bytes ∈ t.out) ∧
  ((s.uplink u).tx.isSome = true → (t.uplink u).egress = (s.uplink u).egress ++ [f] ∧ t.out = s.out)

/-- The offset sample of a Sync: the master's time less the local clock, in ns (R280). -/
def State.offsetOf (s : State) (alt : Bool) (t1 t2 : Int) : Int :=
  t1 + sext 32 (s.rd .ASYM_NS 0) + (s.servo.ref alt).delay - t2

/-- What a sample `e` of a reference leaves in it: t1 and t2, the sample, its time and the count of the block (R280, R283). -/
def State.sampled (s t : State) (alt : Bool) (t1 t2 e : Int) : Prop :=
  (t.servo.ref alt).last = some (t1, t2) ∧ (t.servo.ref alt).sync = none ∧
  (t.servo.ref alt).final = some (e, s.clock.elapsed) ∧ (t.servo.ref alt).sampleAt = s.clock.elapsed ∧
  (t.servo.ref alt).count = (s.servo.ref alt).count + 1 ∧ (t.servo.ref alt).delays = (s.servo.ref alt).delays ∧
  (alt = s.servoAlt → s.servoState ≠ 0 →
    t.rd .SERVO_E 0 = toBits 32 (max (-2147483648) (min 2147483647 e))) ∧
  (alt ≠ s.servoAlt ∨ s.servoState = 0 → s.frame t [] [.servo])

/-- An alert of a code and detail was raised: where the queue has room and the alert path is HELD it waits last (R316, R317). -/
def State.queuesAlert (s t : State) (code detail : Nat) : Prop :=
  s.net.alerts.length < 64 → s.alertPath = 3 →
    t.net.alerts = s.net.alerts ++ [⟨s.rd .ALERT_SEQ 0, code, detail % 2 ^ 64, t.now, false, none, none⟩]

/-- The streams of a link that a virtual channel names. -/
def State.vcStreams (s : State) (port link vc : Nat) : List Elem := (s.linkStreams port link).filter fun e => e.u8 10 == vc

/-- The stream of a long packet. -/
def State.packetStream (s : State) (k : LongPacket) : Option Elem :=
  (s.linkStreams k.port k.link).find? fun e => e.u8 10 == k.vc && e.u8 11 == k.dt

/-- No line of a stream without a pipe is left in the port's buffer. -/
abbrev State.bufferPiped (s : State) (p : Nat) : Prop := ∀ l ∈ (s.port p).buffer, (s.pipeOf l.stream).isSome = true

/-- A packet of a link is judged: the link is on, and the packet begins a high-speed burst or follows no uncorrectable header of its
own (R181). -/
abbrev State.heard (s : State) (port link : Nat) (first : Bool) : Prop :=
  s.linkOn port link = true ∧ (first = true ∨ (s.port port).skip.contains link = false)

/-- An access to the page of a declared voice that reaches it: by PCI Express or network control, with the fabric up. -/
abbrev State.pageOpen (s : State) (p : Path) (v : Nat) : Prop :=
  p ≠ .debug ∧ s.domUp .FABRIC = true ∧ v < 1024 ∧ s.declared v = true

/-- A violation of voice `v` was counted and, no other step of its FCLK cycle being under way, recorded (R118, R119): its PATH code,
side, element, voice address and device-physical address. -/
def State.recordsViolation (s t : State) (v path : Nat) (write : Bool) (elem va pa : Nat) : Prop :=
  t.rdF .VOICE_VIOL_CNT v 15 0 = min 65535 (s.rdF .VOICE_VIOL_CNT v 15 0 + 1) ∧ t.rdB .VIOL_MAP (v / 32) (v % 32) = true ∧
  (s.cycle = none →
    t.rd .VIOL_INFO 0 = v % 1024 + path * 1024 + b2n write * 16384 + 32768 + elem % 65536 * 65536 ∧
    t.rd .VIOL_BEAT 0 = s.rd .BEAT_NUM 0 ∧ t.rd .VIOL_VA 0 = va % 2 ^ 64 ∧ t.rd .VIOL_PA 0 = pa % 2 ^ 64 ∧
    (s.rdB .VIOL_CTRL 0 0 = true → s.rdB .VIOL_INFO 0 15 = false → t.rdB .VW_IRQ_STATUS 0 0 = true))

/-- The message of a vector went out: nothing with the link down or MSI-X off, a pending bit while the table masks it, else the
message of its table entry (R112, R381). -/
def State.sendsVector (s t : State) (vec : Nat) : Prop :=
  if s.linkUp = true ∧ s.rdB .HOST_LINK 0 9 = true then
    (if s.rdB .MSIX_TABLE (4 * vec + 3) 0 = true then t.out = s.out ∧ t.rdB .MSIX_PBA (vec / 32) (vec % 32) = true
     else t.out = s.out ++ [.msix vec (s.rd .MSIX_TABLE (4 * vec) + s.rd .MSIX_TABLE (4 * vec + 1) * 2 ^ 32)
      (s.rd .MSIX_TABLE (4 * vec + 2))])
  else t.out = s.out

/-- Every one of `n` addresses from `pa` on lies in the tile store or in LPDDR5. -/
abbrev State.inMemory (s : State) (pa n : Nat) : Prop := ∀ k, k < n → s.region (pa + k) = .tile ∨ s.region (pa + k) = .lpddr

/-- An event line was pulsed: a credit more, or LOST where it held 255 (R170). -/
def State.pulses (s t : State) (l : Nat) : Prop :=
  if s.rdF .EVL_STATUS l 7 0 = 255 then t.rdB .EVL_STATUS l 8 = true
  else t.rdF .EVL_STATUS l 7 0 = s.rdF .EVL_STATUS l 7 0 + 1

/-- A frame was given to an uplink beside what else it sends: it waits there, or it is on the wire. -/
def State.sentOrWaits (t : State) (u : Nat) (f : NetFrame) : Prop :=
  (∃ x ∈ (t.uplink u).egress, x.frame = f) ∨ Out.frame u f f.bytes ∈ t.out

/-- A message of a type that arrives on an uplink is taken for voice `v` (R95, R301, R303 to R305): the uplink is UP, the frame is
accepted at the control port, the header is that of the type, the trailer verifies under the voice's key, the voice is declared and holds
NETCTL, and SEQ is new. -/
abbrev State.takesMessage (s : State) (u typ : Nat) (m : ControlMsg) (v : Nat) : Prop :=
  (s.netElem u).isSome = true ∧ s.netUp u = true ∧ s.frameOk u m.head false true = true ∧ m.head.dport = s.rdF .CTL_PORT u 15 0 ∧
  32 ≤ m.bytes.length ∧ leAt m.bytes 0 2 = 0x4659 ∧ leAt m.bytes 2 1 = 1 ∧ leAt m.bytes 3 1 = typ ∧ leAt m.bytes 4 2 = v ∧ v < 1024 ∧
  s.ysfVerified v m.bytes = true ∧ s.declared v = true ∧ s.netctl v = true ∧ s.seqNew v (leAt m.bytes 8 4) = true

/-- A control message's reply to its sender: rest, the acting voice's key and the request's SEQ (R304, R315). -/
def State.repliesTo (t : State) (u : Nat) (m : ControlMsg) (v : Nat) (data : List Byte) : Prop :=
  t.sentOrWaits u ⟨t.netMac u, m.head.src, m.head.tags.head?, .udp m.head.v6 (t.netIp u m.head.v6) m.head.ip (t.rdF .CTL_PORT u 15 0)
    m.head.port (t.ysfAuth 4 v 0xFFFF (leAt m.bytes 8 4) 1 (2 ^ 64 - 1) 0 data.length (zeros 8 ++ data))⟩

/-- A received frame was dropped (R301): counted, one with a bad FCS in FCS_ERR_CNT too, and nothing else. -/
def State.dropsFrame (s t : State) (u : Nat) (h : RxHead) : Prop :=
  s.countsUp t .RX_OTHER u ∧ (h.fcsOk = false → s.countsUp t .FCS_ERR_CNT u) ∧
  s.frame t (if h.fcsOk then [(.RX_OTHER, u)] else [(.RX_OTHER, u), (.FCS_ERR_CNT, u)]) []

/-- What waits at an uplink once a frame has left its buffer for the wire: a Sync leaves its Follow_Up (R276). -/
def State.followsUp (s : State) (u : Nat) (f : NetFrame) : List EgFrame :=
  match f.body with
  | .ptp _ m => if m.kind = 0 then [s.ptpFrame u 8 m.seq s.nowNs 0 0 none] else []
  | _ => []

/-- A waiting frame of an uplink started at the clock time of `s`: it is on the wire in the group it is in then, its bytes go out, and a
flow's counts (R309, R310). -/
def State.startsFrame (s t : State) (u : Nat) (f : EgFrame) : Prop :=
  t.clock = s.clock ∧ (t.uplink u).tx = some { f with group := s.groupNow u f } ∧
  (t.uplink u).egress = (s.uplink u).egress.erase f ++ s.followsUp u f.frame ∧
  t.out = s.out ++ [.frame u f.frame f.frame.bytes] ∧ (f.flow < 2048 → s.countsUp t .FLOW_SENT f.flow)

/-- A barline at the clock time of `s` opened beat `num` (R24, R31, R35): its number, time and encoder positions, the beat open with the
slot table not yet playing, and the measured period where a beat was open before. -/
def State.opensBeat (s t : State) (num req act : Nat) (idle : Bool) : Prop :=
  t.clock = s.clock ∧ t.rd .BEAT_NUM 0 = num % 2 ^ 64 ∧ t.rd .BEAT_TIME_S 0 = s.clock.sec % 2 ^ 64 ∧
  t.rd .BEAT_TIME_NS 0 = s.clock.ns % 2 ^ 64 ∧ t.rd .ENC_REQ 0 = req % 2 ^ 64 ∧ t.rd .ENC_ACT 0 = act % 2 ^ 64 ∧
  t.rdF .TEMPO_STATUS 0 1 0 = (if idle then 2 else 1) ∧ t.tempo.isOpen = true ∧ t.tempo.playing = false ∧
  t.tempo.last = s.clock.elapsed ∧
  (s.tempo.isOpen = true →
    t.rd .LAST_PERIOD_NS 0 = min (2 ^ 32 - 1) ((s.clock.elapsed - s.tempo.last) / 2 ^ 32)) ∧
  (∃ b, t.tempo.beats.head? = some b ∧ b.num = num % 2 ^ 64 + 2 ^ 64 * t.tie.joins ∧ b.time = s.now ∧ b.idle = idle)

/-- A barline opens a plain beat: no full load is armed, no standby asked for, and EXTEST does not stop it. -/
abbrev State.plainBar (s : State) : Prop := s.load.armed = none ∧ s.power.asked = false ∧ s.extestPlays = false

/-- A tempo event now raises a barline at once: a score is live, none is held, no beat is open or PMIN_NS has passed, and this is no
follow that forms (R31, R324). -/
abbrev State.eventRaises (s : State) : Prop :=
  s.scoreLive = true ∧ s.tempo.held = [] ∧ (s.tempo.isOpen = true → s.pastPmin = true) ∧ ¬ (s.tieRole = 2 ∧ s.tieState = 1)

/-- The number after the beat number shown. -/
def State.nextNum (s : State) : Nat := (s.rd .BEAT_NUM 0 + 1) % 2 ^ 64

/-- The header of a tie frame that a command brings. -/
def tieFrameOf : Instr → Option TieHdr
  | .tieAckRx h | .tieConfigRx h _ | .tieHeartbeatRx h _ | .tieTimeSyncRx h | .tieTimeFupRx h _ | .tieTimeDreqRx h
  | .tieTimeDrespRx h _ | .tieLinesRx h _ | .tieFwdRx h _ _ | .tieAlertRx h _ | .tieBarlineRx h _ => some h
  | _ => none

/-- The tie link hears a frame: it is on with its lanes locked, and the frame's CRC is good (R322). -/
abbrev State.hears (s : State) (h : TieHdr) : Prop := s.tieOn = true ∧ h.crcOk = true

/-- A split was recorded (R327): counted, with the beat it fell in, its bit set and the state ISLAND. -/
def State.splitAt (s t : State) : Prop :=
  t.tieState = 3 ∧ s.countsUp t .TIE_SPLIT_CNT 0 ∧ t.rd .TIE_SPLIT_BEAT 0 = s.rd .BEAT_NUM 0 ∧ t.rdB .TIE_STATUS 0 8 = true

/-- No alert that waits is covered by the TACK of a frame (R317, R322). -/
abbrev State.acksNoAlert (s : State) (h : TieHdr) : Prop :=
  ∀ a ∈ s.net.alerts, ∀ n, a.tseq = some n → tackCovers h.tack n = false

/-- The command last read of a port ends with a result (R350): CMD_ACK holds it with the command's number, and an event is raised. -/
def SerPort.acks (x y : SerPort) (result ev : Nat) : Prop :=
  y.ack = result + x.cmd / 16777216 * 16777216 ∧ y.events = x.events ||| ev

/-- The receive ring of a port has room (R350). -/
def SerPort.rxRoom (x : SerPort) : Prop := (x.rxProd + 2 ^ 32 - x.rxCons) % 2 ^ 32 ≠ 2048

/-- A receive entry was written where the ring had room: RX_PROD advances and the word stands in the area; else the entry is lost, and
counted with its event (R350). -/
def State.rxWritten (s t : State) (p w : Nat) : Prop :=
  ((s.ser p).rxRoom → (t.ser p).rxProd = incIndex (s.ser p).rxProd ∧
    (s.inMemory (s.serBase p) 0x4000 →
      t.readPhys (s.serBase p + 0x2000 + 4 * ((s.ser p).rxProd % 2048)) 4 = toLe 4 w)) ∧
  (¬ (s.ser p).rxRoom → (t.ser p).rxProd = (s.ser p).rxProd ∧ s.countsUp t .SER_RXOVF_CNT p ∧ bit 5 (t.ser p).events = true)

/-- What every reset of all domains but AON leaves (R394, R395), domain TIME kept where `time` says so: no score, READY low, every other
register at its reset value, no queue, post or cue beat, a cleared tile store, and the fuses as they were. -/
def State.clearedBy (s t : State) (time : Bool) : Prop :=
  t.load = State.reset.load ∧ t.ready = false ∧ t.tempo = State.reset.tempo ∧ t.queues = [] ∧ t.posts = [] ∧ t.dma = State.reset.dma ∧
  t.clock = (if time then s.clock else ⟨0, 0, 0, 0⟩) ∧ (time = false → t.cues = [] ∧ t.caps = []) ∧
  (∀ (r : RegId) (i : Nat), r.row.dom ≠ .AON → (time = true → r.row.dom ≠ .TIME) → r ≠ .PWR_STATUS →
    t.rd r i = State.reset.rd r i) ∧
  (∀ pa, pa < 0x1000000000 → Tab.get 0 t.mem pa = 0) ∧ t.lc.slots = s.lc.slots ∧ t.lc.valid = false ∧ t.lc.unlocked = none

/-- The registers of domain AON keep their values, but those that say what the reset was. -/
def State.keepsAon (s t : State) : Prop :=
  ∀ (r : RegId) (i : Nat), r.row.dom = .AON → r ≠ .RST_CAUSE → r ≠ .MEM_RETAIN → r ≠ .LC_CHALLENGE → t.rd r i = s.rd r i

/-- What lies outside the device keeps every byte: host memory and the boot flash. -/
def State.keepsOutside (s t : State) : Prop := t.hostMem = s.hostMem ∧ t.flash = s.flash

/-- LPDDR5 keeps every byte. -/
def State.keepsLpddr (s t : State) : Prop := ∀ pa, 0x1000000000 ≤ pa → Tab.get 0 t.mem pa = Tab.get 0 s.mem pa

/-- Boot starts from its latched straps: it tries the banks of its mode, the SFDP header first (R405, Table 18.8). -/
def State.boots (s t : State) (strap : Nat) : Prop :=
  t.power.banks = bootBanks strap ∧ t.power.sfdp = !(bootBanks strap).isEmpty ∧ t.power.clock = false ∧ t.power.standby = false ∧
  t.power.asked = false ∧ t.power.block = none ∧ t.power.supply = s.power.supply

/-- A block's action is accepted (R402): allowed for the index, declared, no action running and no full load applying. -/
abbrev State.blockMay (s : State) (k a : Nat) : Prop :=
  blockAllows k a = true ∧ s.blockDeclared k = true ∧ s.rdB .BLK_STATUS 0 0 = false ∧ s.rdF .LOAD_STATUS 0 2 0 ≠ 4

/-- A block's action has begun: BUSY, its hold bit, and what runs (R402). -/
def State.blockBusy (t : State) (k a : Nat) : Prop :=
  t.rdB .BLK_STATUS 0 0 = true ∧ t.rdB .EPOCH_TAB k 8 = true ∧ t.power.block = some (k, a)

/-- No life-cycle command and no admission is in the way of a new command (R420). -/
abbrev State.lcFree (s : State) : Prop :=
  s.rdB .LC_STATUS 0 0 = false ∧ s.rdF .LOAD_STATUS 0 2 0 ≠ 1 ∧ s.rdF .LOAD_STATUS 0 2 0 ≠ 4

/-- A command ran: BUSY is set, and its RESULT will be the code; no other bit of LC_STATUS but FAILS and LOCKOUT changed. -/
def State.lcRan (s t : State) (code : Nat) : Prop :=
  t.rdB .LC_STATUS 0 0 = true ∧ t.lc.result = some code ∧ t.rdF .LC_STATUS 0 11 1 = s.rdF .LC_STATUS 0 11 1

/-- The challenge is gone: LC_CHALLENGE reads 0 (R416). -/
def State.noChallenge (t : State) : Prop := t.lc.valid = false ∧ ∀ k, k < 8 → t.rd .LC_CHALLENGE k = 0

/-- A token check ran on the bytes `b` in state `s` and left `t` (R418, R419). -/
def State.checkedToken (s t : State) (b : List Byte) : Prop :=
  if s.rdB .LC_STATUS 0 16 = true then
    s.lcRan t 6 ∧ t.lc.valid = s.lc.valid ∧ s.frame t [(.LC_STATUS, 0)] [.lc]
  else if s.tokenCode b = 0 then
    t.noChallenge ∧ t.rdB .LC_STATUS 0 0 = true ∧ t.rdF .LC_STATUS 0 15 12 = s.rdF .LC_STATUS 0 15 12 ∧
    (leAt b 4 1 = 1 → t.lc.erasing = some 6) ∧
    (leAt b 4 1 = 2 → s.lcRan t (if Config.fuseFails s.fresh then 7 else 0) ∧ t.keySlot (leAt b 7 1) = { s.keySlot (leAt b 7 1) with revoked := true }) ∧
    (leAt b 4 1 = 3 → s.lcRan t 0 ∧ t.lc.unlocked = some (leAt b 7 1))
  else
    s.lcRan t (s.tokenCode b) ∧ t.noChallenge ∧ t.lc.slots = s.lc.slots ∧ t.lc.unlocked = s.lc.unlocked ∧
    s.frame t ((.LC_STATUS, 0) :: (List.range 8).map fun k => (.LC_CHALLENGE, k)) [.lc] ∧
    (s.tokenCode b = 2 → t.rdF .LC_STATUS 0 16 12 = s.rdF .LC_STATUS 0 16 12) ∧
    (s.tokenCode b ≠ 2 → s.rdF .LC_STATUS 0 15 12 < 15 → t.rdF .LC_STATUS 0 15 12 = s.rdF .LC_STATUS 0 15 12 + 1 ∧
      t.rdB .LC_STATUS 0 16 = decide (7 ≤ s.rdF .LC_STATUS 0 15 12))

/-- The life-cycle state is read from its two fuse copies: the later where both decode, SCRAPPED where neither does; of the LC block the
fuses stay, and LC_STATE.LAST (R411). -/
def State.stateRead (s t : State) : Prop :=
  t.lcState = (match s.lc.fuse1, s.lc.fuse2 with
    | some a, some b => max a b
    | some a, none | none, some a => a
    | none, none => 15) % 16 ∧
  t.rdF .LC_STATE 0 31 4 = s.rdF .LC_STATE 0 31 4 ∧
  t.lc = {
    slots := s.lc.slots
    fuse1 := s.lc.fuse1
    fuse2 := s.lc.fuse2 }

/-- A state was programmed, the second copy by fuse use `n` and the first by the next, and then read back: a copy that does not verify
no longer decodes (R411, R422). -/
def State.programmed (t : State) (target n : Nat) : Prop :=
  t.lc = {
    slots := t.lc.slots
    fuse2 := fuseCopy target n
    fuse1 := fuseCopy target (n + 1) } ∧
  t.lcState = (if Config.fuseFails n = true ∧ Config.fuseFails (n + 1) = true then 15 else target % 16)

/-- The registers that do something else with a write than set their fields. -/
def actingRegs : List RegId :=
  [.RST_CTRL, .PWR_CTRL, .BLK_CTRL, .LOAD_CTRL, .VOICE_HALT, .VIOL_INFO, .P_CCI_CMD, .INCR_BASE, .STEP_NS, .SET_CTRL, .CUE_ARM_NS,
    .CAP_POP, .ALERT_CTRL, .ALERT_PORT, .ALERT_RAISE, .ALERT_CLR, .KEY_DATA, .MOD_CMD, .LC_CMD, .MSIX_TABLE, .VW_IRQ_MASK,
    .VW_PTROOT, .VW_TLB_INV, .VW_FAULT_RESUME, .VW_CHK_CTRL, .VW_CHK_DATA, .VW_DOORBELL]

/-- A path reaches a word of register entry `(r, i)` at an offset of a space: an open entry of the conductor space, or one of the page of
a declared voice that names no absent queue. -/
abbrev State.reaches (s : State) (p : Path) (sp : Space) (o : Nat) (r : RegId) (i : Nat) (high : Bool) : Prop :=
  match sp with
  | .conductor => conductorReg p o = some (r, i, high) ∧ s.entryOpen p r i = true
  | .page v => pageReg v o = some (r, i, high) ∧ s.pageOpen p v ∧ s.pageViol v r i = false

/-- What a write of `v` to a field that held `old` leaves (Table 0.3): a reserved encoding keeps it (R15), and so does a governing score
for an RWL field. -/
def writtenField (live : Bool) (f : Field) (v old : Nat) : Nat :=
  match f.acc with
  | .RW => if f.ok.allows v = true then v else old
  | .RWL => if live = false ∧ f.ok.allows v = true then v else old
  | .W1S => old ||| v
  | .W1C => old &&& (2 ^ (f.hi + 1 - f.lo) - 1 - v)
  | .RO | .WO | .RC => old

end Sys2Proof.Machine
end

