-- ==== Sys2Proof/Frames.lean ====
section
/-!
DEFINITION. The frame of each command: the registers and the parts of the machine that it may change. Every other register and
part a statement about frames says it leaves as it was.
-/

namespace Sys2Proof.Machine

/-! ### Registers that shared effects write -/

/-- Registers that a pending bit and its message may write. -/
def notifyRegs : List RegId := [.MSIX_PBA, .VW_IRQ_STATUS]

/-- Registers that a violation (R118, R119) may write. -/
def violationRegs : List RegId := [.VIOL_INFO, .VIOL_BEAT, .VIOL_VA, .VIOL_PA, .VIOL_MAP, .VOICE_VIOL_CNT] ++ notifyRegs

/-- Registers that a frame that starts on an uplink, and the alert a loss of one raises may write. -/
def txRegs : List RegId := [.TXTS_STATUS, .ALERT_STATUS, .ALERT_OVF_CNT, .ALERT_SEQ, .FLOW_SENT]

/-- Registers that an alert (R314 to R317) may write. -/
def alertRegs : List RegId := [.EGR_DROP] ++ txRegs

/-- Registers that a reference lost may write. -/
def servoLossRegs : List RegId := [.INCR, .SERVO_STATUS, .SERVO_Y, .HOLD_Y] ++ alertRegs

/-- Registers that a memory access and what its ECC reports may write. -/
def memoryRegs : List RegId := [.ECC_CE_CNT, .ECC_UE_CNT, .ECC_UE_ADDR, .HOST_BERR_CNT] ++ alertRegs ++ notifyRegs

/-- Registers that a translation may write. -/
def walkRegs : List RegId := [.WALK_WAIT_CNT, .TLB_MISS_CNT] ++ memoryRegs

/-- Registers that a post may write. -/
def postRegs : List RegId := [.EVL_STATUS, .VW_QPOST, .VW_QERR] ++ walkRegs ++ violationRegs

/-- Registers that an operation that takes a fault slot may write. -/
def fermataRegs : List RegId := postRegs

/-- Registers that a DMA descriptor that ends, posts or is retried may write. -/
def busErrorRegs : List RegId := [.CH_ERR_PA, .CH_ERR_VA, .CH_ERR_IDX, .CH_BYTES, .CH_DONE_CNT, .CH_BERR_CNT] ++ postRegs

/-- Registers that a decision on a fault slot may write. -/
def faultRegs : List RegId := [.CH_BYTES, .CH_DONE_CNT, .SVC_BEAT, .SVC_LAST, .SVC_SKIP_CNT, .SVC_OVR_CNT, .SVC_FAULT_CNT]
  ++ postRegs

/-- Registers that a bundle's write may write. -/
def bundleRegs : List RegId := [.P_CCI_NAK_CNT, .P_BDL_DEFER_CNT, .P_BDL_STRADDLE_CNT, .P_BDL_FAIL_CNT, .SEN_SETGEN] ++
  postRegs

/-- Registers that a service's memory access may write. -/
def historyRegs : List RegId := [.SVC_BEAT, .SVC_LAST, .SVC_OVR_CNT, .SVC_FAULT_CNT] ++ postRegs

/-- Registers that a set or a step of the clock may write. -/
def clockMoveRegs : List RegId := [.SERVO_STATUS, .STEP_CNT, .CUE_STATUS, .CUE_NEXT_S, .CUE_NEXT_NS, .CUE_CNT]

/-- Registers that a voice's halt may write. -/
def haltRegs : List RegId := [.CH_BYTES, .CH_DONE_CNT, .SER_STATUS, .SER_WR_ERR, .VW_EVENT] ++ postRegs

/-- Registers that a block's reset, power-down or power-up may write. -/
def blockRegs : List RegId := [.BLK_STATUS, .EPOCH_TAB, .DMA_CH_CFG, .CH_QUOTA, .CH_USED, .CH_STALL_CNT, .CH_NODESC_CNT,
  .P_CFG, .P_STATUS, .P_ECC_CORR, .P_ECC_DROP, .P_CRC_ERR, .P_LEN_ERR, .P_UNKNOWN, .P_LATE, .P_EXTRA, .P_FIFO_OVF,
  .P_TRIG_SUP, .P_LANE_ERR, .P_CCI_CMD, .P_CCI_REG, .P_CCI_DATA, .P_CCI_STATUS, .STR_SEQ, .STR_LINES, .STR_SHORT, .PIPE_CFG,
  .PIPE_STATUS, .PIPE_PIX, .PIPE_OVQ_CNT, .PIPE_MRG_DROP, .PIPE_DYN_CNT, .PIPE_CLIP_CNT, .PROBE_SEL, .PROBE_XY, .PROBE_BEAT,
  .PROBE_LIN, .PROBE_MRG, .PROBE_FF, .PROBE_DEF, .PROBE_DMS, .PROBE_MAT, .PROBE_OUT, .STAT_CFG, .STAT_STATUS, .STAT_BEAT,
  .STAT_MEAN, .STAT_REC_CNT, .STAT_DROP_CNT, .GRP_CFG, .GRP_STATUS, .GRP_RING_BASE, .GRP_RING_ROWS, .GRP_PART_CNT,
  .GRP_DROP_CNT, .GRP_FILL_SEG, .WIN_CFG, .WIN_PART_CNT, .SVC_CFG, .CUE_CFG, .CUE_STATUS, .CUE_NEXT_S, .CUE_NEXT_NS,
  .CUE_ARM_NS, .CUE_ARM_S, .CUE_CNT, .NET_CFG, .NET_STATUS, .PCS_ERR_WIN, .PCS_ERR_CNT, .RETRAIN_CNT, .FCS_ERR_CNT,
  .RX_OTHER, .AUTH_DROP, .ALERT_MAC, .ALERT_IP, .ALERT_PORT, .CTL_PORT, .MOD_CMD, .MOD_DATA, .MOD_STATUS, .FLOW_DROP,
  .TIE_STATUS, .TIE_SPLIT_BEAT, .TIE_SPLIT_CNT, .FWD_DROP, .PROC_CH_CFG, .CH_LAST, .CH_MEAN, .CH_MIN, .CH_MAX, .CH_COUNT,
  .CH_FLAGS, .CH_OPEN_CNT, .SER_CFG, .SER_DIV, .SER_STATUS, .SER_LINDIV, .SER_AREA, .SER_DE_CFG, .SER_PAR_CNT, .SER_FRM_CNT,
  .SER_NOISE_CNT, .SER_FALSE_CNT, .SER_RXOVF_CNT, .SER_WAKE_LOST, .SER_LIN_ERR_CNT, .SER_RC_CNT, .SER_BADTX_CNT,
  .SER_WR_ERR, .SER_TX_CNT, .SER_RX_CNT, .CHK_CFG, .CHK_BYTES, .HOST_LINK, .HOST_BADACC_CNT, .HOST_EPOCH_CNT,
  .HOST_TAG_STALL, .HOST_SHORT_CNT, .HOST_DOWN_CNT, .MSIX_TABLE] ++ faultRegs ++ bundleRegs ++ servoLossRegs ++ busErrorRegs

/-- Registers that a dropped input may write. -/
def serviceDropRegs : List RegId := [.GRP_STATUS, .GRP_PART_CNT, .GRP_DROP_CNT, .GRP_FILL_SEG]

/-! ### Commands -/

/-- The registers a command may change; none: the statements about that command say what it leaves. -/
def commandWrites : Instr → Option (List RegId)
  | .registerWrite _ _ _ _ => none
  | .registerReadClear _ _ _ => none
  | .wideRegisterLowRead _ _ _ => none
  | .timerPeriodExpiry => none
  | .beatinEdge _ => none
  | .deferredBarlineRelease => none
  | .idleBarline => none
  | .slotTableStart => some ([.FWD_DROP])
  | .slotStart _ _ => some ([])
  | .shortfallCheck _ _ _ => some ([.SHORT_CNT, .SHORT_BYTES, .SHORT_CLASS, .HOST_SHORT_CNT] ++ alertRegs)
  | .loadGo _ _ => some ([.LOAD_CTRL, .LOAD_STATUS, .PENDING_BEAT, .VW_EVENT] ++ notifyRegs)
  | .loadCancel _ _ => some ([.LOAD_CTRL, .LOAD_STATUS, .PENDING_BEAT, .VW_EVENT] ++ notifyRegs)
  | .admissionEnd => some ([.PWR_STATUS, .BOOT_CODES, .LOAD_STATUS, .LOAD_FAIL_OFS, .LOAD_FAIL_RES, .PENDING_BEAT,
    .TEMPO_CFG, .TEMPO_STATUS] ++ haltRegs)
  | .fullLoadApply => some ([.MEM_RETAIN, .MEM_CFG, .PIPE_STATUS] ++ walkRegs ++ violationRegs)
  | .fullLoadCommit => some ([.PWR_STATUS, .BOOT_STATUS, .LOAD_STATUS, .SCORE_GEN, .SCORE_ID, .LAST_COMMIT_BEAT,
    .PENDING_BEAT, .EPOCH_TAB, .TEMPO_CFG, .TEMPO_DIV, .PMIN_NS, .IDLE_NS, .TIMER_NS, .BAR_TICK, .BEAT_NUM, .TEMPO_STATUS,
    .DMA_CH_CFG, .CH_QUOTA, .CH_USED, .CH_ERR_PA, .CH_ERR_VA, .CH_ERR_IDX, .CH_BYTES, .CH_DONE_CNT, .CH_STALL_CNT,
    .CH_NODESC_CNT, .CH_BERR_CNT, .EVL_STATUS, .P_CFG, .P_STATUS, .P_ECC_CORR, .P_ECC_DROP, .P_CRC_ERR, .P_LEN_ERR,
    .P_UNKNOWN, .P_LATE, .P_EXTRA, .P_FIFO_OVF, .P_TRIG_SUP, .P_LANE_ERR, .P_CCI_CMD, .P_CCI_REG, .P_CCI_DATA,
    .P_CCI_STATUS, .P_CCI_NAK_CNT, .P_BDL_DEFER_CNT, .P_BDL_STRADDLE_CNT, .P_BDL_FAIL_CNT, .SEN_SETGEN, .STR_SEQ,
    .STR_LINES, .STR_SHORT, .PIPE_CFG, .PIPE_STATUS, .PIPE_PIX, .PIPE_OVQ_CNT, .PIPE_MRG_DROP, .PIPE_DYN_CNT,
    .PIPE_CLIP_CNT, .PROBE_SEL, .PROBE_XY, .PROBE_BEAT, .PROBE_LIN, .PROBE_MRG, .PROBE_FF, .PROBE_DEF, .PROBE_DMS,
    .PROBE_MAT, .PROBE_OUT, .STAT_CFG, .STAT_STATUS, .STAT_BEAT, .STAT_MEAN, .STAT_REC_CNT, .STAT_DROP_CNT, .GRP_CFG,
    .GRP_RING_BASE, .GRP_RING_ROWS, .GRP_ROW, .WIN_CFG, .WIN_PART_CNT, .ENG_STATUS, .ENG_TILES, .ENG_LENT, .SVC_CFG,
    .SVC_BEAT, .SVC_LAST, .SVC_SKIP_CNT, .SVC_OVR_CNT, .SVC_FAULT_CNT, .SRV_REQ_CNT, .SRV_RATE_DROP, .SRV_FULL_DROP,
    .SRV_PENDING, .SRV_NOTHELD, .ARP_CNT, .ICMP_CNT, .ICMP_DROP, .INCR, .SERVO_STATUS, .SERVO_Y, .CUE_CFG, .CUE_STATUS,
    .CUE_NEXT_S, .CUE_NEXT_NS, .CUE_ARM_NS, .CUE_ARM_S, .CUE_CNT, .NET_CFG, .NET_STATUS, .PCS_ERR_WIN, .PCS_ERR_CNT,
    .RETRAIN_CNT, .FCS_ERR_CNT, .RX_OTHER, .AUTH_DROP, .ALERT_MAC, .ALERT_IP, .ALERT_PORT, .CTL_PORT, .MOD_CMD, .MOD_DATA,
    .MOD_STATUS, .ALERT_CTRL, .ALERT_RAISE, .ALERT_CLR, .KEY_SEL, .KEY_DATA, .KEY_STATE, .FLOW_DROP, .TIE_CFG, .TIE_STATUS,
    .TIE_REJOIN_OFS, .TIE_SPLIT_BEAT, .TIE_DELAY, .TIE_SPLIT_CNT, .TIE_CRC_ERR, .TIE_RESEND, .TIE_HB_MISS, .TIE_LINES_LATE,
    .FWD_DROP, .PROC_STATUS, .REF_DEV, .AGG_SEQ, .PROC_WR_ERR, .EXC_STATUS, .PROC_CH_CFG, .CH_LAST, .CH_MEAN, .CH_MIN,
    .CH_MAX, .CH_COUNT, .CH_FLAGS, .CH_OPEN_CNT, .ENC_POS, .ENC_CFG, .ENC_ZPOS, .ENC_Z_CNT, .ENC_ERR_CNT, .SER_CFG,
    .SER_DIV, .SER_STATUS, .SER_LINDIV, .SER_AREA, .SER_DE_CFG, .SER_PAR_CNT, .SER_FRM_CNT, .SER_NOISE_CNT, .SER_FALSE_CNT,
    .SER_RXOVF_CNT, .SER_WAKE_LOST, .SER_LIN_ERR_CNT, .SER_RC_CNT, .SER_BADTX_CNT, .SER_WR_ERR, .SER_TX_CNT, .SER_RX_CNT,
    .CHK_CFG, .CHK_BYTES, .VW_BEAT, .VW_BEAT_TIME_S, .VW_OVR, .VW_SEGUE_BEAT, .VW_EVENT, .VW_IRQ_MASK, .VW_QPOST, .VW_QERR,
    .VW_QSEL, .VW_QBASE, .VW_PTROOT, .VW_TLB_INV, .VW_TLB_STAT, .VW_FAULT_RESUME, .VW_CHK_CTRL] ++ alertRegs ++
    serviceDropRegs ++ notifyRegs)
  | .voiceHalt _ _ => some (haltRegs)
  | .controlRegs _ _ => none
  | .controlSetkey _ _ => none
  | .doorbellWrite _ _ _ _ => some ([.SER_STATUS, .SER_WR_ERR] ++ postRegs)
  | .queuePostRelease _ _ => some (postRegs)
  | .vwIrqMaskWrite _ _ _ => some ([.VW_IRQ_MASK] ++ violationRegs)
  | .violInfoClear _ _ => some ([.VIOL_INFO, .VIOL_BEAT, .VIOL_VA, .VIOL_PA])
  | .walkStart => some ([])
  | .walkComplete _ _ => some (busErrorRegs)
  | .faultSlotTake _ => some (postRegs)
  | .faultRetry _ _ _ _ => some (faultRegs)
  | .faultSkip _ _ _ _ => some (faultRegs)
  | .faultAbort _ _ _ _ => some (faultRegs)
  | .tlbInvalidate _ _ _ => some ([.VW_TLB_INV, .VW_TLB_STAT] ++ violationRegs)
  | .invalidationComplete _ => some ([.VW_TLB_STAT] ++ postRegs)
  | .ptrootWrite _ _ _ => some ([.VW_PTROOT, .VW_TLB_STAT] ++ violationRegs)
  | .scrubPass _ _ _ => some (memoryRegs)
  | .refmultPoll _ _ => some ([.MEM_STATUS])
  | .descriptorFetchReturn _ _ => some (busErrorRegs)
  | .readBurstIssue _ _ => some ([.CH_STALL_CNT, .STALL_READS, .STALL_BLOCKS, .STALL_WRITES, .HOST_TAG_STALL] ++
    busErrorRegs)
  | .readBurstReturn _ _ => some (busErrorRegs)
  | .writeBurstIssue _ _ => some ([.CH_USED, .CH_STALL_CNT, .STALL_READS, .STALL_BLOCKS, .STALL_WRITES, .HOST_TAG_STALL] ++
    busErrorRegs)
  | .writeBurstAck _ _ => some (busErrorRegs)
  | .eventLineWaitEnd _ => some ([.EVL_STATUS] ++ violationRegs)
  | .dmaCmdResume _ => some ([])
  | .dmaCmdAbort _ => some ([.CH_BYTES, .CH_DONE_CNT] ++ postRegs)
  | .outboundCompletionTimeout _ => some (busErrorRegs)
  | .staleReplyDiscard _ => some ([.EPOCH_TAB])
  | .frameStart _ _ _ _ => some ([.P_STATUS, .P_ECC_CORR, .P_EXTRA, .P_BDL_DEFER_CNT, .SEN_SETGEN, .STR_SEQ, .STR_LINES,
    .STR_SHORT, .PIPE_STATUS, .PIPE_MRG_DROP])
  | .frameEnd _ _ _ _ => some ([.P_ECC_CORR, .SEN_SETGEN, .STR_SEQ, .STR_LINES, .STR_SHORT, .PIPE_STATUS, .PIPE_MRG_DROP])
  | .longPacketReceive _ => some ([.P_ECC_CORR, .P_ECC_DROP, .P_CRC_ERR, .P_LEN_ERR, .P_UNKNOWN, .P_LATE, .P_EXTRA,
    .P_FIFO_OVF, .LS_BEAT, .LS_S, .LS_NS, .LS_ENC])
  | .linkLost _ _ => some ([.P_STATUS] ++ alertRegs ++ notifyRegs)
  | .cciWriteEnd _ _ => some (bundleRegs)
  | .cciStretchTimeout _ => some ([.P_CCI_DATA, .P_CCI_STATUS] ++ bundleRegs)
  | .cciDirectWrite _ _ _ => some ([.P_CCI_STATUS])
  | .cciDirectRead _ _ _ => some ([.P_CCI_STATUS])
  | .cciDirectStart _ => some ([.P_CCI_DATA, .P_CCI_STATUS, .P_CCI_NAK_CNT])
  | .cciDirectEnd _ _ _ => some ([.P_CCI_DATA, .P_CCI_STATUS, .P_CCI_NAK_CNT, .P_BDL_DEFER_CNT])
  | .pipeLineTake _ => some ([.STR_SHORT, .PIPE_STATUS, .PIPE_OVQ_CNT, .PIPE_MRG_DROP])
  | .pipeLineEmit _ => some ([.PIPE_DYN_CNT, .PIPE_CLIP_CNT, .PROBE_BEAT, .PROBE_LIN, .PROBE_MRG, .PROBE_FF, .PROBE_DEF,
    .PROBE_DMS, .PROBE_MAT, .PROBE_OUT])
  | .windowCut _ => some ([.WIN_PART_CNT] ++ serviceDropRegs)
  | .statsRecordCompute _ => some ([.STAT_STATUS, .STAT_BEAT, .STAT_MEAN, .STAT_REC_CNT])
  | .tileStageEnd _ _ _ => some (historyRegs ++ serviceDropRegs)
  | .tileStart _ => some ([])
  | .tileEnd _ => some ([.ENG_TILES, .ENG_LENT] ++ historyRegs)
  | .imageRequest _ _ => some ([.SRV_REQ_CNT, .SRV_RATE_DROP, .SRV_FULL_DROP, .SRV_PENDING, .FCS_ERR_CNT, .RX_OTHER,
    .AUTH_DROP])
  | .serverRequestServe _ _ => some ([.ENG_TILES, .ENG_LENT, .SVC_FAULT_CNT, .SRV_PENDING, .SRV_NOTHELD] ++ postRegs)
  | .arpRequest _ _ _ _ => some ([.ARP_CNT, .FCS_ERR_CNT, .RX_OTHER] ++ txRegs)
  | .icmpEchoRequest _ _ _ _ _ _ => some ([.ICMP_CNT, .ICMP_DROP, .FCS_ERR_CNT, .RX_OTHER] ++ txRegs)
  | .frameDrop _ _ => some ([.FCS_ERR_CNT, .RX_OTHER])
  | .clkNsRead _ => some ([.CLK_FRAC, .CLK_S])
  | .incrBaseWrite _ _ => some ([.INCR, .INCR_BASE])
  | .clockSet _ _ => some (clockMoveRegs)
  | .clockStep _ _ => some (clockMoveRegs)
  | .nsRollover => some ([.PCS_ERR_WIN] ++ txRegs)
  | .ptpSyncRx _ => some ([.INCR, .SERVO_E, .SERVO_Y] ++ clockMoveRegs)
  | .ptpFollowUpRx _ => some ([.INCR, .SERVO_E, .SERVO_Y] ++ clockMoveRegs)
  | .ptpDelayReqTx _ => some ([.TXTS_FULL_CNT] ++ txRegs)
  | .ptpDelayRespRx _ => some ([.SERVO_DELAY, .TXTS_STATUS])
  | .delayReqTimeout _ => some ([.TXTS_STATUS, .DRESP_MISS_CNT])
  | .ptpSyncTx _ => some ([.TXTS_FULL_CNT] ++ txRegs)
  | .ptpAnnounceTx _ => some (txRegs)
  | .ptpAnnounceRx _ _ => some ([.FOREIGN_CNT])
  | .ptpDelayReqRx _ => some (txRegs)
  | .ptpHeldMessageSend _ => some (txRegs)
  | .servoSyncTimeout => some (servoLossRegs)
  | .ptpAnnounceTimeout => some (servoLossRegs)
  | .servoBlockEnd => some ([.BLK_F_PRI, .BLK_F_ALT, .SUSPECT_CNT] ++ servoLossRegs ++ notifyRegs)
  | .cueLeadingEdge _ => none
  | .cueTrailingEdge _ => some ([.CUE_STATUS, .CUE_NEXT_S, .CUE_NEXT_NS, .CUE_CNT])
  | .cueArm _ _ _ => some ([.CUE_STATUS, .CUE_NEXT_S, .CUE_NEXT_NS, .CUE_ARM_NS, .CUE_CNT])
  | .captureEdge _ _ => some ([.CAP_STATUS, .CAP_OVF_CNT] ++ notifyRegs)
  | .capturePop _ _ _ => some ([.CAP_STATUS])
  | .uplinkUp _ => some ([.NET_STATUS] ++ alertRegs)
  | .uplinkDown _ _ _ _ => some ([.NET_STATUS, .FWD_DROP] ++ alertRegs)
  | .uplinkRetrain _ _ => some ([.EPOCH_TAB, .NET_STATUS, .PCS_ERR_WIN, .PCS_ERR_CNT, .RETRAIN_CNT, .FWD_DROP] ++ alertRegs
    ++ notifyRegs)
  | .retrainEnd _ => some ([.NET_STATUS])
  | .keyInstall _ _ => some ([.KEY_DATA])
  | .moduleRead _ _ _ _ _ => some ([.MOD_CMD, .MOD_DATA, .MOD_STATUS])
  | .moduleWrite _ _ _ _ => some ([.MOD_CMD, .MOD_DATA, .MOD_STATUS])
  | .flowFrameReady _ => some ([.FWD_DROP] ++ txRegs)
  | .frameTxEnd _ => some (txRegs)
  | .alertRaise _ _ => some (alertRegs)
  | .alertClr _ _ => some ([.ALERT_STATUS])
  | .tieConfigRx _ _ => some ([.TIE_STATUS, .TIE_CRC_ERR, .FWD_DROP] ++ alertRegs)
  | .tieBarlineRx _ _ => none
  | .tieHeartbeatRx _ _ => some ([.TIE_STATUS, .TIE_CRC_ERR, .FWD_DROP] ++ alertRegs)
  | .tieHeartbeatTx => some ([])
  | .tieHeartbeatMiss => some ([.TIE_STATUS, .TIE_SPLIT_BEAT, .TIE_SPLIT_CNT, .TIE_HB_MISS, .FWD_DROP] ++ servoLossRegs ++
    notifyRegs)
  | .tieLaneLock => some ([.TIE_STATUS])
  | .tieLaneLockLoss => some ([.EPOCH_TAB, .TIE_STATUS, .TIE_SPLIT_BEAT, .TIE_SPLIT_CNT, .FWD_DROP] ++ servoLossRegs ++
    notifyRegs)
  | .tieFormingTimeout => some ([.TIE_STATUS, .FWD_DROP] ++ servoLossRegs)
  | .tieTimeSyncTx => some ([.TXTS_STATUS, .TXTS_FULL_CNT])
  | .tieTimeFupRx _ _ => some ([.TXTS_FULL_CNT, .TIE_CRC_ERR] ++ alertRegs)
  | .tieTimeDreqRx _ => some ([.TIE_CRC_ERR] ++ alertRegs)
  | .tieTimeDrespRx _ _ => some ([.INCR, .SERVO_E, .SERVO_DELAY, .SERVO_Y, .TIE_DELAY, .TIE_CRC_ERR] ++ alertRegs ++
    clockMoveRegs)
  | .tieTimeSyncRx _ => some ([.TIE_CRC_ERR] ++ alertRegs)
  | .tieLinesRx _ _ => some ([.TIE_CRC_ERR, .TIE_LINES_LATE] ++ alertRegs)
  | .tieFwdRx _ _ _ => some ([.TIE_CRC_ERR] ++ alertRegs)
  | .tieAlertRx _ _ => some ([.TIE_CRC_ERR] ++ alertRegs)
  | .tieAckRx _ => some ([.TIE_CRC_ERR] ++ alertRegs)
  | .tieResend => some ([.TIE_RESEND])
  | .procSample _ _ => some ([.CH_LAST, .CH_FLAGS, .CH_OPEN_CNT] ++ notifyRegs)
  | .excFault _ _ _ => some ([.EXC_STATUS] ++ notifyRegs)
  | .excRampEnd _ => some ([.EXC_STATUS])
  | .refMonitor _ => some ([.PROC_STATUS, .REF_DEV] ++ notifyRegs)
  | .encoderCount _ _ _ => none
  | .encoderIndex _ => some ([.ENC_ZPOS, .ENC_Z_CNT])
  | .encCfgWrite _ _ _ => some ([.ENC_CFG])
  | .serialAreaPoll _ => some ([.SER_STATUS, .SER_WR_ERR])
  | .serialNotifyPost _ => some ([.SER_STATUS, .SER_WR_ERR] ++ postRegs)
  | .serialTxStart _ => some ([.SER_STATUS, .SER_BADTX_CNT, .SER_WR_ERR])
  | .serialTxCharEnd _ => some ([.SER_STATUS, .SER_RXOVF_CNT, .SER_LIN_ERR_CNT, .SER_BADTX_CNT, .SER_WR_ERR, .SER_TX_CNT])
  | .serialDeTailEnd _ => some ([.SER_STATUS, .SER_WR_ERR])
  | .serialStartEdge _ => some ([.SER_STATUS, .SER_WR_ERR])
  | .serialRxCharEnd _ _ => some ([.SER_STATUS, .SER_PAR_CNT, .SER_FRM_CNT, .SER_NOISE_CNT, .SER_FALSE_CNT, .SER_RXOVF_CNT,
    .SER_LIN_ERR_CNT, .SER_WR_ERR, .SER_TX_CNT, .SER_RX_CNT])
  | .serialRxIdle _ => some ([.SER_STATUS, .SER_WR_ERR])
  | .serialSleep _ => some ([.SER_STATUS, .SER_WR_ERR])
  | .serialSleepEnter _ => some ([.SER_STATUS, .SER_WR_ERR])
  | .serialWakeEdge _ => some ([.SER_STATUS, .SER_WAKE_LOST, .SER_WR_ERR])
  | .serialAddressMatch _ _ => some ([.SER_STATUS, .SER_PAR_CNT, .SER_FRM_CNT, .SER_NOISE_CNT, .SER_FALSE_CNT, .SER_RXOVF_CNT,
    .SER_WR_ERR, .SER_RX_CNT])
  | .serialRollcall _ => some ([.SER_STATUS, .SER_RC_CNT, .SER_WR_ERR, .SER_TX_CNT])
  | .serialCancel _ => some ([.SER_STATUS, .SER_WR_ERR])
  | .rollcallSlotEnd _ _ => some ([.SER_STATUS, .SER_RC_CNT, .SER_WR_ERR, .SER_TX_CNT, .SER_PAR_CNT, .SER_FRM_CNT,
    .SER_NOISE_CNT, .SER_FALSE_CNT, .SER_RX_CNT])
  | .linFrameDeadline _ => some ([.SER_STATUS, .SER_RXOVF_CNT, .SER_LIN_ERR_CNT, .SER_WR_ERR, .SER_TX_CNT])
  | .linBreakDetect _ _ => some ([.SER_STATUS, .SER_LINDIV, .SER_RXOVF_CNT, .SER_LIN_ERR_CNT, .SER_WR_ERR, .SER_TX_CNT])
  | .checkFeed _ _ _ => some ([.CHK_BYTES] ++ violationRegs)
  | .checkRestart _ _ _ => some ([.CHK_BYTES, .VW_CHK_CTRL] ++ violationRegs)
  | .inboundUnsupportedAccess _ => some ([.HOST_BADACC_CNT])
  | .hostReset _ => some ([.EPOCH_TAB, .CH_BYTES, .CH_DONE_CNT, .HOST_LINK, .HOST_BADACC_CNT, .HOST_EPOCH_CNT,
    .HOST_TAG_STALL, .HOST_SHORT_CNT, .HOST_DOWN_CNT, .MSIX_TABLE] ++ postRegs)
  | .msixUnmask _ => some ([.MSIX_PBA, .MSIX_TABLE])
  | .powerOnReset _ => none
  | .brownout => none
  | .refclkLost => none
  | .pllUnlock _ => none
  | .pllModUnlock => some ([.CLK_STATUS] ++ notifyRegs)
  | .resetPin => none
  | .warmReset _ _ => none
  | .standby _ _ => none
  | .wakePin => none
  | .blockReset _ _ => some (blockRegs)
  | .blockOff _ _ => some (blockRegs)
  | .blockOn _ _ => some (blockRegs)
  | .blockResetDone => some ([.BLK_STATUS, .EPOCH_TAB])
  | .sfdpReadEnd _ => some ([.BOOT_STATUS, .FLASH_INFO, .LOAD_STATUS, .PENDING_BEAT])
  | .lcGetchal _ => none
  | .lcToken _ => none
  | .lcProgkey _ _ => none
  | .lcRevoke _ _ => none
  | .lcAdvance _ _ => none
  | .lcRelock _ => none
  | .lcCommandDone => some ([.LC_STATUS] ++ notifyRegs)
  | .lcEraseEnd => none
  | .tapReset => none
  | .idcode => none
  | .extest _ => none
  | .extestExit _ => none
  | .samplePreload _ _ => none
  | .dbgChal => none
  | .dbgToken _ => none
  | .dbgAccess _ _ _ => none
  | .bypass => none
  | .hostLinkUp _ _ _ _ => some ([.HOST_LINK])
  | .laneError _ => some ([.P_LANE_ERR])
  | .excFaultClear _ => some ([.EXC_STATUS])
  | .procSupplyLoss => some ([.PWR_STATUS, .EXC_STATUS] ++ notifyRegs)
  | .procSupplyReturn => some ([.PWR_STATUS, .EXC_STATUS])
  | .pllModRelock => some ([.CLK_STATUS])
  | .clockResetRelease => some ([])
  | .aerError _ => some ([])

/-- The parts a command may change; none: the statements about that command say what it leaves. -/
def commandChanges : Instr → Option (List StatePart)
  | .registerWrite _ _ _ _ => none
  | .registerReadClear _ _ _ => some [.latch, .ptp, .out, .lastRead, .cycle]
  | .wideRegisterLowRead _ _ _ => some [.latch, .ptp, .out, .lastRead, .cycle]
  | .timerPeriodExpiry => none
  | .beatinEdge _ => none
  | .deferredBarlineRelease => none
  | .idleBarline => none
  | .slotTableStart => some [.clock, .tempo, .dma, .net]
  | .slotStart _ _ => some [.clock, .svc]
  | .shortfallCheck _ _ _ => some [.clock, .used, .tempo, .ptp, .net, .tie, .out]
  | .loadGo _ _ => some [.load, .power, .out]
  | .loadCancel _ _ => some [.load, .power, .out]
  | .admissionEnd => some [.mem, .hostMem, .load, .used, .beat, .tempo, .queues, .posts, .trans, .dma, .align, .svc, .ptp,
    .net, .tie, .serial, .power, .ready, .out, .cycle]
  | .fullLoadApply => some [.mem, .load, .used, .trans, .pipes, .ptp, .net, .tie, .out, .fresh, .cycle]
  | .fullLoadCommit => some [.latch, .stage, .mem, .hostMem, .load, .used, .beat, .source, .tempo, .queues, .posts, .trans,
    .dma, .streams, .ports, .pipes, .align, .stats, .locks, .svc, .cues, .servo, .ptp, .net, .tie, .proc, .serial, .checks,
    .ready, .out, .fresh]
  | .voiceHalt _ _ => some [.mem, .hostMem, .load, .used, .queues, .posts, .trans, .dma, .align, .svc, .ptp, .net, .tie,
    .serial, .out, .cycle]
  | .controlRegs _ _ => none
  | .controlSetkey _ _ => none
  | .doorbellWrite _ _ _ _ => some [.mem, .hostMem, .used, .queues, .posts, .trans, .dma, .ptp, .net, .tie, .serial, .out,
    .cycle]
  | .queuePostRelease _ _ => some [.mem, .hostMem, .used, .queues, .posts, .trans, .ptp, .net, .tie, .out, .cycle]
  | .vwIrqMaskWrite _ _ _ => some [.out, .cycle]
  | .violInfoClear _ _ => some []
  | .walkStart => some [.trans]
  | .walkComplete _ _ => some [.mem, .hostMem, .used, .queues, .posts, .trans, .dma, .ptp, .net, .tie, .out, .cycle]
  | .faultSlotTake _ => some [.mem, .hostMem, .used, .queues, .posts, .trans, .ptp, .net, .tie, .out, .cycle]
  | .faultRetry _ _ _ _ => some [.mem, .hostMem, .used, .queues, .posts, .trans, .dma, .svc, .ptp, .net, .tie, .out, .fresh,
    .cycle]
  | .faultSkip _ _ _ _ => some [.mem, .hostMem, .used, .queues, .posts, .trans, .dma, .svc, .ptp, .net, .tie, .out, .fresh,
    .cycle]
  | .faultAbort _ _ _ _ => some [.mem, .hostMem, .used, .queues, .posts, .trans, .dma, .svc, .ptp, .net, .tie, .out, .fresh,
    .cycle]
  | .tlbInvalidate _ _ _ => some [.trans, .out, .cycle]
  | .invalidationComplete _ => some [.mem, .hostMem, .used, .queues, .posts, .trans, .dma, .ptp, .net, .tie, .out, .cycle]
  | .ptrootWrite _ _ _ => some [.trans, .out, .cycle]
  | .scrubPass _ _ _ => some [.used, .ptp, .net, .tie, .out]
  | .refmultPoll _ _ => some []
  | .descriptorFetchReturn _ _ => some [.mem, .hostMem, .used, .queues, .posts, .trans, .dma, .ptp, .net, .tie, .out,
    .cycle]
  | .readBurstIssue _ _ => some [.mem, .hostMem, .used, .queues, .posts, .trans, .dma, .ptp, .net, .tie, .out, .cycle]
  | .readBurstReturn _ _ => some [.mem, .hostMem, .used, .queues, .posts, .trans, .dma, .ptp, .net, .tie, .out, .cycle]
  | .writeBurstIssue _ _ => some [.mem, .hostMem, .used, .queues, .posts, .trans, .dma, .ptp, .net, .tie, .out, .fresh,
    .cycle]
  | .writeBurstAck _ _ => some [.mem, .hostMem, .used, .queues, .posts, .trans, .dma, .ptp, .net, .tie, .out, .cycle]
  | .eventLineWaitEnd _ => some [.dma, .out, .cycle]
  | .dmaCmdResume _ => some [.dma]
  | .dmaCmdAbort _ => some [.mem, .hostMem, .used, .queues, .posts, .trans, .dma, .ptp, .net, .tie, .out, .cycle]
  | .outboundCompletionTimeout _ => some [.mem, .hostMem, .used, .queues, .posts, .trans, .dma, .ptp, .net, .tie, .out,
    .cycle]
  | .staleReplyDiscard _ => some []
  | .frameStart _ _ _ _ => some [.streams, .ports, .pipes, .stats]
  | .frameEnd _ _ _ _ => some [.streams, .ports, .pipes, .stats]
  | .longPacketReceive _ => some [.mem, .hostMem, .used, .arrivals, .streams, .ports, .align]
  | .linkLost _ _ => some [.used, .ptp, .net, .tie, .out]
  | .cciWriteEnd _ _ => some [.mem, .hostMem, .used, .queues, .posts, .trans, .streams, .ports, .ptp, .net, .tie, .out,
    .cycle]
  | .cciStretchTimeout _ => some [.mem, .hostMem, .used, .queues, .posts, .trans, .streams, .ports, .ptp, .net, .tie, .out,
    .cycle]
  | .cciDirectWrite _ _ _ => some [.ports]
  | .cciDirectRead _ _ _ => some [.ports]
  | .cciDirectStart _ => some [.ports, .out]
  | .cciDirectEnd _ _ _ => some [.ports, .out]
  | .pipeLineTake _ => some [.streams, .ports, .pipes, .stats]
  | .pipeLineEmit _ => some [.mem, .hostMem, .used, .pipes, .align, .out]
  | .windowCut _ => some [.mem, .hostMem, .used, .align]
  | .statsRecordCompute _ => some [.stats, .locks, .svc, .fresh]
  | .tileStageEnd _ _ _ => some [.mem, .hostMem, .used, .queues, .posts, .trans, .align, .svc, .ptp, .net, .tie, .out,
    .fresh, .cycle]
  | .tileStart _ => some [.svc]
  | .tileEnd _ => some [.mem, .hostMem, .clock, .used, .queues, .posts, .trans, .svc, .ptp, .net, .tie, .out, .fresh,
    .cycle]
  | .imageRequest _ _ => some [.svc, .net]
  | .serverRequestServe _ _ => some [.mem, .hostMem, .clock, .used, .queues, .posts, .trans, .svc, .ptp, .net, .tie, .out,
    .fresh, .cycle]
  | .arpRequest _ _ _ _ => some [.used, .ptp, .net, .out]
  | .icmpEchoRequest _ _ _ _ _ _ => some [.used, .svc, .ptp, .net, .out]
  | .frameDrop _ _ => some []
  | .clkNsRead _ => some [.lastRead]
  | .incrBaseWrite _ _ => some [.servo]
  | .clockSet _ _ => some [.clock, .cues, .servo]
  | .clockStep _ _ => some [.clock, .cues, .servo]
  | .nsRollover => some [.clock, .used, .ptp, .net, .out]
  | .ptpSyncRx _ => some [.clock, .cues, .servo, .fresh]
  | .ptpFollowUpRx _ => some [.clock, .cues, .servo, .fresh]
  | .ptpDelayReqTx _ => some [.used, .ptp, .net, .out]
  | .ptpDelayRespRx _ => some [.servo, .ptp]
  | .delayReqTimeout _ => some [.clock, .ptp]
  | .ptpSyncTx _ => some [.used, .ptp, .net, .out]
  | .ptpAnnounceTx _ => some [.used, .ptp, .net, .out]
  | .ptpAnnounceRx _ _ => some [.servo]
  | .ptpDelayReqRx _ => some [.used, .ptp, .net, .out]
  | .ptpHeldMessageSend _ => some [.used, .ptp, .net, .out]
  | .servoSyncTimeout => some [.clock, .used, .servo, .ptp, .net, .tie, .out]
  | .ptpAnnounceTimeout => some [.clock, .used, .servo, .ptp, .net, .tie, .out]
  | .servoBlockEnd => some [.clock, .used, .servo, .ptp, .net, .tie, .out]
  | .cueLeadingEdge _ => none
  | .cueTrailingEdge _ => some [.clock, .ports, .cues]
  | .cueArm _ _ _ => some [.cues]
  | .captureEdge _ _ => some [.caps, .out]
  | .capturePop _ _ _ => some [.caps]
  | .uplinkUp _ => some [.used, .ptp, .net, .tie, .out]
  | .uplinkDown _ _ _ _ => some [.used, .ptp, .net, .tie, .out]
  | .uplinkRetrain _ _ => some [.used, .ptp, .net, .tie, .out]
  | .retrainEnd _ => some [.clock]
  | .keyInstall _ _ => some [.net]
  | .moduleRead _ _ _ _ _ => some [.out]
  | .moduleWrite _ _ _ _ => some [.out]
  | .flowFrameReady _ => some [.used, .ptp, .net, .out]
  | .frameTxEnd _ => some [.clock, .used, .ptp, .net, .out]
  | .alertRaise _ _ => some [.used, .ptp, .net, .tie, .out]
  | .alertClr _ _ => some []
  | .tieConfigRx _ _ => some [.used, .ptp, .net, .tie, .out]
  | .tieBarlineRx _ _ => none
  | .tieHeartbeatRx _ _ => some [.used, .ptp, .net, .tie, .out]
  | .tieHeartbeatTx => some [.clock, .tie, .out]
  | .tieHeartbeatMiss => some [.clock, .used, .source, .servo, .ptp, .net, .tie, .out]
  | .tieLaneLock => some [.tie, .out]
  | .tieLaneLockLoss => some [.used, .source, .servo, .ptp, .net, .tie, .out]
  | .tieFormingTimeout => some [.clock, .used, .source, .servo, .ptp, .net, .tie, .out]
  | .tieTimeSyncTx => some [.clock, .ptp, .tie, .out]
  | .tieTimeFupRx _ _ => some [.used, .ptp, .net, .tie, .out]
  | .tieTimeDreqRx _ => some [.used, .ptp, .net, .tie, .out]
  | .tieTimeDrespRx _ _ => some [.clock, .used, .cues, .servo, .ptp, .net, .tie, .out, .fresh]
  | .tieTimeSyncRx _ => some [.used, .ptp, .net, .tie, .out]
  | .tieLinesRx _ _ => some [.mem, .hostMem, .used, .align, .ptp, .net, .tie, .out]
  | .tieFwdRx _ _ _ => some [.used, .ptp, .net, .tie, .out]
  | .tieAlertRx _ _ => some [.used, .ptp, .net, .tie, .out]
  | .tieAckRx _ => some [.used, .ptp, .net, .tie, .out]
  | .tieResend => some [.clock, .tie, .out]
  | .procSample _ _ => some [.proc, .out]
  | .excFault _ _ _ => some [.out]
  | .excRampEnd _ => some [.clock, .proc, .fresh]
  | .refMonitor _ => some [.clock, .proc, .out]
  | .encoderCount _ _ _ => none
  | .encoderIndex _ => some []
  | .encCfgWrite _ _ _ => some []
  | .serialAreaPoll _ => some [.mem, .hostMem, .clock, .serial]
  | .serialNotifyPost _ => some [.mem, .hostMem, .clock, .used, .queues, .posts, .trans, .ptp, .net, .tie, .serial, .out,
    .cycle]
  | .serialTxStart _ => some [.mem, .hostMem, .serial, .out]
  | .serialTxCharEnd _ => some [.mem, .hostMem, .clock, .serial, .out]
  | .serialDeTailEnd _ => some [.mem, .hostMem, .clock, .serial]
  | .serialStartEdge _ => some [.mem, .hostMem, .serial]
  | .serialRxCharEnd _ _ => some [.mem, .hostMem, .clock, .serial, .out]
  | .serialRxIdle _ => some [.mem, .hostMem, .clock, .serial]
  | .serialSleep _ => some [.mem, .hostMem, .serial]
  | .serialSleepEnter _ => some [.mem, .hostMem, .serial]
  | .serialWakeEdge _ => some [.mem, .hostMem, .serial]
  | .serialAddressMatch _ _ => some [.mem, .hostMem, .serial]
  | .serialRollcall _ => some [.mem, .hostMem, .serial, .out]
  | .serialCancel _ => some [.mem, .hostMem, .serial]
  | .rollcallSlotEnd _ _ => some [.mem, .hostMem, .clock, .serial, .out]
  | .linFrameDeadline _ => some [.mem, .hostMem, .clock, .serial]
  | .linBreakDetect _ _ => some [.mem, .hostMem, .serial]
  | .checkFeed _ _ _ => some [.checks, .out, .cycle]
  | .checkRestart _ _ _ => some [.checks, .out, .cycle]
  | .inboundUnsupportedAccess _ => some [.lastRead]
  | .hostReset _ => some [.latch, .stage, .mem, .hostMem, .used, .queues, .posts, .trans, .dma, .ptp, .net, .tie, .out,
    .cycle]
  | .msixUnmask _ => some [.out]
  | .powerOnReset _ => none
  | .brownout => none
  | .refclkLost => none
  | .pllUnlock _ => none
  | .pllModUnlock => some [.out]
  | .resetPin => none
  | .warmReset _ _ => none
  | .standby _ _ => none
  | .wakePin => none
  | .blockReset _ _ => some [.latch, .stage, .mem, .hostMem, .used, .source, .queues, .posts, .trans, .dma, .streams,
    .ports, .pipes, .align, .servo, .ptp, .net, .tie, .power, .out, .cycle]
  | .blockOff _ _ => some [.latch, .stage, .mem, .hostMem, .used, .source, .queues, .posts, .trans, .dma, .streams, .ports,
    .pipes, .align, .servo, .ptp, .net, .tie, .power, .out, .cycle]
  | .blockOn _ _ => some [.latch, .stage, .mem, .hostMem, .used, .source, .queues, .posts, .trans, .dma, .streams, .ports,
    .pipes, .align, .servo, .ptp, .net, .tie, .power, .out, .cycle]
  | .blockResetDone => some [.power]
  | .sfdpReadEnd _ => some [.load, .power]
  | .lcGetchal _ => none
  | .lcToken _ => none
  | .lcProgkey _ _ => none
  | .lcRevoke _ _ => none
  | .lcAdvance _ _ => none
  | .lcRelock _ => none
  | .lcCommandDone => some [.lc, .out]
  | .lcEraseEnd => none
  | .tapReset => none
  | .idcode => none
  | .extest _ => none
  | .extestExit _ => none
  | .samplePreload _ _ => none
  | .dbgChal => none
  | .dbgToken _ => none
  | .dbgAccess _ _ _ => none
  | .bypass => none
  | .hostLinkUp _ _ _ _ => some []
  | .laneError _ => some []
  | .excFaultClear _ => some [.proc]
  | .procSupplyLoss => some [.power, .out]
  | .procSupplyReturn => some [.proc, .power]
  | .pllModRelock => some [.proc]
  | .clockResetRelease => some [.power]
  | .aerError _ => some [.out]

end Sys2Proof.Machine
end

