-- ==== Sys2Proof/Certificates/Slice0/Obligations.lean ====
section
/-!
DEFINITION. The statements about the block, for the provers: one per family of commands, and what holds of every step.
-/

open Sys2Proof Sys2Proof.Machine

/-! ### The step -/

/-- Commands run in the order they were sent: a step takes the command at the front of the queue and is that command's meaning on
the rest. The queue is the model's (log entry 4). -/
def Obligations.StepRunsFrontCommand : Prop :=
  ∀ (c : Instr) (l : List Instr) (s : State), step { s with pending := c :: l } = exec c { s with pending := l }

/-- With no command waiting a step is one TCLK: while domain TIME is up the time of day gains INCR (Q8.24 ns), carried into
seconds modulo 2^64, and nothing else changes (R271; the tick in an empty queue is the model's choice, log entry 4). No command
touches the queue it came from: its meaning leaves the commands that wait. -/
def Obligations.QueueAndClockTick : Prop :=
  (∀ s : State, s.pending = [] → s.clockOk →
     ∃ t, step s = .next t ∧ t = { s with clock := t.clock } ∧ t.clockOk ∧
       t.clock.total = (if s.domUp .TIME then s.clock.total + s.rd .INCR 0 * 256 else s.clock.total) % (2 ^ 64 * 1000000000 * 2 ^ 32) ∧
       t.clock.elapsed = (if s.domUp .TIME then s.clock.elapsed + s.rd .INCR 0 * 256 else s.clock.elapsed)) ∧
  (∀ (c : Instr) (s t : State), exec c s = .next t → t.pending = s.pending)

/-- Every command goes on, in every state but one: only EXTEST current with READY at 1 stops a command, under its own fault, and
then only one that raises a barline or cuts a window (ch. 19, Corners). -/
def Obligations.OnlyExtestStopsACommand : Prop :=
  (∀ (c : Instr) (s : State), s.extestPlays = false → ∃ t, exec c s = .next t) ∧
  (∀ (c : Instr) (s : State) (r : Refusal), exec c s ≠ .refused r) ∧
  (∀ (c : Instr) (s : State) (f : Fault), exec c s = .fault f → f = .extestPlaying ∧ s.extestPlays = true ∧
    (c = .timerPeriodExpiry ∨ (∃ b n, c = .beatinEdge ⟨b, n⟩) ∨ c = .deferredBarlineRelease ∨ c = .idleBarline ∨
      (∃ k a b n, c = .encoderCount k ⟨a, b⟩ n) ∨ (∃ k, c = .cueLeadingEdge k) ∨ (∃ w, c = .windowCut w) ∨
      (∃ h b, c = .tieBarlineRx h b)))

/-- Right after a power-on reset the invariant of the machine holds. What reset leaves: the registers whose reset value the
register map gives as other than 0, each at that value, and every other register at 0 (ch. 20; the fused LC_STATE, LC_UID and
HOST_ID are the model's, log entry 1, and left out here). What reset leaves beside the registers: READY low, no score in any
plane, no queue, no cue, an empty clock, every domain up, and nothing in any memory. -/
def Obligations.ResetLeavesTheMapsValues : Prop :=
  (State.reset.Inv) ∧
  (∀ (r : RegId) (i : Nat), r ≠ .LC_STATE → r ≠ .LC_UID → r ≠ .HOST_ID →
     State.reset.rd r i =
       if r = .RST_CAUSE ∨ r = .MEM_STATUS then 1 else if r = .CLK_STATUS then 0xF
       else if r = .BOOT_CODES ∨ r = .LOAD_FAIL_OFS ∨ r = .CUE_NEXT_NS ∨ r = .AGG_SEQ then 0xFFFFFFFF
       else if r = .LOAD_FAIL_RES then 0xFF else if r = .SCRUB_CFG then 0xE10 else if r = .P_CFG then 3
       else if r = .INCR ∨ r = .INCR_BASE then 0x04000000 else if r = .SERVO_CFG then 0x14DB3
       else if r = .STEP_THR then 20000 else if r = .LOCK_THR then 1000 else if r = .PTP_CFG then 0x80803100
       else if r = .PTP_CLASS then 0xFFFFFEF8 else if r = .CUE_NEXT_S ∨ r = .VW_SEGUE_BEAT then 2 ^ 64 - 1
       else if r = .CTL_PORT then 47000 else if r = .ENC_CFG then 8 else if r = .MSIX_TABLE ∧ i % 4 = 3 then 1 else 0) ∧
  (State.reset.ready = false ∧ State.reset.load = ⟨[], [], none, none, none, none, false, none, []⟩ ∧ State.reset.queues = [] ∧
   State.reset.posts = [] ∧ State.reset.cues = [] ∧ State.reset.clock = ⟨0, 0, 0, 0⟩ ∧
   (∀ d : Dom, State.reset.domUp d = true) ∧ (∀ pa, State.reset.readByte pa = 0))

/-- Every step keeps the invariant: device memory, host memory and flash in canonical form, the clock a time of day, only commands
that can be sent in the queue, and no FCLK cycle left open. -/
def Obligations.StepKeepsInvariant : Prop :=
  ∀ s t : State, s.Inv → step s = .next t → t.Inv

/-- No step takes a fuse back: a programmed key slot keeps its key and usage, and a revoked one stays revoked (R414, R415). -/
def Obligations.StepNeverClearsFuses : Prop :=
  ∀ s t : State, step s = .next t → s.fusesLater t

/-- A command of the frame table (Frames.lean) changes no register that its row of the table leaves out. It changes no part of the
machine that its row leaves out. A command whose row names no memory and no register that lays out the address space leaves every
byte of device memory, of host memory and of the boot flash reading as before. Commands without a row are those that may raise a
barline, reset the device or write any register; their own statements say what they leave. -/
def Obligations.CommandsChangeOnlyTheirFrame : Prop :=
  (∀ (c : Instr) (s t : State) (l : List RegId), exec c s = .next t → commandWrites c = some l → s.onlyNamed t l) ∧
  (∀ (c : Instr) (s t : State) (l : List StatePart), exec c s = .next t → commandChanges c = some l → s.onlyParts t l) ∧
  (∀ (c : Instr) (s t : State) (lr : List RegId) (lp : List StatePart), exec c s = .next t → commandWrites c = some lr →
     commandChanges c = some lp → RegId.MEM_CFG ∉ lr → RegId.HOST_OB_BASE ∉ lr → StatePart.mem ∉ lp → StatePart.hostMem ∉ lp →
     StatePart.flash ∉ lp → s.sameBytes t)

/-! ### Register accesses -/

/-- A write to a register that does nothing else (R11, R14, R15): each field takes what its access code and its reserved encodings
give it, and nothing else changes. Reserved space ignores writes. -/
def Obligations.WritesFollowAccessCodes : Prop :=
  (∀ (p : Path) (sp : Space) (o : Nat) (r : RegId) (i : Nat) (w : Word) (s : State), s.reaches p sp o r i false →
    r ∉ actingRegs → r.row.wide = false →
    Gives (.registerWrite p sp o w) s fun t =>
      (∀ f, f ∈ r.row.fields → t.rdF r i f.hi f.lo = writtenField s.scoreLive f (w.toNat / 2 ^ f.lo % 2 ^ (f.hi + 1 - f.lo))
        (s.rdF r i f.hi f.lo)) ∧
      s.frame t [(r, i)] []) ∧
  (∀ (p : Path) (o : Nat) (w : Word) (s : State),
    (conductorReg p o = none ∨ ∃ r i h, conductorReg p o = some (r, i, h) ∧ s.entryOpen p r i = false) →
    exec (.registerWrite p .conductor o w) s = .next s) ∧
  (∀ (p : Path) (v o : Nat) (w : Word) (s : State), s.pageOpen p v → pageReg v o = none →
    exec (.registerWrite p (.page v) o w) s = .next s) ∧
  (∀ (p : Path) (v o : Nat) (w : Word) (s : State), p ≠ .debug → s.domUp .FABRIC = true → v < 1024 → s.declared v = false →
    Gives (.registerWrite p (.page v) o w) s fun t => s.recordsViolation t v (pathCode p) true 0 o 0 ∧ t.ready = s.ready)

/-- A read of a register of 32 bits (R11, R14, R431, R432): each field reads as the device shows it, a write-only field and
reserved bits as 0; fields that a read clears are then 0, and nothing else changes. Reserved space reads as 0, and a gated entry
as its reset value. -/
def Obligations.ReadsReturnAndClear : Prop :=
  (∀ (p : Path) (sp : Space) (o : Nat) (r : RegId) (i : Nat) (c : Instr) (s : State), s.reaches p sp o r i false →
    r.row.wide = false → r ≠ .CLK_NS → r ≠ .VW_CHK_DATA → r ≠ .SYS_EVT →
    (c = .registerReadClear p sp o ∨ c = .wideRegisterLowRead p sp o) →
    Gives c s fun t =>
      (∀ f, f ∈ r.row.fields → t.lastRead.toNat / 2 ^ f.lo % 2 ^ (f.hi + 1 - f.lo) =
        if f.acc = .WO then 0 else s.look r i / 2 ^ f.lo % 2 ^ (f.hi + 1 - f.lo)) ∧
      (∀ b, b < 32 → (∀ f, f ∈ r.row.fields → b < f.lo ∨ f.hi < b) → t.lastRead.getLsbD b = false) ∧
      (∀ f, f ∈ r.row.fields → t.rdF r i f.hi f.lo = if f.acc = .RC then 0 else s.rdF r i f.hi f.lo) ∧
      s.frame t [(r, i)] [.lastRead] ∧ ((∀ f, f ∈ r.row.fields → f.acc ≠ .RC) → t.rd r i = s.rd r i)) ∧
  (∀ (p : Path) (o : Nat) (s : State), conductorReg p o = none →
    Gives (.registerReadClear p .conductor o) s fun t => t = { s with lastRead := 0 }) ∧
  (∀ (p : Path) (o : Nat) (r : RegId) (i : Nat) (s : State), conductorReg p o = some (r, i, false) → s.gated r i = true →
    Gives (.registerReadClear p .conductor o) s fun t =>
      t = { s with lastRead := BitVec.ofNat 32 (readFields r.row.fields (s.withEpoch r i (r.resetValue i))) }) ∧
  (∀ (p : Path) (v o : Nat) (s : State), p ≠ .debug → s.domUp .FABRIC = true → v < 1024 → s.declared v = false →
    Gives (.registerReadClear p (.page v) o) s fun t => s.recordsViolation t v (pathCode p) false 0 o 0 ∧ t.lastRead = 0) ∧
  (∀ (v o : Nat) (s : State), Gives (.registerReadClear .debug (.page v) o) s fun t => t = { s with lastRead := 0 })

/-- A register of 64 bits (R13): a write of its high word is staged and changes nothing else; a write of its low word commits both
words; a read of its low word latches the high one, and a read of its high word returns the latch. A latch or staging register
that nothing filled since reset holds the high word of the reset value. A write of a register that starts an action is that
command, on every path that reaches the register. -/
def Obligations.WideRegistersAndActingRegisters : Prop :=
  (∀ (p : Path) (sp : Space) (o : Nat) (r : RegId) (i : Nat) (s : State), r.row.wide = true →
     (s.reaches p sp o r i true → r ≠ .VW_DOORBELL →
       (∀ w : Word, r ∉ actingRegs ∨ r = .VW_PTROOT →
         Gives (.registerWrite p sp o w) s fun t => t = { s with stage := Tab.put (regKey r i) (some w) s.stage }) ∧
       ∀ c, (c = .registerReadClear p sp o ∨ c = .wideRegisterLowRead p sp o) →
         Gives c s fun t => t = { s with lastRead := match Tab.get none s.latch (regKey r i) with
           | some x => x
           | none => BitVec.ofNat 32 (r.resetValue i / 4294967296) }) ∧
     (s.reaches p sp o r i false →
       (∀ w : Word, r ∉ actingRegs →
         Gives (.registerWrite p sp o w) s fun t =>
           (∀ f, f ∈ r.row.fields → t.rdF r i f.hi f.lo = writtenField s.scoreLive f
             ((w.toNat + 4294967296 * match Tab.get none s.stage (regKey r i) with
               | some x => x.toNat
               | none => r.resetValue i / 4294967296) / 2 ^ f.lo % 2 ^ (f.hi + 1 - f.lo)) (s.rdF r i f.hi f.lo)) ∧
           s.frame t [(r, i)] []) ∧
       ∀ c, (c = .wideRegisterLowRead p sp o ∨ c = .registerReadClear p sp o) →
         Gives c s fun t => t = { s with
           lastRead := BitVec.ofNat 32 (readFields r.row.fields (s.look r i))
           latch := Tab.put (regKey r i) (some (BitVec.ofNat 32 (readFields r.row.fields (s.look r i) / 4294967296))) s.latch })) ∧
  (∀ (p : Path) (o i : Nat) (w : Word) (s : State),
     (s.reaches p .conductor o .RST_CTRL i false → exec (.registerWrite p .conductor o w) s = exec (.warmReset p w) s) ∧
     (s.reaches p .conductor o .PWR_CTRL i false → exec (.registerWrite p .conductor o w) s = exec (.standby p w) s) ∧
     (s.reaches p .conductor o .BLK_CTRL i false → exec (.registerWrite p .conductor o w) s = exec (.blockReset p w) s) ∧
     (s.reaches p .conductor o .LOAD_CTRL i false → exec (.registerWrite p .conductor o w) s = exec (.loadGo p w) s) ∧
     (s.reaches p .conductor o .VOICE_HALT i false → exec (.registerWrite p .conductor o w) s = exec (.voiceHalt p w) s) ∧
     (s.reaches p .conductor o .VIOL_INFO i false → exec (.registerWrite p .conductor o w) s = exec (.violInfoClear p w) s) ∧
     (s.reaches p .conductor o .LC_CMD i false → exec (.registerWrite p .conductor o w) s = exec (.lcAdvance p w) s) ∧
     (s.reaches p .conductor o .STEP_NS i false → exec (.registerWrite p .conductor o w) s = exec (.clockStep p w) s) ∧
     (s.reaches p .conductor o .SET_CTRL i false → exec (.registerWrite p .conductor o w) s = exec (.clockSet p w) s) ∧
     (s.reaches p .conductor o .INCR_BASE i false → exec (.registerWrite p .conductor o w) s = exec (.incrBaseWrite p w) s) ∧
     (s.reaches p .conductor o .ALERT_RAISE i false → exec (.registerWrite p .conductor o w) s = exec (.alertRaise p w) s) ∧
     (s.reaches p .conductor o .ALERT_CLR i false → exec (.registerWrite p .conductor o w) s = exec (.alertClr p w) s) ∧
     (i < 32 → s.reaches p .conductor o .CUE_ARM_NS i false → exec (.registerWrite p .conductor o w) s = exec (.cueArm p i w) s) ∧
     (∀ v, s.pageOpen p v →
       exec (.registerWrite p (.page v) 0x60 w) s = exec (.tlbInvalidate p v w) s ∧
       exec (.registerWrite p (.page v) 0x58 w) s = exec (.ptrootWrite p v w) s ∧
       exec (.registerWrite p (.page v) 0x2C w) s = exec (.vwIrqMaskWrite p v w) s ∧
       exec (.registerWrite p (.page v) 0x70 w) s = exec (.checkFeed p v w) s ∧
       exec (.registerWrite p (.page v) 0x6C w) s = exec (.checkRestart p v w) s ∧
       (∀ q, q < 16 → exec (.registerWrite p (.page v) (0x1000 + 8 * q) w) s = exec (.doorbellWrite p v q w) s) ∧
       (w.toNat / 256 % 4 = 1 → exec (.registerWrite p (.page v) 0x68 w) s = exec (.faultRetry p v (w.toNat % 16) (w.toNat / 16 % 16)) s) ∧
       (w.toNat / 256 % 4 = 2 → exec (.registerWrite p (.page v) 0x68 w) s = exec (.faultSkip p v (w.toNat % 16) (w.toNat / 16 % 16)) s) ∧
       (w.toNat / 256 % 4 = 3 → exec (.registerWrite p (.page v) 0x68 w) s = exec (.faultAbort p v (w.toNat % 16) (w.toNat / 16 % 16)) s)))

/-! ### Time -/

/-- A read of CLK_NS answers the nanoseconds and latches CLK_S and CLK_FRAC in the same command, and changes nothing else; while
the register cannot be reached by the path it reads 0 and latches nothing (R273, R432). A set loads SET_S and SET_NS with fraction
0, a step adds its signed nanoseconds, both modulo 2^64 seconds with NS below 10^9; each takes effect at the next TCLK, whose
increment is the only one that passes, counts in STEP_CNT and sets the STEPPED bit. Nothing but the clock, that mark and the edges
of cues changes (R271, R274). A write of INCR_BASE inside its range takes it and forms INCR from it at once: INCR_BASE in FREE,
else with the servo's correction rounded to nearest, clamped to 0x0380_0000 to 0x0480_0000; a value outside the range is reserved
and ignored (R272). -/
def Obligations.ClockReadsSetsAndSteps : Prop :=
  ((∀ (p : Path) (s : State), s.regOpen p .TIME = true → s.clockOk →
     Gives (.clkNsRead p) s fun t =>
       t.lastRead.toNat = s.clock.ns ∧ t.rd .CLK_S 0 = s.clock.sec ∧ t.rd .CLK_FRAC 0 = s.clock.frac ∧
       s.frame t [(.CLK_S, 0), (.CLK_FRAC, 0)] [.lastRead]) ∧
   (∀ (p : Path) (s : State), s.regOpen p .TIME = false → Gives (.clkNsRead p) s fun t => t = { s with lastRead := 0 })) ∧
  ((∀ (p : Path) (v : Word) (s : State), s.regOpen p .TIME = true → v.toNat % 2 = 1 →
     Gives (.clockSet p v) s fun t =>
       t.clock.total = (s.rd .SET_S 0 * 1000000000 + s.rd .SET_NS 0) * 2 ^ 32 % clockRange ∧ t.clockOk ∧
       t.clock.elapsed = s.clock.elapsed + s.rd .INCR 0 * 256 ∧ s.countsUp t .STEP_CNT 0 ∧
       t.rdB .SERVO_STATUS 0 10 = true ∧ t.servo = { s.servo with stepped := true, marks := t.servo.marks } ∧
       s.onlyNamed t [.STEP_CNT, .SERVO_STATUS, .CUE_NEXT_S, .CUE_NEXT_NS, .CUE_STATUS, .CUE_CNT] ∧
       s.onlyParts t [.clock, .servo, .cues] ∧ s.sameBytes t) ∧
   (∀ (p : Path) (v : Word) (s : State), s.regOpen p .TIME = true →
     Gives (.clockStep p v) s fun t =>
       (t.clock.total : Int) = ((s.clock.total : Int) + s.rd .INCR 0 * 256 + v.toInt * 2 ^ 32) % (clockRange : Int) ∧ t.clockOk ∧
       t.clock.elapsed = s.clock.elapsed + s.rd .INCR 0 * 256 ∧ s.countsUp t .STEP_CNT 0 ∧
       t.rdB .SERVO_STATUS 0 10 = true ∧ t.servo = { s.servo with stepped := true, marks := t.servo.marks } ∧
       s.onlyNamed t [.STEP_CNT, .SERVO_STATUS, .CUE_NEXT_S, .CUE_NEXT_NS, .CUE_STATUS, .CUE_CNT] ∧
       s.onlyParts t [.clock, .servo, .cues] ∧ s.sameBytes t) ∧
   (∀ (p : Path) (v : Word) (s : State), s.regOpen p .TIME = false ∨ v.toNat % 2 = 0 → exec (.clockSet p v) s = .next s) ∧
   (∀ (p : Path) (v : Word) (s : State), s.regOpen p .TIME = false → exec (.clockStep p v) s = .next s)) ∧
  ((∀ (p : Path) (v : Word) (s : State), s.regOpen p .TIME = true → 0x03800000 ≤ v.toNat → v.toNat ≤ 0x04800000 →
     Gives (.incrBaseWrite p v) s fun t =>
       t.rd .INCR_BASE 0 = v.toNat ∧
       (t.rd .INCR 0 : Int) =
         max 0x03800000 (min 0x04800000 ((v.toNat : Int) + roundDiv ((v.toNat : Int) * s.correction) 1000000000)) ∧
       t.servo = { s.servo with marks := t.servo.marks } ∧ s.frame t [(.INCR_BASE, 0), (.INCR, 0)] [.servo]) ∧
   (∀ (p : Path) (v : Word) (s : State), s.regOpen p .TIME = false ∨ v.toNat < 0x03800000 ∨ 0x04800000 < v.toNat →
     exec (.incrBaseWrite p v) s = .next s))

/-- Arming: a write of CUE_ARM_NS arms a declared one-shot cue at CUE_ARM_S and the value written, in place of any pending edge; a
time that has passed fires at the next TCLK and one less than 8 ns after the end of the pulse in progress is moved there, and each
of those sets LATE and counts. A value of 10^9 or more, a cue of another mode and a path that cannot reach the register change
nothing (R293). A leading edge that is no tempo event: the clock has run to the edge's time, the pulse is active for WIDTH_NS, the
ball CUEk is at its active level by POL, a periodic or flicker-locked cue takes the first later point of its grid as its next edge
and any other has none, and no other cue changes (R290, R291, R294, R295). A trailing edge ends the pulse in progress at its time,
and the ball CUEk goes back to its inactive level; the cue keeps its pending edge, and one that a handover removed is gone. A
flicker-locked pulse that the pending edge would meet ends 8 ns before that edge, which sets TRUNC and counts. With no pulse in
progress nothing changes (R290, R296). -/
def Obligations.CuesArmBeginAndEnd : Prop :=
  ((∀ (p : Path) (k : Nat) (v : Word) (e : Elem) (s : State), k < 32 → s.regOpen p .TIME = true → v.toNat % 2 ^ 30 < 1000000000 →
     s.cueElem k = some e → cueMode e = 0 → (s.cue k).active = false → s.clock.total < s.armTime k v →
     Gives (.cueArm p k v) s fun t =>
       t.cue k = { s.cue k with next := some (s.armTime k v), waits := false } ∧ t.showsEdge k (s.armTime k v) ∧
       t.rdB .CUE_STATUS k 1 = true ∧ t.rd .CUE_ARM_NS k = v.toNat % 2 ^ 30 ∧ t.rd .CUE_CNT k = s.rd .CUE_CNT k ∧
       s.frame t [(.CUE_ARM_NS, k), (.CUE_NEXT_S, k), (.CUE_NEXT_NS, k), (.CUE_STATUS, k)] [.cues]) ∧
   (∀ (p : Path) (k : Nat) (v : Word) (e : Elem) (s : State), k < 32 → s.regOpen p .TIME = true → v.toNat % 2 ^ 30 < 1000000000 →
     s.cueElem k = some e → cueMode e = 0 → (s.cue k).active = false → s.armTime k v ≤ s.clock.total →
     Gives (.cueArm p k v) s fun t =>
       t.cue k = { s.cue k with next := some (s.clock.total + s.rd .INCR 0 * 256), waits := false } ∧
       t.rdB .CUE_STATUS k 1 = true ∧ t.rdB .CUE_STATUS k 3 = true ∧
       t.rdF .CUE_CNT k 7 0 = min 255 (s.rdF .CUE_CNT k 7 0 + 1) ∧
       s.frame t [(.CUE_ARM_NS, k), (.CUE_NEXT_S, k), (.CUE_NEXT_NS, k), (.CUE_STATUS, k), (.CUE_CNT, k)] [.cues]) ∧
   (∀ (p : Path) (k : Nat) (v : Word) (e : Elem) (s : State), k < 32 → s.regOpen p .TIME = true → v.toNat % 2 ^ 30 < 1000000000 →
     s.cueElem k = some e → cueMode e = 0 → (s.cue k).active = true → s.clock.total < s.armTime k v →
     s.armTime k v < s.pulseEnd (s.cue k) + 8 * 2 ^ 32 →
     Gives (.cueArm p k v) s fun t =>
       t.cue k = { s.cue k with next := some (s.pulseEnd (s.cue k) + 8 * 2 ^ 32), waits := false } ∧
       t.rdB .CUE_STATUS k 3 = true ∧ t.rdF .CUE_CNT k 7 0 = min 255 (s.rdF .CUE_CNT k 7 0 + 1)) ∧
   (∀ (p : Path) (k : Nat) (v : Word) (e : Elem) (s : State), s.cueElem k = some e → cueMode e ≠ 0 → exec (.cueArm p k v) s = .next s) ∧
   (∀ (p : Path) (k : Nat) (v : Word) (s : State), s.regOpen p .TIME = false ∨ 1000000000 ≤ v.toNat % 2 ^ 30 →
     exec (.cueArm p k v) s = .next s)) ∧
  (∀ (k : Nat) (e : Elem) (t : Nat) (s : State), (s.cue k).next = some t → s.cueElem k = some e → (s.cue k).gone = false →
     ¬s.cueIsTempo k →
     Gives (.cueLeadingEdge k) s fun u =>
       u.clock = (s.runToClock t).clock ∧ (u.cue k).active = true ∧ u.rdB .CUE_STATUS k 0 = true ∧
       u.cueBall k = !bit 0 (e.u8 9) ∧
       (u.cue k).next = (match (s.cue k).grid with
         | some g => if cueMode e = 1 ∨ cueMode e = 3 then some (gridFrom g.1 g.2 (t + 1)) else none
         | none => none) ∧
       (u.cue k).ends = u.clock.elapsed + (t + nsU (cueWidth e) - u.clock.total) ∧
       ∀ j, j ≠ k → u.cue j = s.cue j) ∧
  ((∀ (k : Nat) (e : Elem) (s : State), (s.cue k).active = true → (s.cue k).gone = false → s.cueElem k = some e →
     (cueMode e = 3 → ∀ n, (s.cue k).next = some n → s.pulseEnd (s.cue k) + 8 * 2 ^ 32 ≤ n) →
     Gives (.cueTrailingEdge k) s fun t =>
       t.cue k = { s.cue k with active := false } ∧ t.rdB .CUE_STATUS k 0 = false ∧ t.cueBall k = bit 0 (e.u8 9) ∧
       t.clock = (s.runTo (s.cue k).ends).clock ∧ ∀ j, j ≠ k → t.cue j = s.cue j) ∧
   (∀ (k n : Nat) (e : Elem) (s : State), (s.cue k).active = true → (s.cue k).gone = false → s.cueElem k = some e →
     cueMode e = 3 → (s.cue k).next = some n → n < s.pulseEnd (s.cue k) + 8 * 2 ^ 32 →
     Gives (.cueTrailingEdge k) s fun t =>
       (t.cue k).active = false ∧ (t.cue k).next = some n ∧ t.cueBall k = bit 0 (e.u8 9) ∧ t.rdB .CUE_STATUS k 4 = true ∧
       t.rdF .CUE_CNT k 15 8 = min 255 (s.rdF .CUE_CNT k 15 8 + 1) ∧
       t.clock = (s.runTo (s.clock.elapsed + (n - 8 * 2 ^ 32 - s.clock.total))).clock ∧ ∀ j, j ≠ k → t.cue j = s.cue j) ∧
   (∀ (k : Nat) (s : State), (s.cue k).active = true → (s.cue k).gone = true →
     Gives (.cueTrailingEdge k) s fun t => t.cue k = {} ∧ ∀ j, j ≠ k → t.cue j = s.cue j) ∧
   (∀ (k : Nat) (s : State), (s.cue k).active = false → exec (.cueTrailingEdge k) s = .next s))

/-- An edge of the kind CAP_CFG selects, whose level is held for nine TCLK samples, records the clock of the first of them less 8
ns, its direction and the tempo encoder position at the tail of the FIFO; one that makes the FIFO non-empty sends vector 0 where
CAP_CFG.IRQ is 1. An edge that finds 16 entries is discarded, sets OVF and counts. A level held for less, an edge of the other
kind, or one the core cannot see, changes nothing (R298, R299, R457). CAP_POP.POP removes the head of the FIFO, and LEVEL follows;
any other write of CAP_POP changes nothing (R299). -/
def Obligations.CapturesRecordAndPop : Prop :=
  ((∀ (k held : Nat) (rising : Bool) (s : State), k < 8 → 8 < held → s.domUp .TIME = true → s.pinsSeen = true →
     s.rdB .CAP_CFG k (if rising then 0 else 1) = true → (s.capFifo k).length < 16 →
     Gives (.captureEdge k ⟨rising, held⟩) s fun t =>
       t.capFifo k = s.capFifo k ++ [⟨stampOf (clockBefore 8 s.clock.elapsed s.clock.total (s.rd .INCR 0 * 256) s.servo.marks -
         8 * 2 ^ 32), rising, s.tempoEnc⟩] ∧
       (s.servo.marks = [] → t.capFifo k = s.capFifo k ++
         [⟨stampOf (s.clock.total - 8 * (s.rd .INCR 0 * 256) - 8 * 2 ^ 32), rising, s.tempoEnc⟩]) ∧
       t.rdF .CAP_STATUS k 4 0 = (s.capFifo k).length + 1 ∧ t.rdB .CAP_STATUS k 8 = s.rdB .CAP_STATUS k 8 ∧
       ((s.capFifo k).isEmpty = true → s.rdB .CAP_CFG k 2 = true → t.rdB .VW_IRQ_STATUS 0 0 = true) ∧
       ((s.capFifo k).isEmpty = false ∨ s.rdB .CAP_CFG k 2 = false → s.frame t [(.CAP_STATUS, k)] [.caps]) ∧
       ∀ j, j ≠ k → t.capFifo j = s.capFifo j) ∧
   (∀ (k held : Nat) (rising : Bool) (s : State), k < 8 → 8 < held → s.domUp .TIME = true → s.pinsSeen = true →
     s.rdB .CAP_CFG k (if rising then 0 else 1) = true → 16 ≤ (s.capFifo k).length →
     Gives (.captureEdge k ⟨rising, held⟩) s fun t =>
       t.rdB .CAP_STATUS k 8 = true ∧ s.countsUp t .CAP_OVF_CNT k ∧
       s.frame t [(.CAP_STATUS, k), (.CAP_OVF_CNT, k)] []) ∧
   (∀ (k held : Nat) (rising : Bool) (s : State), held ≤ 8 ∨ s.pinsSeen = false ∨
     s.rdB .CAP_CFG k (if rising then 0 else 1) = false →
     exec (.captureEdge k ⟨rising, held⟩) s = .next s)) ∧
  ((∀ (p : Path) (k : Nat) (v : Word) (s : State), s.regOpen p .TIME = true → v.toNat % 2 = 1 → (s.capFifo k).length ≤ 16 →
     Gives (.capturePop p k v) s fun t =>
       t.capFifo k = (s.capFifo k).tail ∧ t.rdF .CAP_STATUS k 4 0 = (s.capFifo k).length - 1 ∧
       t.rdB .CAP_STATUS k 8 = s.rdB .CAP_STATUS k 8 ∧ (∀ j, j ≠ k → t.capFifo j = s.capFifo j) ∧
       s.frame t [(.CAP_STATUS, k)] [.caps]) ∧
   (∀ (p : Path) (k : Nat) (v : Word) (s : State), s.regOpen p .TIME = false ∨ v.toNat % 2 = 0 →
     exec (.capturePop p k v) s = .next s))

/-- A Sync of the selected master: a two-step one waits for its Follow_Up with its arrival time; a one-step one gives t1 and t2,
and once a path delay is known an offset sample e is formed, shown in SERVO_E for the selected reference. Without a measured delay
only t1 and t2 are kept. A message of another master, or on an uplink that feeds no reference, changes nothing (R276, R277, R280).
A slave's Delay_Req takes an entry of its transmit-timestamp queue with its number, and the time at which its frame starts once it
does, or is held while 16 entries are taken, which counts and sets FULL; a matched Delay_Resp frees the entry and adds a delay
measurement, of which the last eight are kept; four intervals without one free it and count in DRESP_MISS_CNT (R278 to R280; the
interval of 1 s is presumed, log entry 21). -/
def Obligations.PtpSlavesMeasure : Prop :=
  ((∀ (m : PtpMsg) (alt : Bool) (s : State), s.uplinkRef m.uplink = some alt → s.fromMaster alt m = true → m.twoStep = true →
     Gives (.ptpSyncRx m) s fun t =>
       (t.servo.ref alt).sync = some (m.seq, m.source, s.nowNs, m.correction) ∧ s.frame t [] [.servo]) ∧
   (∀ (m : PtpMsg) (alt : Bool) (s : State), s.uplinkRef m.uplink = some alt → s.fromMaster alt m = true → m.twoStep = false →
     (s.servo.ref alt).delays ≠ [] →
     Gives (.ptpSyncRx m) s fun t =>
       let t1 := stampInt m.stamp + roundDiv m.correction 65536
       s.sampled t alt t1 s.nowNs (s.offsetOf alt t1 s.nowNs)) ∧
   (∀ (m : PtpMsg) (alt : Bool) (s : State), s.uplinkRef m.uplink = some alt → s.fromMaster alt m = true → m.twoStep = false →
     (s.servo.ref alt).delays = [] →
     Gives (.ptpSyncRx m) s fun t =>
       (t.servo.ref alt).last = some (stampInt m.stamp + roundDiv m.correction 65536, (s.nowNs : Int)) ∧ s.frame t [] [.servo]) ∧
   (∀ (m : PtpMsg) (n src t2 : Nat) (c : Int) (alt : Bool) (s : State), s.uplinkRef m.uplink = some alt → s.fromMaster alt m = true →
     (s.servo.ref alt).sync = some (n, src, t2, c) → m.seq = n → m.source = src → (s.servo.ref alt).delays ≠ [] →
     Gives (.ptpFollowUpRx m) s fun t =>
       let t1 := stampInt m.stamp + roundDiv (c + m.correction) 65536
       s.sampled t alt t1 t2 (s.offsetOf alt t1 t2)) ∧
   (∀ (m : PtpMsg) (s : State), s.uplinkRef m.uplink = none → exec (.ptpSyncRx m) s = .next s ∧ exec (.ptpFollowUpRx m) s = .next s) ∧
   (∀ (m : PtpMsg) (alt : Bool) (s : State), s.uplinkRef m.uplink = some alt → s.fromMaster alt m = false →
     exec (.ptpSyncRx m) s = .next s ∧ exec (.ptpFollowUpRx m) s = .next s)) ∧
  ((∀ (u : Nat) (s : State), (s.uplinkRef u).isSome = true → (s.txq u).length < 16 → s.netUp u = true →
     (s.uplink u).tx.isSome = true →
     Gives (.ptpDelayReqTx u) s fun t =>
       let n := Tab.get 0 s.ptp.seqs (4 + u)
       t.txq u = s.txq u ++ [⟨1, n, 0, s.clock.elapsed, true⟩] ∧ Tab.get 0 t.ptp.seqs (4 + u) = (n + 1) % 65536 ∧
       t.rdF .TXTS_STATUS u 4 0 = (s.txq u).length + 1 ∧
       (t.uplink u).egress = (s.uplink u).egress ++ [s.ptpFrame u 1 n 0 0 0 none] ∧
       s.frame t [(.TXTS_STATUS, u)] [.ptp, .net]) ∧
   (∀ (u : Nat) (s : State), (s.uplinkRef u).isSome = true → (s.txq u).length < 16 → s.netUp u = true →
     (s.uplink u).tx = none → (s.uplink u).egress = [] → s.net.alerts = [] →
     Gives (.ptpDelayReqTx u) s fun t =>
       let n := Tab.get 0 s.ptp.seqs (4 + u)
       ⟨1, n, s.nowNs, s.clock.elapsed, false⟩ ∈ t.txq u ∧ t.rdF .TXTS_STATUS u 4 0 = (s.txq u).length + 1 ∧
       (t.uplink u).tx = some (s.ptpFrame u 1 n 0 0 0 none) ∧ (t.uplink u).egress = []) ∧
   (∀ (u : Nat) (s : State), (s.uplinkRef u).isSome = true → 16 ≤ (s.txq u).length →
     Gives (.ptpDelayReqTx u) s fun t =>
       Tab.get [] t.ptp.held u = Tab.get [] s.ptp.held u ++ [1] ∧ t.txq u = s.txq u ∧ t.rdB .TXTS_STATUS u 8 = true ∧
       s.countsUp t .TXTS_FULL_CNT u ∧
       s.frame t [(.TXTS_STATUS, u), (.TXTS_FULL_CNT, u)] [.ptp]) ∧
   (∀ (u : Nat) (s : State), s.uplinkRef u = none → exec (.ptpDelayReqTx u) s = .next s) ∧
   (∀ (m : PtpMsg) (alt : Bool) (x : TxStamp) (t1 t2 : Int) (s : State), s.uplinkRef m.uplink = some alt →
     (s.txq m.uplink).find? (fun y => y.kind == 1 && y.ident == m.seq && !y.waits) = some x → s.fromMaster alt m = true →
     m.requester = s.portIdentity m.uplink → (s.servo.ref alt).last = some (t1, t2) → (s.txq m.uplink).length ≤ 16 →
     Gives (.ptpDelayRespRx m) s fun t =>
       t.txq m.uplink = (s.txq m.uplink).erase x ∧ t.rdF .TXTS_STATUS m.uplink 4 0 = (s.txq m.uplink).length - 1 ∧
       (t.servo.ref alt).delays =
         (roundDiv ((t2 - t1) + (stampInt m.stamp - roundDiv m.correction 65536 - x.time)) 2 :: (s.servo.ref alt).delays).take 8 ∧
       (alt = s.servoAlt → t.rd .SERVO_DELAY 0 = toBits 32 (t.servo.ref alt).delay) ∧
       s.frame t [(.TXTS_STATUS, m.uplink), (.SERVO_DELAY, 0)] [.servo, .ptp]) ∧
   (∀ (u : Nat) (x : TxStamp) (s : State), (s.txq u).find? (fun y => y.kind == 1 && !y.waits) = some x → (s.txq u).length ≤ 16 →
     Gives (.delayReqTimeout u) s fun t =>
       t.txq u = (s.txq u).erase x ∧ t.rdF .TXTS_STATUS u 4 0 = (s.txq u).length - 1 ∧
       s.countsUp t .DRESP_MISS_CNT u ∧
       t.clock = (s.runTo (x.at_ + 4 * nsU 1000000000)).clock ∧
       s.frame t [(.TXTS_STATUS, u), (.DRESP_MISS_CNT, u)] [.ptp, .clock]))

/-- The servo's states under samples of the selected reference (Table 12.2): in ACQUIRE the eighth sample in a row below LOCK_THR
enters TRACK and a large one steps the clock and clears I where STEP_EN is 1; in TRACK the third large sample in a row returns to
ACQUIRE; in LOSS the first sample enters ACQUIRE; in SUSPECT the state stays. A sample that is applied clamps I to half a million
ppb and leaves y within 1 ppb of the rule's value, the error being a free value (R281, R282). The servo loses its reference when
four Sync intervals pass without a sample, or the Announce timeout passes on a PTP reference: LOSS, its event bit set, the held
frequency in HOLD_Y and in effect, and alert 2 with the state left behind. In FREE and LOSS no sample is awaited (Table 12.2,
R282, R284). The end of a 16-second block judges each reference's block frequency against the window (R283 to R286): the block
counts start anew, the run of good blocks counts to four, BLK_F shows each frequency formed; a block of the selected reference
outside the window in ACQUIRE or TRACK enters SUSPECT with its event bit, its count and alert 1; four good blocks of the selected
reference end SUSPECT with I at the last one's frequency; after a whole block in SUSPECT or LOSS a good alternate is selected, and
four good blocks of the primary bring it back. Nothing happens in FREE. -/
def Obligations.ServoFollowsLosesAndJudges : Prop :=
  (∀ (s : State) (e : Int), s.servoState ≠ 0 →
     let t := s.servoSample s.servoAlt e
     let big := decide ((s.rd .STEP_THR 0 : Int) ≤ (e.natAbs : Int))
     let small := decide ((e.natAbs : Int) < s.rd .LOCK_THR 0)
     let en := s.rdB .SERVO_CFG 0 16
     let gap := if s.servo.fresh then s.syncInterval s.servoAlt else s.clock.elapsed - (s.servo.ref s.servoAlt).sampleAt
     (s.servoState = 1 → big = true → en = true →
       t.servoState = 1 ∧ t.servo.i = 0 ∧ t.servo.y = 0 ∧ t.servo.near = 0 ∧
       (t.clock.total : Int) = ((s.clock.total : Int) + s.rd .INCR 0 * 256 + e * 2 ^ 32) % (clockRange : Int)) ∧
     (s.servoState = 1 → (big = false ∨ en = false) →
       t.clock = s.clock ∧ t.servo.near = (if small then s.servo.near + 1 else 0) ∧
       t.servoState = (if small = true ∧ 7 ≤ s.servo.near then 2 else 1)) ∧
     (s.servoState = 2 → (big = false ∨ s.servo.far < 2) →
       t.clock = s.clock ∧ t.servoState = 2 ∧ t.servo.far = (if big then s.servo.far + 1 else 0)) ∧
     (s.servoState = 2 → big = true → 2 ≤ s.servo.far → t.servoState = 1 ∧ t.servo.fresh = true ∧
       (en = true → t.servo.i = 0 ∧ (t.clock.total : Int) = ((s.clock.total : Int) + s.rd .INCR 0 * 256 + e * 2 ^ 32) % (clockRange : Int)) ∧
       (en = false → t.clock = s.clock)) ∧
     (s.servoState = 3 → t.servoState = 3 ∧ t.servo.y = s.servo.y ∧ t.servo.i = s.servo.i ∧ t.clock = s.clock) ∧
     (s.servoState = 4 → t.servoState = 1 ∧ t.servo.fresh = true ∧ t.clock = s.clock) ∧
     ((s.servoState = 1 ∧ (big = false ∨ en = false)) ∨ (s.servoState = 2 ∧ (big = false ∨ s.servo.far < 2)) →
       t.servo.i = (servoStep (s.rd .SERVO_CFG 0) s.servo.i e gap).1 ∧
       (-32768000000 : Int) ≤ t.servo.i ∧ t.servo.i ≤ 32768000000 ∧
       t.servo.y * 65536 ≤ (servoStep (s.rd .SERVO_CFG 0) s.servo.i e gap).2 + 65536 ∧
       (servoStep (s.rd .SERVO_CFG 0) s.servo.i e gap).2 ≤ t.servo.y * 65536 + 65536 ∧
       t.rd .SERVO_Y 0 = toBits 32 t.servo.y)) ∧
  ((∀ s : State, s.servoState = 1 ∨ s.servoState = 2 ∨ s.servoState = 3 →
     Gives .servoSyncTimeout s fun t =>
       t.servoState = 4 ∧ t.rdB .SERVO_STATUS 0 9 = true ∧ t.servo.y = s.holdover ∧ t.rd .HOLD_Y 0 = toBits 32 s.holdover ∧
       t.rd .SERVO_Y 0 = toBits 32 s.holdover ∧ t.servo.i = s.servo.i ∧
       s.queuesAlert t 0x02 s.servoState ∧
       t.clock = (s.runTo ((s.servo.ref s.servoAlt).sampleAt + 4 * s.syncInterval s.servoAlt)).clock) ∧
   (∀ s : State, s.servoState = 0 ∨ s.servoState = 4 → exec .servoSyncTimeout s = .next s) ∧
   (∀ s : State, s.servoState = 1 ∨ s.servoState = 2 ∨ s.servoState = 3 → s.refIsTie s.servoAlt = false →
     Gives .ptpAnnounceTimeout s fun t =>
       t.servoState = 4 ∧ t.rdB .SERVO_STATUS 0 9 = true ∧ t.servo.y = s.holdover ∧ t.rd .HOLD_Y 0 = toBits 32 s.holdover ∧
       (t.servo.ref s.servoAlt).master = none ∧ (t.servo.ref s.servoAlt).sync = none ∧ s.queuesAlert t 0x02 s.servoState ∧
       t.clock = (s.runTo (s.announceEnds s.servoAlt)).clock) ∧
   (∀ s : State, s.servoState = 0 ∨ s.refIsTie s.servoAlt = true → exec .ptpAnnounceTimeout s = .next s)) ∧
  ((∀ (s : State) (alt : Bool) (f : Int), s.servoState ≠ 0 →
     let now := (s.runTo (s.servo.blockAt + nsU 16000000000)).clock.elapsed
     let ybar := roundDiv (s.servo.yArea + s.servo.y * ((now : Int) - s.servo.ySince)) (max 1 (now - s.servo.blockAt) : Nat)
     blockFreq ybar (s.servo.ref alt) = some f →
     Gives .servoBlockEnd s fun t =>
       (t.servo.ref alt).count = 0 ∧ (t.servo.ref alt).first = none ∧ (t.servo.ref alt).final = none ∧
       (t.servo.ref alt).inside = some (decide ((f.natAbs : Int) ≤ s.refWindow)) ∧
       (t.servo.ref alt).run = (if (f.natAbs : Int) ≤ s.refWindow then min 4 ((s.servo.ref alt).run + 1) else 0) ∧
       t.rd (if alt then .BLK_F_ALT else .BLK_F_PRI) 0 = toBits 32 f ∧ t.servo.blockAt = now ∧
       (alt = s.servoAlt → s.servoState = 1 ∨ s.servoState = 2 → s.refWindow < (f.natAbs : Int) →
         s.servoAlt = false ∨ s.servo.pri.run < 3 →
         t.servoState = 3 ∧ t.rdB .SERVO_STATUS 0 8 = true ∧ s.queuesAlert t 0x01 (toBits 64 f) ∧
         s.countsUp t .SUSPECT_CNT 0) ∧
       (alt = s.servoAlt → s.servoState = 3 → (f.natAbs : Int) ≤ s.refWindow → (s.servo.ref alt).run = 3 →
         s.servoAlt = false ∨ s.servo.pri.run < 3 → t.servoState = 1 ∧ t.servoAlt = alt ∧ t.servo.i = f * 65536) ∧
       (alt = true → s.servoAlt = false → s.servoState = 3 ∨ s.servoState = 4 → 1 ≤ s.servo.waited → s.ptpAlt ≠ 0 →
         (f.natAbs : Int) ≤ s.refWindow → s.servo.pri.run < 3 → t.servoState = 1 ∧ t.servoAlt = true) ∧
       (alt = false → s.servoAlt = true → (f.natAbs : Int) ≤ s.refWindow → 3 ≤ s.servo.pri.run →
         t.servoState = 1 ∧ t.servoAlt = false) ∧
       (alt = s.servoAlt → s.servoState = 1 ∨ s.servoState = 2 → (f.natAbs : Int) ≤ s.refWindow → alt = false →
         t.servoState = s.servoState ∧ t.servoAlt = alt)) ∧
   (∀ s : State, s.servoState = 0 → exec .servoBlockEnd s = .next s))

/-- A master sends Sync, its Follow_Up with the time at which the Sync started, Announce with what it is, and the answer to a
Delay_Req with its arrival time, all in the second group of the uplink PTP_PORT. A Sync takes an entry until its Follow_Up goes;
one held at a full queue is sent once an entry is free. No other device and no other uplink sends any of them (R275, R276, R278,
R279). Announce messages of the domain: a slave instance takes the first master it hears, refreshes the one it has, and takes a
better one, or any other once the one it has has timed out, whose Sync it then awaits anew; a master never takes one, and counts
those better than itself. Those of another domain change nothing (R275, R277; the comparison is IEEE 1588's, presumed, log entry
21). -/
def Obligations.PtpMastersSendAndAreChosen : Prop :=
  ((∀ (u : Nat) (s : State), s.ptpRole = 2 → u = s.ptpPort → (s.txq u).length < 16 → s.netUp u = true →
     (s.uplink u).tx.isSome = true →
     Gives (.ptpSyncTx u) s fun t =>
       let n := Tab.get 0 s.ptp.seqs u
       (t.uplink u).egress = (s.uplink u).egress ++ [s.ptpFrame u 0 n 0 0 0 none] ∧
       t.txq u = s.txq u ++ [⟨0, n, 0, s.clock.elapsed, true⟩] ∧ t.rdF .TXTS_STATUS u 4 0 = (s.txq u).length + 1 ∧
       Tab.get 0 t.ptp.seqs u = (n + 1) % 65536 ∧ s.frame t [(.TXTS_STATUS, u)] [.ptp, .net]) ∧
   (∀ (u : Nat) (s : State), s.ptpRole = 2 → u = s.ptpPort → (s.txq u).length < 16 → s.netUp u = true →
     (s.uplink u).tx = none → (s.uplink u).egress = [] → s.net.alerts = [] →
     Gives (.ptpSyncTx u) s fun t =>
       let n := Tab.get 0 s.ptp.seqs u
       (t.uplink u).tx = some (s.ptpFrame u 0 n 0 0 0 none) ∧ (t.uplink u).egress = [s.ptpFrame u 8 n s.nowNs 0 0 none] ∧
       ⟨0, n, s.nowNs, s.clock.elapsed, false⟩ ∈ t.txq u) ∧
   (∀ (u n time : Nat) (s : State), s.netUp u = true → (s.uplink u).tx.isSome = true →
     (s.uplink u).egress = [s.ptpFrame u 8 n time 0 0 none] → s.net.alerts = [] →
     Gives (.frameTxEnd u) s fun t =>
       (t.uplink u).tx = some (s.ptpFrame u 8 n time 0 0 none) ∧ (t.uplink u).egress = [] ∧
       t.txq u = (s.txq u).filter fun y => !(y.kind == 0 && y.ident == n)) ∧
   (∀ (u : Nat) (s : State), s.ptpRole = 2 → u = s.ptpPort → s.netUp u = true →
     Gives (.ptpAnnounceTx u) s fun t =>
       let n := Tab.get 0 s.ptp.seqs 16
       s.takesFrame t u (s.ptpFrame u 11 n s.nowNs 0 0 (some (s.ownAnnounce u))) ∧ Tab.get 0 t.ptp.seqs 16 = (n + 1) % 65536) ∧
   (∀ (m : PtpMsg) (s : State), s.ptpRole = 2 → m.uplink = s.ptpPort → m.domain = s.ptpDomain → s.netUp m.uplink = true →
     Gives (.ptpDelayReqRx m) s fun t =>
       s.takesFrame t m.uplink (s.ptpFrame m.uplink 9 m.seq s.nowNs m.correction m.source none)) ∧
   (∀ (q : Nat) (rest : List Nat) (s : State), q < 2 → Tab.get [] s.ptp.held q = 0 :: rest → (s.txq q).length < 16 →
     s.netUp q = true → (s.uplink q).tx.isSome = true →
     Gives (.ptpHeldMessageSend q) s fun t =>
       let n := Tab.get 0 s.ptp.seqs q
       Tab.get [] t.ptp.held q = rest ∧
       (t.uplink q).egress = (s.uplink q).egress ++ [s.ptpFrame q 0 n 0 0 0 none]) ∧
   (∀ (q : Nat) (s : State), q ≠ 2 → Tab.get [] s.ptp.held q = [] ∨ 16 ≤ (s.txq q).length →
     exec (.ptpHeldMessageSend q) s = .next s) ∧
   (∀ (u : Nat) (s : State), s.ptpRole ≠ 2 ∨ u ≠ s.ptpPort →
     exec (.ptpSyncTx u) s = .next s ∧ exec (.ptpAnnounceTx u) s = .next s) ∧
   (∀ (m : PtpMsg) (s : State), s.ptpRole ≠ 2 ∨ m.uplink ≠ s.ptpPort ∨ m.domain ≠ s.ptpDomain → exec (.ptpDelayReqRx m) s = .next s)) ∧
  ((∀ (u : Nat) (a : Announce) (alt : Bool) (s : State), a.domain = s.ptpDomain → s.ptpRole ≠ 2 → s.uplinkRef u = some alt →
     Gives (.ptpAnnounceRx u a) s fun t =>
       (t.servo.ref alt).master = (match (s.servo.ref alt).master with
         | none => some a
         | some b => if b.source = a.source ∨ s.announceEnds alt ≤ s.clock.elapsed ∨ lexLt (annKey a) (annKey b) = true then some a
           else some b) ∧
       ((s.servo.ref alt).master = none → (t.servo.ref alt).announceAt = s.clock.elapsed) ∧
       (∀ b, (s.servo.ref alt).master = some b → b.source = a.source → (t.servo.ref alt).announceAt = s.clock.elapsed ∧
         (t.servo.ref alt).sync = (s.servo.ref alt).sync) ∧
       (∀ b, (s.servo.ref alt).master = some b → b.source ≠ a.source →
         s.announceEnds alt ≤ s.clock.elapsed ∨ lexLt (annKey a) (annKey b) = true →
         (t.servo.ref alt).announceAt = s.clock.elapsed ∧ (t.servo.ref alt).sync = none) ∧
       s.frame t [] [.servo]) ∧
   (∀ (u : Nat) (a : Announce) (s : State), a.domain = s.ptpDomain → s.ptpRole = 2 → u = s.ptpPort →
     Gives (.ptpAnnounceRx u a) s fun t =>
       let c := s.rd .PTP_CLASS 0
       let own := [s.rdF .PTP_CFG 0 23 16, fld 7 0 c, fld 15 8 c, fld 31 16 c, s.rdF .PTP_CFG 0 31 24, s.portIdentity u / 65536]
       t.rdF .FOREIGN_CNT 0 31 0 = min (2 ^ 32 - 1) (s.rdF .FOREIGN_CNT 0 31 0 + b2n (lexLt (annKey a) own)) ∧
       s.frame t [(.FOREIGN_CNT, 0)] []) ∧
   (∀ (u : Nat) (a : Announce) (s : State), a.domain ≠ s.ptpDomain → exec (.ptpAnnounceRx u a) s = .next s))

/-! ### The image path -/

/-- An FS on a link that is on, for the one stream of its virtual channel: in a triggered beat with no frame of the stream yet it
opens a frame of that beat with the next sequence number and the settings generation of that number, takes the link UP and closes
the link's bundle window. In no beat, in an idle beat or after a frame of the beat it is surplus: counted in P_EXTRA, no frame
opened. A corrected header counts in P_ECC_CORR. On a link that is off, and in the rest of a burst whose header was uncorrectable,
nothing is taken (R180 to R182, R184, R185, R191, R193). An FE closes the open frame of the stream: none is open after it,
STR_LINES holds the lines accepted and STR_SEQ no longer shows an open frame; a frame with fewer than HEIGHT lines, or with a line
missing, counts in STR_SHORT (R182; pipes that merge exposures may count more). -/
def Obligations.FramesOpenAndClose : Prop :=
  ((∀ (port link vc : Nat) (corrected first : Bool) (e : Elem) (b : BeatRec) (s : State), s.heard port link first →
     s.vcStreams port link vc = [e] → s.beat? = some b → b.idle = false → (∀ f ∈ (s.strm e.id).frames, f.beat ≠ b.num) →
     Gives (.frameStart port link vc ⟨corrected, first⟩) s fun t =>
       let n := ((s.strm e.id).seq + 1) % 65536
       (∃ f ∈ (t.strm e.id).frames, f.beat = b.num ∧ f.isOpen = true ∧ f.seq = n ∧ f.count = 0 ∧ f.got = 0 ∧
         f.setgen = (takeGens n (s.strm e.id).gen (s.strm e.id).coming).1) ∧
       (t.strm e.id).seq = n ∧ (t.strm e.id).mode = .taking ∧ t.rd .STR_SEQ e.id = n + 65536 ∧ t.linkState port link = 2 ∧
       (t.port port).windows.contains link = false ∧ (t.port port).fsSeen.contains link = true ∧
       t.rdF .P_ECC_CORR port 31 0 = min (2 ^ 32 - 1) (s.rdF .P_ECC_CORR port 31 0 + b2n corrected) ∧
       t.rd .P_EXTRA port = s.rd .P_EXTRA port) ∧
   (∀ (port link vc : Nat) (corrected first : Bool) (e : Elem) (s : State), s.heard port link first → s.vcStreams port link vc = [e] →
     e.u8 8 = port →
     (s.beat? = none ∨ ∃ b, s.beat? = some b ∧ (b.idle = true ∨ ∃ f ∈ (s.strm e.id).frames, f.beat = b.num)) →
     Gives (.frameStart port link vc ⟨corrected, first⟩) s fun t =>
       s.countsUp t .P_EXTRA port ∧ (t.strm e.id).mode = .surplus ∧ (t.strm e.id).seq = (s.strm e.id).seq ∧
       t.linkState port link = s.linkState port link) ∧
   (∀ (port link vc : Nat) (corrected first : Bool) (s : State),
     s.linkOn port link = false ∨ (first = false ∧ (s.port port).skip.contains link = true) →
     Gives (.frameStart port link vc ⟨corrected, first⟩) s fun t =>
       (∀ q, (t.port q).buffer = (s.port q).buffer ∧ (t.port q).fsSeen = (s.port q).fsSeen) ∧ ∀ i, (t.strm i).seq = (s.strm i).seq)) ∧
  (∀ (port link vc : Nat) (corrected first : Bool) (e : Elem) (f : Frame) (s : State), s.heard port link first →
     s.vcStreams port link vc = [e] → (s.strm e.id).openFrame = some f →
     Gives (.frameEnd port link vc ⟨corrected, first⟩) s fun t =>
       (t.strm e.id).openFrame = none ∧ (t.strm e.id).mode = .idle ∧ t.rdF .STR_LINES e.id 15 0 = f.got % 65536 ∧
       t.rdB .STR_SEQ e.id 16 = false ∧
       ((∀ x ∈ s.elems 0x0009, pipeMerge x = 1) →
         t.rdF .STR_SHORT e.id 31 0 = min (2 ^ 32 - 1) (s.rdF .STR_SHORT e.id 31 0 +
           b2n (f.missing || decide (f.count < streamHeight e)))))

/-- A long packet on a link that is on (R180 to R183): an uncorrectable header, a bad payload CRC, no matching stream and a wrong
length each discard it and count in their own register; a discarded line of an open frame is missing and takes its number, and an
uncorrectable header discards the rest of its high-speed burst too. A good one becomes the next line of its stream's open frame,
in the port's buffer; a line beyond HEIGHT, or outside a frame, counts in P_EXTRA, a late one in P_LATE, and one that finds the 64
KiB buffer full in P_FIFO_OVF, and is missing. On a link that is off nothing changes. Four triggered beats without an accepted FS
take a link that is UP to LOST, set LOST_EVT, and raise vector 0 and alert 8 with the link's number; a link in another state, or
with fewer such beats, is unchanged. An error or an entry to ULPS on a lane that the port's links use counts in P_LANE_ERR and
changes nothing else; an entry to ULPS is none where PFLAGS.ULPS is 1, and a lane of no link, or of a port that is off, counts
nothing (R177, R178, R185, R316). -/
def Obligations.LongPacketsBecomeLines : Prop :=
  ((∀ (k : LongPacket) (s : State), s.linkOn k.port k.link = false → exec (.longPacketReceive k) s = .next s) ∧
   (∀ (k : LongPacket) (s : State), s.heard k.port k.link k.first → s.bufferPiped k.port → k.ecc = 2 →
     Gives (.longPacketReceive k) s fun t => s.countsUp t .P_ECC_DROP k.port ∧ s.frame t [(.P_ECC_DROP, k.port)] [.ports] ∧
       (t.port k.port).skip.contains k.link = true ∧ (∀ q, (t.port q).buffer = (s.port q).buffer)) ∧
   (∀ (k : LongPacket) (s : State), s.linkOn k.port k.link = true → k.first = false → (s.port k.port).skip.contains k.link = true →
     s.bufferPiped k.port →
     Gives (.longPacketReceive k) s fun t => s.frame t [] [.ports] ∧ ∀ q, (t.port q).buffer = (s.port q).buffer) ∧
   (∀ (k : LongPacket) (s : State), s.heard k.port k.link k.first → s.bufferPiped k.port → k.ecc = 0 → k.crcOk = true →
     s.packetStream k = none →
     Gives (.longPacketReceive k) s fun t => s.countsUp t .P_UNKNOWN k.port ∧ s.frame t [(.P_UNKNOWN, k.port)] [.ports] ∧
       ∀ q, (t.port q).buffer = (s.port q).buffer) ∧
   (∀ (k : LongPacket) (e : Elem) (f : Frame) (s : State), s.heard k.port k.link k.first → s.bufferPiped k.port → k.ecc = 0 →
     k.crcOk = false → s.packetStream k = some e → (s.strm e.id).mode = .taking → (s.strm e.id).frames = [f] → f.isOpen = true →
     Gives (.longPacketReceive k) s fun t => s.countsUp t .P_CRC_ERR k.port ∧
       (t.strm e.id).frames = [{ f with count := f.count + 1, missing := true }] ∧ (∀ q, (t.port q).buffer = (s.port q).buffer) ∧
       s.frame t [(.P_CRC_ERR, k.port)] [.streams, .ports]) ∧
   (∀ (k : LongPacket) (e : Elem) (f : Frame) (s : State), s.heard k.port k.link k.first → s.bufferPiped k.port → k.ecc = 0 →
     k.crcOk = true → s.packetStream k = some e → 8 * k.payload.length ≠ streamWidth e * dtBits k.dt →
     (s.strm e.id).mode = .taking → (s.strm e.id).frames = [f] → f.isOpen = true →
     Gives (.longPacketReceive k) s fun t => s.countsUp t .P_LEN_ERR k.port ∧
       (t.strm e.id).frames = [{ f with count := f.count + 1, missing := true }] ∧
       (∀ q, (t.port q).buffer = (s.port q).buffer) ∧ s.frame t [(.P_LEN_ERR, k.port)] [.streams, .ports]) ∧
   (∀ (k : LongPacket) (e : Elem) (f : Frame) (s : State), s.heard k.port k.link k.first → s.bufferPiped k.port → k.ecc = 0 →
     k.crcOk = true → s.packetStream k = some e → 8 * k.payload.length = streamWidth e * dtBits k.dt →
     (s.pipeOf e.id).isSome = true → e.u8 8 = k.port → (s.strm e.id).mode = .taking → (s.strm e.id).frames = [f] → f.isOpen = true →
     f.count < streamHeight e → (s.port k.port).fill + k.payload.length ≤ 65536 →
     Gives (.longPacketReceive k) s fun t =>
       (t.port k.port).buffer = (s.port k.port).buffer ++ [⟨s.arrivals, e.id, f.beat, f.count, s.now, s.tempoEnc, k.payload⟩] ∧
       (t.strm e.id).frames = [{ f with count := f.count + 1, got := f.got + 1 }] ∧ t.arrivals = s.arrivals + 1 ∧
       s.frame t [(.LS_BEAT, 0), (.LS_S, 0), (.LS_NS, 0), (.LS_ENC, 0)] [.streams, .ports, .arrivals]) ∧
   (∀ (k : LongPacket) (e : Elem) (f : Frame) (s : State), s.heard k.port k.link k.first → s.bufferPiped k.port → k.ecc = 0 →
     k.crcOk = true → s.packetStream k = some e → 8 * k.payload.length = streamWidth e * dtBits k.dt → e.u8 16 ≠ 0xFF →
     e.u8 8 = k.port → (s.strm e.id).mode = .taking → (s.strm e.id).frames = [f] → f.isOpen = true →
     f.count < streamHeight e → 65536 < (s.port k.port).fill + k.payload.length →
     Gives (.longPacketReceive k) s fun t => s.countsUp t .P_FIFO_OVF k.port ∧
       (t.strm e.id).frames = [{ f with count := f.count + 1, missing := true }] ∧
       (∀ q, (t.port q).buffer = (s.port q).buffer) ∧ s.frame t [(.P_FIFO_OVF, k.port)] [.streams, .ports]) ∧
   (∀ (k : LongPacket) (e : Elem) (s : State), s.heard k.port k.link k.first → s.bufferPiped k.port → k.ecc = 0 →
     k.crcOk = true → s.packetStream k = some e → 8 * k.payload.length = streamWidth e * dtBits k.dt → e.u8 8 = k.port →
     ((s.strm e.id).mode = .idle ∨ ((s.strm e.id).mode = .taking ∧ ∃ f, (s.strm e.id).openFrame = some f ∧ streamHeight e ≤ f.count)) →
     Gives (.longPacketReceive k) s fun t => s.countsUp t .P_EXTRA k.port ∧ (∀ q, (t.port q).buffer = (s.port q).buffer) ∧
       s.frame t [(.P_EXTRA, k.port)] [.ports]) ∧
   (∀ (k : LongPacket) (e : Elem) (s : State), s.heard k.port k.link k.first → s.bufferPiped k.port → k.ecc = 0 →
     k.crcOk = true → s.packetStream k = some e → 8 * k.payload.length = streamWidth e * dtBits k.dt → e.u8 8 = k.port →
     (s.strm e.id).mode = .late →
     Gives (.longPacketReceive k) s fun t => s.countsUp t .P_LATE k.port ∧ (∀ q, (t.port q).buffer = (s.port q).buffer) ∧
       s.frame t [(.P_LATE, k.port)] [.ports])) ∧
  ((∀ (port link : Nat) (s : State), link < 4 → s.linkState port link = 2 → 4 ≤ Tab.get 0 (s.port port).missed link →
     Gives (.linkLost port link) s fun t =>
       t.linkState port link = 3 ∧ t.rdB .P_STATUS port 16 = true ∧ t.rdB .VW_IRQ_STATUS 0 0 = true ∧
       s.queuesAlert t 0x08 (4 * port + link) ∧ (∀ j, j < 4 → j ≠ link → t.linkState port j = s.linkState port j)) ∧
   (∀ (port link : Nat) (s : State), s.linkState port link ≠ 2 ∨ Tab.get 0 (s.port port).missed link < 4 →
     exec (.linkLost port link) s = .next s) ∧
   (∀ (port lane : Nat) (ulps : Bool) (e : Elem) (s : State), s.elem 0x0006 port = some e → s.linkOn port 0 = true →
     laneUsed e lane = true → ulps = false ∨ bit 1 (e.u8 11) = false →
     Gives (.laneError ⟨port, lane, ulps⟩) s fun t => s.countsUp t .P_LANE_ERR port ∧ s.frame t [(.P_LANE_ERR, port)] []) ∧
   (∀ (port lane : Nat) (e : Elem) (s : State), s.elem 0x0006 port = some e → bit 1 (e.u8 11) = true →
     exec (.laneError ⟨port, lane, true⟩) s = .next s) ∧
   (∀ (port lane : Nat) (ulps : Bool) (s : State), s.linkOn port 0 = false →
     exec (.laneError ⟨port, lane, ulps⟩) s = .next s))

/-- The master's write of a setting bundle ends: an answer sends the register write and goes on to the next, or ends the bundle as
written, with its SETGEN in SEN_SETGEN and taking effect LATENCY frames on; a first NAK or timeout only retries; a second one
fails the bundle and counts, as a stretch beyond 1 ms does; SDA held low fails it without a retry (R188, R189, R193, R194). Direct
transfers (R198): a write of P_CCI_CMD with GO queues one with P_CCI_REG and P_CCI_DATA and sets BUSY, and is ignored while BUSY
is 1, without GO, or where the register is closed to the path; the queued one starts only with no window open and no bundle
running; its end clears BUSY and sets DONE, with the data of an answered read in P_CCI_DATA, an answered write sent, and NAK or
TIMEOUT counted after one retry, SDA held low without one (R189). -/
def Obligations.ControlBusTransfersEnd : Prop :=
  ((∀ (port : Nat) (x : RunBundle) (s : State), (s.port port).run = some x → s.blockOff port = false → x.done + 1 < x.b.count →
     Gives (.cciWriteEnd port .ack) s fun t =>
       (t.port port).run = some { x with done := x.done + 1, retried := false } ∧
       t.out = s.out ++ (match s.sensor x.b.sensor with
         | some e => [.cci port (cciBytes (e.u8 8) (e.u8 12) x.word.1 (e.u8 13) x.word.2)]
         | none => []) ∧
       s.frame t [] [.ports, .out]) ∧
   (∀ (port : Nat) (x : RunBundle) (s : State), (s.port port).run = some x → s.blockOff port = false → x.b.count ≤ x.done + 1 →
     Gives (.cciWriteEnd port .ack) s fun t =>
       t.rdF .SEN_SETGEN (4 * port + x.b.sensor % 4) 15 0 = x.b.setgen % 65536 ∧
       (∀ e ∈ s.linkStreams port (x.b.sensor % 4), ∀ m, s.sensor x.b.sensor = some m →
         (((s.strm e.id).seq + 1 + m.u8 9) % 65536, x.b.setgen) ∈ (t.strm e.id).coming) ∧
       (x.straddle = true → s.countsUp t .P_BDL_STRADDLE_CNT port)) ∧
   (∀ (port : Nat) (r : CciResult) (x : RunBundle) (s : State), (s.port port).run = some x →
     (r ≠ .ack ∧ r ≠ .stuck) ∨ s.blockOff port = true → x.retried = false →
     (Gives (.cciWriteEnd port r) s fun t => (t.port port).run = some { x with retried := true } ∧ s.frame t [] [.ports]) ∧
     (Gives (.cciStretchTimeout port) s fun t => (t.port port).run = some { x with retried := true } ∧ s.frame t [] [.ports])) ∧
   (∀ (port : Nat) (r : CciResult) (x : RunBundle) (s : State), (s.port port).run = some x → r ≠ .ack ∨ s.blockOff port = true →
     x.retried = true →
     (Gives (.cciWriteEnd port r) s fun t => s.countsUp t .P_CCI_NAK_CNT port ∧ s.countsUp t .P_BDL_FAIL_CNT port) ∧
     (Gives (.cciStretchTimeout port) s fun t => s.countsUp t .P_CCI_NAK_CNT port ∧ s.countsUp t .P_BDL_FAIL_CNT port)) ∧
   (∀ (port : Nat) (x : RunBundle) (s : State), (s.port port).run = some x → s.blockOff port = false →
     Gives (.cciWriteEnd port .stuck) s fun t => s.countsUp t .P_CCI_NAK_CNT port ∧ s.countsUp t .P_BDL_FAIL_CNT port) ∧
   (∀ (port : Nat) (r : CciResult) (s : State), (s.port port).run = none → exec (.cciWriteEnd port r) s = .next s)) ∧
  ((∀ (p : Path) (port : Nat) (v : Word) (s : State), port < 32 → s.entryOpen p .P_CCI_CMD port = true → v.getLsbD 31 = true →
     s.rdB .P_CCI_STATUS port 0 = false →
     (Gives (.cciDirectWrite p port v) s fun t =>
       (t.port port).direct = some ⟨v.toNat, s.rd .P_CCI_REG port, s.rd .P_CCI_DATA port, false, false⟩ ∧
       t.rdB .P_CCI_STATUS port 0 = true ∧ s.frame t [(.P_CCI_STATUS, port)] [.ports]) ∧
     (Gives (.cciDirectRead p port v) s fun t =>
       (t.port port).direct = some ⟨v.toNat, s.rd .P_CCI_REG port, s.rd .P_CCI_DATA port, false, false⟩ ∧
       t.rdB .P_CCI_STATUS port 0 = true ∧ s.frame t [(.P_CCI_STATUS, port)] [.ports])) ∧
   (∀ (p : Path) (port : Nat) (v : Word) (s : State),
     s.entryOpen p .P_CCI_CMD port = false ∨ v.getLsbD 31 = false ∨ s.rdB .P_CCI_STATUS port 0 = true →
     exec (.cciDirectWrite p port v) s = .next s ∧ exec (.cciDirectRead p port v) s = .next s) ∧
   (∀ (port : Nat) (d : Direct) (s : State), (s.port port).direct = some d → d.running = false → (s.port port).run = none →
     (s.port port).windows = [] → s.blockOff port = false →
     Gives (.cciDirectStart port) s fun t => (t.port port).direct = some { d with running := true } ∧ s.frame t [] [.ports]) ∧
   (∀ (port : Nat) (s : State), (s.port port).run.isSome = true ∨ (s.port port).windows ≠ [] ∨ (s.port port).direct = none →
     exec (.cciDirectStart port) s = .next s) ∧
   (∀ (port : Nat) (d : Direct) (data : Word) (s : State), (s.port port).direct = some d → d.running = true →
     Gives (.cciDirectEnd port .ack data) s fun t =>
       t.rdB .P_CCI_STATUS port 0 = false ∧ t.rdB .P_CCI_STATUS port 1 = true ∧ (t.port port).direct = none ∧
       (bit 7 d.cmd = true → t.rd .P_CCI_DATA port = data.toNat % 2 ^ (8 * (fld 10 9 d.cmd + 1)) ∧ t.out = s.out) ∧
       (bit 7 d.cmd = false → t.out = s.out ++ [.cci port (cciBytes (fld 6 0 d.cmd) (fld 8 8 d.cmd + 1) d.reg
         (fld 10 9 d.cmd + 1) d.data)])) ∧
   (∀ (port : Nat) (d : Direct) (data : Word) (r : CciResult) (s : State), (s.port port).direct = some d → d.running = true →
     d.retried = false → r ≠ .ack → r ≠ .stuck →
     Gives (.cciDirectEnd port r data) s fun t => (t.port port).direct = some { d with retried := true } ∧ s.frame t [] [.ports]) ∧
   (∀ (port : Nat) (d : Direct) (data : Word) (r : CciResult) (s : State), (s.port port).direct = some d → d.running = true →
     d.retried = true ∨ r = .stuck → r ≠ .ack →
     Gives (.cciDirectEnd port r data) s fun t =>
       t.rdB .P_CCI_STATUS port 0 = false ∧ t.rdB .P_CCI_STATUS port 1 = true ∧
       t.rdB .P_CCI_STATUS port (if r = .nak then 2 else 3) = true ∧ s.countsUp t .P_CCI_NAK_CNT port ∧ t.out = s.out))

/-- A pipe takes the oldest line that waits for one of its streams (R201, R202): within its rate entry of the bar the line's
pixels count for its beat, and a raw line of a pipe that merges nothing stands in its frame linearised, black-levelled and
flat-fielded (R208, R212 to R214); beyond the entry the line is discarded, counted in PIPE_OVQ_CNT with OVQ set. Either way it
leaves the port's buffer. With no line waiting nothing changes. An output's next line leaves its pipe once line y + 5 is processed
or the frame is closed: it counts as emitted, the dynamic defects and the clipped components it met are counted, and where a ring
takes the stream its row holds each member that names the stream (R203, R215, R216, R219, R225, R228). A frame with no line ready
changes nothing. -/
def Obligations.PipesTakeAndEmitLines : Prop :=
  ((∀ (pipe p : Nat) (e x : Elem) (l : BufLine) (s : State), s.elem 0x0009 pipe = some e → s.nextLine e = some (p, l) →
     s.elem 0x0008 l.stream = some x → Tab.get 0 (s.pipe pipe).pix l.beat + streamWidth x ≤ s.rate 0 pipe →
     Gives (.pipeLineTake pipe) s fun t =>
       Tab.get 0 (t.pipe pipe).pix l.beat = Tab.get 0 (s.pipe pipe).pix l.beat + streamWidth x ∧
       (t.port p).buffer = (s.port p).buffer.erase l ∧ t.rd .PIPE_OVQ_CNT pipe = s.rd .PIPE_OVQ_CNT pipe ∧
       (dtClass (x.u8 11) = 0 → pipeMerge e = 1 →
         Tab.get [] ((t.pipe pipe).frame (outputOf e (slotOf e l.stream)) l.beat).lines l.line =
           (List.range (streamWidth x)).map fun k =>
             [((flatField e (s.pipe pipe).gains (s.linearise pipe (unpackRaw (x.u8 11) l.bytes k)) k l.line : Nat) : Int)])) ∧
   (∀ (pipe p : Nat) (e x : Elem) (l : BufLine) (s : State), s.elem 0x0009 pipe = some e → s.nextLine e = some (p, l) →
     s.elem 0x0008 l.stream = some x → s.rate 0 pipe < Tab.get 0 (s.pipe pipe).pix l.beat + streamWidth x →
     Gives (.pipeLineTake pipe) s fun t =>
       s.countsUp t .PIPE_OVQ_CNT pipe ∧ t.rdB .PIPE_STATUS pipe 1 = true ∧ (t.port p).buffer = (s.port p).buffer.erase l ∧
       Tab.get 0 (t.pipe pipe).pix l.beat = Tab.get 0 (s.pipe pipe).pix l.beat) ∧
   (∀ (pipe : Nat) (s : State), s.elem 0x0009 pipe = none → exec (.pipeLineTake pipe) s = .next s) ∧
   (∀ (pipe : Nat) (e : Elem) (s : State), s.elem 0x0009 pipe = some e → s.nextLine e = none →
     exec (.pipeLineTake pipe) s = .next s)) ∧
  ((∀ (i y : Nat) (e x : Elem) (f : PipeFrame) (s : State), s.pipeOf i = some e → s.elem 0x0008 i = some x →
     (s.pipe e.id).frames.filter (fun g => g.stream == i) = [f] → s.emitReady e f = some y →
     Gives (.pipeLineEmit i) s fun t =>
       let pix := (List.range (streamWidth x)).map fun k =>
         s.pixelOut e (dtClass (x.u8 11)) (s.rawView e f (streamWidth x) (streamHeight x)) k y
       ((t.pipe e.id).frame i f.beat).emitted = y + 1 ∧
       t.rdF .PIPE_DYN_CNT e.id 31 0 = min (2 ^ 32 - 1) (s.rdF .PIPE_DYN_CNT e.id 31 0 + (pix.filter (·.dynamic)).length) ∧
       t.rdF .PIPE_CLIP_CNT e.id 31 0 = min (2 ^ 32 - 1) (s.rdF .PIPE_CLIP_CNT e.id 31 0 + sumN (pix.map (·.clips))) ∧
       (∀ src m col trim cols r0, (src, m, col, trim, cols) ∈ s.targets i → s.firstRow src f.beat = some r0 →
         s.beatBefore f.beat (Tab.get 0 s.align.since src.ring) = false →
         let row := r0 + y + (match src.group with | some g => memberOfs g m | none => 0)
         s.inRing src row = true → (t.rowInfo src row).has m = true)) ∧
   (∀ (i : Nat) (e x : Elem) (s : State), s.pipeOf i = some e → s.elem 0x0008 i = some x →
     (∀ f ∈ (s.pipe e.id).frames, s.emitReady e f = none) → exec (.pipeLineEmit i) s = .next s) ∧
   (∀ (i : Nat) (s : State), s.pipeOf i = none → exec (.pipeLineEmit i) s = .next s))

/-- A window is cut when it is the next uncut one of the beat being processed and its rows, and of a group all the beat's, are
complete (R231, R235): it is cut then, and a window of an ungrouped stream adds the part with its tag and payload to its product,
counted in WIN_PART_CNT where a row is fill. Any other window changes nothing, and with EXTEST current while READY is 1 the cut
stops under its own fault (ch. 19, Corners). The statistics unit completes the record of the oldest beat that is ready (R250,
R251): the beat and mean show, the record counts, its sums count as computed, and its bytes wait for delivery as an item of the
record's voice and length. With none ready nothing changes. -/
def Obligations.WindowsAndStatisticsComplete : Prop :=
  ((∀ (n r0 : Nat) (w : Elem) (x : Source) (s : State), s.cutBeat = some n → (s.cutOrder n).find? (fun w => !s.isCut w n) = some w →
     s.winSource w = some x → s.firstRow x n = some r0 → s.cutReady x w n r0 = true → s.extestPlays = false →
     Gives (.windowCut w.id) s fun t =>
       t.isCut w n = true ∧ (x.group = none →
         let part := s.buildPart w x n r0 false
         (t.productAt w.voice (winProduct w) n).parts = (s.productAt w.voice (winProduct w) n).parts ++ [part] ∧
         t.rdF .WIN_PART_CNT w.id 31 0 = min (2 ^ 32 - 1) (s.rdF .WIN_PART_CNT w.id 31 0 + b2n (bit 1 part.flags)) ∧
         s.onlyRegs t [(.WIN_PART_CNT, w.id)])) ∧
   (∀ (n r0 : Nat) (w : Elem) (x : Source) (s : State), s.cutBeat = some n → (s.cutOrder n).find? (fun w => !s.isCut w n) = some w →
     s.winSource w = some x → s.firstRow x n = some r0 → s.cutReady x w n r0 = true → s.extestPlays = true →
     exec (.windowCut w.id) s = .fault .extestPlaying) ∧
   (∀ (n k : Nat) (w : Elem) (s : State), s.cutBeat = some n → (s.cutOrder n).find? (fun w => !s.isCut w n) = some w → w.id ≠ k →
     exec (.windowCut k) s = .next s) ∧
   (∀ (k : Nat) (s : State), s.cutBeat = none → exec (.windowCut k) s = .next s)) ∧
  ((∀ (i : Nat) (r e : Elem) (b : BeatRec) (s : State), s.statElem i = some r → s.elem 0x0008 i = some e →
     s.liveBeats.find? (s.statReady i) = some b →
     Gives (.statsRecordCompute i) s fun t =>
       t.rd .STAT_BEAT i = b.num % 2 ^ 64 ∧ s.countsUp t .STAT_REC_CNT i ∧ (t.statAcc i b.num).computed = true ∧
       t.rd .STAT_MEAN i = ((s.statAcc i b.num).mu + (s.statAcc i b.num).rows.length * 65536) % 2 ^ 64 ∧
       (∃ bytes, t.svc.items = s.svc.items ++ [⟨32768 + i, r.u16 10, b.num, recLen (r.u8 8) (streamHeight e), none, bytes⟩]) ∧
       s.onlyRegs t [(.STAT_STATUS, i), (.STAT_BEAT, i), (.STAT_MEAN, i), (.STAT_REC_CNT, i)] ∧
       s.onlyParts t [.stats, .locks, .svc, .fresh]) ∧
   (∀ (i : Nat) (s : State), s.liveBeats.find? (s.statReady i) = none → exec (.statsRecordCompute i) s = .next s))

/-! ### Services -/

/-- The next slot of a voice on an engine begins: the clock has run to its first tick and the engine serves that voice until the
slot's last tick. With no beat open, the slot table not playing, or no slot left nothing changes (R26, R258). Staging (R257,
R268): a tile that may be staged takes its window pixels from the ring, charged to the system section, and its inputs through the
voice's translation; read whole it is staged with them. A fault leaves it in fermata with what was read so far and counts, and
staging goes on at the faulting read; a bus error ends the instance's work for the beat with status 2. A tile that may not be
staged stays as it is, as all do while it is not known whether the group drops the beat (log entry 96), or where it does. An idle
engine takes its next unit: it runs it until its cost has passed, the tile is running, and a server's first tile of a beat ends
the older beat in that history slot (R258, R264). A busy engine, or one with nothing to take, changes nothing. The unit an engine
runs ends (R258, R260 to R262, R269): the engine is idle, its tile counts, on lent rest too, and a compare or mark tile of the
beat being processed is done; where every tile of a compare instance then is computed or skipped its result completes, shown in
SVC_BEAT and waiting for delivery. A unit whose beat is past is dropped. An idle engine changes nothing. -/
def Obligations.ServiceTilesRun : Prop :=
  ((∀ (eng v : Nat) (k : Nat × Nat) (s : State), s.tempo.isOpen = true → s.tempo.playing = true →
     (sortBy (·.1) (s.slotsOf v eng)).find? (fun k => decide (s.clock.elapsed < s.tickTime k.2)) = some k →
     Gives (.slotStart eng v) s fun t =>
       Tab.get none t.svc.slot eng = some (v, k.2) ∧ (∀ j, j ≠ eng → Tab.get none t.svc.slot j = Tab.get none s.svc.slot j) ∧
       t.clock = (s.runTo (s.tickTime k.1)).clock ∧ s.frame t [] [.svc, .clock]) ∧
   (∀ (eng v : Nat) (s : State), s.tempo.isOpen = false ∨ s.tempo.playing = false ∨
     (∀ k ∈ s.slotsOf v eng, s.tickTime k.2 ≤ s.clock.elapsed) → exec (.slotStart eng v) s = .next s)) ∧
  ((∀ (inst tile n r0 : Nat) (r : MemAnswers) (e w : Elem) (x : Source) (s u : State), s.cutBeat = some n → s.svcElem inst = some e →
     s.svcWin e = some w → s.dropKnown w n = true → s.svcDropped w n = (u, false) → s.winSource w = some x →
     u.firstRow x n = some r0 →
     let j := u.job inst e.voice n
     let old := j.tile tile
     let px := if old.begun then (old.pixels, old.fill) else u.regionBytes x (tileWin e w tile) r0
     let v := if old.begun then u else u.charge 0 0x20 px.1.length
     let reads := stageReads e w (pixBytes x.fmt) tile
     let left := (reads.1 ++ reads.2).drop old.inputs.length
     (u.mayStage j e w x r0 tile = true → svcKind e = 2 → old.inputs = [] →
       Gives (.tileStageEnd inst tile r) s fun t =>
         (t.job inst e.voice n).tile tile = ⟨.staged, true, [], px.1, [], [], px.2⟩ ∧
         (old.begun = false → t.charged 0 0x20 = u.charged 0 0x20 + px.1.length) ∧ u.frame t [] [.svc, .used]) ∧
     (∀ (a : State) (new : List (List Byte)), u.mayStage j e w x r0 tile = true → v.svcRead e.voice e.id r left = (a, .ok, new) →
       Gives (.tileStageEnd inst tile r) s fun t =>
         (t.job inst e.voice n).tile tile = ⟨.staged, true, [], px.1, ((old.inputs ++ new).take reads.1.length).flatten,
           ((old.inputs ++ new).drop reads.1.length).flatten, px.2⟩ ∧ a.frame t [] [.svc]) ∧
     (∀ (a : State) (va l : Nat) (c : Cause) (new : List (List Byte)), u.mayStage j e w x r0 tile = true →
       v.svcRead e.voice e.id r left = (a, .fault va c l, new) →
       Gives (.tileStageEnd inst tile r) s fun t =>
         ((t.job inst e.voice n).tile tile).st = .fermata ∧ ((t.job inst e.voice n).tile tile).inputs = old.inputs ++ new ∧
         a.countsUp t .SVC_FAULT_CNT e.id) ∧
     (∀ (a : State) (new : List (List Byte)), u.mayStage j e w x r0 tile = true →
       v.svcRead e.voice e.id r left = (a, .busError, new) →
       Gives (.tileStageEnd inst tile r) s fun t =>
         (t.job inst e.voice n).finished = true ∧ (t.job inst e.voice n).status = 2 ∧ t.rdF .SVC_LAST e.id 7 0 = 2) ∧
     (u.mayStage j e w x r0 tile = false → exec (.tileStageEnd inst tile r) s = .next u)) ∧
   (∀ (inst tile n : Nat) (r : MemAnswers) (e w : Elem) (s u : State), s.cutBeat = some n → s.svcElem inst = some e →
     s.svcWin e = some w →
     (s.dropKnown w n = false → exec (.tileStageEnd inst tile r) s = .next s) ∧
     (s.dropKnown w n = true → s.svcDropped w n = (u, true) → exec (.tileStageEnd inst tile r) s = .next u))) ∧
  ((∀ (eng n : Nat) (e : Elem) (tile : Option Nat) (lent : Bool) (s : State), s.engine eng = none → s.cutBeat = some n →
     s.pickUnit eng n = some (e, tile, lent) →
     Gives (.tileStart eng) s fun t =>
       t.engine eng = some ⟨e.id, n, tile, lent, s.clock.elapsed + nsU (s.unitCost e tile)⟩ ∧
       (∀ k, tile = some k → ((t.job e.id e.voice n).tile k).st = .running) ∧
       (lent = true → Tab.get 0 t.svc.rr eng = e.voice) ∧
       (∀ m, svcKind e = 2 → (e.id, m) ∈ t.svc.held → m % max 1 (e.u32 28) = n % max 1 (e.u32 28) → m = n) ∧
       s.frame t [] [.svc]) ∧
   (∀ (eng : Nat) (s : State), (s.engine eng).isSome = true ∨ s.cutBeat = none → exec (.tileStart eng) s = .next s) ∧
   (∀ (eng n : Nat) (s : State), s.cutBeat = some n → s.pickUnit eng n = none → exec (.tileStart eng) s = .next s)) ∧
  ((∀ (eng : Nat) (q : Running) (s : State), s.engine eng = some q → s.cutBeat ≠ some q.beat →
     Gives (.tileEnd eng) s fun t =>
       t.engine eng = none ∧ t.clock = (s.runTo q.ends).clock ∧ s.countsUp t .ENG_TILES eng ∧
       t.rdF .ENG_LENT eng 31 0 = min (2 ^ 32 - 1) (s.rdF .ENG_LENT eng 31 0 + b2n q.lent) ∧
       s.frame t [(.ENG_TILES, eng), (.ENG_LENT, eng)] [.svc, .clock]) ∧
   (∀ (eng k r0 : Nat) (q : Running) (e w : Elem) (x : Source) (s : State), s.engine eng = some q → s.cutBeat = some q.beat →
     q.tile = some k → s.svcElem q.inst = some e → s.svcWin e = some w → s.winSource w = some x → s.firstRow x q.beat = some r0 →
     (s.job q.inst e.voice q.beat).live = true → (s.svc.jobs.any fun y => y.inst == q.inst && y.beat == q.beat) = true →
     svcKind e < 2 →
     let j := (s.job q.inst e.voice q.beat).setTile k { (s.job q.inst e.voice q.beat).tile k with st := .done }
     (svcKind e = 1 ∨ j.tilesDone (tileCount e w) = false →
       Gives (.tileEnd eng) s fun t =>
         t.engine eng = none ∧ s.countsUp t .ENG_TILES eng ∧
         (svcKind e = 0 ∨ j.closed = false → t.job q.inst e.voice q.beat = j ∧ t.svc.items = s.svc.items)) ∧
     (svcKind e = 0 → j.tilesDone (tileCount e w) = true →
       Gives (.tileEnd eng) s fun t =>
         t.engine eng = none ∧ s.countsUp t .ENG_TILES eng ∧ (t.job q.inst e.voice q.beat).finished = true ∧
         t.rd .SVC_BEAT q.inst = q.beat % 2 ^ 64 ∧ t.rdF .SVC_LAST q.inst 7 0 = 0 ∧
         ∃ len bytes, t.svc.items = s.svc.items ++ [⟨16384 + q.inst, e.voice, q.beat, len, none, bytes⟩])) ∧
   (∀ (eng : Nat) (s : State), s.engine eng = none → exec (.tileEnd eng) s = .next s))

/-! ### Voices and memory -/

/-- A write of INDEX to a doorbell of a declared voice (R108): accepted for a voice-to-device queue where it runs at most the
queue's size ahead of PROD and of CONS, and then PROD takes it; for a device-to-voice queue where it runs at most as far ahead of
CONS as PROD, and then CONS takes it; the queue keeps all else but what a released fault record writes. Otherwise both indices
stay and the queue's BADIDX bit is set. A channel that fetches by the queue goes on from STOPPED, and looks at its command where
it is halted (R172). Page accesses that reach no page or no queue (R118, R119, R426, Tables 4.4, 4.7): a doorbell of a queue that
does not exist, and any command on the page of an undeclared voice, count and record a violation with its page offset; the debug
port reaches no voice page. -/
def Obligations.DoorbellsAndPageViolations : Prop :=
  ((∀ (p : Path) (v q : Nat) (w : Word) (s : State), s.pageOpen p v → q < 15 → (s.ring v q).present = true →
     (s.ring v q).toDev = true →
     (w.toNat + 2 ^ 32 - (s.ring v q).prod) % 2 ^ 32 ≤ 2 ^ (s.ring v q).log2 →
     (w.toNat + 2 ^ 32 - (s.ring v q).cons) % 2 ^ 32 ≤ 2 ^ (s.ring v q).log2 →
     Gives (.doorbellWrite p v q w) s fun t =>
       t.ring v q = { s.ring v q with prod := w.toNat } ∧
       ∀ e, s.elems 0x0010 = [e] → e.voice = v → dmaRingQ e = q → s.isHalted v = false →
         ((s.chan e.id).mode = .stopped → (t.chan e.id).mode = .run) ∧
         ((s.chan e.id).mode = .halted → (t.chan e.id).cmdLook = true ∧ (t.chan e.id).mode = .halted)) ∧
   (∀ (p : Path) (v q : Nat) (w : Word) (s : State), s.pageOpen p v → q < 16 → (s.ring v q).present = true →
     (s.ring v q).toDev = false →
     (w.toNat + 2 ^ 32 - (s.ring v q).cons) % 2 ^ 32 ≤ ((s.ring v q).prod + 2 ^ 32 - (s.ring v q).cons) % 2 ^ 32 →
     Gives (.doorbellWrite p v q w) s fun t =>
       (t.ring v q).cons = w.toNat ∧ (q ≠ 15 → t.ring v q = { s.ring v q with cons := w.toNat })) ∧
   (∀ (p : Path) (v q : Nat) (w : Word) (s : State), s.pageOpen p v → q < 16 → (s.ring v q).present = true →
     ((s.ring v q).toDev = true ∧ (2 ^ (s.ring v q).log2 < (w.toNat + 2 ^ 32 - (s.ring v q).prod) % 2 ^ 32 ∨
         2 ^ (s.ring v q).log2 < (w.toNat + 2 ^ 32 - (s.ring v q).cons) % 2 ^ 32) ∨
       (s.ring v q).toDev = false ∧
         ((s.ring v q).prod + 2 ^ 32 - (s.ring v q).cons) % 2 ^ 32 < (w.toNat + 2 ^ 32 - (s.ring v q).cons) % 2 ^ 32) →
     Gives (.doorbellWrite p v q w) s fun t => t.rdB .VW_QPOST v (16 + q) = true ∧ s.frame t [(.VW_QPOST, v)] [] ∧
       ∀ j, j < 32 → j ≠ 16 + q → t.rdB .VW_QPOST v j = s.rdB .VW_QPOST v j)) ∧
  ((∀ (p : Path) (v q : Nat) (w : Word) (s : State), s.pageOpen p v → q < 16 → (s.ring v q).present = false →
     Gives (.doorbellWrite p v q w) s fun t =>
       s.recordsViolation t v (if p = .netctl then 1 else 0) true 0 (0x1000 + 8 * q) 0) ∧
   (∀ (p : Path) (v : Nat) (s : State) (c : Instr) (ofs : Nat), p ≠ .debug → s.domUp .FABRIC = true → v < 1024 → s.declared v = false →
     ((∃ q w, c = .doorbellWrite p v q w ∧ q < 16 ∧ ofs = 0x1000 + 8 * q) ∨ (∃ w, c = .vwIrqMaskWrite p v w ∧ ofs = 0x2C) ∨
       (∃ w, c = .ptrootWrite p v w ∧ ofs = 0x58) ∨ (∃ w, c = .tlbInvalidate p v w ∧ ofs = 0x60) ∨
       (∃ k g, (c = .faultRetry p v k g ∨ c = .faultSkip p v k g ∨ c = .faultAbort p v k g) ∧ ofs = 0x68)) →
     Gives c s fun t => s.recordsViolation t v (if p = .netctl then 1 else 0) true 0 ofs 0) ∧
   (∀ (v : Nat) (s : State) (c : Instr),
     ((∃ q w, c = .doorbellWrite .debug v q w) ∨ (∃ w, c = .vwIrqMaskWrite .debug v w) ∨ (∃ w, c = .ptrootWrite .debug v w) ∨
       (∃ w, c = .tlbInvalidate .debug v w) ∨
       (∃ k g, c = .faultRetry .debug v k g ∨ c = .faultSkip .debug v k g ∨ c = .faultAbort .debug v k g)) →
     exec c s = .next s))

/-- VW_IRQ_MASK takes the value written; a mask bit that falls while its pending bit is 1 sends that vector once, and no other
write sends one (R111). Writing VIOL_INFO.VALID clears VIOL_INFO, VIOL_BEAT, VIOL_VA and VIOL_PA together (R119), and writing 0 to
it nothing. The oldest post that waits at a queue with room is made (R104 to R106): its 32 bytes stand in the entry that PROD
names, PROD advances and POSTED is set; one whose ring violates is discarded with PROD advanced, and one that meets a bus error
with DROPPED set; each of these pulses the event line of the completion it reports (Table 6.7; of a discarded one deduced, log
entry 93). One whose ring faults enters fermata, or for queue 15 waits on with OVF set. While the queue is full, a post of it
stands in fermata or none waits, nothing changes. -/
def Obligations.MasksAndWaitingPosts : Prop :=
  ((∀ (p : Path) (v k : Nat) (w : Word) (s : State), s.pageOpen p v → k < 2 → s.rdB .VW_IRQ_MASK v k = true → w.getLsbD k = false →
     s.rdB .VW_IRQ_STATUS v k = true →
     (s.rdB .VW_IRQ_MASK v (1 - k) = false ∨ w.getLsbD (1 - k) = true ∨ s.rdB .VW_IRQ_STATUS v (1 - k) = false) →
     Gives (.vwIrqMaskWrite p v w) s fun t =>
       t.rd .VW_IRQ_MASK v = w.toNat % 4 ∧ t.rd .VW_IRQ_STATUS v = s.rd .VW_IRQ_STATUS v ∧ s.sendsVector t (2 * v + k)) ∧
   (∀ (p : Path) (v : Nat) (w : Word) (s : State), s.pageOpen p v →
     (∀ k, k < 2 → s.rdB .VW_IRQ_MASK v k = false ∨ w.getLsbD k = true ∨ s.rdB .VW_IRQ_STATUS v k = false) →
     Gives (.vwIrqMaskWrite p v w) s fun t => t.rd .VW_IRQ_MASK v = w.toNat % 4 ∧ s.frame t [(.VW_IRQ_MASK, v)] []) ∧
   (∀ (p : Path) (w : Word) (s : State), s.regOpen p .FABRIC = true → w.getLsbD 15 = true →
     Gives (.violInfoClear p w) s fun t =>
       t.rd .VIOL_INFO 0 = 0 ∧ t.rd .VIOL_BEAT 0 = 0 ∧ t.rd .VIOL_VA 0 = 0 ∧ t.rd .VIOL_PA 0 = 0 ∧
       s.frame t [(.VIOL_INFO, 0), (.VIOL_BEAT, 0), (.VIOL_VA, 0), (.VIOL_PA, 0)] []) ∧
   (∀ (p : Path) (w : Word) (s : State), s.regOpen p .FABRIC = false ∨ w.getLsbD 15 = false → exec (.violInfoClear p w) s = .next s)) ∧
  ((∀ (v q pa : Nat) (m : MemAnswers) (p : Post) (rest : List Post) (s u : State), takeFirstPost v q s.posts = some (p, rest) →
     (s.ring v q).full = false → s.postFermata v q = false →
     State.translate { s with posts := rest } v ((s.ring v q).entry (s.ring v q).prod) true m.walk = (u, .ok pa) →
     (memBad m.data = false → u.deadAddr pa = false →
       Gives (.queuePostRelease ⟨v, q⟩ m) s fun t =>
         t.posts = rest ∧ t.ring v q = { s.ring v q with prod := ((s.ring v q).prod + 1) % 2 ^ 32 } ∧ t.rdB .VW_QPOST v q = true ∧
         (u.inMemory pa 32 → t.readPhys pa 32 = postBytes p (s.ring v q)) ∧ (∀ l, p.line = some l → s.pulses t l) ∧
         ((s.ring v q).msix = true → t.rdB .VW_IRQ_STATUS v (if q = 15 then 1 else 0) = true)) ∧
     (memBad m.data = true ∨ u.deadAddr pa = true →
       Gives (.queuePostRelease ⟨v, q⟩ m) s fun t =>
         t.posts = rest ∧ t.ring v q = s.ring v q ∧ t.rdB .VW_QERR v (16 + q) = true ∧ t.mem = s.mem ∧
         ∀ l, p.line = some l → s.pulses t l)) ∧
   (∀ (v q pa : Nat) (w : Bool) (m : MemAnswers) (p : Post) (rest : List Post) (s u : State),
     takeFirstPost v q s.posts = some (p, rest) → (s.ring v q).full = false → s.postFermata v q = false →
     State.translate { s with posts := rest } v ((s.ring v q).entry (s.ring v q).prod) true m.walk = (u, .viol pa w) →
     Gives (.queuePostRelease ⟨v, q⟩ m) s fun t =>
       t.posts = rest ∧ t.ring v q = { s.ring v q with prod := ((s.ring v q).prod + 1) % 2 ^ 32 } ∧
       s.recordsViolation t v (if w then 6 else 4) true q ((s.ring v q).entry (s.ring v q).prod) pa ∧ t.mem = s.mem ∧
       ∀ l, p.line = some l → s.pulses t l) ∧
   (∀ (v q l : Nat) (c : Cause) (m : MemAnswers) (p : Post) (rest : List Post) (s u : State),
     takeFirstPost v q s.posts = some (p, rest) → (s.ring v q).full = false → s.postFermata v q = false →
     State.translate { s with posts := rest } v ((s.ring v q).entry (s.ring v q).prod) true m.walk = (u, .fault c l) →
     Gives (.queuePostRelease ⟨v, q⟩ m) s fun t =>
       t.ring v q = s.ring v q ∧ (q = 15 → t.rdB .VW_QERR v 15 = true ∧ t.posts = p :: rest) ∧
       (q < 15 → t.postFermata v q = true)) ∧
   (∀ (v q : Nat) (m : MemAnswers) (s : State),
     takeFirstPost v q s.posts = none ∨ (s.ring v q).full = true ∨ s.postFermata v q = true →
     exec (.queuePostRelease ⟨v, q⟩ m) s = .next s))

/-- The voice's oldest operation that waits for a slot takes its lowest free one, whose TAG goes up by one modulo 16; with no slot
free, or none waiting, nothing changes (R139). RETRY of an operation in fermata frees its slot and makes it again: a burst's side
waits for a new walk, a channel in FERMATA runs again once its fetch was its last operation there, a post is made. A decision
whose slot is empty or whose tag is not the slot's is ignored (R141, Table 5.6). SKIP and ABORT of an operation in fermata free
its slot (R141, Table 5.6): a post is discarded with DROPPED set, PROD unchanged and the event line of its completion pulsed; the
channel's one descriptor completes and counts, ABORT stopping the channel; SKIP of a service tile counts, and ABORT completes the
instance's result for the beat with status 7. -/
def Obligations.FermatasAreHeldAndDecided : Prop :=
  ((∀ (v k : Nat) (f : Fermata) (s : State), s.freeSlot v = some k → s.trans.noSlot.find? (fun f => f.voice == v) = some f →
     Gives (.faultSlotTake v) s fun t =>
       t.slotOp v k = some f ∧ Tab.get 0 t.trans.tags (v * 16 + k) = (Tab.get 0 s.trans.tags (v * 16 + k) + 1) % 16 ∧
       t.trans.noSlot = s.trans.noSlot.erase f ∧ (∀ j, j < k → t.slotOp v j ≠ none) ∧
       ∀ j, j ≠ k → j < 16 → t.slotOp v j = s.slotOp v j) ∧
   (∀ (v : Nat) (s : State), s.freeSlot v = none ∨ s.trans.noSlot.find? (fun f => f.voice == v) = none →
     exec (.faultSlotTake v) s = .next s)) ∧
  ((∀ (p : Path) (v k g c : Nat) (write : Bool) (f : Fermata) (s : State), s.pageOpen p v → s.decided v k g = some f →
     (f.op = if write then .dmaWrite c else .dmaRead c) → (∀ d ∈ (s.chan c).descs, d.fail = none) →
     Gives (.faultRetry p v k g) s fun t =>
       t.slotOp v k = none ∧ (if write then (t.chan c).wr else (t.chan c).rd) = .waiting ∧ s.countsUp t .TLB_MISS_CNT 0 ∧
       (t.chan c).descs = (s.chan c).descs) ∧
   (∀ (p : Path) (v k g c : Nat) (f : Fermata) (s : State), s.pageOpen p v → s.decided v k g = some f → f.op = .fetch c →
     (s.chan c).mode = .fermata → (s.releaseSlot v k).chanHeld c = false →
     Gives (.faultRetry p v k g) s fun t =>
       t.slotOp v k = none ∧ (t.chan c).mode = .run ∧ s.frame t [] [.trans, .dma]) ∧
   (∀ (p : Path) (v k g pa : Nat) (x : Post) (f : Fermata) (s u : State), s.pageOpen p v → s.decided v k g = some f → f.op = .post x →
     (s.releaseSlot v k).translate x.voice ((s.ring x.voice x.queue).entry (s.ring x.voice x.queue).prod) true [] = (u, .ok pa) →
     u.deadAddr pa = false →
     Gives (.faultRetry p v k g) s fun t =>
       t.slotOp v k = none ∧ (t.ring x.voice x.queue).prod = ((s.ring x.voice x.queue).prod + 1) % 2 ^ 32 ∧
       t.rdB .VW_QPOST x.voice x.queue = true) ∧
   (∀ (p : Path) (v k g : Nat) (s : State), s.pageOpen p v → s.decided v k g = none →
     exec (.faultRetry p v k g) s = .next s ∧ exec (.faultSkip p v k g) s = .next s ∧ exec (.faultAbort p v k g) s = .next s)) ∧
  ((∀ (p : Path) (v k g : Nat) (x : Post) (f : Fermata) (s : State), s.pageOpen p v → s.decided v k g = some f → f.op = .post x →
     (Gives (.faultSkip p v k g) s fun t =>
       t.slotOp v k = none ∧ t.rdB .VW_QERR x.voice (16 + x.queue) = true ∧ (∀ l, x.line = some l → s.pulses t l) ∧
       s.frame t ((.VW_QERR, x.voice) :: (x.line.map fun l => (RegId.EVL_STATUS, l)).toList) [.trans]) ∧
     (Gives (.faultAbort p v k g) s fun t =>
       t.slotOp v k = none ∧ t.rdB .VW_QERR x.voice (16 + x.queue) = true ∧ (∀ l, x.line = some l → s.pulses t l) ∧
       s.frame t ((.VW_QERR, x.voice) :: (x.line.map fun l => (RegId.EVL_STATUS, l)).toList) [.trans])) ∧
   (∀ (p : Path) (v k g c : Nat) (d : Desc) (e : Elem) (f : Fermata) (s : State), s.pageOpen p v → s.decided v k g = some f →
     f.op = .dmaRead c ∨ f.op = .dmaWrite c → s.dmaElem c = some e → (s.chan c).descs = [d] → d.idx = f.aux →
     (Gives (.faultSkip p v k g) s fun t =>
       s.countsUp t .CH_DONE_CNT c ∧ (t.chan c).descs = [] ∧ t.slotOp v k ≠ some f) ∧
     (Gives (.faultAbort p v k g) s fun t =>
       s.countsUp t .CH_DONE_CNT c ∧ (t.chan c).descs = [] ∧ (t.chan c).mode = .stopped ∧ t.slotOp v k ≠ some f)) ∧
   (∀ (p : Path) (v k g i tile : Nat) (e w : Elem) (x : Source) (r0 : Nat) (f : Fermata) (s : State), s.pageOpen p v →
     s.decided v k g = some f → f.op = .serviceRead i tile ∨ f.op = .serviceWrite i tile →
     s.svcCtx i (f.beat.getD 0) = some (e, w, x, r0) →
     (Gives (.faultSkip p v k g) s fun t => s.countsUp t .SVC_SKIP_CNT i) ∧
     (Gives (.faultAbort p v k g) s fun t =>
       t.slotOp v k = none ∧ (t.job i e.voice (f.beat.getD 0)).finished = true ∧ (t.job i e.voice (f.beat.getD 0)).status = 7)))

/-- A write of VW_TLB_INV takes VPN, and SCOPE unless it is the reserved code 3, which is ignored (R15), and the invalidation they
name starts with BUSY, is held while one is busy, and widens the held one to the whole voice (R133). An invalidation completes
once no burst of the voice in flight uses an entry it removes: no matching entry is left and every other stays, a walk's answer
that a side has not used and that it may remove is forgotten, the count goes up, and the held one starts, or BUSY is 0. Until then
nothing changes (R133). -/
def Obligations.InvalidationsRun : Prop :=
  (∀ (p : Path) (v : Nat) (w : Word) (s : State), s.pageOpen p v →
     let scope := if w.toNat / 2 ^ 24 % 4 = 3 then s.rdF .VW_TLB_INV v 25 24 else w.toNat / 2 ^ 24 % 4
     let i : Inval := ⟨scope, w.toNat % 2 ^ 24⟩
     (Tab.get none s.trans.busy v = none →
       Gives (.tlbInvalidate p v w) s fun t => Tab.get none t.trans.busy v = some i ∧ t.rdB .VW_TLB_STAT v 0 = true ∧
         t.rd .VW_TLB_INV v = w.toNat % 2 ^ 24 + scope * 2 ^ 24 ∧
         t.trans.held = s.trans.held ∧ t.trans.tlb = s.trans.tlb ∧
         s.frame t [(.VW_TLB_INV, v), (.VW_TLB_STAT, v)] [.trans]) ∧
     (∀ b, Tab.get none s.trans.busy v = some b →
       Gives (.tlbInvalidate p v w) s fun t => t.trans.busy = s.trans.busy ∧ t.rdB .VW_TLB_STAT v 1 = true ∧
         t.rd .VW_TLB_INV v = w.toNat % 2 ^ 24 + scope * 2 ^ 24 ∧
         Tab.get none t.trans.held v = some (if Tab.get none s.trans.held v = none then i else ⟨0, 0⟩) ∧
         s.frame t [(.VW_TLB_INV, v), (.VW_TLB_STAT, v)] [.trans])) ∧
  ((∀ (v : Nat) (i : Inval) (s : State), Tab.get none s.trans.busy v = some i → s.invalBusy v i = false →
     takeFirstPost v 15 s.posts = none →
     Gives (.invalidationComplete v) s fun t =>
       t.trans.tlb = s.trans.tlb.filter (fun e => !i.matches v e) ∧
       t.rdF .VW_TLB_STAT v 31 16 = (s.rdF .VW_TLB_STAT v 31 16 + 1) % 65536 ∧
       Tab.get none t.trans.busy v = Tab.get none s.trans.held v ∧ Tab.get none t.trans.held v = none ∧
       t.rdB .VW_TLB_STAT v 0 = (Tab.get none s.trans.held v).isSome ∧ t.rdB .VW_TLB_STAT v 1 = false ∧
       (∀ c e, s.dmaElem c = some e → e.voice = v →
         (∀ d r, (s.chan c).readDesc = some d → (s.chan c).rd = .answer r → i.mayMatch (d.srcAt d.readIssued) = true →
           (t.chan c).rd = .none) ∧
         (∀ d l r, (s.chan c).descs = d :: l → (s.chan c).wr = .answer r → i.mayMatch (d.dstAt d.writeIssued) = true →
           (t.chan c).wr = .none)) ∧
       (∀ c, t.chan c = { s.chan c with rd := (t.chan c).rd, wr := (t.chan c).wr }) ∧
       s.frame t [(.VW_TLB_STAT, v)] [.trans, .dma]) ∧
   (∀ (v : Nat) (i : Inval) (s : State), Tab.get none s.trans.busy v = none ∨
       (Tab.get none s.trans.busy v = some i ∧ s.invalBusy v i = true) →
     exec (.invalidationComplete v) s = .next s))

/-- A write of the low word of VW_PTROOT commits EN and ROOT, with the staged high word's bits 39 to 32, and starts a voice-wide
invalidation, held while one is busy (R134). -/
def Obligations.PtrootWriteCommitsRoot : Prop :=
  ∀ (p : Path) (v : Nat) (w : Word) (s : State), s.pageOpen p v →
    Gives (.ptrootWrite p v w) s fun t =>
      t.rd .VW_PTROOT v =
        w.toNat % 2 + w.toNat / 2 ^ 11 * 2 ^ 11 + highWord s.stage .VW_PTROOT v % 256 * 2 ^ 32 ∧
      (Tab.get none s.trans.busy v = none → Tab.get none t.trans.busy v = some ⟨0, 0⟩ ∧ t.rdB .VW_TLB_STAT v 0 = true) ∧
      (∀ b, Tab.get none s.trans.busy v = some b →
        t.trans.busy = s.trans.busy ∧ Tab.get none t.trans.held v = some ⟨0, 0⟩ ∧ t.rdB .VW_TLB_STAT v 1 = true) ∧
      s.frame t [(.VW_PTROOT, v), (.VW_TLB_STAT, v)] [.trans]

/-- A scrub pass counts what it corrects, and each uncorrectable error with its address, vector 0 and alert 9; over LPDDR5 it runs
only with DDR_ECC 1. The refresh multiplier the devices report shows in MEM_STATUS with DERATED (R121, R145, R146). The bar is
judged once, at the end of tick 4,095 (R147): a shortfall bar, with within-quota LPDDR5 bytes unserved and fewer bytes served than
the reservable capacity, counts in SHORT_CNT with the bytes and the classes, and any other bar in none of them; host-port bytes
left unserved count in HOST_SHORT_CNT (R383). -/
def Obligations.MemoryEventsAreCounted : Prop :=
  ((∀ (lpddr : Bool) (n : Nat) (s : State), lpddr = false ∨ s.rdB .MEM_CFG 0 8 = true →
     (Gives (.scrubPass lpddr n []) s fun t =>
       t.rdF .ECC_CE_CNT 0 31 0 = min (2 ^ 32 - 1) (s.rdF .ECC_CE_CNT 0 31 0 + n) ∧ s.frame t [(.ECC_CE_CNT, 0)] []) ∧
     (∀ a, Gives (.scrubPass lpddr n [a]) s fun t =>
       t.rdF .ECC_CE_CNT 0 31 0 = min (2 ^ 32 - 1) (s.rdF .ECC_CE_CNT 0 31 0 + n) ∧ s.countsUp t .ECC_UE_CNT 0 ∧
       t.rd .ECC_UE_ADDR 0 = a % 2 ^ 64 ∧ t.rdB .VW_IRQ_STATUS 0 0 = true ∧ s.queuesAlert t 0x09 a)) ∧
   (∀ (n : Nat) (l : List Nat) (s : State), s.rdB .MEM_CFG 0 8 = false → exec (.scrubPass true n l) s = .next s) ∧
   (∀ (m : Nat) (d : Bool) (s : State), m = 1 ∨ m = 2 ∨ m = 4 →
     Gives (.refmultPoll m d) s fun t => t.rd .MEM_STATUS 0 = m + 256 * b2n d ∧ s.frame t [(.MEM_STATUS, 0)] [])) ∧
  ((∀ (a b c served host : Nat) (s : State), s.tempo.isOpen = true → s.tempo.judged = false → 0 < a + b + c →
     served < 4096 * s.rd .PMIN_NS 0 / 100 →
     Gives (.shortfallCheck [a, b, c] served host) s fun t =>
       s.countsUp t .SHORT_CNT 0 ∧ t.rd .SHORT_BYTES 0 = min (2 ^ 32 - 1) (a + b + c) ∧
       t.rd .SHORT_CLASS 0 = b2n (decide (0 < a)) + 2 * b2n (decide (0 < b)) + 4 * b2n (decide (0 < c)) ∧
       t.rdF .HOST_SHORT_CNT 0 31 0 = min (2 ^ 32 - 1) (s.rdF .HOST_SHORT_CNT 0 31 0 + b2n (decide (0 < host))) ∧
       t.tempo.judged = true ∧ t.clock = (s.runTo (s.tickTime 4096)).clock) ∧
   (∀ (a b c served host : Nat) (s : State), s.tempo.isOpen = true → s.tempo.judged = false →
     a + b + c = 0 ∨ 4096 * s.rd .PMIN_NS 0 / 100 ≤ served →
     Gives (.shortfallCheck [a, b, c] served host) s fun t =>
       t.rdF .HOST_SHORT_CNT 0 31 0 = min (2 ^ 32 - 1) (s.rdF .HOST_SHORT_CNT 0 31 0 + b2n (decide (0 < host))) ∧
       t.tempo.judged = true ∧ s.frame t [(.HOST_SHORT_CNT, 0)] [.clock, .tempo]) ∧
   (∀ (l : List Nat) (served host : Nat) (s : State), s.tempo.isOpen = false ∨ s.tempo.judged = true →
     exec (.shortfallCheck l served host) s = .next s))

/-! ### The DMA engine -/

/-- A free walker takes the next waiting miss: one of a voice with a walker to spare, of the lowest class, the earliest of them;
the walk joins those in progress. With no such miss nothing changes (R131). A walk that ends leaves its walker and answers the one
side of a channel that waits for its page (R127, R129, R136, R137): a leaf that permits the access and lies in the grant is cached
as the most recent entry and gives the side its address; a leaf that does not permit it, and every other fault of the walk, takes
the operation into fermata. With no such walk nothing changes. -/
def Obligations.WalksAnswerMisses : Prop :=
  ((∀ s : State, (∃ w ∈ s.trans.misses, s.walkerFree w.voice = true) →
     Gives .walkStart s fun t => ∃ w before after, s.trans.misses = before ++ w :: after ∧ s.walkerFree w.voice = true ∧
       (∀ u ∈ before, s.walkerFree u.voice = true → s.classOf w.voice < s.classOf u.voice) ∧
       (∀ u ∈ after, s.walkerFree u.voice = true → s.classOf w.voice ≤ s.classOf u.voice) ∧
       t.trans.walks = s.trans.walks ++ [w] ∧ t.trans.misses = before ++ after ∧ t.trans.tlb = s.trans.tlb ∧
       s.frame t [] [.trans]) ∧
   (∀ s : State, (∀ w ∈ s.trans.misses, s.walkerFree w.voice = false) → exec .walkStart s = .next s)) ∧
  ((∀ (k c pa : Nat) (write : Bool) (r : List MemResult) (w : Walk) (e : Elem) (d : Desc) (l : TlbEntry) (s u : State), s.trans.walks[k]? = some w →
     w.waiters = [(c, write)] → s.dmaElem c = some e → (s.chan c).sideDesc write = some d →
     (if write then (s.chan c).wr else (s.chan c).rd) = .waiting →
     (if write then d.dstAt d.writeIssued else d.srcAt d.readIssued) / 2 ^ 16 = w.va / 2 ^ 16 →
     walk { s with trans := { s.trans with walks := s.trans.walks.eraseIdx k } } w.voice w.va r = (u, .leaf l) →
     l.use (if write then d.dstAt d.writeIssued else d.srcAt d.readIssued) write = .ok pa →
     Gives (.walkComplete k r) s fun t =>
       t.trans.walks = s.trans.walks.eraseIdx k ∧ t.trans.tlb.head? = some l ∧
       t.chan c = (if write then { s.chan c with wr := .answer (.ok pa) } else { s.chan c with rd := .answer (.ok pa) })) ∧
   (∀ (k c lv : Nat) (write : Bool) (r : List MemResult) (w : Walk) (e : Elem) (d : Desc) (x : Cause) (s u : State),
     s.trans.walks[k]? = some w → w.waiters = [(c, write)] → s.dmaElem c = some e → (s.chan c).sideDesc write = some d →
     (if write then (s.chan c).wr else (s.chan c).rd) = .waiting →
     (if write then d.dstAt d.writeIssued else d.srcAt d.readIssued) / 2 ^ 16 = w.va / 2 ^ 16 →
     walk { s with trans := { s.trans with walks := s.trans.walks.eraseIdx k } } w.voice w.va r = (u, .fault x lv) ∨
       (∃ l, walk { s with trans := { s.trans with walks := s.trans.walks.eraseIdx k } } w.voice w.va r = (u, .leaf l) ∧
         l.use (if write then d.dstAt d.writeIssued else d.srcAt d.readIssued) write = .fault x lv) →
     Gives (.walkComplete k r) s fun t =>
       (t.chan c).mode = (if (s.chan c).mode = .run then .fermata else (s.chan c).mode) ∧ t.chanHeld c = true ∧ t.trans.walks = s.trans.walks.eraseIdx k) ∧
   (∀ (k : Nat) (r : List MemResult) (s : State), s.trans.walks[k]? = none → exec (.walkComplete k r) s = .next s))

/-- A fetch of a channel that may fetch (R149, R151, R152, R171): a good descriptor is held with the bytes of its ring entry, and
moves LEN bytes on a software channel, or what its oldest item due and LEN both allow on a beat-bound one; a bad one of an empty
channel completes BAD_DESCRIPTOR, counting; a bus error halts the channel, counting, with the entry's addresses latched; a fault
takes it into fermata. A channel that may not fetch, or is not declared, is unchanged. A descriptor that waits for an event line
of its own voice takes one of the line's credits and goes on (R169, R170); a line of another voice, or of none, ends the wait with
no credit taken and is a violation. With no credit, or with a lower-numbered channel waiting for the line, nothing changes. A
halted channel that a doorbell asks to look at CMD in its failed descriptor in memory (R172): RESUME clears the failure, reissues
the write bursts that met an error, and the channel runs; ABORT completes the one descriptor, which counts, and stops the channel;
with neither the channel stays halted until the next doorbell. A channel not so asked is unchanged. -/
def Obligations.DescriptorsAreFetchedAndGated : Prop :=
  ((∀ (c pa : Nat) (m : MemAnswers) (e : Elem) (s u : State), s.dmaElem c = some e → s.mayFetch c e = true →
     let ring := s.ring e.voice (dmaRingQ e)
     let idx := (ring.cons + (s.chan c).descs.length) % 2 ^ 32
     s.translate e.voice (ring.entry idx) false m.walk = (u, .ok pa) →
     let raw := u.readPhys pa 32
     (memBad m.data = false → u.deadAddr pa = false → descBad (dmaBeatBound e) raw = false →
       Gives (.descriptorFetchReturn c m) s fun t => ∃ d : Desc, (t.chan c).descs = (s.chan c).descs ++ [d] ∧ d.idx = idx ∧
         d.raw = raw ∧ d.pa = some pa ∧ d.readIssued = 0 ∧ d.writeIssued = 0 ∧ d.ended = none ∧
         d.item = (if dmaBeatBound e then (s.chan c).due.head? else none) ∧
         d.total = (match d.item with | some i => min (leAt raw 4 4) i.len | none => leAt raw 4 4) ∧
         (t.chan c).mode = .run ∧ (t.chan c).blocked = false ∧ (u.eccResult m.data pa).frame t [] [.dma]) ∧
     (memBad m.data = false → u.deadAddr pa = false → descBad (dmaBeatBound e) raw = true → (s.chan c).descs = [] →
       Gives (.descriptorFetchReturn c m) s fun t => (t.chan c).descs = [] ∧ s.countsUp t .CH_DONE_CNT c) ∧
     (memBad m.data = true ∨ u.deadAddr pa = true →
       Gives (.descriptorFetchReturn c m) s fun t =>
         (t.chan c).mode = .halted ∧ (t.chan c).fetchHalt = true ∧ s.countsUp t .CH_BERR_CNT c ∧
         t.rd .CH_ERR_PA c = (pa + 2 ^ 41) % 2 ^ 64 ∧ t.rd .CH_ERR_VA c = ring.entry idx % 2 ^ 64 ∧ t.rd .CH_ERR_IDX c = idx)) ∧
   (∀ (c l : Nat) (m : MemAnswers) (k : Cause) (e : Elem) (s u : State), s.dmaElem c = some e → s.mayFetch c e = true →
     s.translate e.voice ((s.ring e.voice (dmaRingQ e)).entry
       (((s.ring e.voice (dmaRingQ e)).cons + (s.chan c).descs.length) % 2 ^ 32)) false m.walk = (u, .fault k l) →
     Gives (.descriptorFetchReturn c m) s fun t =>
       (t.chan c).mode = (if (s.chan c).mode = .run then .fermata else (s.chan c).mode) ∧
       t.chanHeld c = true ∧ (t.chan c).descs = (s.chan c).descs) ∧
   (∀ (c : Nat) (m : MemAnswers) (e : Elem) (s : State), s.dmaElem c = none ∨ (s.dmaElem c = some e ∧ s.mayFetch c e = false) →
     exec (.descriptorFetchReturn c m) s = .next s)) ∧
  ((∀ (c : Nat) (e : Elem) (d : Desc) (s : State), s.dmaElem c = some e → (s.chan c).descs = [d] → d.waiting = true → d.ended = none →
     let line := d.aux % 64
     (s.rdB .EVL_STATUS line 9 = true → s.rdF .EVL_STATUS line 25 16 = e.voice → s.rdF .EVL_STATUS line 7 0 ≠ 0 →
       s.lowerWaiter c line = false →
       Gives (.eventLineWaitEnd c) s fun t =>
         (t.chan c).descs = [{ d with waited := true }] ∧ (t.chan c).blocked = false ∧
         t.rdF .EVL_STATUS line 7 0 = s.rdF .EVL_STATUS line 7 0 - 1 ∧ s.frame t [(.EVL_STATUS, line)] [.dma]) ∧
     (s.rdB .EVL_STATUS line 9 = false ∨ s.rdF .EVL_STATUS line 25 16 ≠ e.voice →
       Gives (.eventLineWaitEnd c) s fun t =>
         (t.chan c).descs = [{ d with waited := true }] ∧ t.rd .EVL_STATUS line = s.rd .EVL_STATUS line ∧
         s.recordsViolation t e.voice 2 false c 0 0) ∧
     (s.rdB .EVL_STATUS line 9 = true → s.rdF .EVL_STATUS line 25 16 = e.voice →
       s.rdF .EVL_STATUS line 7 0 = 0 ∨ s.lowerWaiter c line = true → exec (.eventLineWaitEnd c) s = .next s)) ∧
   (∀ (c : Nat) (s : State), (∀ d ∈ (s.chan c).descs, d.waiting = false) → exec (.eventLineWaitEnd c) s = .next s)) ∧
  ((∀ (c : Nat) (d : Desc) (s : State), s.cmdDesc c = some d → (s.chan c).descs = [d] → s.cmdInMemory d = 1 →
     (Gives (.dmaCmdResume c) s fun t =>
       t.chan c = { s.chan c with mode := .run, cmdLook := false, descs := [d.reissue] } ∧ s.frame t [] [.dma]) ∧
     exec (.dmaCmdAbort c) s = .next s) ∧
   (∀ (c : Nat) (e : Elem) (d : Desc) (s : State), s.dmaElem c = some e → s.cmdDesc c = some d → (s.chan c).descs = [d] →
     s.cmdInMemory d = 2 →
     (Gives (.dmaCmdAbort c) s fun t =>
       (t.chan c).descs = [] ∧ (t.chan c).mode = .stopped ∧ s.countsUp t .CH_DONE_CNT c) ∧
     exec (.dmaCmdResume c) s = .next s) ∧
   (∀ (c : Nat) (d : Desc) (s : State), s.cmdDesc c = some d → s.cmdInMemory d = 0 ∨ s.cmdInMemory d = 3 →
     (Gives (.dmaCmdResume c) s fun t => t.chan c = { s.chan c with cmdLook := false } ∧ s.frame t [] [.dma]) ∧
     (Gives (.dmaCmdAbort c) s fun t => t.chan c = { s.chan c with cmdLook := false } ∧ s.frame t [] [.dma])) ∧
   (∀ (c : Nat) (s : State), s.cmdDesc c = none → exec (.dmaCmdResume c) s = .next s ∧ exec (.dmaCmdAbort c) s = .next s))

/-- The next read burst of a running channel whose translation hits and which breaks no bound (R27, R153, R157 to R159, R170):
within the quota in its turn of the order of grants, or beyond it on rest lent to it, it issues with the length that block, wrap
and total leave, and takes its buffer block. Waiting for its event line or beyond its quota without rest the channel only waits;
without a translation its read side waits for a walk, which counts a miss; at a bound of Table 6.5 it waits and each new episode
counts. A burst that violates issues and is recorded; one of an item reads the device's own storage, a product's charged to the
system section. A channel that is not running is unchanged. The oldest outstanding read of a channel returns into its buffer block
with the bytes its address or its item holds, zeros where it violates (R154, R159); a bus error counts, latches the burst's
addresses, discards the reads behind it and halts the channel, or under SKIP completes the one descriptor BUS_ERROR (R144, R171).
The same holds of an outbound read that times out (R384). With no read outstanding nothing changes. -/
def Obligations.ReadBurstsIssueAndReturn : Prop :=
  ((∀ (c pa : Nat) (rest : Bool) (e : Elem) (d : Desc) (s u : State), s.dmaElem c = some e → (s.chan c).sideDesc false = some d →
     (s.chan c).mode = .run → d.waiting = false → s.quotaSpent c e 1 = false ∨ s.mayLend e rest = true → d.item = none →
     (s.chan c).descs = [d] →
     s.sideNow e.voice (d.srcAt d.readIssued) false (s.chan c).rd = some (u, .ok pa) →
     (u.boundsHit c (decide (u.region pa = .outbound)) = [] →
       s.quotaSpent c e 1 = true ∨ u.grantTurn 0 c e u.waitsRead = true →
       (u.deadAddr pa = false →
         Gives (.readBurstIssue c rest) s fun t =>
           (t.chan c).descs = [{ d with
             readIssued := d.readIssued + d.readLen d.readIssued
             reads := d.reads ++ [⟨d.readIssued, d.readLen d.readIssued, d.srcAt d.readIssued, some pa, []⟩] }] ∧
           (t.chan c).rd = .none ∧ (t.chan c).blocked = false ∧ (t.chan c).lent = s.quotaSpent c e 1 ∧ u.frame t [] [.dma]) ∧
       (u.deadAddr pa = true → Gives (.readBurstIssue c rest) s fun t => s.countsUp t .CH_BERR_CNT c)) ∧
     (u.boundsHit c (decide (u.region pa = .outbound)) = [] → s.quotaSpent c e 1 = false →
       u.grantTurn 0 c e u.waitsRead = false → exec (.readBurstIssue c rest) s = .next u) ∧
     (∀ b, b ∈ u.boundsHit c (decide (u.region pa = .outbound)) →
       Gives (.readBurstIssue c rest) s fun t =>
         b ∈ (t.chan c).stalls ∧ (t.chan c).blocked = true ∧ (t.chan c).descs = [d] ∧
         (u.boundsHit c (decide (u.region pa = .outbound)) = [b] → b ∉ (s.chan c).stalls → (b = 4 → 6 ∉ (s.chan c).stalls) →
           s.countsUp t (if b = 5 then .HOST_TAG_STALL else .CH_STALL_CNT) (if b = 5 then 0 else c)))) ∧
   (∀ (c : Nat) (rest : Bool) (e : Elem) (d : Desc) (s : State), s.dmaElem c = some e → (s.chan c).sideDesc false = some d →
     (s.chan c).mode = .run →
     (d.waiting = true →
       Gives (.readBurstIssue c rest) s fun t => t.chan c = { s.chan c with blocked := true } ∧ s.frame t [] [.dma]) ∧
     (d.waiting = false → (if d.item.isSome then s.pastBar else s.quotaSpent c e 1) = true → s.mayLend e rest = false →
       Gives (.readBurstIssue c rest) s fun t =>
         t.chan c = { s.chan c with blocked := true, asks := !dmaBeatBound e || s.classOf e.voice == 2 } ∧ s.frame t [] [.dma])) ∧
   (∀ (c : Nat) (rest : Bool) (e : Elem) (d : Desc) (s : State), s.dmaElem c = some e → (s.chan c).sideDesc false = some d →
     (s.chan c).mode = .run → d.waiting = false → s.quotaSpent c e 1 = false ∨ s.mayLend e rest = true → d.item = none →
     (s.chan c).rd = .none → s.tlbLookup e.voice (d.srcAt d.readIssued) false = none →
     Gives (.readBurstIssue c rest) s fun t =>
       t.chan c = { s.chan c with rd := .waiting, blocked := false } ∧ s.countsUp t .TLB_MISS_CNT 0 ∧ t.trans.tlb = s.trans.tlb) ∧
   (∀ (c pa : Nat) (rest w : Bool) (e : Elem) (d : Desc) (s u : State), s.dmaElem c = some e → (s.chan c).sideDesc false = some d →
     (s.chan c).mode = .run → d.waiting = false → s.quotaSpent c e 1 = false ∨ s.mayLend e rest = true → d.item = none →
     (s.chan c).descs = [d] → s.sideNow e.voice (d.srcAt d.readIssued) false (s.chan c).rd = some (u, .viol pa w) →
     u.boundsHit c false = [] → s.quotaSpent c e 1 = true ∨ u.grantTurn 0 c e u.waitsRead = true →
     Gives (.readBurstIssue c rest) s fun t =>
       (t.chan c).descs = [{ d with
         readIssued := d.readIssued + d.readLen d.readIssued
         reads := d.reads ++ [⟨d.readIssued, d.readLen d.readIssued, d.srcAt d.readIssued, none, []⟩] }] ∧
       s.recordsViolation t e.voice (if w then 6 else 2) false c (d.srcAt d.readIssued) pa) ∧
   (∀ (c : Nat) (rest : Bool) (i : Item) (e : Elem) (d : Desc) (s : State), s.dmaElem c = some e →
     (s.chan c).sideDesc false = some d → (s.chan c).mode = .run → d.waiting = false → d.item = some i →
     (if s.pastBar then s.mayLend e rest = true else s.grantTurn 0 c e s.waitsRead = true) →
     (s.chan c).descs = [d] → s.boundsHit c false = [] →
     Gives (.readBurstIssue c rest) s fun t =>
       (∃ y : Desc, (t.chan c).descs = [y] ∧ y.readIssued = d.readIssued + d.readLen d.readIssued ∧ y.reads.length = d.reads.length + 1) ∧
       t.charged 0 0x20 = s.charged 0 0x20 + (if i.base.isSome && !s.pastBar then d.readLen d.readIssued else 0) ∧
       s.frame t [] [.dma, .used]) ∧
   (∀ (c : Nat) (rest : Bool) (s : State), (s.chan c).mode ≠ .run → exec (.readBurstIssue c rest) s = .next s)) ∧
  ((∀ (c : Nat) (r : MemResult) (e : Elem) (d : Desc) (b : Burst) (l : List Burst) (s : State), s.dmaElem c = some e →
     (s.chan c).descs = [d] → d.reads = b :: l → d.item = none → memBad r = false →
     (∀ p, b.pa = some p → s.deadAddr p = false) →
     Gives (.readBurstReturn c r) s fun t =>
       (t.chan c).descs = [{ d with
         reads := l
         buf := d.buf ++ [{ b with bytes := match b.pa with | some p => s.readPhys p b.len | none => zeros b.len }] }] ∧
       s.frame t [(.ECC_CE_CNT, 0)] [.dma]) ∧
   (∀ (c : Nat) (r : MemResult) (e : Elem) (d : Desc) (b : Burst) (l : List Burst) (i : Item) (s : State), s.dmaElem c = some e →
     (s.chan c).descs = [d] → d.reads = b :: l → d.item = some i →
     i.base = none ∨ (memBad r = false ∧ s.deadAddr (b.pa.getD 0) = false) →
     Gives (.readBurstReturn c r) s fun t =>
       (t.chan c).descs = [{ d with reads := l, buf := d.buf ++ [{ b with bytes := s.itemBytes i b.start b.len }] }] ∧
       s.frame t [(.ECC_CE_CNT, 0)] [.dma]) ∧
   (∀ (c p : Nat) (r : MemResult) (e : Elem) (d : Desc) (b : Burst) (l : List Burst) (s : State), s.dmaElem c = some e →
     (s.chan c).descs = [d] → d.reads = b :: l → d.readsMemory b = true → d.fail = none → b.pa = some p → memBad r = true →
     (s.chan c).mode = .run →
     Gives (.readBurstReturn c r) s fun t =>
       s.countsUp t .CH_BERR_CNT c ∧ t.rd .CH_ERR_PA c = p % 2 ^ 64 ∧ t.rd .CH_ERR_VA c = b.va % 2 ^ 64 ∧
       t.rd .CH_ERR_IDX c = d.idx % 2 ^ 64 ∧
       (bit 0 (e.u8 9) = false → (t.chan c).mode = .halted ∧ (∀ y ∈ (t.chan c).descs, y.reads = [] ∧ y.readIssued = b.start ∧
         y.fail = some (DmaFail.mk b.start b.va p false))) ∧
       (bit 0 (e.u8 9) = true → (t.chan c).descs = [] ∧ s.countsUp t .CH_DONE_CNT c)) ∧
   (∀ (c p : Nat) (e : Elem) (d : Desc) (b : Burst) (l : List Burst) (s : State), s.dmaElem c = some e →
     (s.chan c).descs = [d] → d.reads = b :: l → d.item = none → d.fail = none → b.pa = some p → s.region p = .outbound →
     (s.chan c).mode = .run →
     Gives (.outboundCompletionTimeout c) s fun t =>
       s.countsUp t .CH_BERR_CNT c ∧ (s.linkUp = true → s.countsUp t .HOST_BERR_CNT 0) ∧ t.rd .CH_ERR_PA c = p % 2 ^ 64 ∧
       (bit 0 (e.u8 9) = false → (t.chan c).mode = .halted)) ∧
   (∀ (c : Nat) (r : MemResult) (s : State), (s.chan c).oldestRead = none →
     exec (.readBurstReturn c r) s = .next s ∧ exec (.outboundCompletionTimeout c) s = .next s) ∧
   (∀ (c p : Nat) (d : Desc) (b : Burst) (s : State), (s.chan c).oldestRead = some (d, b) → b.pa = some p → s.region p ≠ .outbound →
     exec (.outboundCompletionTimeout c) s = .next s))

/-- The next write burst of the channel's one descriptor, its bytes at hand and its translation a hit (R153, R155, R160, R163,
R165): within the quota in its turn of the order of grants, or beyond it on rest lent, it issues with the length that block, wrap
and total leave and those bytes, free values where an overlap leaves them undefined, charged to the channel; the last one of a
descriptor without BARRIER completes it, which counts, and its bursts await their acknowledgements. One that violates goes nowhere
and is recorded. Over quota without rest lent, or with 128 writes in flight, the channel waits; without a translation its write
side waits for a walk; a side that waits for its walk or stands in fermata, bytes that have not come, or an ended or failed
descriptor, change nothing; a burst for an absent host link meets a bus error, which counts; a FILL that waits for its event line
only waits. The oldest write burst of a channel's one descriptor is acknowledged (R165, R171): its bytes stand in memory and count
in CH_BYTES; the last one of a BARRIER descriptor completes it. A bus error counts and latches the burst's addresses instead,
keeps the burst for RESUME and halts the channel, or under SKIP completes the descriptor. A burst that a completed descriptor left
comes first: its bytes are written, or its bus error only counts and is latched (log entry 95). With no write outstanding nothing
changes. -/
def Obligations.WriteBurstsIssueAndEnd : Prop :=
  ((∀ (c pa : Nat) (rest : Bool) (e : Elem) (d : Desc) (bytes : List Byte) (s u : State), s.dmaElem c = some e →
     (s.chan c).descs = [d] → s.writeHeld c = false → d.ended = none → d.fail = none →
     d.writeIssued < d.total → (d.fill = true → d.waiting = false) → d.data d.writeIssued (d.writeLen d.writeIssued) = some bytes →
     s.sideNow e.voice (d.dstAt d.writeIssued) true (s.chan c).wr = some (u, .ok pa) →
     let n := d.writeLen d.writeIssued
     let b : Burst := ⟨d.writeIssued, n, d.dstAt d.writeIssued, some pa, u.burstData d d.writeIssued bytes⟩
     (u.writesInFlight < 128 →
       (if u.overQuota c e (some pa) n then u.mayLend e rest = true else u.grantTurn 8 c e u.waitsWrite = true) →
       u.deadAddr pa = false →
       (d.writeIssued + n < d.total ∨ d.barrier = true →
         Gives (.writeBurstIssue c rest) s fun t => ∃ y : Desc, (t.chan c).descs = [y] ∧
           y.writeIssued = d.writeIssued + n ∧ y.writes = d.writes ++ [b] ∧
           t.rd .CH_USED c = (s.rd .CH_USED c + u.chargeOf c e (some pa) n) % 2 ^ 32 ∧
           (t.chan c).blocked = false ∧ (t.chan c).wr = .none) ∧
       (d.writeIssued + n = d.total → d.barrier = false →
         Gives (.writeBurstIssue c rest) s fun t => (t.chan c).descs = [] ∧ s.countsUp t .CH_DONE_CNT c ∧
           (t.chan c).flying = (s.chan c).flying ++ (d.writes ++ [b]).map fun y => (d.idx, y))) ∧
     (u.writesInFlight < 128 →
       (if u.overQuota c e (some pa) n then u.mayLend e rest = true else u.grantTurn 8 c e u.waitsWrite = true) →
       u.deadAddr pa = true → Gives (.writeBurstIssue c rest) s fun t => s.countsUp t .CH_BERR_CNT c) ∧
     (u.writesInFlight < 128 → u.overQuota c e (some pa) n = true → u.mayLend e rest = false →
       Gives (.writeBurstIssue c rest) s fun t =>
         t.chan c = { s.chan c with blocked := true, asks := !dmaBeatBound e || s.classOf e.voice == 2 } ∧ u.frame t [] [.dma]) ∧
     (u.writesInFlight < 128 → u.overQuota c e (some pa) n = false → u.grantTurn 8 c e u.waitsWrite = false →
       exec (.writeBurstIssue c rest) s = .next u) ∧
     (128 ≤ u.writesInFlight →
       Gives (.writeBurstIssue c rest) s fun t =>
         6 ∈ (t.chan c).stalls ∧ (t.chan c).blocked = true ∧ (t.chan c).descs = [d] ∧
         (6 ∉ (s.chan c).stalls → 4 ∉ (s.chan c).stalls → s.countsUp t .CH_STALL_CNT c ∧ s.countsUp t .STALL_WRITES 0))) ∧
   (∀ (c pa : Nat) (rest w : Bool) (e : Elem) (d : Desc) (bytes : List Byte) (s u : State), s.dmaElem c = some e →
     (s.chan c).descs = [d] → s.writeHeld c = false → d.ended = none → d.fail = none →
     d.writeIssued < d.total → (d.fill = true → d.waiting = false) → d.data d.writeIssued (d.writeLen d.writeIssued) = some bytes →
     s.sideNow e.voice (d.dstAt d.writeIssued) true (s.chan c).wr = some (u, .viol pa w) →
     (if u.overQuota c e none (d.writeLen d.writeIssued) then u.mayLend e rest = true else u.grantTurn 8 c e u.waitsWrite = true) →
     d.readViolated d.writeIssued (d.writeLen d.writeIssued) = false → d.writeIssued + d.writeLen d.writeIssued < d.total →
     Gives (.writeBurstIssue c rest) s fun t =>
       (∃ y : Desc, (t.chan c).descs = [y] ∧ y.writeIssued = d.writeIssued + d.writeLen d.writeIssued ∧ y.writes = d.writes) ∧
       t.mem = s.mem ∧ s.recordsViolation t e.voice (if w then 6 else 3) true c (d.dstAt d.writeIssued) pa) ∧
   (∀ (c : Nat) (rest : Bool) (e : Elem) (d : Desc) (bytes : List Byte) (s : State), s.dmaElem c = some e →
     (s.chan c).descs = [d] → s.writeHeld c = false → d.ended = none → d.fail = none →
     d.writeIssued < d.total → (d.fill = true → d.waiting = false) → d.data d.writeIssued (d.writeLen d.writeIssued) = some bytes →
     (s.chan c).wr = .none → s.tlbLookup e.voice (d.dstAt d.writeIssued) true = none →
     Gives (.writeBurstIssue c rest) s fun t =>
       t.chan c = { s.chan c with wr := .waiting, blocked := false } ∧ s.countsUp t .TLB_MISS_CNT 0) ∧
   (∀ (c : Nat) (rest : Bool) (e : Elem) (d : Desc) (s : State), s.dmaElem c = some e → (s.chan c).descs = [d] →
     s.writeHeld c = false → d.ended = none → d.fail = none → d.writeIssued < d.total → d.fill = true → d.waiting = true →
     Gives (.writeBurstIssue c rest) s fun t => t.chan c = { s.chan c with blocked := true } ∧ s.frame t [] [.dma]) ∧
   (∀ (c : Nat) (rest : Bool) (d : Desc) (s : State), (s.chan c).descs = [d] → s.writeHeld c = true ∨ d.ended.isSome = true ∨
     d.fail.isSome = true ∨ (d.fill = false ∧ ((s.chan c).wr = .waiting ∨ d.data d.writeIssued (d.writeLen d.writeIssued) = none)) ∨ d.total ≤ d.writeIssued →
     exec (.writeBurstIssue c rest) s = .next s)) ∧
  ((∀ (c p : Nat) (e : Elem) (d : Desc) (b : Burst) (l : List Burst) (s : State), s.dmaElem c = some e → (s.chan c).flying = [] →
     (s.chan c).descs = [d] → d.writes = b :: l → b.pa = some p → b.bytes.length = b.len → s.inMemory p b.len →
     d.total ≠ d.writeIssued ∨ d.fail.isSome = true →
     Gives (.writeBurstAck c .ok) s fun t =>
       t.readPhys p b.len = b.bytes ∧ t.rd .CH_BYTES c = (s.rd .CH_BYTES c + b.len) % 2 ^ 32 ∧
       (∀ a, a < p ∨ p + b.len ≤ a → t.readByte a = s.readByte a) ∧
       (t.chan c).descs = [Desc.settle { d with writes := l }] ∧
       s.onlyRegs t [(.CH_BYTES, c)] ∧ s.onlyParts t [.mem, .dma]) ∧
   (∀ (c : Nat) (e : Elem) (d : Desc) (b : Burst) (s : State), s.dmaElem c = some e → (s.chan c).flying = [] →
     (s.chan c).descs = [d] → d.writes = [b] → d.fail = none → d.ended = none → d.total = d.writeIssued → d.barrier = true →
     Gives (.writeBurstAck c .ok) s fun t => (t.chan c).descs = [] ∧ s.countsUp t .CH_DONE_CNT c) ∧
   (∀ (c p : Nat) (r : MemResult) (e : Elem) (d : Desc) (b : Burst) (l : List Burst) (s : State), s.dmaElem c = some e →
     (s.chan c).flying = [] → (s.chan c).descs = [d] → d.writes = b :: l → b.pa = some p → memBad r = true →
     Gives (.writeBurstAck c r) s fun t =>
       s.countsUp t .CH_BERR_CNT c ∧ t.rd .CH_ERR_PA c = (p + 2 ^ 40) % 2 ^ 64 ∧ t.rd .CH_ERR_VA c = b.va % 2 ^ 64 ∧
       (d.fail = none → (s.chan c).mode = .run →
         (bit 0 (e.u8 9) = false → (t.chan c).mode = .halted ∧ ∀ y ∈ (t.chan c).descs, y.failed = d.failed ++ [b] ∧ y.writes = l) ∧
         (bit 0 (e.u8 9) = true → (t.chan c).descs = [] ∧ s.countsUp t .CH_DONE_CNT c))) ∧
   (∀ (c p k : Nat) (e : Elem) (b : Burst) (l : List (Nat × Burst)) (s : State), s.dmaElem c = some e →
     (s.chan c).flying = (k, b) :: l → (s.chan c).descs = [] → b.pa = some p → b.bytes.length = b.len → s.inMemory p b.len →
     (Gives (.writeBurstAck c .ok) s fun t =>
       t.readPhys p b.len = b.bytes ∧ t.rd .CH_BYTES c = (s.rd .CH_BYTES c + b.len) % 2 ^ 32 ∧
       t.chan c = { s.chan c with flying := l } ∧ s.onlyRegs t [(.CH_BYTES, c)] ∧ s.onlyParts t [.mem, .dma]) ∧
     (∀ r, memBad r = true →
       Gives (.writeBurstAck c r) s fun t =>
         t.chan c = { s.chan c with flying := l } ∧ s.countsUp t .CH_BERR_CNT c ∧ t.rd .CH_ERR_IDX c = k % 2 ^ 64 ∧ t.mem = s.mem)) ∧
   (∀ (c : Nat) (r : MemResult) (d : Desc) (s : State), (s.chan c).flying = [] → (s.chan c).descs = [] ∨
     ((s.chan c).descs = [d] ∧ d.writes = []) → exec (.writeBurstAck c r) s = .next s))

/-! ### Uplinks -/

/-- Uplink states (Table 13.2): from DOWN with PCS_ERR_WIN below PCS_LIMIT an uplink goes UP and raises UPLINK_UP; a loss leaves
UP for DOWN; PCS errors that reach PCS_LIMIT leave UP for RETRAIN, counted, alerted and a new epoch; 10 ms later it goes DOWN.
Leaving UP discards the waiting frames, counted in EGR_DROP. An alert is named where it stays queued (path HELD). Alerts and
heartbeats (R302, R316, R319, R320): a conductor alert of code 0x80 or more is queued, a lower code ignored; ALERT_CLR releases
ALERTn where no alert waits with PATH HELD and OVF is 0; at each whole second PCS_ERR_WIN restarts and every available uplink
sends a HEARTBEAT to its alert destination, numbered for that uplink. -/
def Obligations.UplinksAndAlerts : Prop :=
  ((∀ (u : Nat) (e : Elem) (s : State), s.netElem u = some e → s.netState u = 1 → s.blockOff (48 + u) = false →
     s.rdF .PCS_ERR_WIN u 31 0 < e.u32 44 → s.domUp .NET = true →
     Gives (.uplinkUp u) s fun t => t.netUp u = true ∧ (s.rdF .ALERT_PORT u 15 0 = 0 → s.queuesAlert t 0x04 u)) ∧
   (∀ (u : Nat) (a b c : Bool) (s : State), s.netState u = 2 → u < 2 →
     Gives (.uplinkDown u a b c) s fun t =>
       t.netState u = 1 ∧ t.rdF .NET_STATUS u 4 2 = b2n a + 2 * b2n b + 4 * b2n c ∧
       (t.uplink u).egress = [] ∧ (t.uplink u).tx = none ∧
       t.rdF .EGR_DROP u 31 0 = min (2 ^ 32 - 1) (s.rdF .EGR_DROP u 31 0 + (s.uplink u).egress.length)) ∧
   (∀ (u : Nat) (a b c : Bool) (s : State), s.netState u = 1 ∨ s.netState u = 3 →
     Gives (.uplinkDown u a b c) s fun t =>
       t.netState u = s.netState u ∧ t.rdF .NET_STATUS u 4 2 = b2n a + 2 * b2n b + 4 * b2n c ∧ s.frame t [(.NET_STATUS, u)] []) ∧
   (∀ (u n : Nat) (e : Elem) (s : State), s.netElem u = some e → u < 2 → s.netState u = 2 →
     e.u32 44 ≤ min (2 ^ 32 - 1) (s.rdF .PCS_ERR_WIN u 31 0 + n) →
     Gives (.uplinkRetrain u n) s fun t =>
       t.netState u = 3 ∧ s.countsUp t .RETRAIN_CNT u ∧ t.rdB .NET_STATUS u 8 = true ∧
       t.rdF .EPOCH_TAB (48 + u) 7 0 = (s.rdF .EPOCH_TAB (48 + u) 7 0 + 1) % 256 ∧
       (t.uplink u).egress = [] ∧ (t.uplink u).tx = none ∧ (t.uplink u).retrainEnds = s.clock.elapsed + nsU 10000000 ∧
       t.rdF .EGR_DROP u 31 0 = min (2 ^ 32 - 1) (s.rdF .EGR_DROP u 31 0 + (s.uplink u).egress.length) ∧
       t.rdF .PCS_ERR_CNT u 31 0 = min (2 ^ 32 - 1) (s.rdF .PCS_ERR_CNT u 31 0 + n) ∧
       (s.alertAvail (1 - u) = false → s.tieState ≠ 2 → s.net.alerts.length < 64 →
         t.net.alerts = s.net.alerts.map (fun (a : Alert) => if a.placed = some u then { a with placed := none } else a) ++
           [⟨s.rd .ALERT_SEQ 0, 0x03, u % 2 ^ 64, s.now, false, none, none⟩])) ∧
   (∀ (u n : Nat) (e : Elem) (s : State), s.netElem u = some e →
     s.netState u ≠ 2 ∨ min (2 ^ 32 - 1) (s.rdF .PCS_ERR_WIN u 31 0 + n) < e.u32 44 →
     Gives (.uplinkRetrain u n) s fun t =>
       t.rdF .PCS_ERR_WIN u 31 0 = min (2 ^ 32 - 1) (s.rdF .PCS_ERR_WIN u 31 0 + n) ∧
       t.rdF .PCS_ERR_CNT u 31 0 = min (2 ^ 32 - 1) (s.rdF .PCS_ERR_CNT u 31 0 + n) ∧
       s.frame t [(.PCS_ERR_WIN, u), (.PCS_ERR_CNT, u)] []) ∧
   (∀ (u : Nat) (s : State), s.netState u = 3 →
     Gives (.retrainEnd u) s fun t =>
       t.netState u = 1 ∧ t.clock = (s.runTo (s.uplink u).retrainEnds).clock ∧ s.frame t [(.NET_STATUS, u)] [.clock]) ∧
   (∀ (u : Nat) (s : State), s.netState u ≠ 3 → exec (.retrainEnd u) s = .next s) ∧
   (∀ (u : Nat) (s : State), s.netElem u = none →
     exec (.uplinkUp u) s = .next s ∧ ∀ n, exec (.uplinkRetrain u n) s = .next s) ∧
   (∀ (u : Nat) (a b c : Bool) (s : State), s.netState u = 0 → exec (.uplinkDown u a b c) s = .next s)) ∧
  ((∀ (p : Path) (v : Word) (s : State), s.regOpen p .FABRIC = true → 0x80 ≤ v.toNat % 256 →
     Gives (.alertRaise p v) s fun t =>
       s.queuesAlert t (v.toNat % 256) 0 ∧
       (s.net.alerts.length < 64 → s.net.lost = 0 → t.rd .ALERT_SEQ 0 = (s.rd .ALERT_SEQ 0 + 1) % 2 ^ 32) ∧
       (64 ≤ s.net.alerts.length → s.alertPath = 3 →
         s.countsUp t .ALERT_OVF_CNT 0 ∧ t.rdB .ALERT_STATUS 0 11 = true ∧ t.net.lost = s.net.lost + 1 ∧
         t.net.alerts = s.net.alerts)) ∧
   (∀ (p : Path) (v : Word) (s : State), s.regOpen p .FABRIC = false ∨ v.toNat % 256 < 0x80 → exec (.alertRaise p v) s = .next s) ∧
   (∀ (p : Path) (v : Word) (s : State), s.regOpen p .FABRIC = true → v.toNat % 2 = 1 →
     (s.net.alerts = [] ∨ s.alertPath ≠ 3) → s.rdB .ALERT_STATUS 0 11 = false →
     Gives (.alertClr p v) s fun t => t.rdB .ALERT_STATUS 0 10 = false ∧
       (∀ k, k ≠ 10 → k < 32 → t.rdB .ALERT_STATUS 0 k = s.rdB .ALERT_STATUS 0 k) ∧ s.frame t [(.ALERT_STATUS, 0)] []) ∧
   (∀ (p : Path) (v : Word) (s : State), s.regOpen p .FABRIC = false ∨ v.toNat % 2 = 0 ∨ (s.net.alerts ≠ [] ∧ s.alertPath = 3) ∨
     s.rdB .ALERT_STATUS 0 11 = true → exec (.alertClr p v) s = .next s) ∧
   (∀ s : State, s.domUp .TIME = true →
     Gives .nsRollover s fun t =>
       t.clock = (s.runToClock (nsU ((s.clock.sec + 1) * 1000000000))).clock ∧
       t.rd .PCS_ERR_WIN 0 = 0 ∧ t.rd .PCS_ERR_WIN 1 = 0 ∧
       ∀ u, u < 2 →
         (s.alertAvail u = true →
           (t.uplink u).hbSeq = ((s.uplink u).hbSeq + 1) % 2 ^ 32 ∧
           ∃ body, body.length = 8 ∧ leAt body 0 4 = s.rd .SCORE_GEN 0 % 2 ^ 32 ∧
             t.sentOrWaits u (s.alertFrame u (s.ysfAuth 6 0 0xFFFF (s.uplink u).hbSeq 1 s.beatField 0 8 body))) ∧
         (s.alertAvail u = false → t.uplink u = s.uplink u)) ∧
   (∀ s : State, s.domUp .TIME = false → exec .nsRollover s = .next s))

/-- When a frame has left an uplink the next starts by group (R310), as the groups then are (R309): an alert first, then the
oldest PTP frame, then of the frames within their quota one of the lowest class number, within it of the highest traffic class,
and within that the next flow in turn; then on rest the frame whose voice first holds the units it needs, in the round of voices
(R27; log entry 98). A flow's frame counts in FLOW_SENT, and a Sync leaves its Follow_Up waiting (R276). With nothing that may go
the transmitter is idle. A flow's next frame (R307 to R309, R311, R312): where the item's route is a flow and no frame of that
flow waits, the datagram of the bytes due is given to its uplink, or crosses the tie link, with the flow's next sequence number;
it starts within the flow's pace, or on rest for a class-2 voice, and otherwise waits for the next bar. An item that can only be
dropped counts in FWD_DROP; while the item must wait nothing changes. A frame that waits already starts where it may. -/
def Obligations.UplinksSendByGroup : Prop :=
  ((∀ (u : Nat) (s : State), (s.uplink u).tx.isSome = true → s.netUp u = true →
     let r := s.runTo (s.uplink u).txEnds
     let x := s.uplink u
     (∀ a l, s.net.alerts = a :: l → s.alertUplink = some u →
       Gives (.frameTxEnd u) s fun t =>
         t.clock = r.clock ∧ t.out = s.out ++ [.frame u (s.alertFrame u (s.alertMsg a)) (s.alertFrame u (s.alertMsg a)).bytes] ∧
         (t.uplink u).tx = some ⟨1, 0, 7, 0xFFFF, s.alertFrame u (s.alertMsg a), 0, 0⟩ ∧ (t.uplink u).egress = x.egress ∧
         (s.net.lost = 0 → t.net.alerts = l)) ∧
     (s.net.alerts = [] ∨ s.alertUplink ≠ some u →
       (∀ f, x.egress.find? (fun f => f.group == 2) = some f → Gives (.frameTxEnd u) s fun t => r.startsFrame t u f) ∧
       ((∀ f ∈ x.egress, f.group ≠ 2) → (∃ f ∈ x.egress, r.groupNow u f = 3) →
         Gives (.frameTxEnd u) s fun t => ∃ f ∈ x.egress, r.groupNow u f = 3 ∧ r.startsFrame t u f ∧
           ∀ g ∈ x.egress, r.groupNow u g = 3 →
             s.classOf f.voice ≤ s.classOf g.voice ∧
             (s.classOf f.voice = s.classOf g.voice → 7 - f.tclass ≤ 7 - g.tclass ∧
               (7 - f.tclass = 7 - g.tclass →
                 (f.turn + 4096 - x.rrFlow - 1) % 2049 ≤ (g.turn + 4096 - x.rrFlow - 1) % 2049))) ∧
       ((∀ f ∈ x.egress, f.group ≠ 2 ∧ r.groupNow u f ≠ 3) → r.asking u x ≠ [] →
         Gives (.frameTxEnd u) s fun t => ∃ f ∈ r.asking u x, r.startsFrame t u f ∧
           ∀ g ∈ r.asking u x, x.needs f < x.needs g ∨ (x.needs f = x.needs g ∧ x.place f.voice ≤ x.place g.voice)) ∧
       ((∀ f ∈ x.egress, f.group ≠ 2 ∧ r.groupNow u f ≠ 3 ∧ r.groupNow u f ≠ 4) →
         Gives (.frameTxEnd u) s fun t =>
           t.clock = r.clock ∧ (t.uplink u).tx = none ∧ (t.uplink u).egress = x.egress ∧ s.frame t [] [.clock, .net]))) ∧
   (∀ (u : Nat) (s : State), (s.uplink u).tx = none → exec (.frameTxEnd u) s = .next s)) ∧
  ((∀ (f k : Nat) (e g : Elem) (i : FlowItem) (s : State), s.flowElem f = some e → (s.flow f).now = some i →
     s.routeItem e i = .flow k → s.flowElem k = some g → g.id < 2048 → s.flowWaits g = false →
     let n := min (datagramSize (s.flowMax g) (g.u8 16 == 6) (bit 0 (g.u8 17)) false) (i.item.len - i.sent)
     let fr := s.flowFrame g (ysfHeader 1 g.voice g.id (s.flow g.id).seq (b2n (decide (i.item.len ≤ i.sent + n))) i.item.beat i.sent
       i.item.len ++ s.itemBytes i.item i.sent n)
     let sent : FlowItem := { i with sent := i.sent + n, via := some g.id }
     (s.paced g fr.wire = true ∨ s.classOf g.voice = 2 →
       (s.tieRouted g = false → s.netUp (g.u8 8) = true →
         Gives (.flowFrameReady f) s fun t =>
           s.takesFrame t (g.u8 8) ⟨if s.paced g fr.wire then 3 else 4, g.voice, g.u8 9, g.id, fr, f, i.item.beat⟩ ∧
           (t.flow g.id).seq = ((s.flow g.id).seq + 1) % 2 ^ 32 ∧
           ((s.uplink (g.u8 8)).tx.isSome = true →
             (t.flow f).items = (s.flow f).items.map fun j => if j = i then sent else j)) ∧
       (s.tieRouted g = true →
         Gives (.flowFrameReady f) s fun t =>
           t.out = s.out ++ [tieOut 9 0 s.tie.recvSeq false fr.bytes] ∧ s.countsUp t .FLOW_SENT g.id ∧
           (t.flow g.id).seq = ((s.flow g.id).seq + 1) % 2 ^ 32 ∧
           (s.pastBar = false → t.charged g.voice 0x23 = s.charged g.voice 0x23 + fr.wire))) ∧
     (s.paced g fr.wire = false → s.classOf g.voice ≠ 2 → exec (.flowFrameReady f) s = .next s)) ∧
   (∀ (f k : Nat) (e g : Elem) (i : FlowItem) (s : State), s.flowElem f = some e → (s.flow f).now = some i →
     s.routeItem e i = .flow k → s.flowElem k = some g → s.flowWaits g = true →
     exec (.flowFrameReady f) s = .next (s.startTx (g.u8 8))) ∧
   (∀ (f : Nat) (e : Elem) (i : FlowItem) (s : State), s.flowElem f = some e → (s.flow f).now = some i →
     s.routeItem e i = .drop →
     Gives (.flowFrameReady f) s fun t =>
       (t.flow f).items = (s.flow f).items.erase i ∧ s.countsUp t .FWD_DROP 0 ∧ s.frame t [(.FWD_DROP, 0)] [.net]) ∧
   (∀ (f : Nat) (e : Elem) (i : FlowItem) (s : State), s.flowElem f = some e → (s.flow f).now = some i →
     s.routeItem e i = .wait → exec (.flowFrameReady f) s = .next s) ∧
   (∀ (f : Nat) (e : Elem) (s : State), s.flowElem f = some e → (s.flow f).now = none →
     exec (.flowFrameReady f) s = .next (if s.flowWaits e then s.startTx (e.u8 8) else s)) ∧
   (∀ (f : Nat) (s : State), s.flowElem f = none → exec (.flowFrameReady f) s = .next s))

/-- Messages are authenticated (R95, R304, R305, R313, R314): a verified new message of a declared NETCTL voice takes its SEQ and
a token, and then has its effect: SETKEY installs a key the voice owns with LAST_SEQ 0, REGS reads the register named, both with a
reply, and a well-formed image request is queued and counted; one whose header names a flow of another voice violates (Table 4.4;
what VIOL_VA then holds is a free value, log entry 97). One that fails a check counts in AUTH_DROP, one that finds no token in
SRV_RATE_DROP, and a frame not accepted, or for another port, in RX_OTHER. A write of KEY_DATA3 installs a key where the selected
voice owns none. -/
def Obligations.MessagesAreAuthenticated : Prop :=
  (∀ (u v : Nat) (m : ControlMsg) (s : State), s.takesMessage u 3 m v → ((s.takeSeq v (leAt m.bytes 8 4)).requestToken v).2 = true →
    isSetkey (ysfBody m.bytes) = true → s.foreignFlow v m.bytes = false →
    Gives (.controlSetkey u m) s fun t =>
      t.netKey v = some ⟨(ysfBody m.bytes).drop 4, true, 0⟩ ∧ t.repliesTo u m v []) ∧
  (∀ (u v a : Nat) (m : ControlMsg) (s : State), s.takesMessage u 3 m v →
    ((s.takeSeq v (leAt m.bytes 8 4)).requestToken v).2 = true →
    regsCount (ysfBody m.bytes) = some 1 → a = leAt (ysfBody m.bytes) 4 4 → bit 25 a = false → (bit 24 a = true → v = 0) →
    (bit 24 a = false → fld 19 0 a < 65536) → s.foreignFlow v m.bytes = false →
    let x := ((s.takeSeq v (leAt m.bytes 8 4)).requestToken v).1
    let y := x.busRead .netctl (if bit 24 a then .conductor else .page v) (if bit 24 a then fld 19 0 a else fld 19 0 a % 65536)
    Gives (.controlRegs u m) s fun t =>
      (∃ k, s.netKey v = some k ∧ t.netKey v = some { k with lastSeq := leAt m.bytes 8 4 }) ∧
      t.repliesTo u m v (toLe 4 a ++ toLe 4 y.2)) ∧
  (∀ (u v : Nat) (m : ControlMsg) (s : State), s.takesMessage u 3 m v → ((s.takeSeq v (leAt m.bytes 8 4)).requestToken v).2 = true →
    s.foreignFlow v m.bytes = true →
    (isSetkey (ysfBody m.bytes) = true →
      Gives (.controlSetkey u m) s fun t =>
        s.recordsViolation t v 9 true (leAt m.bytes 6 2) (Config.undefined s.fresh).toNat 0 ∧ t.repliesTo u m v []) ∧
    (∀ n, regsCount (ysfBody m.bytes) = some n →
      Gives (.controlRegs u m) s fun t =>
        s.recordsViolation t v 9 (regsWrites (ysfBody m.bytes) n) (leAt m.bytes 6 2) (Config.undefined s.fresh).toNat 0 ∧
        t.repliesTo u m v (deniedRun ((ysfBody m.bytes).drop 4) n))) ∧
  (∀ (u v : Nat) (m : ControlMsg) (s : State), s.takesMessage u 5 m v →
    ((s.takeSeq v (leAt m.bytes 8 4)).requestToken v).2 = true → requestOk (ysfBody m.bytes) = true → s.svc.requests.length < 64 →
    Gives (.imageRequest u m) s fun t =>
      let b := ysfBody m.bytes
      t.svc.requests = s.svc.requests ++ [⟨v, u, m.head.src, m.head.v6, m.head.ip, m.head.port, leAt m.bytes 16 8, leAt b 0 2,
        leAt b 4 2, leAt b 6 2, leAt b 8 2, leAt b 10 2, leAt b 2 1, leAt b 12 4, leAt m.bytes 8 4, false, m.head.tags.head?,
        false, 0, []⟩] ∧
      s.countsUp t .SRV_REQ_CNT 0 ∧ t.rdF .SRV_PENDING 0 6 0 = s.svc.requests.length + 1 ∧
      (∃ k, s.netKey v = some k ∧ t.netKey v = some { k with lastSeq := leAt m.bytes 8 4 }) ∧
      s.frame t [(.SRV_REQ_CNT, 0), (.SRV_PENDING, 0)] [.svc, .net]) ∧
  (∀ (u v : Nat) (m : ControlMsg) (s : State), s.takesMessage u 5 m v →
    ((s.takeSeq v (leAt m.bytes 8 4)).requestToken v).2 = true → requestOk (ysfBody m.bytes) = true → 64 ≤ s.svc.requests.length →
    Gives (.imageRequest u m) s fun t =>
      t.svc.requests = s.svc.requests ∧ s.countsUp t .SRV_FULL_DROP 0 ∧ s.frame t [(.SRV_FULL_DROP, 0)] [.svc, .net]) ∧
  (∀ (u v typ : Nat) (m : ControlMsg) (c : Instr) (s : State),
    ((c = .controlSetkey u m ∨ c = .controlRegs u m) ∧ typ = 3 ∨ c = .imageRequest u m ∧ typ = 5) →
    (s.takesMessage u typ m v → ((s.takeSeq v (leAt m.bytes 8 4)).requestToken v).2 = false →
      Gives c s fun t => s.countsUp t .SRV_RATE_DROP 0 ∧ s.frame t [(.SRV_RATE_DROP, 0)] [.svc, .net]) ∧
    ((s.netElem u).isSome = true → s.netUp u = true →
      s.frameOk u m.head false true = false ∨ m.head.dport ≠ s.rdF .CTL_PORT u 15 0 →
      Gives c s fun t => s.dropsFrame t u m.head) ∧
    ((s.netElem u).isSome = true → s.netUp u = true → s.frameOk u m.head false true = true →
      m.head.dport = s.rdF .CTL_PORT u 15 0 → 32 ≤ m.bytes.length → leAt m.bytes 0 2 = 0x4659 → leAt m.bytes 2 1 = 1 →
      leAt m.bytes 3 1 = typ → leAt m.bytes 4 2 = v →
      (1024 ≤ v ∨ s.ysfVerified v m.bytes = false ∨ s.declared v = false ∨ s.netctl v = false ∨
        s.seqNew v (leAt m.bytes 8 4) = false) →
      Gives c s fun t => s.countsUp t .AUTH_DROP u ∧ s.frame t [(.AUTH_DROP, u)] [])) ∧
  (∀ (p : Path) (w : Word) (s : State), s.regOpen p .FABRIC = true →
    (∀ k, s.netKey (s.rdF .KEY_SEL 0 9 0) = some k → k.owned = false) →
    Gives (.keyInstall p w) s fun t =>
      t.netKey (s.rdF .KEY_SEL 0 9 0) =
        some ⟨toLe 4 (s.rd .KEY_DATA 0) ++ toLe 4 (s.rd .KEY_DATA 1) ++ toLe 4 (s.rd .KEY_DATA 2) ++ toLe 4 w.toNat, false, 0⟩ ∧
      (∀ v, v ≠ s.rdF .KEY_SEL 0 9 0 → t.netKey v = s.netKey v) ∧ s.frame t [] [.net]) ∧
  (∀ (p : Path) (w : Word) (s : State), s.regOpen p .FABRIC = false ∨
    (∃ k, s.netKey (s.rdF .KEY_SEL 0 9 0) = some k ∧ k.owned = true) → exec (.keyInstall p w) s = .next s)

/-- Frames that a handler answers or drops (R270, R300, R301): an accepted ARP request for the uplink's address and an accepted
echo request with a token in its bucket are answered on rest, with the request's tag; an ARP request for another target, one
without IPv4, and any frame not accepted count in RX_OTHER, one with a bad FCS in FCS_ERR_CNT too, and an echo without a token in
ICMP_DROP. A frame that no handler takes is dropped and counted so; at an uplink that is not UP nothing is received. A module
transfer with GO (R300) takes MOD_CMD, ends with DONE and BUSY 0, and on an acknowledge of a powered cage reads the byte into
MOD_DATA or sends MOD_DATA's; otherwise NAK is set and no byte moves. Without GO, while no transfer runs, nothing changes. The
oldest image request of a voice whose turn it is (R265 to R267): the engine reads as many of its tiles as fit, which take time and
count. Read whole from history it leaves the queue and is answered with status 0 and its bytes to the sender, with the request's
tag; a beat that is not held is answered with status 1, one lost since the request began or by a skip or abort with 3, both
counted, and a rectangle beyond the window or a reply too long with 2. A window that is not the voice's server's violates (what
VIOL_VA then holds is a free value, log entry 97). A request that may not be served yet waits. -/
def Obligations.FramesModulesAndImages : Prop :=
  ((∀ (u ip target : Nat) (h : RxHead) (e : Elem) (s : State), s.netElem u = some e → s.netUp u = true →
     (s.frameOk u h true false = true → e.u8 24 ≠ 0 → target = s.netIp u false →
       Gives (.arpRequest u h ip target) s fun t =>
         s.countsUp t .ARP_CNT u ∧
         s.takesFrame t u ⟨4, 0, 6, 0xFFFF, ⟨s.netMac u, h.src, h.tags.head?, .arp (s.netIp u false) ip⟩, 0, 0⟩) ∧
     (s.frameOk u h true false = false ∨ e.u8 24 = 0 ∨ target ≠ s.netIp u false →
       Gives (.arpRequest u h ip target) s fun t => s.dropsFrame t u h)) ∧
   (∀ (u ip i n : Nat) (d : List Byte) (h : RxHead) (e : Elem) (s : State), s.netElem u = some e → s.netUp u = true →
     let b := takeToken (Tab.get none s.svc.icmp u) 1000 16 s.clock.elapsed
     (s.frameOk u h false true = true → h.v6 = false → b.2 = true →
       Gives (.icmpEchoRequest u h ip i n d) s fun t =>
         s.countsUp t .ICMP_CNT u ∧ Tab.get none t.svc.icmp u = some b.1 ∧
         s.takesFrame t u ⟨4, 0, 6, 0xFFFF, ⟨s.netMac u, h.src, h.tags.head?, .echo (s.netIp u false) ip i n d⟩, 0, 0⟩) ∧
     (s.frameOk u h false true = true → h.v6 = false → b.2 = false →
       Gives (.icmpEchoRequest u h ip i n d) s fun t =>
         s.countsUp t .ICMP_DROP u ∧ Tab.get none t.svc.icmp u = some b.1 ∧ s.frame t [(.ICMP_DROP, u)] [.svc]) ∧
     (s.frameOk u h false true = false ∨ h.v6 = true →
       Gives (.icmpEchoRequest u h ip i n d) s fun t => s.dropsFrame t u h)) ∧
   (∀ (u : Nat) (h : RxHead) (handled : Bool) (s : State), (s.netElem u).isSome = true → s.netUp u = true →
     (handled = true → s.frameOk u h false true = true → exec (.frameDrop u ⟨h, handled⟩) s = .next s) ∧
     (handled = false ∨ s.frameOk u h false true = false → Gives (.frameDrop u ⟨h, handled⟩) s fun t => s.dropsFrame t u h)) ∧
   (∀ (u ip i n : Nat) (d : List Byte) (h : RxHead) (handled : Bool) (s : State), s.netElem u = none ∨ s.netUp u = false →
     exec (.arpRequest u h i n) s = .next s ∧ exec (.icmpEchoRequest u h ip i n d) s = .next s ∧
     exec (.frameDrop u ⟨h, handled⟩) s = .next s)) ∧
  ((∀ (p : Path) (u : Nat) (v : Word) (r : CciResult) (d : Byte) (c : Instr) (s : State), u < 2 →
     s.entryOpen p .MOD_CMD u = true → v.getLsbD 31 = true → s.rdB .MOD_STATUS u 0 = false →
     (c = .moduleRead p u v r d ∧ v.getLsbD 9 = true ∨ c = .moduleWrite p u v r ∧ v.getLsbD 9 = false) →
     Gives c s fun t =>
       t.rd .MOD_CMD u = v.toNat ∧ t.rdB .MOD_STATUS u 0 = false ∧ t.rdB .MOD_STATUS u 1 = true ∧
       (if r = .ack ∧ (s.netElem u).isSome = true then
         (if v.getLsbD 9 then t.rd .MOD_DATA u = d.toNat ∧ t.out = s.out
           else t.rd .MOD_DATA u = s.rd .MOD_DATA u ∧ t.out = s.out ++ [.module u (v.toNat % 512) (s.rd .MOD_DATA u % 256)])
       else t.rdB .MOD_STATUS u 2 = true ∧ t.rd .MOD_DATA u = s.rd .MOD_DATA u ∧ t.out = s.out) ∧
       s.frame t [(.MOD_CMD, u), (.MOD_STATUS, u), (.MOD_DATA, u)] [.out]) ∧
   (∀ (p : Path) (u : Nat) (v : Word) (r : CciResult) (d : Byte) (s : State), u < 2 → s.entryOpen p .MOD_CMD u = false ∨
       v.getLsbD 31 = false ∧ s.rdB .MOD_STATUS u 0 = false →
     exec (.moduleRead p u v r d) s = .next s ∧ exec (.moduleWrite p u v r) s = .next s)) ∧
  ((∀ (v n : Nat) (lent : Bool) (m : MemAnswers) (q : Request) (e w : Elem) (s : State),
     s.svc.requests.find? (fun q => q.voice == v) = some q → s.serveTurn v = some (lent, n) → s.server v = some e →
     e.u16 10 = q.window → s.svcWin e = some w →
     let beat := s.heldBeat e.id q.beat
     let size := 64 + q.size.1 * q.size.2 * s.windowPix w.id
     let k := min n (q.tilesOf - q.tiles)
     let u := s.serveTiles q k (s.readCost v) lent
     let reads := pieces (s.histAddr e w beat) 64 2 ++
       requestReads q (s.histAddr e w beat + 64) (winW w * s.windowPix w.id) (s.windowPix w.id)
     (q.lost = false → s.svc.held.contains (e.id, beat) = true → q.x + q.w ≤ winW w → q.y + q.h ≤ winH w → size ≤ 4194304 →
       (q.tiles + k < q.tilesOf →
         Gives (.serverRequestServe v m) s fun t =>
           t.svc.requests = s.svc.requests.map (fun r => if r == q then { q with begun := true, tiles := q.tiles + k } else r) ∧
           t.clock = (s.runTo (s.clock.elapsed + nsU (k * s.readCost v))).clock ∧
           t.rdF .ENG_TILES 6 31 0 = min (2 ^ 32 - 1) (s.rdF .ENG_TILES 6 31 0 + k)) ∧
       (∀ (a : State) (new : List (List Byte)), q.tilesOf ≤ q.tiles + k →
         u.svcRead q.voice e.id m (reads.drop q.got.length) = (a, .ok, new) →
         let data := (q.got ++ new).flatten
         Gives (.serverRequestServe v m) s fun t =>
           t.svc.requests = a.svc.requests.erase (q.read k) ∧
           (a.netUp q.uplink = true → data.length + 8 ≤ datagramSize (a.maxframe q.uplink) q.v6 q.vlan.isSome true →
             t.sentOrWaits q.uplink (a.ysfFrame q.uplink q.mac q.vlan q.v6 q.ip q.port
               (a.ysfAuth 4 q.voice 0xFFFF q.seq 1 q.beat 0 data.length (toLe 4 q.reqId ++ [0, 1, 0, 0] ++ data)))))) ∧
     (∀ code : Nat, (q.lost = true ∧ code = 3) ∨
         (q.lost = false ∧ s.svc.held.contains (e.id, beat) = false ∧ code = if q.begun then 3 else 1) ∨
         (q.lost = false ∧ s.svc.held.contains (e.id, beat) = true ∧
           (winW w < q.x + q.w ∨ winH w < q.y + q.h ∨ 4194304 < size) ∧ code = 2) →
       Gives (.serverRequestServe v m) s fun t =>
         t.svc.requests = s.svc.requests.erase q ∧ (code ≠ 2 → s.countsUp t .SRV_NOTHELD 0) ∧
         (s.netUp q.uplink = true →
           t.sentOrWaits q.uplink (s.ysfFrame q.uplink q.mac q.vlan q.v6 q.ip q.port
             (s.ysfAuth 4 q.voice 0xFFFF q.seq 1 q.beat 0 0 (toLe 4 q.reqId ++ [BitVec.ofNat 8 code, 1, 0, 0])))))) ∧
   (∀ (v n : Nat) (lent : Bool) (m : MemAnswers) (q : Request) (s : State),
     s.svc.requests.find? (fun q => q.voice == v) = some q → s.serveTurn v = some (lent, n) →
     (s.server v = none →
       Gives (.serverRequestServe v m) s fun t =>
         s.recordsViolation t q.voice 7 false 0 (Config.undefined s.fresh).toNat 0 ∧ t.svc.requests = s.svc.requests.erase q) ∧
     (∀ e : Elem, s.server v = some e → e.u16 10 ≠ q.window →
       Gives (.serverRequestServe v m) s fun t =>
         s.recordsViolation t q.voice 7 false e.id (Config.undefined s.fresh).toNat 0 ∧
         t.svc.requests = s.svc.requests.erase q)) ∧
   (∀ (v : Nat) (m : MemAnswers) (s : State), (∀ q ∈ s.svc.requests, q.voice ≠ v) ∨ s.serveTurn v = none →
     exec (.serverRequestServe v m) s = .next s))

/-! ### Scores and barlines -/

/-- LOAD_CTRL.GO stages the score that LOAD_ADDR, LOAD_LEN, SRC and BANK name and STATE is CHECKING; while a load is in progress
or a full load is armed it is refused and only sets REFUSED. CANCEL discards the pending segue and tells its declared voices (R69,
R91). Admission ends (R73, R75, R81, R83): CODE, LOAD_FAIL_OFS and LOAD_FAIL_RES say how, DONE is set; an admitted segue pends in
place of an older one, a full load is armed while a score is live, and else opens its shadow plane with READY low. With no score
in admission, or while the flash's SFDP is still to be read, nothing changes. -/
def Obligations.LoadsAreJudged : Prop :=
  ((∀ (p : Path) (v : Word) (s : State), s.regOpen p .FABRIC = true → v.getLsbD 0 = true → v.getLsbD 1 = false →
     fld 3 2 v.toNat ≤ 1 → s.load.staged = none → s.load.applying = none → s.load.armed = none →
     Gives (.loadGo p v) s fun t =>
       t.load = { s.load with
         staged := some (Staged.mk (decide (fld 3 2 v.toNat = 1)) (s.rd .LOAD_ADDR 0) (s.rd .LOAD_LEN 0) (fld 5 4 v.toNat) false) } ∧
       t.rdF .LOAD_STATUS 0 2 0 = 1 ∧ s.frame t [(.LOAD_CTRL, 0), (.LOAD_STATUS, 0), (.PENDING_BEAT, 0)] [.load, .power]) ∧
   (∀ (p : Path) (v : Word) (s : State), s.regOpen p .FABRIC = true → v.getLsbD 0 = true → v.getLsbD 1 = false →
     s.load.staged.isSome = true ∨ s.load.applying.isSome = true ∨ s.load.armed.isSome = true →
     Gives (.loadGo p v) s fun t =>
       t.rdB .LOAD_STATUS 0 17 = true ∧ (∀ k, k < 32 → k ≠ 17 → t.rdB .LOAD_STATUS 0 k = s.rdB .LOAD_STATUS 0 k) ∧
       s.frame t [(.LOAD_CTRL, 0), (.LOAD_STATUS, 0)] []) ∧
   (∀ (p : Path) (v : Word) (c : Score) (s : State), s.regOpen p .FABRIC = true → v.getLsbD 0 = false → v.getLsbD 1 = true →
     s.load.pend = some c →
     Gives (.loadCancel p v) s fun t =>
       t.load = { s.load with pend := none } ∧ t.rdF .LOAD_STATUS 0 2 0 = t.load.state ∧ t.rd .PENDING_BEAT 0 = 0 ∧
       ∀ x ∈ c.named, s.declared x = true → t.rdB .VW_EVENT x 1 = true) ∧
   (∀ (p : Path) (v : Word) (s : State), s.regOpen p .FABRIC = true → v.getLsbD 0 = false → v.getLsbD 1 = true → s.load.pend = none →
     Gives (.loadCancel p v) s fun t => s.frame t [(.LOAD_CTRL, 0)] []) ∧
   (∀ (p : Path) (v : Word) (s : State), s.regOpen p .FABRIC = false → exec (.loadGo p v) s = .next s ∧ exec (.loadCancel p v) s = .next s)) ∧
  ((∀ (x : Staged) (f : Fail) (s : State), s.load.staged = some x → s.domUp .FABRIC = true → (x.flash = true → s.power.sfdp = false) →
     s.admission x = .error f → s.power.banks = [] →
     Gives .admissionEnd s fun t =>
       t.load = { s.load with staged := none } ∧ t.rdF .LOAD_STATUS 0 15 8 = f.code % 256 ∧ t.rdB .LOAD_STATUS 0 16 = true ∧
       t.rd .LOAD_FAIL_OFS 0 = f.ofs % 2 ^ 64 ∧ t.rd .LOAD_FAIL_RES 0 = f.res % 2 ^ 64 ∧ t.ready = s.ready) ∧
   (∀ (x : Staged) (c : Score) (s : State), s.load.staged = some x → s.domUp .FABRIC = true → (x.flash = true → s.power.sfdp = false) →
     s.admission x = .ok c →
     Gives .admissionEnd s fun t =>
       t.rdF .LOAD_STATUS 0 15 8 = 0 ∧ t.rdB .LOAD_STATUS 0 16 = true ∧
       t.rd .LOAD_FAIL_OFS 0 = 0xFFFFFFFF ∧ t.rd .LOAD_FAIL_RES 0 = 0xFF ∧
       (c.segue = true → t.load = { s.load with staged := none, pend := some c } ∧ t.rd .PENDING_BEAT 0 = c.commit % 2 ^ 64 ∧
         ∀ v ∈ c.named, s.declared v = true → t.rdB .VW_EVENT v 0 = true) ∧
       (c.segue = false → s.scoreLive = true → t.load = { s.load with staged := none, armed := some c } ∧ t.ready = s.ready) ∧
       (c.segue = false → s.scoreLive = false →
         t.load = { s.load with staged := none, pend := none, armed := none, applying := some c, applied := false } ∧
         t.ready = false ∧ t.rdF .LOAD_STATUS 0 2 0 = 4 ∧ t.tempo.isOpen = false)) ∧
   (∀ s : State, s.load.staged = none ∨ s.domUp .FABRIC = false ∨ (∃ x, s.load.staged = some x ∧ x.flash = true ∧ s.power.sfdp = true) →
     exec .admissionEnd s = .next s))

/-- A full load is applied and commits (R18, R82, R124, R213): its grants are in force with an empty TLB, the gains are those of
the GMAP records as they stand in the staging range then (R72), MEM_CFG is the SYSTEM record's, and then its elements are in
effect, every halt ends, SCORE_GEN counts, READY is high and no beat is open or numbered yet. Neither happens out of order. A halt
of a voice other than 0 (R92): it counts as halted, a declared voice's event bit is set, its channels stop with no descriptor
held, its tiles, requests, service results and window parts go, and no operation of it stays in fermata. Naming voice 0 or one
already halted changes nothing. -/
def Obligations.FullLoadsCommitAndVoicesHalt : Prop :=
  ((∀ (c : Score) (s : State), s.load.applying = some c → s.load.applied = false → s.domUp .FABRIC = true →
     Gives .fullLoadApply s fun t =>
       let l := withRates (resulting false [] c.secs)
       t.load.applied = true ∧ t.elems 3 = l.filter (fun e => e.typ == 3) ∧
       (∀ pa, pa < 0x1000000 → t.readByte pa = s.readByte pa) ∧
       (∀ e, l.find? (fun e => e.typ == 0x01) = some e →
         t.rd .MEM_CFG 0 = (e.u8 8 + e.u8 9 * 256 + 512) ∧ t.rd .MEM_RETAIN 0 = t.rd .MEM_CFG 0 ∧
         (s.rd .MEM_RETAIN 0 ≠ t.rd .MEM_CFG 0 → ∀ pa, 0x1000000000 ≤ pa → Tab.get 0 t.mem pa = 0) ∧
         (s.rd .MEM_RETAIN 0 = t.rd .MEM_CFG 0 → t.mem = s.mem)) ∧
       (∀ e, l.filter (fun e => e.typ == 9) = [e] → e.u64 56 = 2 ^ 64 - 1 →
         (t.pipe e.id).gains = some (rowGains (s.readAgain c.src l) e) ∧ t.rdB .PIPE_STATUS e.id 0 = false ∧ t.trans.tlb = [])) ∧
   (∀ (c : Score) (s : State), s.load.applying = some c → s.load.applied = true → s.domUp .FABRIC = true →
     Gives .fullLoadCommit s fun t =>
       let l := resulting false [] c.secs
       t.load = { s.load with live := l, eff := withRates l, applying := none, applied := false, overlap := none, halted := [] } ∧
       t.ready = true ∧ t.rdF .PWR_STATUS 0 1 1 = 1 ∧ t.rdB .LOAD_STATUS 0 18 = true ∧
       t.rd .SCORE_GEN 0 = (s.rd .SCORE_GEN 0 + 1) % 2 ^ 32 ∧ t.rd .BEAT_NUM 0 = 2 ^ 64 - 1 ∧
       t.tempo.isOpen = false ∧ t.posts = [] ∧ t.trans.tlb = [] ∧ t.trans.slots = [] ∧ t.trans.noSlot = [] ∧
       (∀ e, t.elem 0x01 0 = some e → t.rd .SCORE_ID 0 = e.u32 20) ∧
       (∀ e, t.elem 0x02 0 = some e → t.scoreLive = true ∧ t.rd .PMIN_NS 0 = e.u32 20 ∧ t.rd .IDLE_NS 0 = e.u32 24 ∧
         t.rd .TIMER_NS 0 = e.u32 28 ∧ t.rd .TEMPO_DIV 0 = e.u32 16 ∧ t.rd .BAR_TICK 0 = e.u32 20 / 16)) ∧
   (∀ s : State, s.load.applying = none ∨ s.domUp .FABRIC = false ∨ s.load.applied = true → exec .fullLoadApply s = .next s) ∧
   (∀ s : State, s.load.applying = none ∨ s.domUp .FABRIC = false ∨ s.load.applied = false → exec .fullLoadCommit s = .next s)) ∧
  ((∀ (p : Path) (w : Word) (v : Nat) (s : State), s.regOpen p .FABRIC = true → v = w.toNat % 1024 → v ≠ 0 → s.isHalted v = false →
     Gives (.voiceHalt p w) s fun t =>
       t.load = { s.load with halted := insertBy id v s.load.halted } ∧ t.isHalted v = true ∧
       (s.declared v = true → t.rdB .VW_EVENT v 4 = true) ∧
       (∀ c e, s.dmaElem c = some e → e.voice = v → t.chan c = { mode := .stopped }) ∧
       (∀ j ∈ t.svc.jobs, j.voice ≠ v) ∧ (∀ r ∈ t.svc.requests, r.voice ≠ v) ∧
       (∀ i ∈ t.svc.items, i.voice = v → i.src / 16384 ≠ 1) ∧ (∀ q ∈ t.align.products, q.voice ≠ v) ∧
       (∀ f ∈ t.trans.noSlot, f.voice ≠ v) ∧ (∀ k f, Tab.get none t.trans.slots k = some f → f.voice ≠ v) ∧
       (∀ u, u ≠ v → t.isHalted u = s.isHalted u)) ∧
   (∀ (p : Path) (w : Word) (s : State), s.regOpen p .FABRIC = false ∨ w.toNat % 1024 = 0 ∨
     s.isHalted (w.toNat % 1024) = true → exec (.voiceHalt p w) s = .next s))

/-- Tempo events raise barlines (R20, R22, R23, R31): the TIMER's period, a qualified edge of BEATIN and an encoder target reached
open the next beat once PMIN_NS has passed, with the position as ENC_ACT and, for an encoder target, that target as ENC_REQ; the
TIMER and the target move on by their step. A source that is not in use, a level held for eight samples or fewer (R457), or an
edge that TEMPO_CFG does not select, raises nothing. An event before PMIN_NS is held (R31, R32), at most four; a fifth is dropped
and counted with DROP set; each released in turn PMIN_NS after the last barline opens a clamped beat, counted with its bit set.
With none held nothing is released. With a beat open and no event for IDLE_NS an idle beat opens, counted with its bit set (R34);
none while an event is held, on a follow whose source is TIE, or where a tempo event falls no later. At tick 16 of an open beat
the slot table plays (R26, R154): items of the beat before the last become due on the channel that takes them. With no beat open,
or once it plays, nothing changes. -/
def Obligations.TempoEventsRaiseBarlines : Prop :=
  ((∀ s : State, s.plainBar → s.tempoSrc = 0 → (s.runTo s.tempo.timerDue).eventRaises →
     Gives .timerPeriodExpiry s fun t =>
       (s.runTo s.tempo.timerDue).opensBeat t s.nextNum (s.rd .ENC_POS 0) (s.rd .ENC_POS 0) false ∧
       t.tempo.timerDue = s.tempo.timerDue + nsU (s.rd .TIMER_NS 0)) ∧
   (∀ (r : Bool) (n : Nat) (s : State), s.plainBar → 8 < n → s.pinsSeen = true → s.tempoSrc = 2 → r ≠ s.rdB .TEMPO_CFG 0 11 → s.eventRaises →
     Gives (.beatinEdge ⟨r, n⟩) s fun t => s.opensBeat t s.nextNum (s.rd .ENC_POS 0) (s.rd .ENC_POS 0) false) ∧
   (∀ (k n : Nat) (a b : Bool) (s : State), s.plainBar → k < 4 → s.encAccepts k n = true → s.domUp .PROC = true → s.pinsSeen = true → s.tempoSrc = 1 →
     k = s.rdF .TEMPO_CFG 0 9 8 → (s.encCount k a b).pastTarget = 0 → s.eventRaises →
     Gives (.encoderCount k ⟨a, b⟩ n) s fun t =>
       s.opensBeat t s.nextNum s.tempo.target (s.encCount k a b).tempoPos false ∧
       t.tempo.target = s.encForward s.tempo.target (s.rd .TEMPO_DIV 0)) ∧
   (∀ (k n : Nat) (a b : Bool) (s : State), k < 4 → s.encAccepts k n = true → s.domUp .PROC = true → s.pinsSeen = true →
     (s.tempoSrc = 1 → k = s.rdF .TEMPO_CFG 0 9 8 → (s.encCount k a b).pastTarget < 0) →
     exec (.encoderCount k ⟨a, b⟩ n) s = .next (s.encCount k a b)) ∧
   (∀ s : State, s.scoreLive = false ∨ s.tempoSrc ≠ 0 → exec .timerPeriodExpiry s = .next s) ∧
   (∀ (r : Bool) (n : Nat) (s : State), n ≤ 8 ∨ s.pinsSeen = false ∨ s.scoreLive = false ∨ s.tempoSrc ≠ 2 ∨ r = s.rdB .TEMPO_CFG 0 11 →
     exec (.beatinEdge ⟨r, n⟩) s = .next s)) ∧
  ((∀ (r : Bool) (n : Nat) (s : State), 8 < n → s.pinsSeen = true → s.scoreLive = true → s.tempoSrc = 2 → r ≠ s.rdB .TEMPO_CFG 0 11 →
     ¬ (s.tieRole = 2 ∧ s.tieState = 1) → s.tempo.isOpen = true → s.pastPmin = false →
     (s.tempo.held.length < 4 →
       Gives (.beatinEdge ⟨r, n⟩) s fun t =>
         t.tempo = { s.tempo with held := s.tempo.held ++ [0] } ∧ t.rdF .TEMPO_STATUS 0 4 2 = s.tempo.held.length + 1 ∧
         s.frame t [(.TEMPO_STATUS, 0)] [.tempo]) ∧
     (4 ≤ s.tempo.held.length →
       Gives (.beatinEdge ⟨r, n⟩) s fun t =>
         s.countsUp t .DROP_CNT 0 ∧ t.rdB .TEMPO_STATUS 0 9 = true ∧ t.tempo = s.tempo ∧
         s.frame t [(.TEMPO_STATUS, 0), (.DROP_CNT, 0)] [.align])) ∧
   (∀ (x : Nat) (l : List Nat) (s : State), s.plainBar → s.tempo.held = x :: l →
     Gives .deferredBarlineRelease s fun t =>
       let u := s.runTo (s.tempo.last + nsU (s.rd .PMIN_NS 0))
       let act := if s.tempoSrc = 1 then s.tempoPos else s.rd .ENC_POS 0
       u.opensBeat t s.nextNum (if s.tempoSrc = 1 then x else act) act false ∧ t.tempo.held = l ∧
       t.rdF .TEMPO_STATUS 0 4 2 = l.length % 8 ∧ s.countsUp t .CLAMP_CNT 0 ∧ t.rdB .TEMPO_STATUS 0 8 = true) ∧
   (∀ s : State, s.tempo.held = [] → exec .deferredBarlineRelease s = .next s)) ∧
  ((∀ s : State, s.plainBar → s.tempo.isOpen = true → s.tempo.held = [] → s.tempoSrc ≠ 4 → s.eventByIdle = false →
     Gives .idleBarline s fun t =>
       let act := if s.tempoSrc = 1 then s.tempoPos else s.rd .ENC_POS 0
       (s.runTo (s.tempo.last + nsU (s.rd .IDLE_NS 0))).opensBeat t s.nextNum act act true ∧
       s.countsUp t .IDLE_CNT 0 ∧ t.rdB .TEMPO_STATUS 0 10 = true) ∧
   (∀ s : State, s.tempo.isOpen = false ∨ s.tempo.held ≠ [] ∨ s.tempoSrc = 4 ∨ s.eventByIdle = true → exec .idleBarline s = .next s)) ∧
  ((∀ s : State, s.tempo.isOpen = true → s.tempo.playing = false →
     Gives .slotTableStart s fun t =>
       t.tempo.playing = true ∧ t.clock = (s.runTo (s.tickTime 16)).clock ∧
       (s.tempo.beats[2]? = none → s.frame t [] [.clock, .tempo]) ∧
       (∀ b e, s.tempo.beats[2]? = some b → s.elems 0x0010 = [e] →
         (t.chan e.id).due = (s.chan e.id).due ++
           s.svc.items.filter fun i => i.beat == b.num && !s.stopped i.voice b.num && dmaTakes e i)) ∧
   (∀ s : State, s.tempo.isOpen = false ∨ s.tempo.playing = true → exec .slotTableStart s = .next s))

/-- What a barline commits (R81, R83): a pending segue whose COMMIT_BEAT has come becomes the live score and counts, with the beat
it opens as LAST_COMMIT_BEAT; an armed full load opens its shadow plane instead of a beat, with READY low. -/
def Obligations.BarlineCommitsWhatIsDue : Prop :=
  (∀ (r : Bool) (n : Nat) (c : Score) (s : State), s.plainBar → 8 < n → s.pinsSeen = true → s.tempoSrc = 2 → r ≠ s.rdB .TEMPO_CFG 0 11 → s.eventRaises →
    s.load.pend = some c → c.commit ≤ s.nextNum →
    Gives (.beatinEdge ⟨r, n⟩) s fun t =>
      t.load.live = resulting true s.load.live c.secs ∧ t.load.pend = none ∧ t.rd .SCORE_GEN 0 = (s.rd .SCORE_GEN 0 + 1) % 2 ^ 32 ∧
      t.rd .LAST_COMMIT_BEAT 0 = s.nextNum ∧ t.rdB .LOAD_STATUS 0 18 = true) ∧
  (∀ (r : Bool) (n : Nat) (c : Score) (s : State), s.plainBar → 8 < n → s.pinsSeen = true → s.tempoSrc = 2 → r ≠ s.rdB .TEMPO_CFG 0 11 → s.eventRaises →
    s.load.pend = some c → s.nextNum < c.commit →
    Gives (.beatinEdge ⟨r, n⟩) s fun t => t.load.live = s.load.live ∧ t.load.pend = some c ∧ t.rd .SCORE_GEN 0 = s.rd .SCORE_GEN 0) ∧
  (∀ (r : Bool) (n : Nat) (c : Score) (s : State), s.load.armed = some c → s.extestPlays = false → 8 < n → s.pinsSeen = true → s.tempoSrc = 2 →
    r ≠ s.rdB .TEMPO_CFG 0 11 → s.eventRaises →
    Gives (.beatinEdge ⟨r, n⟩) s fun t =>
      t.load.applying = some c ∧ t.load.applied = false ∧ t.load.armed = none ∧ t.load.pend = none ∧ t.ready = false ∧
      t.tempo.isOpen = false ∧ t.scoreLive = false ∧ t.rd .BEAT_NUM 0 = s.nextNum)

/-! ### The tie link -/

/-- A tie frame is heard only with the link on and its lanes locked; one whose CRC fails counts in TIE_CRC_ERR and does nothing
more (R322). Reliable frames (R317, R322, R323): a TACK releases the frames and mirrored alerts it covers; a frame that is next in
order is taken and acknowledged, one out of order only acknowledged; every unacknowledged frame is resent 100 µs after the oldest
was sent. A CONFIG taken is kept with the widths it answers and its members judged; an alert taken is queued with MIRRORED set. -/
def Obligations.TieFramesAreTaken : Prop :=
  (∀ (c : Instr) (h : TieHdr) (s : State), tieFrameOf c = some h →
     (s.tieOn = false → exec c s = .next s) ∧
     (s.tieOn = true → h.crcOk = false → Gives c s fun t => s.countsUp t .TIE_CRC_ERR 0 ∧ s.frame t [(.TIE_CRC_ERR, 0)] [])) ∧
  ((∀ (h : TieHdr) (s : State), s.hears h →
     (s.acksNoAlert h →
       exec (.tieAckRx h) s = .next { s with tie := { s.tie with unacked := s.tie.unacked.filter fun f => !tackCovers h.tack f.tseq } }) ∧
     (s.net.lost = 0 → 2 ≤ s.alertPath → (s.alertPath = 2 → ∀ a ∈ s.net.alerts, a.tseq.isSome = true) →
       Gives (.tieAckRx h) s fun t =>
         t.tie.unacked = s.tie.unacked.filter (fun f => !tackCovers h.tack f.tseq) ∧
         t.net.alerts = s.net.alerts.filter fun a => match a.tseq with | some n => !tackCovers h.tack n | none => true)) ∧
   (∀ (h : TieHdr) (c : TieConfig) (s : State), s.hears h → h.tseq = (s.tie.recvSeq + 1) % 2 ^ 32 →
     Gives (.tieConfigRx h c) s fun t =>
       t.tie.config = some c ∧ t.tie.recvSeq = h.tseq ∧
       t.tie.bad = (s.partnerMembers.filter fun m => !s.memberOk c m).map (fun m => m.1.id * 16 + m.2.1) ∧
       t.tie.widths = c.answers.map (fun a => (a.1, a.2.1)) ++ s.tie.widths.filter (fun w => !c.answers.any fun a => a.1 == w.1) ∧
       tieOut 0x0B 0 h.tseq false [] ∈ t.out) ∧
   (∀ (h : TieHdr) (b : List Byte) (s : State), s.hears h → h.tseq = (s.tie.recvSeq + 1) % 2 ^ 32 → s.net.alerts = [] → s.net.lost = 0 →
     s.alertPath = 3 →
     Gives (.tieAlertRx h b) s fun t =>
       t.net.alerts = [⟨s.rd .ALERT_SEQ 0, leAt b 32 1, leAt b 40 8 % 2 ^ 64, ⟨leAt b 48 8, leAt b 56 4⟩, true, none, none⟩] ∧
       t.tie.recvSeq = h.tseq ∧ t.rd .ALERT_SEQ 0 = (s.rd .ALERT_SEQ 0 + 1) % 2 ^ 32 ∧ t.out = s.out ++ [tieOut 0x0B 0 h.tseq false []]) ∧
   (∀ (h : TieHdr) (c : TieConfig) (b : List Byte) (i : Instr) (s : State), s.hears h → h.tseq ≠ (s.tie.recvSeq + 1) % 2 ^ 32 →
     (i = .tieConfigRx h c ∨ i = .tieAlertRx h b) →
     s.acksNoAlert h →
     Gives i s fun t => t.tie = { s.tie with unacked := s.tie.unacked.filter fun f => !tackCovers h.tack f.tseq } ∧
       t.out = s.out ++ [tieOut 0x0B 0 s.tie.recvSeq false []]) ∧
   (∀ (f : TieFrame) (l : List TieFrame) (s : State), s.tie.unacked = f :: l → s.tieOn = true →
     Gives .tieResend s fun t =>
       t.clock = (s.runTo (f.sentAt + nsU 100000)).clock ∧
       t.tie = { s.tie with unacked := s.tie.unacked.map fun g => { g with sentAt := t.clock.elapsed } } ∧
       t.out = s.out ++ s.tie.unacked.map (fun g => tieOut g.ttype g.tseq s.tie.recvSeq true g.body) ∧
       t.rdF .TIE_RESEND 0 31 0 = min (2 ^ 32 - 1) (s.rdF .TIE_RESEND 0 31 0 + s.tie.unacked.length)) ∧
   (∀ s : State, s.tie.unacked = [] ∨ s.tieOn = false → exec .tieResend s = .next s))

/-- Lanes and states of the tie link (Table 13.9, R323, R327, R328): lock clears the reliable sequences and sends CONFIG; a loss
of lock advances the epoch and splits a joined device; FORMING ends as an island after IDLE_NS, a TIE source falling back to its
own encoder target and TIMER; the third heartbeat missed in a row splits a joined device, the first ends REJOINING. Heartbeats and
time over the tie link (R325, R327): a heartbeat is sent each PMIN_NS; one received shows the partner's servo state and counts its
interval good, and starts REJOINING on an island that has exchanged CONFIG; TIME_SYNC leaves each 62.5 ms, its arrival and
TIME_FUP give t1 and t2 and send TIME_DREQ, which is answered with its arrival time, and the answer gives the delay, of which
TIE_DELAY shows the mean of the last eight. -/
def Obligations.TieLinkStatesAndTime : Prop :=
  ((∀ s : State, s.tieRole ≠ 0 → s.rdB .TIE_STATUS 0 3 = false → s.blockOff 50 = false → s.domUp .FABRIC = true →
     Gives .tieLaneLock s fun t =>
       t.rdB .TIE_STATUS 0 3 = true ∧ t.tieState = s.tieState ∧ t.tie.config = none ∧ t.tie.recvSeq = 0 ∧ t.tie.sendSeq = 1 ∧
       ∃ body, t.tie.unacked = [⟨1, 1, body, s.clock.elapsed⟩] ∧ t.out = s.out ++ [tieOut 1 1 0 true body]) ∧
   (∀ s : State, s.tieRole = 0 ∨ s.rdB .TIE_STATUS 0 3 = true ∨ s.blockOff 50 = true ∨ s.domUp .FABRIC = false →
     exec .tieLaneLock s = .next s) ∧
   (∀ s : State, s.rdB .TIE_STATUS 0 3 = true →
     Gives .tieLaneLockLoss s fun t =>
       t.rdB .TIE_STATUS 0 3 = false ∧ t.rdF .EPOCH_TAB 50 7 0 = (s.rdF .EPOCH_TAB 50 7 0 + 1) % 256 ∧
       t.tie.config = none ∧ t.tie.unacked = [] ∧ (s.tieState = 2 → s.splitAt t) ∧ (s.tieState = 4 → t.tieState = 3) ∧
       (s.tieState ≠ 2 → s.tieState ≠ 4 → t.tieState = s.tieState)) ∧
   (∀ s : State, s.rdB .TIE_STATUS 0 3 = false → exec .tieLaneLockLoss s = .next s) ∧
   (∀ s : State, s.tieState = 1 →
     Gives .tieFormingTimeout s fun t =>
       t.tieState = 3 ∧ t.clock = (s.runTo (s.tie.formedAt + nsU (s.rd .IDLE_NS 0))).clock ∧
       (s.rdF .TEMPO_CFG 0 2 0 = 4 → t.tempo.timerDue = t.clock.elapsed + nsU (s.rd .TIMER_NS 0) ∧
         t.tempo.target = s.encForward s.tie.encAt (s.rd .TEMPO_DIV 0))) ∧
   (∀ s : State, s.tieState ≠ 1 → exec .tieFormingTimeout s = .next s) ∧
   (∀ s : State, s.tieOn = true →
     Gives .tieHeartbeatMiss s fun t =>
       s.countsUp t .TIE_HB_MISS 0 ∧ t.tie.missed = s.tie.missed + 1 ∧ t.tie.good = 0 ∧
       t.clock = (s.runTo (s.tie.hbJudgedAt + nsU (s.rd .PMIN_NS 0))).clock ∧
       (s.tieState = 2 → 2 ≤ s.tie.missed → s.splitAt t) ∧ (s.tieState = 4 → t.tieState = 3) ∧
       ((s.tieState = 2 ∧ s.tie.missed < 2) ∨ s.tieState < 2 ∨ s.tieState = 3 → t.tieState = s.tieState ∧
         s.frame t [(.TIE_HB_MISS, 0)] [.tie, .clock])) ∧
   (∀ s : State, s.tieOn = false → exec .tieHeartbeatMiss s = .next s ∧ exec .tieHeartbeatTx s = .next s ∧
     exec .tieTimeSyncTx s = .next s)) ∧
  ((∀ s : State, s.tieOn = true →
     Gives .tieHeartbeatTx s fun t =>
       t.clock = (s.runTo (s.tie.hbSentAt + nsU (s.rd .PMIN_NS 0))).clock ∧ t.tie = { s.tie with hbSentAt := t.clock.elapsed } ∧
       (∃ body, t.out = s.out ++ [tieOut 3 0 s.tie.recvSeq false (toLe 8 (s.rd .BEAT_NUM 0) ++ toLe 4 (s.rd .SCORE_GEN 0) ++ body)]) ∧
       s.frame t [] [.clock, .tie, .out]) ∧
   (∀ (h : TieHdr) (b : TieHeartbeat) (s : State), s.hears h →
     Gives (.tieHeartbeatRx h b) s fun t =>
       t.rdF .TIE_STATUS 0 6 4 = b.servo % 8 ∧ t.rdB .TIE_STATUS 0 7 = b.tiePrimary ∧ t.tie.missed = 0 ∧
       t.tie.hbJudgedAt = s.clock.elapsed ∧
       (s.tieState ≠ 3 ∨ s.exchanged = false → t.tie.good = s.tie.good + 1 ∧ t.tieState = s.tieState) ∧
       (s.tieState = 3 → s.exchanged = true → t.tie.good = 0 ∧ t.tieState = 4)) ∧
   (∀ s : State, s.tieOn = true → (s.txq 2).length < 16 →
     Gives .tieTimeSyncTx s fun t =>
       t.clock = (s.runTo (s.tie.syncAt + nsU 62500000)).clock ∧ t.tie.syncAt = t.clock.elapsed ∧
       t.out = s.out ++ [tieOut 4 0 s.tie.recvSeq false (tieStamp t.nowNs), tieOut 5 0 s.tie.recvSeq false (tieStamp t.nowNs)]) ∧
   (∀ (h : TieHdr) (s : State), s.hears h → s.acksNoAlert h →
     Gives (.tieTimeSyncRx h) s fun t => t.tie.syncRx = some (s.nowNs : Int) ∧ t.out = s.out) ∧
   (∀ (h : TieHdr) (t1 : Stamp) (t2 : Int) (s : State), s.hears h → s.acksNoAlert h → s.tie.syncRx = some t2 →
     (s.txq 2).length < 16 →
     Gives (.tieTimeFupRx h t1) s fun t =>
       t.tie.last = some (stampInt t1, t2) ∧ t.tie.syncRx = none ∧ t.out = s.out ++ [tieOut 6 0 s.tie.recvSeq false (tieStamp s.nowNs)] ∧
       t.txq 2 = (s.agedTie.txq 2) ++ [⟨3, Tab.get 0 s.ptp.seqs 19, s.nowNs, s.clock.elapsed, false⟩]) ∧
   (∀ (h : TieHdr) (s : State), s.hears h → s.acksNoAlert h →
     Gives (.tieTimeDreqRx h) s fun t => t.out = s.out ++ [tieOut 7 0 s.tie.recvSeq false (tieStamp s.nowNs)]) ∧
   (∀ (h : TieHdr) (t4 : Stamp) (e : TxStamp) (t1 t2 : Int) (s : State), s.hears h →
     (s.agedTie.txq 2).reverse.find? (fun e => e.kind == 3) = some e → s.tie.last = some (t1, t2) →
     let d := roundDiv ((t2 - t1) + (stampInt t4 - e.time)) 2
     Gives (.tieTimeDrespRx h t4) s fun t =>
       let l := (d :: s.tie.delays).take 8
       t.tie.delays = l ∧ t.rd .TIE_DELAY 0 = toBits 32 (roundDiv (l.foldl (· + ·) 0) l.length) ∧
       t.txq 2 = (s.agedTie.txq 2).erase e ∧
       ∀ alt, s.tieRef = some alt → (t.servo.ref alt).delays = (d :: (s.servo.ref alt).delays).take 8))

/-- What a joined device takes from its partner (R312, R324, R326, R329): on a follow whose source is TIE the lead's barline opens
the beat it numbers; a follow that forms or rejoins joins by it, a rejoin adopting the lead's number and dropping held events; a
line whose row has been cut counts, once in however many frames it comes; a forwarded frame leaves by the uplink of the same
number with its own addresses as source, or counts where the uplink does not carry it. -/
def Obligations.JoinedDeviceTakesPartnersFrames : Prop :=
  (∀ (h : TieHdr) (b : TieBarline) (s : State), s.hears h → s.plainBar → s.tieRole = 2 → s.scoreLive = true →
    s.rdF .TEMPO_CFG 0 2 0 = 4 → (s.tieState = 2 ∨ s.tieState = 1 ∧ s.exchanged = true) →
    Gives (.tieBarlineRx h b) s fun t =>
      s.opensBeat t (b.beat % 2 ^ 64) b.encReq b.encAct (bit 1 b.flags) ∧ t.tieState = 2) ∧
  (∀ (h : TieHdr) (b : TieBarline) (s : State), s.hears h → s.plainBar → s.tieRole = 2 → s.scoreLive = true →
    s.tieState = 4 → 16 ≤ s.tie.good →
    Gives (.tieBarlineRx h b) s fun t =>
      s.opensBeat t (b.beat % 2 ^ 64) b.encReq b.encAct (bit 1 b.flags) ∧ t.tieState = 2 ∧ t.tempo.held = [] ∧
      t.rd .TIE_REJOIN_OFS 0 = (b.beat + 2 ^ 64 - s.nextNum) % 2 ^ 64 ∧ t.rdB .TIE_STATUS 0 9 = true) ∧
  (∀ (h : TieHdr) (l : TieLine) (g : Elem) (m : Nat) (y : Nat × Nat × Nat) (x : Source) (s : State), s.hears h →
    s.partnerMembers.filter (fun m => m.2.2.1 == l.stream) = [(g, m, y)] → s.tie.bad.contains (g.id * 16 + m) = false →
    s.source 1 g.id = some x → s.tieState = 2 →
    (s.firstRow x (s.beatOf l.beat) = none ∧ s.longPast l.beat = true ∨
      ∃ r0, s.firstRow x (s.beatOf l.beat) = some r0 ∧ s.rowCut g (r0 + l.line + memberOfs g m) = true) →
    Gives (.tieLinesRx h l) s fun t =>
      (s.tie.late.contains (l.stream, l.beat, l.line) = false → s.countsUp t .TIE_LINES_LATE 0) ∧
      (s.tie.late.contains (l.stream, l.beat, l.line) = true →
        t.rdF .TIE_LINES_LATE 0 31 0 = s.rdF .TIE_LINES_LATE 0 31 0) ∧
      t.tie.late.contains (l.stream, l.beat, l.line) = true ∧ t.align = s.align ∧ s.sameBytes t) ∧
  (∀ (h : TieHdr) (l : TieLine) (g : Elem) (m : Nat) (y : Nat × Nat × Nat) (x : Source) (r0 : Nat) (s : State), s.hears h →
    s.partnerMembers.filter (fun m => m.2.2.1 == l.stream) = [(g, m, y)] → s.tie.bad.contains (g.id * 16 + m) = false →
    s.source 1 g.id = some x → s.firstRow x (s.beatOf l.beat) = some r0 → s.tieState = 2 →
    s.inRing x (r0 + l.line + memberOfs g m) = true → s.rowCut g (r0 + l.line + memberOfs g m) = false →
    s.memberCols g m ≤ s.gathered g.id m (r0 + l.line + memberOfs g m) l.col l.cols →
    Gives (.tieLinesRx h l) s fun t =>
      (t.rowInfo x (r0 + l.line + memberOfs g m)).has m = true ∧ t.rdF .TIE_LINES_LATE 0 31 0 = s.rdF .TIE_LINES_LATE 0 31 0) ∧
  (∀ (h : TieHdr) (l : TieLine) (s : State), s.hears h → s.tieState ≠ 2 →
    Gives (.tieLinesRx h l) s fun t =>
      t.align = s.align ∧ s.sameBytes t ∧ t.rdF .TIE_LINES_LATE 0 31 0 = s.rdF .TIE_LINES_LATE 0 31 0) ∧
  (∀ (h : TieHdr) (u : Nat) (e : Elem) (b : List Byte) (s : State), s.hears h → s.acksNoAlert h → s.tieState = 2 →
    s.netElem u = some e → carries e (frameOfBytes b) = true → s.netUp u = true →
    Gives (.tieFwdRx h u b) s fun t => s.takesFrame t u ⟨3, 0, 0, forwarded, s.ownSource u (frameOfBytes b), 0, 0⟩) ∧
  (∀ (h : TieHdr) (u : Nat) (e : Elem) (b : List Byte) (s : State), s.hears h → s.acksNoAlert h → s.tieState = 2 →
    s.netElem u = some e → carries e (frameOfBytes b) = false →
    Gives (.tieFwdRx h u b) s fun t => s.countsUp t .EGR_DROP u ∧ t.out = s.out)

/-! ### Process inputs -/

/-- A sample of a declared channel with the rails present (R330, R331, R335 to R337, R339): CH_LAST shows it; it is kept in the
aggregate unless its output ramps, PLL_MOD is unlocked, a pulsed check runs or samples are still to be discarded. Four limit
samples in a row with a continuous burn-out current open the channel, and the fourth sample of a pulsed check decides OPEN;
entering OPEN counts. Excitation outputs, rails and the reference (R333, R334, R338, R391): a fault of an output that a channel
names shows its two causes and sets its bit; its clearing, or the rails' return, starts a 1 ms ramp and the channels discard three
samples, as they do when the ramp ends with V_s within 0.1 % of EXC_MV in voltage mode; the rails' loss puts every named output in
fault; a deviation of more than 5,000 ppm shows in PROC_STATUS. -/
def Obligations.ProcessSamplesAndOutputs : Prop :=
  ((∀ (ch : Nat) (code : Word) (e : Elem) (s : State), s.procElem ch = some e → s.power.supply = true → s.domUp .PROC = true →
     let v := sext 24 code.toNat
     let x := s.procCh ch
     (x.check = 0 → s.ramping (procOut e) = false → s.rdB .CLK_STATUS 0 3 = true → x.discard = 0 →
       Gives (.procSample ch code) s fun t =>
         let y := t.procCh ch
         t.rd .CH_LAST ch = toBits 32 v ∧ y.count = x.count + 1 ∧ y.sum = x.sum + v ∧ y.last = v ∧
         y.min = (if x.count = 0 then v else min x.min v) ∧ y.max = (if x.count = 0 then v else max x.max v) ∧ y.discard = 0) ∧
     (x.check = 0 → s.ramping (procOut e) = true ∨ s.rdB .CLK_STATUS 0 3 = false ∨ 0 < x.discard →
       Gives (.procSample ch code) s fun t =>
         let y := t.procCh ch
         t.rd .CH_LAST ch = toBits 32 v ∧ y.count = x.count ∧ y.sum = x.sum ∧ y.last = x.last ∧
         y.discard = (if s.ramping (procOut e) = true ∨ s.rdB .CLK_STATUS 0 3 = false then x.discard else x.discard - 1)) ∧
     (x.check = 0 → procBurn e ≠ 0 → procPulsed e = false →
       Gives (.procSample ch code) s fun t =>
         let n := if v = procTop then x.high + 1 else 0
         let o := decide (4 ≤ n) || (x.opened && decide (0 < n))
         (t.procCh ch).high = n ∧ (t.procCh ch).opened = o ∧
         (o = true → x.opened = false → s.countsUp t .CH_OPEN_CNT ch ∧ t.rdB .CH_FLAGS ch 8 = true) ∧
         (o = false ∨ x.opened = true → t.rd .CH_OPEN_CNT ch = s.rd .CH_OPEN_CNT ch)) ∧
     (x.check = 1 →
       Gives (.procSample ch code) s fun t =>
         (t.procCh ch).opened = decide (v = procTop) ∧ (t.procCh ch).check = 0 ∧ (t.procCh ch).discard = 3 ∧
         (t.procCh ch).count = x.count) ∧
     (1 < x.check →
       Gives (.procSample ch code) s fun t => (t.procCh ch).check = x.check - 1 ∧ (t.procCh ch).discard = x.discard - 1 ∧
         (t.procCh ch).count = x.count)) ∧
   (∀ (ch : Nat) (code : Word) (s : State), s.procElem ch = none ∨ s.power.supply = false ∨ s.domUp .PROC = false →
     exec (.procSample ch code) s = .next s)) ∧
  ((∀ (j : Nat) (oc low : Bool) (s : State), j < 4 → s.domUp .PROC = true → s.outChannels j ≠ [] → (oc = true ∨ low = true) →
     Gives (.excFault j oc low) s fun t =>
       t.rdF .EXC_STATUS j 15 14 = b2n oc + 2 * b2n low ∧ t.rdB .EXC_STATUS j 16 = true ∧ t.excFaulty j = true ∧ t.proc = s.proc) ∧
   (∀ (j : Nat) (oc low : Bool) (s : State), 4 ≤ j ∨ s.domUp .PROC = false ∨ s.outChannels j = [] ∨ (oc = false ∧ low = false) →
     exec (.excFault j oc low) s = .next s) ∧
   (∀ (j : Nat) (s : State), j < 4 → s.power.supply = true → s.excFaulty j = true →
     Gives (.excFaultClear j) s fun t =>
       t.excFaulty j = false ∧ Tab.get none t.proc.ramps j = some (s.clock.elapsed + nsU 1000000) ∧
       (∀ e ∈ s.outChannels j, (t.procCh e.id).discard = 3) ∧ s.frame t [(.EXC_STATUS, j)] [.proc]) ∧
   (∀ (j : Nat) (s : State), 4 ≤ j ∨ s.power.supply = false ∨ s.excFaulty j = false → exec (.excFaultClear j) s = .next s) ∧
   (∀ (j at_ : Nat) (e : Elem) (s : State), Tab.get none s.proc.ramps j = some at_ → (s.outChannels j).head? = some e →
     Gives (.excRampEnd j) s fun t =>
       t.clock = (s.runTo at_).clock ∧ t.ramping j = false ∧ (∀ e ∈ s.outChannels j, (t.procCh e.id).discard = 3) ∧
       (e.u8 11 = 0 → e.u16 14 ≤ 5000 →
         t.rdF .EXC_STATUS j 12 0 ≤ e.u16 14 + e.u16 14 / 1000 ∧ e.u16 14 ≤ t.rdF .EXC_STATUS j 12 0 + e.u16 14 / 1000) ∧
       t.fresh = s.fresh + 1 ∧ s.frame t [(.EXC_STATUS, j)] [.proc, .clock, .fresh]) ∧
   (∀ (j : Nat) (s : State), Tab.get none s.proc.ramps j = none → exec (.excRampEnd j) s = .next s) ∧
   (∀ s : State, s.power.supply = true →
     Gives .procSupplyLoss s fun t =>
       t.power = { s.power with supply := false } ∧ t.rdB .PWR_STATUS 0 0 = false ∧
       (∀ j, j < 4 → s.outChannels j ≠ [] → t.rdF .EXC_STATUS j 15 14 = 2 ∧ t.rdB .EXC_STATUS j 16 = true)) ∧
   (∀ s : State, s.power.supply = false → exec .procSupplyLoss s = .next s) ∧
   (∀ s : State, s.power.supply = false →
     Gives .procSupplyReturn s fun t =>
       t.power = { s.power with supply := true } ∧ t.rdB .PWR_STATUS 0 0 = true ∧
       (∀ j, j < 4 → s.excFaulty j = true → t.excFaulty j = false ∧
         Tab.get none t.proc.ramps j = some (s.clock.elapsed + nsU 1000000) ∧ ∀ e ∈ s.outChannels j, (t.procCh e.id).discard = 3)) ∧
   (∀ s : State, s.power.supply = true → exec .procSupplyReturn s = .next s) ∧
   (∀ (d : Word) (s : State), s.domUp .PROC = true →
     Gives (.refMonitor d) s fun t =>
       let bad := decide (5000 < (sext 32 d.toNat).natAbs)
       t.clock = (s.runTo (s.proc.refAt + nsU 1000000)).clock ∧ t.rd .REF_DEV 0 = d.toNat ∧ t.rdB .PROC_STATUS 0 0 = bad ∧
       (bad = true → s.rdB .PROC_STATUS 0 0 = false → t.rdB .PROC_STATUS 0 1 = true) ∧
       (bad = false ∨ s.rdB .PROC_STATUS 0 0 = true → t.rdB .PROC_STATUS 0 1 = s.rdB .PROC_STATUS 0 1 ∧
         s.frame t [(.REF_DEV, 0), (.PROC_STATUS, 0)] [.proc, .clock])) ∧
   (∀ (d : Word) (s : State), s.domUp .PROC = false → exec (.refMonitor d) s = .next s))

/-- PLL_MOD and the encoders (R345, R346, R393): an unlock clears the lock bit and sets its event; a relock makes every channel
discard at least three samples; a change of one level counts ±1 by ENC_CFG.DIR, a change of both only an error, with no tempo
event where the encoder is not the tempo source; an index pulse latches the position where its bit enables it; levels held for
FILT samples or fewer change nothing (R457). A write of ENC_CFG takes DIR, the index bit and a FILTER of 8 or more. -/
def Obligations.EncodersCount : Prop :=
  (∀ s : State, s.domUp .FABRIC = true →
    Gives .pllModUnlock s fun t => t.rdB .CLK_STATUS 0 3 = false ∧ t.rdB .CLK_STATUS 0 8 = true ∧
      ∀ k, k < 32 → k ≠ 3 → k ≠ 8 → t.rdB .CLK_STATUS 0 k = s.rdB .CLK_STATUS 0 k) ∧
  (∀ s : State, s.domUp .FABRIC = true → s.rdB .CLK_STATUS 0 3 = false →
    Gives .pllModRelock s fun t => t.rdB .CLK_STATUS 0 3 = true ∧
      (∀ e ∈ s.elems 0x0013, (t.procCh e.id).discard = max 3 (s.procCh e.id).discard) ∧ s.frame t [(.CLK_STATUS, 0)] [.proc]) ∧
  (∀ s : State, s.domUp .FABRIC = false → exec .pllModUnlock s = .next s ∧ exec .pllModRelock s = .next s) ∧
  (∀ s : State, s.rdB .CLK_STATUS 0 3 = true → exec .pllModRelock s = .next s) ∧
  (∀ (k n : Nat) (a b : Bool) (s : State), k < 4 → s.encAccepts k n = true → s.domUp .PROC = true → s.pinsSeen = true →
    ¬ (s.tempoSrc = 1 ∧ k = s.rdF .TEMPO_CFG 0 9 8) →
    Gives (.encoderCount k ⟨a, b⟩ n) s fun t =>
      let step := (quadrature a b + 4 - quadrature (s.encLevels k).a (s.encLevels k).b) % 4
      let up := decide (step = 1) != s.rdB .ENC_CFG k 8
      t.encLevels k = ⟨a, b⟩ ∧ (∀ j, j ≠ k → t.encLevels j = s.encLevels j) ∧
      (step = 0 → s.frame t [] [.proc]) ∧
      (step = 2 → s.countsUp t .ENC_ERR_CNT k ∧ s.frame t [(.ENC_ERR_CNT, k)] [.proc]) ∧
      (step % 2 = 1 → t.rd .ENC_POS k = (s.rd .ENC_POS k + (if up then 1 else 2 ^ 32 - 1)) % 2 ^ 32 ∧
        s.frame t [(.ENC_POS, k)] [.proc])) ∧
  (∀ (k n : Nat) (s : State), k < 4 → s.encAccepts k n = true → s.domUp .PROC = true → s.pinsSeen = true → s.rdB .ENC_CFG k 9 = true →
    Gives (.encoderIndex ⟨k, n⟩) s fun t =>
      t.rd .ENC_ZPOS k = s.rd .ENC_POS k ∧ s.countsUp t .ENC_Z_CNT k ∧ s.frame t [(.ENC_ZPOS, k), (.ENC_Z_CNT, k)] []) ∧
  (∀ (k n : Nat) (a b : Bool) (s : State), 4 ≤ k ∨ n ≤ s.rdF .ENC_CFG k 7 0 ∨ s.domUp .PROC = false ∨ s.pinsSeen = false →
    exec (.encoderCount k ⟨a, b⟩ n) s = .next s ∧ exec (.encoderIndex ⟨k, n⟩) s = .next s) ∧
  (∀ (k n : Nat) (s : State), s.rdB .ENC_CFG k 9 = false → exec (.encoderIndex ⟨k, n⟩) s = .next s) ∧
  (∀ (p : Path) (k : Nat) (v : Word) (s : State), k < 4 → s.regOpen p .PROC = true →
    Gives (.encCfgWrite p k v) s fun t =>
      t.rdF .ENC_CFG k 7 0 = (if 8 ≤ v.toNat % 256 then v.toNat % 256 else s.rdF .ENC_CFG k 7 0) ∧
      t.rdB .ENC_CFG k 8 = v.getLsbD 8 ∧ t.rdB .ENC_CFG k 9 = v.getLsbD 9 ∧
      (∀ i, 10 ≤ i → i < 32 → t.rdB .ENC_CFG k i = s.rdB .ENC_CFG k i) ∧
      s.frame t [(.ENC_CFG, k)] []) ∧
  (∀ (p : Path) (k : Nat) (v : Word) (s : State), 4 ≤ k ∨ s.regOpen p .PROC = false → exec (.encCfgWrite p k v) s = .next s)

/-! ### Serial ports -/

/-- Reception (R350, R351, R354 to R356, R359, R360): a start edge begins a character on an awake port that hunts, or on the SCLK
receiver of a sleeping one; its end counts it with its errors and writes an entry, a false start only counts; an idle line raises
RX; a start edge wakes a port that sleeps for it, its character lost; a matching character wakes an address-match port and is
written with its wake flag, also where a doorbell has woken the port meanwhile. That a responder writes nothing of a character
outside its frames, and that a break counts with FRAME and PARITY too, is the model's choice (DEDUCED, log entry 113).
Transmission (R350 to R353, R357): an awake idle port puts its first valid entry on the line, in RS-485 mode DE_LEAD after DE
rises unless it is high; an entry that has left the line advances TX_CONS, and with nothing left the port raises TX_EMPTY and
starts DE_TAIL, after which DE falls; an invalid entry is discarded with its event. -/
def Obligations.SerialReceivesAndTransmits : Prop :=
  ((∀ (v : StartEdge) (e : Elem) (s : State), s.serElem v.port = some e → s.pinsSeen = true → (s.ser v.port).asleep = false →
     (s.ser v.port).sclk = false → (s.ser v.port).rx = none → (serMode e = 1 → (s.ser v.port).de = false) →
     Gives (.serialStartEdge v) s fun t =>
       t.ser v.port = (if (s.ser v.port).deaf = true ∧ v.high < charBits e * serDiv e / 256 then s.ser v.port
         else { s.ser v.port with
           deaf := false
           rx := some s.clock.elapsed
           rxd := false }) ∧
       ∀ q, q ≠ v.port → t.ser q = s.ser q) ∧
   (∀ (v : StartEdge) (e : Elem) (s : State), s.serElem v.port = some e → s.pinsSeen = true → (s.ser v.port).asleep = true →
     (s.ser v.port).sclk = false → serSleep e = 2 →
     Gives (.serialStartEdge v) s fun t => t.ser v.port = { s.ser v.port with sclk := true } ∧ ∀ q, q ≠ v.port → t.ser q = s.ser q) ∧
   (∀ (v : StartEdge) (e : Elem) (s : State), s.serElem v.port = some e → s.pinsSeen = false ∨ (s.ser v.port).sclk = true ∨
     ((s.ser v.port).asleep = true ∧ serSleep e ≠ 2) ∨ ((s.ser v.port).asleep = false ∧
       ((s.ser v.port).rx.isSome = true ∨ (serMode e = 1 ∧ (s.ser v.port).de = true))) → exec (.serialStartEdge v) s = .next s) ∧
   (∀ (p t0 : Nat) (w : RxWave) (e : Elem) (s : State), s.serElem p = some e → (s.ser p).rx = some t0 →
     (rxRead w e ((s.ser p).div e) (e.u8 14 == 0)).falseStart = true →
     Gives (.serialRxCharEnd p w) s fun t =>
       t.clock = (s.runTo (t0 + uclk ((s.ser p).div e / 512))).clock ∧
       t.ser p = { s.ser p with
         rx := none
         idleAt := (s.ser p).idleAt.map fun _ => t.clock.elapsed + 2 * frameTime e
         rxd := true } ∧
       s.countsUp t .SER_FALSE_CNT p ∧ t.rd .SER_RX_CNT p = s.rd .SER_RX_CNT p) ∧
   (∀ (p t0 : Nat) (w : RxWave) (c : RxChar) (e : Elem) (s : State), s.serElem p = some e → (s.ser p).rx = some t0 →
     c = rxRead w e (serDiv e) (e.u8 14 == 0) → c.falseStart = false →
     s.isHalted e.voice = false → (s.ser p).search = none → (s.ser p).lin = none →
     Gives (.serialRxCharEnd p w) s fun t =>
       let fl := rxFlags e c
       let last := 1 + serBits e + (if serParity e = 0 then 0 else 1)
       t.clock = (s.runTo (t0 + uclk c.last)).clock ∧ (e.u8 14 ≠ 0 → c.last = (2 * last + 1) * serDiv e / 512) ∧
       (t.ser p).rx = none ∧ (t.ser p).rxd = c.stopOk ∧ t.rd .SER_RX_CNT p = (s.rd .SER_RX_CNT p + 1) % 2 ^ 32 ∧
       (bit 9 fl = true → s.countsUp t .SER_PAR_CNT p) ∧ (bit 10 fl = true → s.countsUp t .SER_FRM_CNT p) ∧
       (bit 11 fl = true → s.countsUp t .SER_NOISE_CNT p) ∧
       (serMode e = 3 → (t.ser p).rxProd = (s.ser p).rxProd) ∧
       (serMode e ≠ 3 → s.rxWritten t p ((if bit 12 fl then 0 else c.data % 2 ^ serBits e) + fl))) ∧
   (∀ (p : Nat) (w : RxWave) (s : State), s.serElem p = none ∨ (s.ser p).rx = none → exec (.serialRxCharEnd p w) s = .next s) ∧
   (∀ (p at_ : Nat) (s : State), (s.ser p).idleAt = some at_ → (s.ser p).rx = none →
     Gives (.serialRxIdle p) s fun t =>
       t.ser p = { s.ser p with idleAt := none, events := (s.ser p).events ||| 1 } ∧ t.clock = (s.runTo at_).clock) ∧
   (∀ (p : Nat) (s : State), (s.ser p).idleAt = none ∨ (s.ser p).rx.isSome = true → exec (.serialRxIdle p) s = .next s) ∧
   (∀ (p : Nat) (e : Elem) (s : State), s.serLive p = some e → s.pinsSeen = true → (s.ser p).asleep = true → serSleep e = 1 →
     Gives (.serialWakeEdge p) s fun t =>
       t.ser p = { s.ser p with
         asleep := false
         events := (s.ser p).events ||| 4
         cause := 1
         deaf := true } ∧ s.countsUp t .SER_WAKE_LOST p) ∧
   (∀ (p : Nat) (w : RxWave) (c : RxChar) (e : Elem) (s : State), s.serLive p = some e → s.pinsSeen = true →
     (s.ser p).asleep = true ∨ (s.ser p).sclk = true → serSleep e = 2 → c = rxRead w e (sclkDiv e) true →
     (c.falseStart = false → serMatches e (s.ser p).wake c.data = true →
       Gives (.serialAddressMatch p w) s fun t =>
         (t.ser p).asleep = false ∧ (t.ser p).sclk = false ∧
         ((s.ser p).asleep = true → (t.ser p).cause = 2 ∧ bit 2 (t.ser p).events = true) ∧
         t.rd .SER_RX_CNT p = (s.rd .SER_RX_CNT p + 1) % 2 ^ 32 ∧ s.rxWritten t p (c.data + rxFlags e c + 8192)) ∧
     (c.falseStart = false → serMatches e (s.ser p).wake c.data = false →
       Gives (.serialAddressMatch p w) s fun t => t.ser p = { s.ser p with sclk := false } ∧ t.rd .SER_RX_CNT p = s.rd .SER_RX_CNT p) ∧
     (c.falseStart = true →
       Gives (.serialAddressMatch p w) s fun t => t.ser p = { s.ser p with sclk := false } ∧ s.countsUp t .SER_FALSE_CNT p ∧
         t.rd .SER_RX_CNT p = s.rd .SER_RX_CNT p)) ∧
   (∀ (p : Nat) (w : RxWave) (s : State), s.serLive p = none ∨ s.pinsSeen = false ∨ (s.ser p).asleep = false →
     exec (.serialWakeEdge p) s = .next s ∧ ((s.ser p).sclk = false → exec (.serialAddressMatch p w) s = .next s)) ∧
   (∀ (p : Nat) (w : RxWave) (e : Elem) (s : State), s.serLive p = some e → (serSleep e ≠ 1 → exec (.serialWakeEdge p) s = .next s) ∧
     (serSleep e ≠ 2 → exec (.serialAddressMatch p w) s = .next s))) ∧
  ((∀ (p w : Nat) (l : List Nat) (e : Elem) (s : State), s.serLive p = some e → (s.ser p).asleep = false → (s.ser p).tx = none →
     (s.ser p).search = none → (s.ser p).lin = none → (s.ser p).fifo = w :: l → txValid e w = true → linTakes w = 0 →
     Gives (.serialTxStart p) s fun t =>
       let op := w / 65536 % 16
       let lead := serMode e = 1 ∧ (s.ser p).de = false
       (t.ser p).fifo = l ∧ (t.ser p).de = ((s.ser p).de || decide (serMode e = 1)) ∧ (t.ser p).bits = 0 ∧
       (lead → (t.ser p).rx = none) ∧
       (t.ser p).ts = s.clock.elapsed + (if lead then uclk (e.u16 16) else 0) + (if op = 2 then bitTime e 14 else 0) ∧
       (op ≠ 2 → (t.ser p).tx =
           some ⟨w % 65536, decide (op = 1), if op = 1 then w % 65536 else charBits e, true, false⟩ ∧
         t.out = s.out ++ [.serial p (w % 65536) (decide (op = 1))]) ∧
       (op = 2 → (t.ser p).tx = some ⟨linPid (w % 64), false, 20, true, false⟩ ∧
         t.out = s.out ++ [.serial p (linPid (w % 64)) true] ∧
         ∃ f, (t.ser p).lin = some f ∧ f.ident = w % 64 ∧ f.responder = false ∧ f.len = w % 65536 / 256 ∧
           f.expect = [0x55, linPid (w % 64)])) ∧
   (∀ (p w : Nat) (e : Elem) (s : State), s.serLive p = some e → (s.ser p).asleep = false → (s.ser p).tx = none →
     (s.ser p).search = none → (s.ser p).lin = none → (s.ser p).fifo = [w] → txValid e w = false →
     (s.ser p).fetch = (s.ser p).txProd →
     Gives (.serialTxStart p) s fun t =>
       (t.ser p).fifo = [] ∧ (t.ser p).tx = none ∧ (t.ser p).txCons = incIndex (s.ser p).txCons ∧
       s.countsUp t .SER_BADTX_CNT p ∧ bit 6 (t.ser p).events = true ∧ t.out = s.out) ∧
   (∀ (p : Nat) (s : State), s.serLive p = none ∨ (s.ser p).asleep = true ∨ (s.ser p).tx.isSome = true ∨
     (s.ser p).search.isSome = true ∨ (s.ser p).lin.isSome = true ∨ (s.ser p).fifo = [] → exec (.serialTxStart p) s = .next s) ∧
   (∀ (p : Nat) (e : Elem) (x : SerTx) (s : State), s.serElem p = some e → (s.ser p).tx = some x → x.entry = true → x.stale = false →
     (s.ser p).lin = none → (s.ser p).fifo = [] → (s.ser p).fetch = (s.ser p).txProd →
     Gives (.serialTxCharEnd p) s fun t =>
       t.clock = (s.runTo ((s.ser p).ts + bitTime e ((s.ser p).bits + x.bits))).clock ∧
       (t.ser p).tx = none ∧ (t.ser p).txCons = incIndex (s.ser p).txCons ∧
       (t.ser p).tail = (if serMode e = 1 then some (t.clock.elapsed + uclk (e.u16 18)) else none) ∧
       ((t.ser p).txCons = (t.ser p).txProd → bit 1 (t.ser p).events = true) ∧
       t.rd .SER_TX_CNT p = (if x.brk then s.rd .SER_TX_CNT p else (s.rd .SER_TX_CNT p + x.bits / charBits e) % 2 ^ 32)) ∧
   (∀ (p w : Nat) (l : List Nat) (e : Elem) (x : SerTx) (s : State), s.serLive p = some e → (s.ser p).tx = some x → x.entry = true →
     x.stale = false → x.brk = false → (s.ser p).lin = none → (s.ser p).search = none → (s.ser p).fifo = w :: l →
     (s.ser p).fetch = (s.ser p).txProd → txValid e w = true → w / 65536 % 16 = 0 →
     Gives (.serialTxCharEnd p) s fun t =>
       (t.ser p).tx = some ⟨w % 65536, false, charBits e, true, false⟩ ∧ (t.ser p).fifo = l ∧ (t.ser p).ts = (s.ser p).ts ∧
       (t.ser p).bits = (s.ser p).bits + x.bits ∧ (t.ser p).txCons = incIndex (s.ser p).txCons ∧
       t.out = s.out ++ [.serial p (w % 65536) false]) ∧
   (∀ (p : Nat) (s : State), s.serElem p = none ∨ (s.ser p).tx = none → exec (.serialTxCharEnd p) s = .next s) ∧
   (∀ (p at_ : Nat) (s : State), (s.ser p).tail = some at_ →
     Gives (.serialDeTailEnd p) s fun t =>
       t.ser p = { s.ser p with de := false, tail := none } ∧ t.clock = (s.runTo at_).clock) ∧
   (∀ (p : Nat) (s : State), (s.ser p).tail = none → exec (.serialDeTailEnd p) s = .next s))

/-- The area and its commands (R350, R351, R358, R365, R366): each 1 ms an awake port reads TX_PROD, RX_CONS, CMD and WAKE, and
refuses a TX_PROD out of range with BADIDX; pending events are posted to the owner's notify queue and cleared; a sleep command
waits for the transmitter or is answered 5 where the port may not sleep, and ends with 0 asleep; CANCEL stops a running search or
is answered 5. Roll call (R364 to R366): a search begins with a probe of the whole ID space, or is answered 5 where the port or
the limit does not allow it; a prefix answered from 1 to 12 bit times after its probe is split in two, an answered ID is found, a
silent prefix is dropped, and each next slot is a probe; a failed ping is repeated once; a cancelled search ends with result 4
after its slot, ABORTED where its owner is halted. -/
def Obligations.SerialAreaAndRollCall : Prop :=
  ((∀ (p : Nat) (e : Elem) (s : State), s.serLive p = some e → (s.ser p).asleep = false → s.inMemory (s.serBase p) 0x4000 →
     Gives (.serialAreaPoll p) s fun t =>
       let ok := decide ((s.serWord p 0x04 + 2 ^ 32 - (s.ser p).txCons) % 2 ^ 32 ≤ 1024)
       let cmd := s.serWord p 0x14
       let unknown := cmd / 16777216 ≠ (s.ser p).ack / 16777216 ∧ 4 ≤ cmd % 16 ∧ (s.ser p).search = none
       t.clock = (s.runTo ((s.ser p).pollAt + nsU 1000000)).clock ∧ (t.ser p).pollAt = t.clock.elapsed ∧
       (t.ser p).txProd = (if ok then s.serWord p 0x04 else (s.ser p).txProd) ∧ (t.ser p).badIdx = !ok ∧
       (t.ser p).events = (if ok then (s.ser p).events else (s.ser p).events ||| 128) ||| (if unknown then 16 else 0) ∧
       (t.ser p).ack = (if unknown then 5 + cmd / 16777216 * 16777216 else (s.ser p).ack) ∧
       (t.ser p).rxCons = s.serWord p 0x10 ∧ (t.ser p).cmd = cmd ∧ (t.ser p).wake = s.serWord p 0x1C) ∧
   (∀ (p : Nat) (s : State), s.serLive p = none ∨ (s.ser p).asleep = true → exec (.serialAreaPoll p) s = .next s) ∧
   (∀ (p q : Nat) (e : Elem) (s : State), s.serElem p = some e → s.notifyQueue e.voice = some q → (s.ser p).events ≠ 0 →
     ∃ u, u.ser p = { s.ser p with
         events := 0
         cause := 0
         aborted := false
         postAt := u.clock.elapsed
         rxNew := if bit 0 (s.ser p).events then 0 else (s.ser p).rxNew } ∧
       u.clock = (s.runTo ((s.ser p).postAt + nsU 100000)).clock ∧ s.frame u [(.SER_STATUS, p)] [.serial, .clock] ∧
       exec (.serialNotifyPost p) s = .next (u.post ⟨e.voice, q, 3, b2n (s.ser p).aborted, false, p,
         toLe 2 (s.ser p).events ++ [BitVec.ofNat 8 (s.ser p).cause, 0] ++ toLe 4 (s.ser p).rxProd ++ toLe 4 (s.ser p).txCons
           ++ toLe 4 (s.ser p).ack ++ toLe 8 (s.rd .BEAT_NUM 0), none, none⟩)) ∧
   (∀ (p : Nat) (e : Elem) (s : State), s.serElem p = some e → s.notifyQueue e.voice = none ∨ (s.ser p).events = 0 →
     exec (.serialNotifyPost p) s = .next s) ∧
   (∀ (p : Nat) (e : Elem) (s : State), s.serLive p = some e → (s.ser p).newCmd = 1 → (s.ser p).search = none → (s.ser p).asleep = false →
     Gives (.serialSleep p) s fun t =>
       (serSleep e = 0 → (s.ser p).acks (t.ser p) 5 16 ∧ (t.ser p).sleepAsked = (s.ser p).sleepAsked) ∧
       (serSleep e ≠ 0 → t.ser p = { s.ser p with sleepAsked := true })) ∧
   (∀ (p : Nat) (e : Elem) (s : State), s.serLive p = some e → (s.ser p).sleepAsked = true → (s.ser p).tx = none → (s.ser p).de = false →
     (s.ser p).rx = none → (s.ser p).lin = none →
     Gives (.serialSleepEnter p) s fun t =>
       (t.ser p).asleep = true ∧ (t.ser p).sleepAsked = false ∧ (s.ser p).acks (t.ser p) 0 8) ∧
   (∀ (p : Nat) (e : Elem) (s : State), s.serLive p = some e → (s.ser p).newCmd = 3 → (s.ser p).asleep = false →
     Gives (.serialCancel p) s fun t =>
       (∀ q, (s.ser p).search = some q →
         (t.ser p).search = some { q with cancelled := true, seq := (s.ser p).cmd / 16777216 }) ∧
       ((s.ser p).search = none → (s.ser p).acks (t.ser p) 5 16)) ∧
   (∀ (p : Nat) (s : State), s.serLive p = none → exec (.serialSleep p) s = .next s ∧ exec (.serialSleepEnter p) s = .next s ∧
     exec (.serialCancel p) s = .next s ∧ exec (.serialRollcall p) s = .next s) ∧
   (∀ (p : Nat) (s : State), ((s.ser p).newCmd ≠ 1 → exec (.serialSleep p) s = .next s) ∧
     ((s.ser p).newCmd ≠ 2 → exec (.serialRollcall p) s = .next s) ∧ ((s.ser p).newCmd ≠ 3 → exec (.serialCancel p) s = .next s) ∧
     ((s.ser p).sleepAsked = false → exec (.serialSleepEnter p) s = .next s))) ∧
  ((∀ (p : Nat) (e : Elem) (s : State), s.serLive p = some e → (s.ser p).newCmd = 2 → (s.ser p).search = none → (s.ser p).asleep = false →
     let lim := (s.ser p).cmd / 256 % 16
     (serMode e = 1 → serBits e = 8 → e.u16 18 ≤ serDiv e / 256 → 2 ≤ lim → (s.ser p).tx = none → (s.ser p).de = false →
       Gives (.serialRollcall p) s fun t =>
         (t.ser p).search = some ⟨(s.ser p).cmd / 16777216, 1, 1, lim, [(0, 0)], [], none, [], [], false, false,
           s.clock.elapsed + uclk (e.u16 16) + bitTime e 94⟩ ∧ (t.ser p).de = true ∧
         t.out = s.out ++ (rollFrame ([0xF0, 0] ++ toLe 4 0)).map (fun b => .serial p b.toNat false) ∧
         s.countsUp t .SER_RC_CNT p) ∧
     (serMode e ≠ 1 ∨ serBits e ≠ 8 ∨ serDiv e / 256 < e.u16 18 ∨ lim < 2 →
       Gives (.serialRollcall p) s fun t => (s.ser p).acks (t.ser p) 5 16 ∧ (t.ser p).search = none ∧ t.out = s.out) ∧
     (serMode e = 1 → serBits e = 8 → e.u16 18 ≤ serDiv e / 256 → 2 ≤ lim → (s.ser p).tx.isSome = true ∨ (s.ser p).de = true →
       exec (.serialRollcall p) s = .next s)) ∧
   (∀ (p pre lvl : Nat) (rest : List (Nat × Nat)) (ans : List RollChar) (e : Elem) (q : Search) (s : State), s.serElem p = some e →
     (s.ser p).search = some q → q.pings = none → q.stack = (pre, lvl) :: rest → q.cancelled = false →
     ((∃ a, a ∈ ans ∧ serDiv e ≤ 256 * a.after ∧ 256 * a.after ≤ 12 * serDiv e) → lvl ≠ 32 →
       Gives (.rollcallSlotEnd p ans) s fun t =>
         t.clock = (s.runTo q.ends).clock ∧
         (t.ser p).search = some { q with
           stack := (pre, lvl + 1) :: (pre + 2 ^ (31 - lvl), lvl + 1) :: rest
           probes := q.probes + 1
           ends := t.clock.elapsed + uclk (e.u16 16) + bitTime e 94 } ∧
         t.out = s.out ++ (rollFrame ([0xF0, BitVec.ofNat 8 (lvl + 1)] ++ toLe 4 pre)).map (fun b => .serial p b.toNat false)) ∧
     ((∃ a, a ∈ ans ∧ serDiv e ≤ 256 * a.after ∧ 256 * a.after ≤ 12 * serDiv e) → lvl = 32 → q.found.length < 128 → rest ≠ [] →
       Gives (.rollcallSlotEnd p ans) s fun t => ∃ r, (t.ser p).search = some r ∧ r.found = q.found ++ [pre] ∧ r.stack = rest ∧
         r.probes = q.probes + 1) ∧
     ((∀ a, a ∈ ans → 256 * a.after < serDiv e ∨ 12 * serDiv e < 256 * a.after) → rest ≠ [] →
       Gives (.rollcallSlotEnd p ans) s fun t => ∃ r, (t.ser p).search = some r ∧ r.found = q.found ∧ r.stack = rest ∧
         r.probes = q.probes + 1)) ∧
   (∀ (p a : Nat) (l : List Nat) (again : Bool) (ans : List RollChar) (e : Elem) (q : Search) (s : State), s.serElem p = some e →
     (s.ser p).search = some q → q.pings = some (a :: l, again) → q.cancelled = false → l ≠ [] →
     Gives (.rollcallSlotEnd p ans) s fun t =>
       ∃ r, (t.ser p).search = some r ∧ r.probes = q.probes + 1 ∧
         (pingOk e a ans = true → r.pings = some (l, false) ∧ r.found = q.found ∧ r.gone = q.gone) ∧
         (pingOk e a ans = false → again = false → r.pings = some (a :: l, true) ∧ r.found = q.found ∧ r.gone = q.gone) ∧
         (pingOk e a ans = false → again = true →
           r.pings = some (l, false) ∧ r.found = q.found.filter (fun n => n != a) ∧ r.gone = q.gone ++ [a])) ∧
   (∀ (p pre lvl : Nat) (rest : List (Nat × Nat)) (e : Elem) (q : Search) (s : State), s.serElem p = some e →
     (s.ser p).search = some q → q.pings = none → q.stack = (pre, lvl) :: rest → q.cancelled = true →
     Gives (.rollcallSlotEnd p []) s fun t =>
       (t.ser p).search = none ∧ bit 4 (t.ser p).events = true ∧ (t.ser p).de = false ∧
       (q.halted = true → (t.ser p).aborted = true) ∧
       ((s.ser p).cmd / 16777216 = q.seq → (t.ser p).ack = 4 + q.seq * 16777216)) ∧
   (∀ (p : Nat) (ans : List RollChar) (s : State), s.serElem p = none ∨ (s.ser p).search = none →
     exec (.rollcallSlotEnd p ans) s = .next s))

/-- LIN frames (R361, R363): at least 11 bit times low, then high, on a responder are a break; the sync field is timed into
SER_LINDIV and a frame opens that waits for its PID at that divider, ended at once with SYNC_ERR where the time is more than 14 %
off; a frame whose deadline passes ends with NO_RESPONSE, its summary written and its errors counted. -/
def Obligations.LinFramesBeginAndEnd : Prop :=
  (∀ (p : Nat) (b : LinBreak) (e : Elem) (s : State), s.serLive p = some e → s.pinsSeen = true → serMode e = 3 →
    (s.ser p).asleep = false → 11 * serDiv e ≤ 256 * b.low → b.high ≠ 0 →
    Gives (.linBreakDetect p b) s fun t =>
      let d := 32 * b.sync
      let far := 100 * d < 86 * serDiv e ∨ 114 * serDiv e < 100 * d
      t.rd .SER_LINDIV p = d % 2 ^ 28 ∧
      (¬ far → ∃ f, (t.ser p).lin = some f ∧ f.waitPid = true ∧ f.responder = true ∧ f.got = [] ∧ f.div = d ∧ (t.ser p).rx = none ∧
        f.ends = s.clock.elapsed + divTime d (linLimit 8) - uclk (b.low + b.high + b.sync) ∧
        (t.ser p).rxProd = (s.ser p).rxProd) ∧
      (far → (t.ser p).lin = none ∧
        t.rdF .SER_LIN_ERR_CNT p 31 0 = min (2 ^ 32 - 1) (s.rdF .SER_LIN_ERR_CNT p 31 0 + 1) ∧
        s.rxWritten t p (256 + 65536 + 16 * 1048576))) ∧
  (∀ (p : Nat) (b : LinBreak) (s : State), s.serLive p = none ∨ s.pinsSeen = false ∨ (s.ser p).asleep = true →
    exec (.linBreakDetect p b) s = .next s) ∧
  (∀ (p : Nat) (b : LinBreak) (e : Elem) (s : State), s.serLive p = some e → serMode e ≠ 3 ∨ 256 * b.low < 11 * serDiv e ∨ b.high = 0 →
    exec (.linBreakDetect p b) s = .next s) ∧
  (∀ (p : Nat) (f : LinFrame) (s : State), (s.ser p).lin = some f → f.left = 0 →
    Gives (.linFrameDeadline p) s fun t =>
      let fl := f.flags ||| 8
      t.clock = (s.runTo f.ends).clock ∧ (t.ser p).lin = none ∧ (t.ser p).tx = none ∧
      (t.ser p).txCons = ((s.ser p).txCons + b2n ((s.ser p).tx.any fun x => x.entry && !x.stale)) % 2 ^ 32 ∧
      t.rdF .SER_LIN_ERR_CNT p 31 0 =
        min (2 ^ 32 - 1) (s.rdF .SER_LIN_ERR_CNT p 31 0 + sumN ((List.range 6).map fun k => b2n (bit k fl))) ∧
      s.rxWritten t p (f.ident + 64 * b2n f.publish + 128 * b2n f.enhanced + 256 * b2n f.responder + f.got.length * 512 + 65536
        + fl * 1048576)) ∧
  (∀ (p : Nat) (s : State), (s.ser p).lin = none → exec (.linFrameDeadline p) s = .next s)

/-! ### Check channels -/

/-- A write of VW_CHK_CTRL takes CH and SIZE; with RESTART it sets the register of the channel then selected, the voice's own, to
its init value; without it every channel's register stays (R371). -/
def Obligations.CheckRestartUsesNewSelection : Prop :=
  ∀ (p : Path) (v : Nat) (w : Word) (s : State), s.pageOpen p v →
    (w.getLsbD 8 = true → (∃ e, s.elem 0x0015 (w.toNat % 16) = some e ∧ e.voice = v) →
      Gives (.checkRestart p v w) s fun t =>
        t.rdF .VW_CHK_CTRL v 3 0 = w.toNat % 16 ∧ (w.toNat / 16 % 4 < 3 → t.rdF .VW_CHK_CTRL v 5 4 = w.toNat / 16 % 4) ∧
        (∀ e, s.elem 0x0015 (w.toNat % 16) = some e →
          t.chkReg e.id = (crcKind (e.u8 8)).init ∧ ∀ c, c ≠ e.id → t.chkReg c = s.chkReg c)) ∧
    (w.getLsbD 8 = false →
      Gives (.checkRestart p v w) s fun t =>
        t.rdF .VW_CHK_CTRL v 3 0 = w.toNat % 16 ∧ (w.toNat / 16 % 4 < 3 → t.rdF .VW_CHK_CTRL v 5 4 = w.toNat / 16 % 4) ∧
        (∀ c, t.chkReg c = s.chkReg c) ∧ s.frame t [(.VW_CHK_CTRL, v)] [])

/-- A channel that is not the voice's own (R374): a feed, a restart and a read violate with PATH 8 and the channel as ELEM; no
register of a channel changes, the read returns 0, and the selector keeps the value written. -/
def Obligations.CheckChannelOfAnotherViolates : Prop :=
  (∀ (p : Path) (v : Nat) (w : Word) (c : Instr) (s : State), s.pageOpen p v → s.chkElem v = none →
    (c = .checkFeed p v w ∨ c = .registerWrite p (.page v) 0x70 w) →
    Gives c s fun t => s.recordsViolation t v 8 true (s.rdF .VW_CHK_CTRL v 3 0) 0x70 0 ∧ t.checks = s.checks ∧
      t.rd .VW_CHK_CTRL v = s.rd .VW_CHK_CTRL v) ∧
  (∀ (p : Path) (v : Nat) (w : Word) (c : Instr) (s : State), s.pageOpen p v → w.getLsbD 8 = true →
    (∀ e, s.elem 0x0015 (w.toNat % 16) = some e → e.voice ≠ v) →
    (c = .checkRestart p v w ∨ c = .registerWrite p (.page v) 0x6C w) →
    Gives c s fun t => s.recordsViolation t v 8 true (w.toNat % 16) 0x6C 0 ∧ t.checks = s.checks ∧
      t.rdF .VW_CHK_CTRL v 3 0 = w.toNat % 16) ∧
  (∀ (p : Path) (v : Nat) (s : State), s.pageOpen p v → s.chkElem v = none →
    Gives (.registerReadClear p (.page v) 0x70) s fun t =>
      s.recordsViolation t v 8 false (s.rdF .VW_CHK_CTRL v 3 0) 0x70 0 ∧ t.lastRead = 0 ∧ t.checks = s.checks ∧
      t.rd .VW_CHK_CTRL v = s.rd .VW_CHK_CTRL v)

/-- A feed advances the channel's register by the low SIZE bytes of the word and counts them; a read of VW_CHK_DATA returns the
register with the final exclusive or of its polynomial, and changes nothing (R369, R370). -/
def Obligations.CheckFeedAdvancesCrc : Prop :=
  ∀ (p : Path) (v : Nat) (w : Word) (e : Elem) (s : State), s.pageOpen p v → s.chkElem v = some e →
    Gives (.checkFeed p v w) s (fun t =>
      let n := 2 ^ s.rdF .VW_CHK_CTRL v 5 4
      t.chkReg e.id = crcFeed (crcKind (e.u8 8)) (s.chkReg e.id) (toLe n w.toNat) ∧ (∀ c, c ≠ e.id → t.chkReg c = s.chkReg c) ∧
      t.rd .CHK_BYTES e.id = (s.rd .CHK_BYTES e.id + n) % 2 ^ 32 ∧ s.frame t [(.CHK_BYTES, e.id)] [.checks]) ∧
    Gives (.registerReadClear p (.page v) 0x70) s (fun t =>
      t = { s with lastRead := BitVec.ofNat 32 (s.chkReg e.id ^^^ (crcKind (e.u8 8)).final) })

/-! ### The host port and power -/

/-- Events of the host port (R375, R376, R378, R381, R387): a reset of domain HOST advances its epoch, returns its registers to
their reset values with the link down, and counts a link-down; a trained link shows the host's settings; an inbound access but of
1 or 2 DW, all enabled and aligned, counts, a read giving zero; unmasking a vector sends what is pending; an AER error is
reported. A block in reset takes none. -/
def Obligations.HostPortEvents : Prop :=
  (∀ (k : HostResetKind) (s : State), s.domUp .HOST = true → (k = .fundamental → s.pinsSeen = true) →
    Gives (.hostReset k) s fun t =>
      t.rdF .EPOCH_TAB 51 7 0 = (s.rdF .EPOCH_TAB 51 7 0 + 1) % 256 ∧ t.linkUp = false ∧ t.rd .HOST_LINK 0 = 0 ∧
      (∀ i, t.rd .MSIX_TABLE i = State.reset.rd .MSIX_TABLE i ∧ t.rd .MSIX_PBA i = 0) ∧ t.rd .HOST_BADACC_CNT 0 = 0 ∧
      t.rd .HOST_DOWN_CNT 0 = (if k = .linkDown then 1 else 0) ∧ t.rd .HOST_OB_BASE 0 = s.rd .HOST_OB_BASE 0 ∧ t.load = s.load ∧
      (s.dma.ch = [] → t.rd .HOST_EPOCH_CNT 0 = 0 ∧ s.onlyParts t [.latch, .stage])) ∧
  (∀ (k : HostResetKind) (s : State), s.domUp .HOST = false ∨ (k = .fundamental ∧ s.pinsSeen = false) →
    exec (.hostReset k) s = .next s) ∧
  (∀ (sp wd : Nat) (m x : Bool) (s : State), s.domUp .HOST = true →
    Gives (.hostLinkUp sp wd m x) s fun t =>
      t.linkUp = true ∧ t.rdF .HOST_LINK 0 3 0 = sp % 16 ∧ t.rdF .HOST_LINK 0 7 4 = wd % 16 ∧ t.rdB .HOST_LINK 0 9 = m ∧
      t.rdB .HOST_LINK 0 10 = x ∧ s.frame t [(.HOST_LINK, 0)] []) ∧
  (∀ (q : InboundReq) (s : State), s.domUp .HOST = true →
    ¬ (q.full = true ∧ ((q.dw = 1 ∧ q.addr % 4 = 0) ∨ (q.dw = 2 ∧ q.addr % 8 = 0))) →
    Gives (.inboundUnsupportedAccess q) s fun t =>
      s.countsUp t .HOST_BADACC_CNT 0 ∧ (q.write = false → t.lastRead = 0) ∧
      s.frame t [(.HOST_BADACC_CNT, 0)] (if q.write then [] else [.lastRead])) ∧
  (∀ (vec : Nat) (s : State), s.domUp .HOST = true → vec < 2048 →
    Gives (.msixUnmask vec) s fun t =>
      t.rdB .MSIX_TABLE (4 * vec + 3) 0 = false ∧
      (s.rdB .MSIX_PBA (vec / 32) (vec % 32) = false → t.out = s.out) ∧
      (s.rdB .MSIX_PBA (vec / 32) (vec % 32) = true → t.rdB .MSIX_PBA (vec / 32) (vec % 32) = false ∧
        (s.linkUp = true → s.rdB .HOST_LINK 0 9 = true → t.out = s.out ++ [.msix vec
          (s.rd .MSIX_TABLE (4 * vec) + s.rd .MSIX_TABLE (4 * vec + 1) * 2 ^ 32) (s.rd .MSIX_TABLE (4 * vec + 2))])) ∧
      s.frame t [(.MSIX_TABLE, 4 * vec + 3), (.MSIX_PBA, vec / 32)] [.out]) ∧
  (∀ (k : AerKind) (s : State), s.domUp .HOST = true →
    Gives (.aerError k) s fun t => t = { s with out := s.out ++ [.aer k] }) ∧
  (∀ (sp wd vec : Nat) (m x : Bool) (k : AerKind) (s : State), s.domUp .HOST = false →
    exec (.hostLinkUp sp wd m x) s = .next s ∧ exec (.msixUnmask vec) s = .next s ∧ exec (.aerError k) s = .next s ∧
    ∀ q : InboundReq, q.write = true → exec (.inboundUnsupportedAccess q) s = .next s) ∧
  (∀ (q : InboundReq) (s : State), q.full = true → (q.dw = 1 ∧ q.addr % 4 = 0) ∨ (q.dw = 2 ∧ q.addr % 8 = 0) →
    exec (.inboundUnsupportedAccess q) s = .next s)

/-- Resets (R391, R393, R395 to R397, R408): power-on and brown-out clear every domain and name their cause, the fuses kept and
the state read from its two copies (R411), and boot from the straps; a lost reference clock or an unlocked PLL loses LPDDR5 and
holds every domain but AON until its release boots; RSTn and RST_CTRL.WARM keep LPDDR5, and boot at once unless a clock reset
still holds the device. A wrong key or an unseen pin does nothing. -/
def Obligations.ResetsClearAndBoot : Prop :=
  (∀ (b : BootIn) (s : State),
    Gives (.powerOnReset b) s fun t =>
      s.clearedBy t false ∧ s.keepsOutside t ∧ t.mem = [] ∧ t.rd .RST_CAUSE 0 = 1 ∧ s.stateRead t ∧
      t.rdF .BOOT_STATUS 0 2 0 = b.straps % 8 ∧ t.power.banks = bootBanks (b.straps % 8) ∧
      t.power.supply = b.procSupply ∧ t.rdB .PWR_STATUS 0 0 = b.procSupply ∧ t.power.sfdp = !(bootBanks (b.straps % 8)).isEmpty ∧
      (∀ (r : RegId) (i : Nat), r ≠ .RST_CAUSE → r ≠ .LC_STATE → r ≠ .BOOT_STATUS → r ≠ .PWR_STATUS → t.rd r i = State.reset.rd r i)) ∧
  (∀ s : State,
    Gives .brownout s fun t =>
      s.clearedBy t false ∧ s.keepsOutside t ∧ t.mem = [] ∧ t.rd .RST_CAUSE 0 = 0x21 ∧ t.rdF .BOOT_STATUS 0 2 0 = s.rdF .BOOT_STATUS 0 2 0 ∧
      s.boots t (s.rdF .BOOT_STATUS 0 2 0) ∧ s.stateRead t ∧
      t.rdB .PWR_STATUS 0 0 = s.power.supply ∧
      (∀ (r : RegId) (i : Nat), r ≠ .RST_CAUSE → r ≠ .LC_STATE → r ≠ .BOOT_STATUS → r ≠ .PWR_STATUS → t.rd r i = State.reset.rd r i)) ∧
  (∀ (c : Instr) (bitNo : Nat) (s : State), (c = .refclkLost ∧ bitNo = 4 ∨ ∃ k, k < 3 ∧ c = .pllUnlock k ∧ bitNo = 3) →
    Gives c s fun t =>
      s.clearedBy t false ∧ s.keepsOutside t ∧ s.keepsAon t ∧ t.mem = [] ∧ t.rdB .RST_CAUSE 0 bitNo = true ∧ t.rdB .MEM_RETAIN 0 9 = false ∧
      t.power.clock = true ∧ ∀ d, d ≠ .AON → t.domUp d = false) ∧
  (∀ s : State, s.power.clock = true →
    Gives .clockResetRelease s fun t =>
      t = { s with power := { s.power with
        clock := false
        banks := bootBanks (s.rdF .BOOT_STATUS 0 2 0)
        sfdp := !(bootBanks (s.rdF .BOOT_STATUS 0 2 0)).isEmpty } }) ∧
  (∀ (c : Instr) (bitNo : Nat) (s : State), s.power.clock = false →
    (c = .resetPin ∧ s.pinsSeen = true ∧ bitNo = 1 ∨
      ∃ p v, c = .warmReset p v ∧ s.regOpen p .AON = true ∧ v.getLsbD 0 = true ∧ v.toNat / 65536 = 0x5753 ∧ bitNo = 2) →
    Gives c s fun t =>
      s.clearedBy t false ∧ s.keepsOutside t ∧ s.keepsAon t ∧ s.keepsLpddr t ∧ t.rdB .RST_CAUSE 0 bitNo = true ∧
      t.rd .MEM_RETAIN 0 = s.rd .MEM_RETAIN 0 ∧ s.boots t (s.rdF .BOOT_STATUS 0 2 0)) ∧
  (∀ s : State, s.power.clock = true → s.pinsSeen = true →
    Gives .resetPin s fun t =>
      s.clearedBy t false ∧ s.keepsOutside t ∧ s.keepsAon t ∧ s.keepsLpddr t ∧ t.rdB .RST_CAUSE 0 1 = true ∧ t.power.clock = true ∧
      t.power.banks = [] ∧ ∀ d, d ≠ .AON → t.domUp d = false) ∧
  (∀ s : State, s.power.clock = false → exec .clockResetRelease s = .next s) ∧
  (∀ s : State, s.pinsSeen = false → exec .resetPin s = .next s) ∧
  (∀ (p : Path) (v : Word) (s : State), s.regOpen p .AON = false ∨ v.getLsbD 0 = false ∨ v.toNat / 65536 ≠ 0x5753 →
    exec (.warmReset p v) s = .next s) ∧
  (∀ (k : Nat) (s : State), 3 ≤ k → exec (.pllUnlock k) s = .next s)

/-- Standby and boot (R404, R406): STANDBY waits for a barline while a score is live, else gates every domain but AON and TIME at
once with the clock kept; WAKEn ends it, or the entry that is asked for, as a reset that keeps TIME; the end of the SFDP read
shows what the flash is and starts the first bank's load, unless a load is under way. -/
def Obligations.StandbyWakeAndBootRead : Prop :=
  (∀ (p : Path) (v : Word) (s : State), s.regOpen p .AON = true → v.getLsbD 0 = true → s.scoreLive = true →
    Gives (.standby p v) s fun t => t = { s with power := { s.power with asked := true } }) ∧
  (∀ (p : Path) (v : Word) (s : State), s.regOpen p .AON = true → v.getLsbD 0 = true → s.scoreLive = false →
    Gives (.standby p v) s fun t =>
      s.clearedBy t true ∧ t.power.standby = true ∧ t.domUp .FABRIC = false ∧ t.domUp .TIME = s.domUp .TIME) ∧
  (∀ (p : Path) (v : Word) (s : State), s.regOpen p .AON = false ∨ v.getLsbD 0 = false → exec (.standby p v) s = .next s) ∧
  (∀ s : State, s.pinsSeen = true → s.power.asked = false → s.power.standby = true → s.power.clock = false →
    Gives .wakePin s fun t =>
      s.clearedBy t true ∧ s.keepsOutside t ∧ s.keepsAon t ∧ s.keepsLpddr t ∧ t.rdB .RST_CAUSE 0 6 = true ∧ t.power.standby = false ∧
      s.boots t (s.rdF .BOOT_STATUS 0 2 0)) ∧
  (∀ s : State, s.pinsSeen = true → s.power.asked = true → s.power.clock = false →
    Gives .wakePin s fun t =>
      s.clearedBy t true ∧ t.rdB .RST_CAUSE 0 6 = true ∧ t.power.standby = false ∧ s.boots t (s.rdF .BOOT_STATUS 0 2 0)) ∧
  (∀ s : State, s.pinsSeen = false ∨ (s.power.asked = false ∧ s.power.standby = false) → exec .wakePin s = .next s) ∧
  (∀ (r : Sfdp) (s : State), s.power.sfdp = true →
    Gives (.sfdpReadEnd r) s fun t =>
      t.power.sfdp = false ∧ t.rdB .BOOT_STATUS 0 4 = !r.valid ∧
      (r.valid = false → t.rd .FLASH_INFO 0 = 0) ∧
      (r.valid = true → t.rdF .FLASH_INFO 0 7 0 = r.density % 256 ∧ t.rdF .FLASH_INFO 0 9 8 = (if r.quad then 2 else 1)) ∧
      (s.power.banks = [] ∨ s.load.state ≠ 0 → t.load = s.load ∧ t.power.banks = s.power.banks) ∧
      (∀ k l, s.power.banks = k :: l → s.load.state = 0 →
        t.load = { s.load with staged := some ⟨true, 0, 0, k, true⟩ } ∧ t.power.banks = l ∧ t.rdF .LOAD_STATUS 0 2 0 = 1)) ∧
  (∀ (r : Sfdp) (s : State), s.power.sfdp = false → exec (.sfdpReadEnd r) s = .next s)

/-- Block control (R398, R401, R402): an accepted RESET advances the block's epoch, OFF sets OFF (with TRIG low on a port, and an
uplink out of UP) and ON clears it with a new epoch for a port or a block that was off, each BUSY until its end, which sets DONE;
any other action is refused; a stale reply is counted for its block. -/
def Obligations.BlockControlActs : Prop :=
  (∀ (p : Path) (v : Word) (k a : Nat) (c : Instr) (s : State), s.regOpen p .FABRIC = true → v.getLsbD 31 = true →
    k = v.toNat % 64 → a = v.toNat / 256 % 4 → (c = .blockReset p v ∨ c = .blockOff p v ∨ c = .blockOn p v) →
    (s.blockMay k a →
      Gives c s fun t =>
        t.blockBusy k a ∧
        (a = 1 → t.rdF .EPOCH_TAB k 7 0 = (s.rdF .EPOCH_TAB k 7 0 + 1) % 256) ∧
        (a = 2 → t.rdB .EPOCH_TAB k 9 = true ∧ (k < 50 → t.rdF .EPOCH_TAB k 7 0 = s.rdF .EPOCH_TAB k 7 0) ∧
          (k < 32 → (t.port k).trig = false) ∧ (48 ≤ k → k < 50 → t.netUp (k - 48) = false)) ∧
        (a = 3 → t.rdB .EPOCH_TAB k 9 = false ∧ t.rdF .EPOCH_TAB k 7 0 =
          (if k < 32 ∨ s.blockOff k = true then (s.rdF .EPOCH_TAB k 7 0 + 1) % 256 else s.rdF .EPOCH_TAB k 7 0))) ∧
    (¬ s.blockMay k a →
      Gives c s fun t => t.rdB .BLK_STATUS 0 1 = true ∧ (∀ i, i ≠ 1 → i < 32 → t.rdB .BLK_STATUS 0 i = s.rdB .BLK_STATUS 0 i) ∧
        s.frame t [(.BLK_STATUS, 0)] [])) ∧
  (∀ (p : Path) (v : Word) (s : State), s.regOpen p .FABRIC = false ∨ v.getLsbD 31 = false →
    exec (.blockReset p v) s = .next s ∧ exec (.blockOff p v) s = .next s ∧ exec (.blockOn p v) s = .next s) ∧
  (∀ (k a : Nat) (s : State), s.power.block = some (k, a) →
    Gives .blockResetDone s fun t =>
      t.power = { s.power with block := none } ∧ t.rdB .BLK_STATUS 0 0 = false ∧ t.rdB .BLK_STATUS 0 2 = true ∧
      t.rdB .EPOCH_TAB k 8 = false ∧ s.frame t [(.BLK_STATUS, 0), (.EPOCH_TAB, k)] [.power]) ∧
  (∀ s : State, s.power.block = none → exec .blockResetDone s = .next s) ∧
  (∀ (k : Nat) (s : State), k < 52 → s.domUp .FABRIC = true →
    Gives (.staleReplyDiscard k) s fun t =>
      t.rdF .EPOCH_TAB k 31 16 = min 65535 (s.rdF .EPOCH_TAB k 31 16 + 1) ∧ t.rdF .EPOCH_TAB k 15 0 = s.rdF .EPOCH_TAB k 15 0 ∧
      s.frame t [(.EPOCH_TAB, k)] []) ∧
  (∀ (k : Nat) (s : State), 52 ≤ k ∨ s.domUp .FABRIC = false → exec (.staleReplyDiscard k) s = .next s)

/-- Where the commands of walks, write bursts, resets and power complete, under conditions on the state and the operands alone: a
walk starts once a miss waits that a walker may take (R131), and ends with its leaf for the side that waits (R127); a write burst
that is translated, within quota and in its turn issues (R153, R160), and its good acknowledgement puts its bytes into memory
(R165); every reset names its cause, with no score left and the fuses as they were (R391, R393, R395, R404); a held device boots
when its clock is back (R397); standby and the SFDP read take effect (R404, R406). -/
def Obligations.WalksWritesAndResetsComplete : Prop :=
  (∀ s : State, (∃ w ∈ s.trans.misses, s.walkerFree w.voice = true) →
    ∃ t, exec .walkStart s = .next t ∧ t.trans.walks.length = s.trans.walks.length + 1 ∧
      t.trans.misses.length + 1 = s.trans.misses.length) ∧
  (∀ (k c pa : Nat) (write : Bool) (r : List MemResult) (w : Walk) (e : Elem) (d : Desc) (l : TlbEntry) (s : State),
    s.trans.walks[k]? = some w → w.waiters = [(c, write)] → s.dmaElem c = some e → (s.chan c).sideDesc write = some d →
    (if write then (s.chan c).wr else (s.chan c).rd) = .waiting →
    (if write then d.dstAt d.writeIssued else d.srcAt d.readIssued) / 2 ^ 16 = w.va / 2 ^ 16 →
    (walk { s with trans := { s.trans with walks := s.trans.walks.eraseIdx k } } w.voice w.va r).2 = .leaf l →
    l.use (if write then d.dstAt d.writeIssued else d.srcAt d.readIssued) write = .ok pa →
    ∃ t, exec (.walkComplete k r) s = .next t ∧ t.trans.walks.length + 1 = s.trans.walks.length ∧
      (if write then (t.chan c).wr else (t.chan c).rd) = .answer (.ok pa)) ∧
  (∀ (c pa : Nat) (rest : Bool) (e : Elem) (d : Desc) (bytes : List Byte) (s : State), s.dmaElem c = some e →
    (s.chan c).descs = [d] → s.writeHeld c = false → d.ended = none → d.fail = none → (d.fill = true → d.waiting = false) →
    d.writeIssued + d.writeLen d.writeIssued < d.total → d.data d.writeIssued (d.writeLen d.writeIssued) = some bytes →
    (s.chan c).wr = .answer (.ok pa) → s.writesInFlight < 128 → s.deadAddr pa = false →
    s.overQuota c e (some pa) (d.writeLen d.writeIssued) = false → s.grantTurn 8 c e s.waitsWrite = true →
    ∃ t, exec (.writeBurstIssue c rest) s = .next t ∧
      (t.chan c).descs.map (·.writeIssued) = [d.writeIssued + d.writeLen d.writeIssued] ∧
      (t.chan c).descs.map (·.writes.length) = [d.writes.length + 1]) ∧
  (∀ (c p : Nat) (e : Elem) (d : Desc) (b : Burst) (l : List Burst) (s : State), s.dmaElem c = some e → (s.chan c).flying = [] →
    (s.chan c).descs = [d] → d.writes = b :: l → b.pa = some p → b.bytes.length = b.len → s.inMemory p b.len →
    d.total ≠ d.writeIssued →
    ∃ t, exec (.writeBurstAck c .ok) s = .next t ∧ t.readPhys p b.len = b.bytes ∧
      (t.chan c).descs.map (·.writes) = [l]) ∧
  (∀ (c : Instr) (bitNo : Nat) (s : State),
    ((∃ b, c = .powerOnReset b ∧ bitNo = 0) ∨ (c = .brownout ∧ bitNo = 5) ∨ (c = .refclkLost ∧ bitNo = 4) ∨
      (∃ k, k < 3 ∧ c = .pllUnlock k ∧ bitNo = 3) ∨ (c = .resetPin ∧ s.pinsSeen = true ∧ bitNo = 1) ∨
      (∃ p v, c = .warmReset p v ∧ s.regOpen p .AON = true ∧ v.getLsbD 0 = true ∧ v.toNat / 65536 = 0x5753 ∧ bitNo = 2) ∨
      (c = .wakePin ∧ s.pinsSeen = true ∧ s.power.standby = true ∧ s.power.asked = false ∧ bitNo = 6)) →
    ∃ t, exec c s = .next t ∧ t.rdB .RST_CAUSE 0 bitNo = true ∧ t.load = State.reset.load ∧ t.lc.slots = s.lc.slots) ∧
  (∀ s : State, s.power.clock = true →
    ∃ t, exec .clockResetRelease s = .next t ∧ t.power.clock = false ∧ t.power.banks = bootBanks (s.rdF .BOOT_STATUS 0 2 0)) ∧
  (∀ (p : Path) (v : Word) (s : State), s.regOpen p .AON = true → v.getLsbD 0 = true →
    ∃ t, exec (.standby p v) s = .next t ∧ (if s.scoreLive then t.power.asked = true else t.power.standby = true)) ∧
  (∀ (r : Sfdp) (s : State), s.power.sfdp = true →
    ∃ t, exec (.sfdpReadEnd r) s = .next t ∧ t.power.sfdp = false ∧ t.rdB .BOOT_STATUS 0 4 = !r.valid)

/-! ### The life cycle and debug -/

/-- Life-cycle commands (R414 to R416, R420, R427): written where one is running or a load is judged or applied, each is refused
with BUSY and nothing else changes; without the key nothing happens; else GETCHAL, PROGKEY, REVOKE and RELOCK do their work
(FUSE_FAIL where a fuse does not verify) with BUSY set, and their end writes the result, clears BUSY, sets DONE and sends vector
0. That a PROGKEY or REVOKE outside its state or slot answers NOT_PERMITTED or SLOT is the model's choice (DEDUCED, log entry 74).
-/
def Obligations.LifeCycleCommandsAnswer : Prop :=
  (∀ (p : Path) (v : Word) (c : Instr) (s : State), s.regOpen p .AON = true → v.toNat / 65536 = 0x4C43 → ¬ s.lcFree →
    (c = .lcGetchal p ∨ c = .lcToken p ∨ c = .lcRelock p ∨
      ((c = .lcProgkey p v ∨ c = .lcRevoke p v ∨ c = .lcAdvance p v) ∧ 1 ≤ v.toNat % 16 ∧ v.toNat % 16 ≤ 6)) →
    Gives c s fun t => t.rdF .LC_STATUS 0 7 4 = 1 ∧ t.rdF .LC_STATUS 0 3 0 = s.rdF .LC_STATUS 0 3 0 ∧
      t.rdF .LC_STATUS 0 31 8 = s.rdF .LC_STATUS 0 31 8 ∧ s.frame t [(.LC_STATUS, 0)] []) ∧
  (∀ (p : Path) (v : Word) (s : State), s.regOpen p .AON = false ∨ v.toNat / 65536 ≠ 0x4C43 →
    exec (.lcProgkey p v) s = .next s ∧ exec (.lcRevoke p v) s = .next s ∧ exec (.lcAdvance p v) s = .next s) ∧
  (∀ (p : Path) (s : State), s.regOpen p .AON = true → s.lcFree →
    Gives (.lcGetchal p) s fun t => s.lcRan t 0 ∧ t.lc = { s.lc with valid := true, result := some 0 } ∧ t.fresh = s.fresh + 1 ∧
      (∀ k, k < 8 → t.rd .LC_CHALLENGE k = (Config.random s.fresh k).toNat) ∧
      s.frame t ((.LC_STATUS, 0) :: (List.range 8).map fun k => (.LC_CHALLENGE, k)) [.lc, .fresh]) ∧
  (∀ (p : Path) (v : Word) (k u : Nat) (s : State), s.regOpen p .AON = true → s.lcFree → v.toNat / 65536 = 0x4C43 → v.toNat % 16 = 3 →
    k = v.toNat / 256 % 16 → u = v.toNat / 4096 % 16 →
    Gives (.lcProgkey p v) s fun t =>
      if k < 8 ∧ u ≠ 0 ∧ (s.lcState = 1 ∨ (s.lcState = 2 ∧ 2 ≤ k)) then
        (if (s.keySlot k).programmed = true then s.lcRan t 5 ∧ t.lc.slots = s.lc.slots
         else s.lcRan t (if Config.fuseFails s.fresh then 7 else 0) ∧ t.keySlot k = ⟨true, Config.fuseFails s.fresh, u, s.tokenBytes.take 64⟩ ∧ ∀ j, j ≠ k → t.keySlot j = s.keySlot j) ∧
        s.frame t [(.LC_STATUS, 0)] [.lc, .fresh]
      else s.lcRan t 2 ∧ t.lc = { s.lc with result := some 2 } ∧ s.frame t [(.LC_STATUS, 0)] [.lc]) ∧
  (∀ (p : Path) (v : Word) (k : Nat) (s : State), s.regOpen p .AON = true → s.lcFree → v.toNat / 65536 = 0x4C43 → v.toNat % 16 = 4 →
    k = v.toNat / 256 % 16 →
    Gives (.lcRevoke p v) s fun t =>
      if s.lcState = 1 ∨ s.lcState = 2 then
        if (s.keySlot k).programmed = true ∧ (s.keySlot k).revoked = false then
          s.lcRan t (if Config.fuseFails s.fresh then 7 else 0) ∧ t.keySlot k = { s.keySlot k with revoked := true } ∧ (∀ j, j ≠ k → t.keySlot j = s.keySlot j) ∧
          t.load.live = s.load.live ∧ (∀ x, t.load.armed = some x ∨ t.load.pend = some x → x.slot ≠ some k)
        else s.lcRan t 5 ∧ t.lc = { s.lc with result := some 5 } ∧ s.frame t [(.LC_STATUS, 0)] [.lc]
      else s.lcRan t 2 ∧ t.lc = { s.lc with result := some 2 } ∧ s.frame t [(.LC_STATUS, 0)] [.lc]) ∧
  (∀ (p : Path) (s : State), s.regOpen p .AON = true → s.lcFree →
    Gives (.lcRelock p) s fun t => s.lcRan t 0 ∧ t.lc = { s.lc with unlocked := none, result := some 0 } ∧
      s.frame t [(.LC_STATUS, 0)] [.lc]) ∧
  (∀ (c : Nat) (s : State), s.lc.result = some c →
    Gives .lcCommandDone s fun t =>
      t.rdF .LC_STATUS 0 7 4 = c % 16 ∧ t.rdB .LC_STATUS 0 0 = false ∧ t.rdB .LC_STATUS 0 8 = true ∧
      t.rdF .LC_STATUS 0 31 9 = s.rdF .LC_STATUS 0 31 9 ∧ t.lc = { s.lc with result := none } ∧
      (s.domUp .FABRIC = true → t.rdB .VW_IRQ_STATUS 0 0 = true) ∧
      s.frame t [(.LC_STATUS, 0), (.VW_IRQ_STATUS, 0), (.MSIX_PBA, 0)] [.lc, .out]) ∧
  (∀ s : State, s.lc.result = none → exec .lcCommandDone s = .next s)

/-- ADVANCE (R421): FIELD_SECURE needs a programmed, unrevoked owner slot with SCORE usage and one with LC usage; a target that
Table 19.2 does not allow from the current state is refused with NOT_PERMITTED. -/
def Obligations.AdvanceNeedsItsConditions : Prop :=
  ∀ (p : Path) (v : Word) (target : Nat) (s : State), s.regOpen p .AON = true → s.lcFree → v.toNat / 65536 = 0x4C43 → v.toNat % 16 = 5 →
    target = v.toNat / 256 % 16 →
    (s.lcState = 2 → target = 3 →
      ¬ ((∃ k, 2 ≤ k ∧ k ≤ 7 ∧ (s.keySlot k).programmed = true ∧ (s.keySlot k).revoked = false ∧ (s.keySlot k).usage.testBit 0 = true) ∧
        ∃ k, 2 ≤ k ∧ k ≤ 7 ∧ (s.keySlot k).programmed = true ∧ (s.keySlot k).revoked = false ∧ (s.keySlot k).usage.testBit 2 = true) →
      Gives (.lcAdvance p v) s fun t => s.lcRan t 2 ∧ t.lc = { s.lc with result := some 2 } ∧ s.frame t [(.LC_STATUS, 0)] [.lc]) ∧
    (s.lcState = 1 → target = 2 → ¬ ((s.keySlot 0).programmed = true ∧ (s.keySlot 1).programmed = true) →
      Gives (.lcAdvance p v) s fun t => s.lcRan t 2 ∧ t.lc = { s.lc with result := some 2 } ∧ s.frame t [(.LC_STATUS, 0)] [.lc]) ∧
    (¬ ((s.lcState = 1 ∧ target = 2) ∨ (s.lcState = 2 ∧ target = 3) ∨ (s.lcState ≠ 15 ∧ target = 15)) →
      Gives (.lcAdvance p v) s fun t => s.lcRan t 2 ∧ t.lc = { s.lc with result := some 2 } ∧ s.frame t [(.LC_STATUS, 0)] [.lc])

/-- Transitions (R410, R422): an ADVANCE that may go on programs the new state at once into both copies, the old one in LAST, and
the device resets as PORn does; one to SCRAPPED, and a RETURN token, wait for the erase, whose end does the same. Tokens (R417 to
R419), by LC_TOKEN or by the TAP: under LOCKOUT the check ends at once; one that fails consumes the challenge, changes no fuse and
no scope, and counts unless it was not permitted, the eighth setting LOCKOUT; one that passes is carried out. None passes without
its magic, this device's UID, the valid challenge and SIG_A. -/
def Obligations.TransitionsAndTokens : Prop :=
  ((∀ (p : Path) (v : Word) (s : State), s.regOpen p .AON = true → s.lcFree → v.toNat / 65536 = 0x4C43 → v.toNat % 16 = 5 →
     ((s.lcState = 1 ∧ v.toNat / 256 % 16 = 2 ∧ (s.keySlot 0).programmed = true ∧ (s.keySlot 1).programmed = true) ∨
      (s.lcState = 2 ∧ v.toNat / 256 % 16 = 3 ∧ s.ownerSlot 0 none = true ∧ s.ownerSlot 2 none = true) →
       Gives (.lcAdvance p v) s fun t =>
         (∃ n, t.programmed (v.toNat / 256 % 16) n) ∧ t.rdF .LC_STATE 0 11 8 = s.lcState ∧ s.clearedBy t false ∧ t.mem = [] ∧ t.rd .RST_CAUSE 0 = 1 ∧
         s.boots t (s.rdF .BOOT_STATUS 0 2 0)) ∧
     (s.lcState ≠ 15 → v.toNat / 256 % 16 = 15 →
       Gives (.lcAdvance p v) s fun t =>
         t.lc.erasing = some 15 ∧ t.lcState = s.lcState ∧ t.lc.slots = s.lc.slots ∧ t.rdB .LC_STATUS 0 0 = true)) ∧
   (∀ (target : Nat) (s : State), s.lc.erasing = some target →
     Gives .lcEraseEnd s fun t =>
       t.programmed target s.fresh ∧ t.rdF .LC_STATE 0 11 8 = s.lcState ∧ s.clearedBy t false ∧ t.mem = [] ∧ t.rd .RST_CAUSE 0 = 1 ∧
       t.flash = s.flash ∧ s.boots t (s.rdF .BOOT_STATUS 0 2 0)) ∧
   (∀ s : State, s.lc.erasing = none → exec .lcEraseEnd s = .next s)) ∧
  ((∀ (p : Path) (s : State), s.regOpen p .AON = true → s.lcFree →
     Gives (.lcToken p) s fun t => s.checkedToken t s.tokenBytes) ∧
   (∀ (b : List Byte) (s : State), s.lcFree → s.lc.tap.instr ≠ .extest → s.lcState ≠ 15 →
     Gives (.dbgToken b) s fun t => s.checkedToken t (bytesAt b 0 192) ∧ t.lc.tap = { s.lc.tap with instr := .dbgToken }) ∧
   (∀ (b : List Byte) (s : State), ¬ s.lcFree → s.lc.tap.instr ≠ .extest → s.lcState ≠ 15 →
     Gives (.dbgToken b) s fun t => t.rdF .LC_STATUS 0 7 4 = 1 ∧ t.lc = { s.lc with tap := { s.lc.tap with instr := .dbgToken } } ∧
       s.frame t [(.LC_STATUS, 0)] [.lc]) ∧
   (∀ (b : List Byte) (s : State), s.tokenCode b = 0 →
     s.lc.valid = true ∧ leAt b 0 4 = 0x4B54434C ∧ 1 ≤ leAt b 4 1 ∧ leAt b 4 1 ≤ 3 ∧ leAt b 8 8 = s.rd .LC_UID 0 ∧
     bytesAt b 16 32 = ((List.range 8).flatMap fun k => toLe 4 (s.rd .LC_CHALLENGE k)) ∧
     (s.keySlot (leAt b 5 1)).programmed = true ∧ (s.keySlot (leAt b 5 1)).revoked = false ∧
     (s.keySlot (leAt b 5 1)).verify (b.take 64) (bytesAt b 64 64) = true))

/-- The TAP (R424, R425): each instruction is selected and its data register captured; one that SCRAPPED does not have selects
BYPASS; what replaces EXTEST resets the device warm. What identity and revision IDCODE reads is left open (Config). The debug port
(R426, R427): without a scope DBG_ACCESS selects BYPASS; outside the scope an access reads 0, writes nothing and sets ERR; at
scope 2 it reads and writes memory as it stands; an access to the conductor space is a register access. The address is rounded
down to a multiple of 4 (the model's choice). -/
def Obligations.TapAndDebugPort : Prop :=
  ((∀ s : State, s.lc.tap.instr ≠ .extest →
     Gives .tapReset s (fun t => t = { s with lc := { s.lc with tap := { s.lc.tap with instr := .idcode } } }) ∧
     Gives .idcode s (fun t => t.lc.tap.instr = .idcode ∧
       t.lc.tap.dr = 1 + Config.manufacturer.toNat * 2 + 0x3280 * 4096 + Config.revision.toNat * 2 ^ 28 ∧
       t.lastRead = BitVec.ofNat 32 t.lc.tap.dr ∧ s.frame t [] [.lc, .lastRead]) ∧
     Gives .bypass s (fun t => t.lc.tap = { s.lc.tap with
       instr := .bypass
       dr := 0 } ∧ s.frame t [] [.lc, .lastRead])) ∧
   (∀ (bits sampled : List Bool) (s : State), s.lcState ≠ 15 →
     Gives (.extest bits) s (fun t => t.lc.tap.instr = .extest ∧ t.lc.tap.boundary = bits ∧ s.frame t [] [.lc]) ∧
     (s.lc.tap.instr ≠ .extest →
       Gives (.samplePreload sampled bits) s (fun t => t.lc.tap = { s.lc.tap with
         instr := .samplePreload
         sampled := sampled
         boundary := bits } ∧ s.frame t [] [.lc]) ∧
       Gives .dbgChal s (fun t => t.lc.tap.instr = .dbgChal ∧ s.frame t [] [.lc, .lastRead] ∧
         t.lc.tap.dr = sumN ((List.range 8).map fun k => s.rd .LC_CHALLENGE k * 2 ^ (32 * k))))) ∧
   (∀ (c : Instr) (a : Nat) (w : Bool) (d : Word) (b : List Byte) (x y : List Bool) (s : State), s.lcState = 15 →
     s.lc.tap.instr ≠ .extest →
     (c = .extest x ∨ c = .samplePreload x y ∨ c = .dbgChal ∨ c = .dbgToken b ∨ c = .dbgAccess a w d) →
     Gives c s fun t => t.lc.tap.instr = .bypass ∧ t.lc.tap.boundary = s.lc.tap.boundary ∧ s.frame t [] [.lc, .lastRead]) ∧
   (∀ (c : Instr) (code : Nat) (next : TapInstr) (s : State), s.lc.tap.instr = .extest → s.power.clock = false → s.tapPick next ≠ .extest →
     ((c = .extestExit code ∧ next = tapCode code) ∨ (c = .idcode ∧ next = .idcode) ∨ (c = .bypass ∧ next = .bypass) ∨ (c = .tapReset ∧ next = .idcode)) →
     Gives c s fun t => t.lc.tap.instr = s.tapPick next ∧ s.clearedBy t false ∧ s.keepsAon t ∧ s.keepsLpddr t ∧
       t.rdB .RST_CAUSE 0 2 = true ∧ s.boots t (s.rdF .BOOT_STATUS 0 2 0)) ∧
   (∀ (code : Nat) (s : State), s.lc.tap.instr ≠ .extest → exec (.extestExit code) s = .next s)) ∧
  ((∀ (a : Nat) (w : Bool) (d : Word) (s : State), s.lc.tap.instr ≠ .extest → s.dbgScope = 0 →
     Gives (.dbgAccess a w d) s fun t => t = { s with lc := { s.lc with tap := { s.lc.tap with instr := .bypass } } }) ∧
   (∀ (a : Nat) (w : Bool) (d : Word) (s : State), s.lc.tap.instr ≠ .extest → s.lcState ≠ 15 → s.dbgScope ≠ 0 →
     (s.region (a % 2 ^ 40 / 4 * 4) = .nothing ∨ (s.dbgScope ≠ 2 ∧ s.region (a % 2 ^ 40 / 4 * 4) ≠ .regSpace)) →
     Gives (.dbgAccess a w d) s fun t => t.lc.tap = { s.lc.tap with
       instr := .dbgAccess
       dr := 2 ^ 73 } ∧ t.lastRead = 0 ∧ s.frame t [] [.lc, .lastRead]) ∧
   (∀ (a : Nat) (d : Word) (s : State), s.lc.tap.instr ≠ .extest → s.lcState ≠ 15 → s.dbgScope = 2 → s.domUp .FABRIC = true →
     s.inMemory (a % 2 ^ 40 / 4 * 4) 4 →
     Gives (.dbgAccess a false d) s (fun t =>
       t.lc.tap.dr = leNat (s.readPhys (a % 2 ^ 40 / 4 * 4) 4) ∧ t.lastRead = BitVec.ofNat 32 t.lc.tap.dr ∧
       s.frame t [] [.lc, .lastRead]) ∧
     Gives (.dbgAccess a true d) s (fun t =>
       t.readPhys (a % 2 ^ 40 / 4 * 4) 4 = toLe 4 d.toNat ∧ t.lc.tap.dr = 0 ∧ s.onlyParts t [.mem, .lc, .lastRead] ∧
       (∀ r i, t.rd r i = s.rd r i) ∧
       (∀ pa, pa < a % 2 ^ 40 / 4 * 4 ∨ a % 2 ^ 40 / 4 * 4 + 4 ≤ pa → t.readByte pa = s.readByte pa))) ∧
   (∀ (a : Nat) (w : Bool) (d : Word) (s : State), s.lc.tap.instr ≠ .extest → s.lcState ≠ 15 → s.dbgScope ≠ 0 →
     s.region (a % 2 ^ 40 / 4 * 4) = .regSpace →
     Gives (.dbgAccess a w d) s fun t => ∃ u,
       exec (if w then .registerWrite .debug .conductor (a % 2 ^ 40 / 4 * 4 - 0x100000000) d
         else .registerReadClear .debug .conductor (a % 2 ^ 40 / 4 * 4 - 0x100000000))
         { s with lc := { s.lc with tap := { s.lc.tap with instr := .dbgAccess } } } = .next u ∧
       t = { u with
         lc := { u.lc with tap := { u.lc.tap with dr := t.lc.tap.dr } }
         lastRead := t.lastRead } ∧
       (w = true → t.lc.tap.dr = 0 ∧ t.lastRead = 0) ∧ (w = false → t.lastRead = u.lastRead ∧ t.lc.tap.dr % 2 ^ 32 = u.lastRead.toNat)))
end

