-- ==== Sys2Proof/Laws/State.lean ====
section
/-!
SUPPORT. What each named update leaves of every field of the state: one lemma per field per update.
-/

namespace Sys2Proof.Machine

/-! ### `wr` -/

section

variable (s : State) (r : RegId) (i : Nat) (n : Nat)

@[simp] theorem State.wr_latch : (s.wr r i n).latch = s.latch := rfl
@[simp] theorem State.wr_stage : (s.wr r i n).stage = s.stage := rfl
@[simp] theorem State.wr_mem : (s.wr r i n).mem = s.mem := rfl
@[simp] theorem State.wr_hostMem : (s.wr r i n).hostMem = s.hostMem := rfl
@[simp] theorem State.wr_flash : (s.wr r i n).flash = s.flash := rfl
@[simp] theorem State.wr_clock : (s.wr r i n).clock = s.clock := rfl
@[simp] theorem State.wr_load : (s.wr r i n).load = s.load := rfl
@[simp] theorem State.wr_tempo : (s.wr r i n).tempo = s.tempo := rfl
@[simp] theorem State.wr_queues : (s.wr r i n).queues = s.queues := rfl
@[simp] theorem State.wr_posts : (s.wr r i n).posts = s.posts := rfl
@[simp] theorem State.wr_trans : (s.wr r i n).trans = s.trans := rfl
@[simp] theorem State.wr_dma : (s.wr r i n).dma = s.dma := rfl
@[simp] theorem State.wr_arrivals : (s.wr r i n).arrivals = s.arrivals := rfl
@[simp] theorem State.wr_streams : (s.wr r i n).streams = s.streams := rfl
@[simp] theorem State.wr_ports : (s.wr r i n).ports = s.ports := rfl
@[simp] theorem State.wr_pipes : (s.wr r i n).pipes = s.pipes := rfl
@[simp] theorem State.wr_align : (s.wr r i n).align = s.align := rfl
@[simp] theorem State.wr_stats : (s.wr r i n).stats = s.stats := rfl
@[simp] theorem State.wr_locks : (s.wr r i n).locks = s.locks := rfl
@[simp] theorem State.wr_svc : (s.wr r i n).svc = s.svc := rfl
@[simp] theorem State.wr_cues : (s.wr r i n).cues = s.cues := rfl
@[simp] theorem State.wr_caps : (s.wr r i n).caps = s.caps := rfl
@[simp] theorem State.wr_servo : (s.wr r i n).servo = s.servo := rfl
@[simp] theorem State.wr_ptp : (s.wr r i n).ptp = s.ptp := rfl
@[simp] theorem State.wr_net : (s.wr r i n).net = s.net := rfl
@[simp] theorem State.wr_tie : (s.wr r i n).tie = s.tie := rfl
@[simp] theorem State.wr_proc : (s.wr r i n).proc = s.proc := rfl
@[simp] theorem State.wr_serial : (s.wr r i n).serial = s.serial := rfl
@[simp] theorem State.wr_checks : (s.wr r i n).checks = s.checks := rfl
@[simp] theorem State.wr_power : (s.wr r i n).power = s.power := rfl
@[simp] theorem State.wr_lc : (s.wr r i n).lc = s.lc := rfl
@[simp] theorem State.wr_ready : (s.wr r i n).ready = s.ready := rfl
@[simp] theorem State.wr_out : (s.wr r i n).out = s.out := rfl
@[simp] theorem State.wr_lastRead : (s.wr r i n).lastRead = s.lastRead := rfl
@[simp] theorem State.wr_fresh : (s.wr r i n).fresh = s.fresh := rfl
@[simp] theorem State.wr_cycle : (s.wr r i n).cycle = s.cycle := rfl
@[simp] theorem State.wr_pending : (s.wr r i n).pending = s.pending := rfl

end

/-! ### `wrF` -/

section

variable (s : State) (r : RegId) (i : Nat) (hi lo v : Nat)

@[simp] theorem State.wrF_latch : (s.wrF r i hi lo v).latch = s.latch := rfl
@[simp] theorem State.wrF_stage : (s.wrF r i hi lo v).stage = s.stage := rfl
@[simp] theorem State.wrF_mem : (s.wrF r i hi lo v).mem = s.mem := rfl
@[simp] theorem State.wrF_hostMem : (s.wrF r i hi lo v).hostMem = s.hostMem := rfl
@[simp] theorem State.wrF_flash : (s.wrF r i hi lo v).flash = s.flash := rfl
@[simp] theorem State.wrF_clock : (s.wrF r i hi lo v).clock = s.clock := rfl
@[simp] theorem State.wrF_load : (s.wrF r i hi lo v).load = s.load := rfl
@[simp] theorem State.wrF_tempo : (s.wrF r i hi lo v).tempo = s.tempo := rfl
@[simp] theorem State.wrF_queues : (s.wrF r i hi lo v).queues = s.queues := rfl
@[simp] theorem State.wrF_posts : (s.wrF r i hi lo v).posts = s.posts := rfl
@[simp] theorem State.wrF_trans : (s.wrF r i hi lo v).trans = s.trans := rfl
@[simp] theorem State.wrF_dma : (s.wrF r i hi lo v).dma = s.dma := rfl
@[simp] theorem State.wrF_arrivals : (s.wrF r i hi lo v).arrivals = s.arrivals := rfl
@[simp] theorem State.wrF_streams : (s.wrF r i hi lo v).streams = s.streams := rfl
@[simp] theorem State.wrF_ports : (s.wrF r i hi lo v).ports = s.ports := rfl
@[simp] theorem State.wrF_pipes : (s.wrF r i hi lo v).pipes = s.pipes := rfl
@[simp] theorem State.wrF_align : (s.wrF r i hi lo v).align = s.align := rfl
@[simp] theorem State.wrF_stats : (s.wrF r i hi lo v).stats = s.stats := rfl
@[simp] theorem State.wrF_locks : (s.wrF r i hi lo v).locks = s.locks := rfl
@[simp] theorem State.wrF_svc : (s.wrF r i hi lo v).svc = s.svc := rfl
@[simp] theorem State.wrF_cues : (s.wrF r i hi lo v).cues = s.cues := rfl
@[simp] theorem State.wrF_caps : (s.wrF r i hi lo v).caps = s.caps := rfl
@[simp] theorem State.wrF_servo : (s.wrF r i hi lo v).servo = s.servo := rfl
@[simp] theorem State.wrF_ptp : (s.wrF r i hi lo v).ptp = s.ptp := rfl
@[simp] theorem State.wrF_net : (s.wrF r i hi lo v).net = s.net := rfl
@[simp] theorem State.wrF_tie : (s.wrF r i hi lo v).tie = s.tie := rfl
@[simp] theorem State.wrF_proc : (s.wrF r i hi lo v).proc = s.proc := rfl
@[simp] theorem State.wrF_serial : (s.wrF r i hi lo v).serial = s.serial := rfl
@[simp] theorem State.wrF_checks : (s.wrF r i hi lo v).checks = s.checks := rfl
@[simp] theorem State.wrF_power : (s.wrF r i hi lo v).power = s.power := rfl
@[simp] theorem State.wrF_lc : (s.wrF r i hi lo v).lc = s.lc := rfl
@[simp] theorem State.wrF_ready : (s.wrF r i hi lo v).ready = s.ready := rfl
@[simp] theorem State.wrF_out : (s.wrF r i hi lo v).out = s.out := rfl
@[simp] theorem State.wrF_lastRead : (s.wrF r i hi lo v).lastRead = s.lastRead := rfl
@[simp] theorem State.wrF_fresh : (s.wrF r i hi lo v).fresh = s.fresh := rfl
@[simp] theorem State.wrF_cycle : (s.wrF r i hi lo v).cycle = s.cycle := rfl
@[simp] theorem State.wrF_pending : (s.wrF r i hi lo v).pending = s.pending := rfl

end

/-! ### `setB` -/

section

variable (s : State) (r : RegId) (i : Nat) (k : Nat)

@[simp] theorem State.setB_latch : (s.setB r i k).latch = s.latch := rfl
@[simp] theorem State.setB_stage : (s.setB r i k).stage = s.stage := rfl
@[simp] theorem State.setB_mem : (s.setB r i k).mem = s.mem := rfl
@[simp] theorem State.setB_hostMem : (s.setB r i k).hostMem = s.hostMem := rfl
@[simp] theorem State.setB_flash : (s.setB r i k).flash = s.flash := rfl
@[simp] theorem State.setB_clock : (s.setB r i k).clock = s.clock := rfl
@[simp] theorem State.setB_load : (s.setB r i k).load = s.load := rfl
@[simp] theorem State.setB_tempo : (s.setB r i k).tempo = s.tempo := rfl
@[simp] theorem State.setB_queues : (s.setB r i k).queues = s.queues := rfl
@[simp] theorem State.setB_posts : (s.setB r i k).posts = s.posts := rfl
@[simp] theorem State.setB_trans : (s.setB r i k).trans = s.trans := rfl
@[simp] theorem State.setB_dma : (s.setB r i k).dma = s.dma := rfl
@[simp] theorem State.setB_arrivals : (s.setB r i k).arrivals = s.arrivals := rfl
@[simp] theorem State.setB_streams : (s.setB r i k).streams = s.streams := rfl
@[simp] theorem State.setB_ports : (s.setB r i k).ports = s.ports := rfl
@[simp] theorem State.setB_pipes : (s.setB r i k).pipes = s.pipes := rfl
@[simp] theorem State.setB_align : (s.setB r i k).align = s.align := rfl
@[simp] theorem State.setB_stats : (s.setB r i k).stats = s.stats := rfl
@[simp] theorem State.setB_locks : (s.setB r i k).locks = s.locks := rfl
@[simp] theorem State.setB_svc : (s.setB r i k).svc = s.svc := rfl
@[simp] theorem State.setB_cues : (s.setB r i k).cues = s.cues := rfl
@[simp] theorem State.setB_caps : (s.setB r i k).caps = s.caps := rfl
@[simp] theorem State.setB_servo : (s.setB r i k).servo = s.servo := rfl
@[simp] theorem State.setB_ptp : (s.setB r i k).ptp = s.ptp := rfl
@[simp] theorem State.setB_net : (s.setB r i k).net = s.net := rfl
@[simp] theorem State.setB_tie : (s.setB r i k).tie = s.tie := rfl
@[simp] theorem State.setB_proc : (s.setB r i k).proc = s.proc := rfl
@[simp] theorem State.setB_serial : (s.setB r i k).serial = s.serial := rfl
@[simp] theorem State.setB_checks : (s.setB r i k).checks = s.checks := rfl
@[simp] theorem State.setB_power : (s.setB r i k).power = s.power := rfl
@[simp] theorem State.setB_lc : (s.setB r i k).lc = s.lc := rfl
@[simp] theorem State.setB_ready : (s.setB r i k).ready = s.ready := rfl
@[simp] theorem State.setB_out : (s.setB r i k).out = s.out := rfl
@[simp] theorem State.setB_lastRead : (s.setB r i k).lastRead = s.lastRead := rfl
@[simp] theorem State.setB_fresh : (s.setB r i k).fresh = s.fresh := rfl
@[simp] theorem State.setB_cycle : (s.setB r i k).cycle = s.cycle := rfl
@[simp] theorem State.setB_pending : (s.setB r i k).pending = s.pending := rfl

end

/-! ### `clrB` -/

section

variable (s : State) (r : RegId) (i : Nat) (k : Nat)

@[simp] theorem State.clrB_latch : (s.clrB r i k).latch = s.latch := rfl
@[simp] theorem State.clrB_stage : (s.clrB r i k).stage = s.stage := rfl
@[simp] theorem State.clrB_mem : (s.clrB r i k).mem = s.mem := rfl
@[simp] theorem State.clrB_hostMem : (s.clrB r i k).hostMem = s.hostMem := rfl
@[simp] theorem State.clrB_flash : (s.clrB r i k).flash = s.flash := rfl
@[simp] theorem State.clrB_clock : (s.clrB r i k).clock = s.clock := rfl
@[simp] theorem State.clrB_load : (s.clrB r i k).load = s.load := rfl
@[simp] theorem State.clrB_tempo : (s.clrB r i k).tempo = s.tempo := rfl
@[simp] theorem State.clrB_queues : (s.clrB r i k).queues = s.queues := rfl
@[simp] theorem State.clrB_posts : (s.clrB r i k).posts = s.posts := rfl
@[simp] theorem State.clrB_trans : (s.clrB r i k).trans = s.trans := rfl
@[simp] theorem State.clrB_dma : (s.clrB r i k).dma = s.dma := rfl
@[simp] theorem State.clrB_arrivals : (s.clrB r i k).arrivals = s.arrivals := rfl
@[simp] theorem State.clrB_streams : (s.clrB r i k).streams = s.streams := rfl
@[simp] theorem State.clrB_ports : (s.clrB r i k).ports = s.ports := rfl
@[simp] theorem State.clrB_pipes : (s.clrB r i k).pipes = s.pipes := rfl
@[simp] theorem State.clrB_align : (s.clrB r i k).align = s.align := rfl
@[simp] theorem State.clrB_stats : (s.clrB r i k).stats = s.stats := rfl
@[simp] theorem State.clrB_locks : (s.clrB r i k).locks = s.locks := rfl
@[simp] theorem State.clrB_svc : (s.clrB r i k).svc = s.svc := rfl
@[simp] theorem State.clrB_cues : (s.clrB r i k).cues = s.cues := rfl
@[simp] theorem State.clrB_caps : (s.clrB r i k).caps = s.caps := rfl
@[simp] theorem State.clrB_servo : (s.clrB r i k).servo = s.servo := rfl
@[simp] theorem State.clrB_ptp : (s.clrB r i k).ptp = s.ptp := rfl
@[simp] theorem State.clrB_net : (s.clrB r i k).net = s.net := rfl
@[simp] theorem State.clrB_tie : (s.clrB r i k).tie = s.tie := rfl
@[simp] theorem State.clrB_proc : (s.clrB r i k).proc = s.proc := rfl
@[simp] theorem State.clrB_serial : (s.clrB r i k).serial = s.serial := rfl
@[simp] theorem State.clrB_checks : (s.clrB r i k).checks = s.checks := rfl
@[simp] theorem State.clrB_power : (s.clrB r i k).power = s.power := rfl
@[simp] theorem State.clrB_lc : (s.clrB r i k).lc = s.lc := rfl
@[simp] theorem State.clrB_ready : (s.clrB r i k).ready = s.ready := rfl
@[simp] theorem State.clrB_out : (s.clrB r i k).out = s.out := rfl
@[simp] theorem State.clrB_lastRead : (s.clrB r i k).lastRead = s.lastRead := rfl
@[simp] theorem State.clrB_fresh : (s.clrB r i k).fresh = s.fresh := rfl
@[simp] theorem State.clrB_cycle : (s.clrB r i k).cycle = s.cycle := rfl
@[simp] theorem State.clrB_pending : (s.clrB r i k).pending = s.pending := rfl

end

/-! ### `addF` -/

section

variable (s : State) (r : RegId) (i : Nat) (hi lo n : Nat)

@[simp] theorem State.addF_latch : (s.addF r i hi lo n).latch = s.latch := rfl
@[simp] theorem State.addF_stage : (s.addF r i hi lo n).stage = s.stage := rfl
@[simp] theorem State.addF_mem : (s.addF r i hi lo n).mem = s.mem := rfl
@[simp] theorem State.addF_hostMem : (s.addF r i hi lo n).hostMem = s.hostMem := rfl
@[simp] theorem State.addF_flash : (s.addF r i hi lo n).flash = s.flash := rfl
@[simp] theorem State.addF_clock : (s.addF r i hi lo n).clock = s.clock := rfl
@[simp] theorem State.addF_load : (s.addF r i hi lo n).load = s.load := rfl
@[simp] theorem State.addF_tempo : (s.addF r i hi lo n).tempo = s.tempo := rfl
@[simp] theorem State.addF_queues : (s.addF r i hi lo n).queues = s.queues := rfl
@[simp] theorem State.addF_posts : (s.addF r i hi lo n).posts = s.posts := rfl
@[simp] theorem State.addF_trans : (s.addF r i hi lo n).trans = s.trans := rfl
@[simp] theorem State.addF_dma : (s.addF r i hi lo n).dma = s.dma := rfl
@[simp] theorem State.addF_arrivals : (s.addF r i hi lo n).arrivals = s.arrivals := rfl
@[simp] theorem State.addF_streams : (s.addF r i hi lo n).streams = s.streams := rfl
@[simp] theorem State.addF_ports : (s.addF r i hi lo n).ports = s.ports := rfl
@[simp] theorem State.addF_pipes : (s.addF r i hi lo n).pipes = s.pipes := rfl
@[simp] theorem State.addF_align : (s.addF r i hi lo n).align = s.align := rfl
@[simp] theorem State.addF_stats : (s.addF r i hi lo n).stats = s.stats := rfl
@[simp] theorem State.addF_locks : (s.addF r i hi lo n).locks = s.locks := rfl
@[simp] theorem State.addF_svc : (s.addF r i hi lo n).svc = s.svc := rfl
@[simp] theorem State.addF_cues : (s.addF r i hi lo n).cues = s.cues := rfl
@[simp] theorem State.addF_caps : (s.addF r i hi lo n).caps = s.caps := rfl
@[simp] theorem State.addF_servo : (s.addF r i hi lo n).servo = s.servo := rfl
@[simp] theorem State.addF_ptp : (s.addF r i hi lo n).ptp = s.ptp := rfl
@[simp] theorem State.addF_net : (s.addF r i hi lo n).net = s.net := rfl
@[simp] theorem State.addF_tie : (s.addF r i hi lo n).tie = s.tie := rfl
@[simp] theorem State.addF_proc : (s.addF r i hi lo n).proc = s.proc := rfl
@[simp] theorem State.addF_serial : (s.addF r i hi lo n).serial = s.serial := rfl
@[simp] theorem State.addF_checks : (s.addF r i hi lo n).checks = s.checks := rfl
@[simp] theorem State.addF_power : (s.addF r i hi lo n).power = s.power := rfl
@[simp] theorem State.addF_lc : (s.addF r i hi lo n).lc = s.lc := rfl
@[simp] theorem State.addF_ready : (s.addF r i hi lo n).ready = s.ready := rfl
@[simp] theorem State.addF_out : (s.addF r i hi lo n).out = s.out := rfl
@[simp] theorem State.addF_lastRead : (s.addF r i hi lo n).lastRead = s.lastRead := rfl
@[simp] theorem State.addF_fresh : (s.addF r i hi lo n).fresh = s.fresh := rfl
@[simp] theorem State.addF_cycle : (s.addF r i hi lo n).cycle = s.cycle := rfl
@[simp] theorem State.addF_pending : (s.addF r i hi lo n).pending = s.pending := rfl

end

/-! ### `bump` -/

section

variable (s : State) (r : RegId) (i : Nat)

@[simp] theorem State.bump_latch : (s.bump r i).latch = s.latch := rfl
@[simp] theorem State.bump_stage : (s.bump r i).stage = s.stage := rfl
@[simp] theorem State.bump_mem : (s.bump r i).mem = s.mem := rfl
@[simp] theorem State.bump_hostMem : (s.bump r i).hostMem = s.hostMem := rfl
@[simp] theorem State.bump_flash : (s.bump r i).flash = s.flash := rfl
@[simp] theorem State.bump_clock : (s.bump r i).clock = s.clock := rfl
@[simp] theorem State.bump_load : (s.bump r i).load = s.load := rfl
@[simp] theorem State.bump_tempo : (s.bump r i).tempo = s.tempo := rfl
@[simp] theorem State.bump_queues : (s.bump r i).queues = s.queues := rfl
@[simp] theorem State.bump_posts : (s.bump r i).posts = s.posts := rfl
@[simp] theorem State.bump_trans : (s.bump r i).trans = s.trans := rfl
@[simp] theorem State.bump_dma : (s.bump r i).dma = s.dma := rfl
@[simp] theorem State.bump_arrivals : (s.bump r i).arrivals = s.arrivals := rfl
@[simp] theorem State.bump_streams : (s.bump r i).streams = s.streams := rfl
@[simp] theorem State.bump_ports : (s.bump r i).ports = s.ports := rfl
@[simp] theorem State.bump_pipes : (s.bump r i).pipes = s.pipes := rfl
@[simp] theorem State.bump_align : (s.bump r i).align = s.align := rfl
@[simp] theorem State.bump_stats : (s.bump r i).stats = s.stats := rfl
@[simp] theorem State.bump_locks : (s.bump r i).locks = s.locks := rfl
@[simp] theorem State.bump_svc : (s.bump r i).svc = s.svc := rfl
@[simp] theorem State.bump_cues : (s.bump r i).cues = s.cues := rfl
@[simp] theorem State.bump_caps : (s.bump r i).caps = s.caps := rfl
@[simp] theorem State.bump_servo : (s.bump r i).servo = s.servo := rfl
@[simp] theorem State.bump_ptp : (s.bump r i).ptp = s.ptp := rfl
@[simp] theorem State.bump_net : (s.bump r i).net = s.net := rfl
@[simp] theorem State.bump_tie : (s.bump r i).tie = s.tie := rfl
@[simp] theorem State.bump_proc : (s.bump r i).proc = s.proc := rfl
@[simp] theorem State.bump_serial : (s.bump r i).serial = s.serial := rfl
@[simp] theorem State.bump_checks : (s.bump r i).checks = s.checks := rfl
@[simp] theorem State.bump_power : (s.bump r i).power = s.power := rfl
@[simp] theorem State.bump_lc : (s.bump r i).lc = s.lc := rfl
@[simp] theorem State.bump_ready : (s.bump r i).ready = s.ready := rfl
@[simp] theorem State.bump_out : (s.bump r i).out = s.out := rfl
@[simp] theorem State.bump_lastRead : (s.bump r i).lastRead = s.lastRead := rfl
@[simp] theorem State.bump_fresh : (s.bump r i).fresh = s.fresh := rfl
@[simp] theorem State.bump_cycle : (s.bump r i).cycle = s.cycle := rfl
@[simp] theorem State.bump_pending : (s.bump r i).pending = s.pending := rfl

end

/-! ### `addWrap` -/

section

variable (s : State) (r : RegId) (i : Nat) (n : Nat)

@[simp] theorem State.addWrap_latch : (s.addWrap r i n).latch = s.latch := rfl
@[simp] theorem State.addWrap_stage : (s.addWrap r i n).stage = s.stage := rfl
@[simp] theorem State.addWrap_mem : (s.addWrap r i n).mem = s.mem := rfl
@[simp] theorem State.addWrap_hostMem : (s.addWrap r i n).hostMem = s.hostMem := rfl
@[simp] theorem State.addWrap_flash : (s.addWrap r i n).flash = s.flash := rfl
@[simp] theorem State.addWrap_clock : (s.addWrap r i n).clock = s.clock := rfl
@[simp] theorem State.addWrap_load : (s.addWrap r i n).load = s.load := rfl
@[simp] theorem State.addWrap_tempo : (s.addWrap r i n).tempo = s.tempo := rfl
@[simp] theorem State.addWrap_queues : (s.addWrap r i n).queues = s.queues := rfl
@[simp] theorem State.addWrap_posts : (s.addWrap r i n).posts = s.posts := rfl
@[simp] theorem State.addWrap_trans : (s.addWrap r i n).trans = s.trans := rfl
@[simp] theorem State.addWrap_dma : (s.addWrap r i n).dma = s.dma := rfl
@[simp] theorem State.addWrap_arrivals : (s.addWrap r i n).arrivals = s.arrivals := rfl
@[simp] theorem State.addWrap_streams : (s.addWrap r i n).streams = s.streams := rfl
@[simp] theorem State.addWrap_ports : (s.addWrap r i n).ports = s.ports := rfl
@[simp] theorem State.addWrap_pipes : (s.addWrap r i n).pipes = s.pipes := rfl
@[simp] theorem State.addWrap_align : (s.addWrap r i n).align = s.align := rfl
@[simp] theorem State.addWrap_stats : (s.addWrap r i n).stats = s.stats := rfl
@[simp] theorem State.addWrap_locks : (s.addWrap r i n).locks = s.locks := rfl
@[simp] theorem State.addWrap_svc : (s.addWrap r i n).svc = s.svc := rfl
@[simp] theorem State.addWrap_cues : (s.addWrap r i n).cues = s.cues := rfl
@[simp] theorem State.addWrap_caps : (s.addWrap r i n).caps = s.caps := rfl
@[simp] theorem State.addWrap_servo : (s.addWrap r i n).servo = s.servo := rfl
@[simp] theorem State.addWrap_ptp : (s.addWrap r i n).ptp = s.ptp := rfl
@[simp] theorem State.addWrap_net : (s.addWrap r i n).net = s.net := rfl
@[simp] theorem State.addWrap_tie : (s.addWrap r i n).tie = s.tie := rfl
@[simp] theorem State.addWrap_proc : (s.addWrap r i n).proc = s.proc := rfl
@[simp] theorem State.addWrap_serial : (s.addWrap r i n).serial = s.serial := rfl
@[simp] theorem State.addWrap_checks : (s.addWrap r i n).checks = s.checks := rfl
@[simp] theorem State.addWrap_power : (s.addWrap r i n).power = s.power := rfl
@[simp] theorem State.addWrap_lc : (s.addWrap r i n).lc = s.lc := rfl
@[simp] theorem State.addWrap_ready : (s.addWrap r i n).ready = s.ready := rfl
@[simp] theorem State.addWrap_out : (s.addWrap r i n).out = s.out := rfl
@[simp] theorem State.addWrap_lastRead : (s.addWrap r i n).lastRead = s.lastRead := rfl
@[simp] theorem State.addWrap_fresh : (s.addWrap r i n).fresh = s.fresh := rfl
@[simp] theorem State.addWrap_cycle : (s.addWrap r i n).cycle = s.cycle := rfl
@[simp] theorem State.addWrap_pending : (s.addWrap r i n).pending = s.pending := rfl

end

/-! ### `resetReg` -/

section

variable (s : State) (r : RegId) (i : Nat)

@[simp] theorem State.resetReg_mem : (s.resetReg r i).mem = s.mem := rfl
@[simp] theorem State.resetReg_hostMem : (s.resetReg r i).hostMem = s.hostMem := rfl
@[simp] theorem State.resetReg_flash : (s.resetReg r i).flash = s.flash := rfl
@[simp] theorem State.resetReg_clock : (s.resetReg r i).clock = s.clock := rfl
@[simp] theorem State.resetReg_load : (s.resetReg r i).load = s.load := rfl
@[simp] theorem State.resetReg_tempo : (s.resetReg r i).tempo = s.tempo := rfl
@[simp] theorem State.resetReg_queues : (s.resetReg r i).queues = s.queues := rfl
@[simp] theorem State.resetReg_posts : (s.resetReg r i).posts = s.posts := rfl
@[simp] theorem State.resetReg_trans : (s.resetReg r i).trans = s.trans := rfl
@[simp] theorem State.resetReg_dma : (s.resetReg r i).dma = s.dma := rfl
@[simp] theorem State.resetReg_arrivals : (s.resetReg r i).arrivals = s.arrivals := rfl
@[simp] theorem State.resetReg_streams : (s.resetReg r i).streams = s.streams := rfl
@[simp] theorem State.resetReg_ports : (s.resetReg r i).ports = s.ports := rfl
@[simp] theorem State.resetReg_pipes : (s.resetReg r i).pipes = s.pipes := rfl
@[simp] theorem State.resetReg_align : (s.resetReg r i).align = s.align := rfl
@[simp] theorem State.resetReg_stats : (s.resetReg r i).stats = s.stats := rfl
@[simp] theorem State.resetReg_locks : (s.resetReg r i).locks = s.locks := rfl
@[simp] theorem State.resetReg_svc : (s.resetReg r i).svc = s.svc := rfl
@[simp] theorem State.resetReg_cues : (s.resetReg r i).cues = s.cues := rfl
@[simp] theorem State.resetReg_caps : (s.resetReg r i).caps = s.caps := rfl
@[simp] theorem State.resetReg_servo : (s.resetReg r i).servo = s.servo := rfl
@[simp] theorem State.resetReg_ptp : (s.resetReg r i).ptp = s.ptp := rfl
@[simp] theorem State.resetReg_net : (s.resetReg r i).net = s.net := rfl
@[simp] theorem State.resetReg_tie : (s.resetReg r i).tie = s.tie := rfl
@[simp] theorem State.resetReg_proc : (s.resetReg r i).proc = s.proc := rfl
@[simp] theorem State.resetReg_serial : (s.resetReg r i).serial = s.serial := rfl
@[simp] theorem State.resetReg_checks : (s.resetReg r i).checks = s.checks := rfl
@[simp] theorem State.resetReg_power : (s.resetReg r i).power = s.power := rfl
@[simp] theorem State.resetReg_lc : (s.resetReg r i).lc = s.lc := rfl
@[simp] theorem State.resetReg_ready : (s.resetReg r i).ready = s.ready := rfl
@[simp] theorem State.resetReg_out : (s.resetReg r i).out = s.out := rfl
@[simp] theorem State.resetReg_lastRead : (s.resetReg r i).lastRead = s.lastRead := rfl
@[simp] theorem State.resetReg_fresh : (s.resetReg r i).fresh = s.fresh := rfl
@[simp] theorem State.resetReg_cycle : (s.resetReg r i).cycle = s.cycle := rfl
@[simp] theorem State.resetReg_pending : (s.resetReg r i).pending = s.pending := rfl

end

/-! ### `resetBlock` -/

section

variable (s : State) (rs : List RegId) (keep : RegId → Nat → Bool)

@[simp] theorem State.resetBlock_mem : (s.resetBlock rs keep).mem = s.mem := rfl
@[simp] theorem State.resetBlock_hostMem : (s.resetBlock rs keep).hostMem = s.hostMem := rfl
@[simp] theorem State.resetBlock_flash : (s.resetBlock rs keep).flash = s.flash := rfl
@[simp] theorem State.resetBlock_clock : (s.resetBlock rs keep).clock = s.clock := rfl
@[simp] theorem State.resetBlock_load : (s.resetBlock rs keep).load = s.load := rfl
@[simp] theorem State.resetBlock_tempo : (s.resetBlock rs keep).tempo = s.tempo := rfl
@[simp] theorem State.resetBlock_queues : (s.resetBlock rs keep).queues = s.queues := rfl
@[simp] theorem State.resetBlock_posts : (s.resetBlock rs keep).posts = s.posts := rfl
@[simp] theorem State.resetBlock_trans : (s.resetBlock rs keep).trans = s.trans := rfl
@[simp] theorem State.resetBlock_dma : (s.resetBlock rs keep).dma = s.dma := rfl
@[simp] theorem State.resetBlock_arrivals : (s.resetBlock rs keep).arrivals = s.arrivals := rfl
@[simp] theorem State.resetBlock_streams : (s.resetBlock rs keep).streams = s.streams := rfl
@[simp] theorem State.resetBlock_ports : (s.resetBlock rs keep).ports = s.ports := rfl
@[simp] theorem State.resetBlock_pipes : (s.resetBlock rs keep).pipes = s.pipes := rfl
@[simp] theorem State.resetBlock_align : (s.resetBlock rs keep).align = s.align := rfl
@[simp] theorem State.resetBlock_stats : (s.resetBlock rs keep).stats = s.stats := rfl
@[simp] theorem State.resetBlock_locks : (s.resetBlock rs keep).locks = s.locks := rfl
@[simp] theorem State.resetBlock_svc : (s.resetBlock rs keep).svc = s.svc := rfl
@[simp] theorem State.resetBlock_cues : (s.resetBlock rs keep).cues = s.cues := rfl
@[simp] theorem State.resetBlock_caps : (s.resetBlock rs keep).caps = s.caps := rfl
@[simp] theorem State.resetBlock_servo : (s.resetBlock rs keep).servo = s.servo := rfl
@[simp] theorem State.resetBlock_ptp : (s.resetBlock rs keep).ptp = s.ptp := rfl
@[simp] theorem State.resetBlock_net : (s.resetBlock rs keep).net = s.net := rfl
@[simp] theorem State.resetBlock_tie : (s.resetBlock rs keep).tie = s.tie := rfl
@[simp] theorem State.resetBlock_proc : (s.resetBlock rs keep).proc = s.proc := rfl
@[simp] theorem State.resetBlock_serial : (s.resetBlock rs keep).serial = s.serial := rfl
@[simp] theorem State.resetBlock_checks : (s.resetBlock rs keep).checks = s.checks := rfl
@[simp] theorem State.resetBlock_power : (s.resetBlock rs keep).power = s.power := rfl
@[simp] theorem State.resetBlock_lc : (s.resetBlock rs keep).lc = s.lc := rfl
@[simp] theorem State.resetBlock_ready : (s.resetBlock rs keep).ready = s.ready := rfl
@[simp] theorem State.resetBlock_out : (s.resetBlock rs keep).out = s.out := rfl
@[simp] theorem State.resetBlock_lastRead : (s.resetBlock rs keep).lastRead = s.lastRead := rfl
@[simp] theorem State.resetBlock_fresh : (s.resetBlock rs keep).fresh = s.fresh := rfl
@[simp] theorem State.resetBlock_cycle : (s.resetBlock rs keep).cycle = s.cycle := rfl
@[simp] theorem State.resetBlock_pending : (s.resetBlock rs keep).pending = s.pending := rfl

end

/-! ### `emit` -/

section

variable (s : State) (o : Out)

@[simp] theorem State.emit_regs : (s.emit o).regs = s.regs := rfl
@[simp] theorem State.emit_latch : (s.emit o).latch = s.latch := rfl
@[simp] theorem State.emit_stage : (s.emit o).stage = s.stage := rfl
@[simp] theorem State.emit_mem : (s.emit o).mem = s.mem := rfl
@[simp] theorem State.emit_hostMem : (s.emit o).hostMem = s.hostMem := rfl
@[simp] theorem State.emit_flash : (s.emit o).flash = s.flash := rfl
@[simp] theorem State.emit_clock : (s.emit o).clock = s.clock := rfl
@[simp] theorem State.emit_load : (s.emit o).load = s.load := rfl
@[simp] theorem State.emit_tempo : (s.emit o).tempo = s.tempo := rfl
@[simp] theorem State.emit_queues : (s.emit o).queues = s.queues := rfl
@[simp] theorem State.emit_posts : (s.emit o).posts = s.posts := rfl
@[simp] theorem State.emit_trans : (s.emit o).trans = s.trans := rfl
@[simp] theorem State.emit_dma : (s.emit o).dma = s.dma := rfl
@[simp] theorem State.emit_arrivals : (s.emit o).arrivals = s.arrivals := rfl
@[simp] theorem State.emit_streams : (s.emit o).streams = s.streams := rfl
@[simp] theorem State.emit_ports : (s.emit o).ports = s.ports := rfl
@[simp] theorem State.emit_pipes : (s.emit o).pipes = s.pipes := rfl
@[simp] theorem State.emit_align : (s.emit o).align = s.align := rfl
@[simp] theorem State.emit_stats : (s.emit o).stats = s.stats := rfl
@[simp] theorem State.emit_locks : (s.emit o).locks = s.locks := rfl
@[simp] theorem State.emit_svc : (s.emit o).svc = s.svc := rfl
@[simp] theorem State.emit_cues : (s.emit o).cues = s.cues := rfl
@[simp] theorem State.emit_caps : (s.emit o).caps = s.caps := rfl
@[simp] theorem State.emit_servo : (s.emit o).servo = s.servo := rfl
@[simp] theorem State.emit_ptp : (s.emit o).ptp = s.ptp := rfl
@[simp] theorem State.emit_net : (s.emit o).net = s.net := rfl
@[simp] theorem State.emit_tie : (s.emit o).tie = s.tie := rfl
@[simp] theorem State.emit_proc : (s.emit o).proc = s.proc := rfl
@[simp] theorem State.emit_serial : (s.emit o).serial = s.serial := rfl
@[simp] theorem State.emit_checks : (s.emit o).checks = s.checks := rfl
@[simp] theorem State.emit_power : (s.emit o).power = s.power := rfl
@[simp] theorem State.emit_lc : (s.emit o).lc = s.lc := rfl
@[simp] theorem State.emit_ready : (s.emit o).ready = s.ready := rfl
@[simp] theorem State.emit_lastRead : (s.emit o).lastRead = s.lastRead := rfl
@[simp] theorem State.emit_fresh : (s.emit o).fresh = s.fresh := rfl
@[simp] theorem State.emit_cycle : (s.emit o).cycle = s.cycle := rfl
@[simp] theorem State.emit_pending : (s.emit o).pending = s.pending := rfl

end

/-! ### `setClk` -/

section

variable (s : State) (c : Clock)

@[simp] theorem State.setClk_regs : (s.setClk c).regs = s.regs := rfl
@[simp] theorem State.setClk_latch : (s.setClk c).latch = s.latch := rfl
@[simp] theorem State.setClk_stage : (s.setClk c).stage = s.stage := rfl
@[simp] theorem State.setClk_mem : (s.setClk c).mem = s.mem := rfl
@[simp] theorem State.setClk_hostMem : (s.setClk c).hostMem = s.hostMem := rfl
@[simp] theorem State.setClk_flash : (s.setClk c).flash = s.flash := rfl
@[simp] theorem State.setClk_load : (s.setClk c).load = s.load := rfl
@[simp] theorem State.setClk_tempo : (s.setClk c).tempo = s.tempo := rfl
@[simp] theorem State.setClk_queues : (s.setClk c).queues = s.queues := rfl
@[simp] theorem State.setClk_posts : (s.setClk c).posts = s.posts := rfl
@[simp] theorem State.setClk_trans : (s.setClk c).trans = s.trans := rfl
@[simp] theorem State.setClk_dma : (s.setClk c).dma = s.dma := rfl
@[simp] theorem State.setClk_arrivals : (s.setClk c).arrivals = s.arrivals := rfl
@[simp] theorem State.setClk_streams : (s.setClk c).streams = s.streams := rfl
@[simp] theorem State.setClk_ports : (s.setClk c).ports = s.ports := rfl
@[simp] theorem State.setClk_pipes : (s.setClk c).pipes = s.pipes := rfl
@[simp] theorem State.setClk_align : (s.setClk c).align = s.align := rfl
@[simp] theorem State.setClk_stats : (s.setClk c).stats = s.stats := rfl
@[simp] theorem State.setClk_locks : (s.setClk c).locks = s.locks := rfl
@[simp] theorem State.setClk_svc : (s.setClk c).svc = s.svc := rfl
@[simp] theorem State.setClk_cues : (s.setClk c).cues = s.cues := rfl
@[simp] theorem State.setClk_caps : (s.setClk c).caps = s.caps := rfl
@[simp] theorem State.setClk_servo : (s.setClk c).servo = s.servo := rfl
@[simp] theorem State.setClk_ptp : (s.setClk c).ptp = s.ptp := rfl
@[simp] theorem State.setClk_net : (s.setClk c).net = s.net := rfl
@[simp] theorem State.setClk_tie : (s.setClk c).tie = s.tie := rfl
@[simp] theorem State.setClk_proc : (s.setClk c).proc = s.proc := rfl
@[simp] theorem State.setClk_serial : (s.setClk c).serial = s.serial := rfl
@[simp] theorem State.setClk_checks : (s.setClk c).checks = s.checks := rfl
@[simp] theorem State.setClk_power : (s.setClk c).power = s.power := rfl
@[simp] theorem State.setClk_lc : (s.setClk c).lc = s.lc := rfl
@[simp] theorem State.setClk_ready : (s.setClk c).ready = s.ready := rfl
@[simp] theorem State.setClk_out : (s.setClk c).out = s.out := rfl
@[simp] theorem State.setClk_lastRead : (s.setClk c).lastRead = s.lastRead := rfl
@[simp] theorem State.setClk_fresh : (s.setClk c).fresh = s.fresh := rfl
@[simp] theorem State.setClk_cycle : (s.setClk c).cycle = s.cycle := rfl
@[simp] theorem State.setClk_pending : (s.setClk c).pending = s.pending := rfl

end

/-! ### `ticks` -/

section

variable (s : State) (n : Nat)

@[simp] theorem State.ticks_regs : (s.ticks n).regs = s.regs := s.setClk_regs _
@[simp] theorem State.ticks_latch : (s.ticks n).latch = s.latch := s.setClk_latch _
@[simp] theorem State.ticks_stage : (s.ticks n).stage = s.stage := s.setClk_stage _
@[simp] theorem State.ticks_mem : (s.ticks n).mem = s.mem := s.setClk_mem _
@[simp] theorem State.ticks_hostMem : (s.ticks n).hostMem = s.hostMem := s.setClk_hostMem _
@[simp] theorem State.ticks_flash : (s.ticks n).flash = s.flash := s.setClk_flash _
@[simp] theorem State.ticks_load : (s.ticks n).load = s.load := s.setClk_load _
@[simp] theorem State.ticks_tempo : (s.ticks n).tempo = s.tempo := s.setClk_tempo _
@[simp] theorem State.ticks_queues : (s.ticks n).queues = s.queues := s.setClk_queues _
@[simp] theorem State.ticks_posts : (s.ticks n).posts = s.posts := s.setClk_posts _
@[simp] theorem State.ticks_trans : (s.ticks n).trans = s.trans := s.setClk_trans _
@[simp] theorem State.ticks_dma : (s.ticks n).dma = s.dma := s.setClk_dma _
@[simp] theorem State.ticks_arrivals : (s.ticks n).arrivals = s.arrivals := s.setClk_arrivals _
@[simp] theorem State.ticks_streams : (s.ticks n).streams = s.streams := s.setClk_streams _
@[simp] theorem State.ticks_ports : (s.ticks n).ports = s.ports := s.setClk_ports _
@[simp] theorem State.ticks_pipes : (s.ticks n).pipes = s.pipes := s.setClk_pipes _
@[simp] theorem State.ticks_align : (s.ticks n).align = s.align := s.setClk_align _
@[simp] theorem State.ticks_stats : (s.ticks n).stats = s.stats := s.setClk_stats _
@[simp] theorem State.ticks_locks : (s.ticks n).locks = s.locks := s.setClk_locks _
@[simp] theorem State.ticks_svc : (s.ticks n).svc = s.svc := s.setClk_svc _
@[simp] theorem State.ticks_cues : (s.ticks n).cues = s.cues := s.setClk_cues _
@[simp] theorem State.ticks_caps : (s.ticks n).caps = s.caps := s.setClk_caps _
@[simp] theorem State.ticks_servo : (s.ticks n).servo = s.servo := s.setClk_servo _
@[simp] theorem State.ticks_ptp : (s.ticks n).ptp = s.ptp := s.setClk_ptp _
@[simp] theorem State.ticks_net : (s.ticks n).net = s.net := s.setClk_net _
@[simp] theorem State.ticks_tie : (s.ticks n).tie = s.tie := s.setClk_tie _
@[simp] theorem State.ticks_proc : (s.ticks n).proc = s.proc := s.setClk_proc _
@[simp] theorem State.ticks_serial : (s.ticks n).serial = s.serial := s.setClk_serial _
@[simp] theorem State.ticks_checks : (s.ticks n).checks = s.checks := s.setClk_checks _
@[simp] theorem State.ticks_power : (s.ticks n).power = s.power := s.setClk_power _
@[simp] theorem State.ticks_lc : (s.ticks n).lc = s.lc := s.setClk_lc _
@[simp] theorem State.ticks_ready : (s.ticks n).ready = s.ready := s.setClk_ready _
@[simp] theorem State.ticks_out : (s.ticks n).out = s.out := s.setClk_out _
@[simp] theorem State.ticks_lastRead : (s.ticks n).lastRead = s.lastRead := s.setClk_lastRead _
@[simp] theorem State.ticks_fresh : (s.ticks n).fresh = s.fresh := s.setClk_fresh _
@[simp] theorem State.ticks_cycle : (s.ticks n).cycle = s.cycle := s.setClk_cycle _
@[simp] theorem State.ticks_pending : (s.ticks n).pending = s.pending := s.setClk_pending _

end

/-! ### `runTo` -/

section

variable (s : State) (t : Nat)

@[simp] theorem State.runTo_regs : (s.runTo t).regs = s.regs := s.setClk_regs _
@[simp] theorem State.runTo_latch : (s.runTo t).latch = s.latch := s.setClk_latch _
@[simp] theorem State.runTo_stage : (s.runTo t).stage = s.stage := s.setClk_stage _
@[simp] theorem State.runTo_mem : (s.runTo t).mem = s.mem := s.setClk_mem _
@[simp] theorem State.runTo_hostMem : (s.runTo t).hostMem = s.hostMem := s.setClk_hostMem _
@[simp] theorem State.runTo_flash : (s.runTo t).flash = s.flash := s.setClk_flash _
@[simp] theorem State.runTo_load : (s.runTo t).load = s.load := s.setClk_load _
@[simp] theorem State.runTo_tempo : (s.runTo t).tempo = s.tempo := s.setClk_tempo _
@[simp] theorem State.runTo_queues : (s.runTo t).queues = s.queues := s.setClk_queues _
@[simp] theorem State.runTo_posts : (s.runTo t).posts = s.posts := s.setClk_posts _
@[simp] theorem State.runTo_trans : (s.runTo t).trans = s.trans := s.setClk_trans _
@[simp] theorem State.runTo_dma : (s.runTo t).dma = s.dma := s.setClk_dma _
@[simp] theorem State.runTo_arrivals : (s.runTo t).arrivals = s.arrivals := s.setClk_arrivals _
@[simp] theorem State.runTo_streams : (s.runTo t).streams = s.streams := s.setClk_streams _
@[simp] theorem State.runTo_ports : (s.runTo t).ports = s.ports := s.setClk_ports _
@[simp] theorem State.runTo_pipes : (s.runTo t).pipes = s.pipes := s.setClk_pipes _
@[simp] theorem State.runTo_align : (s.runTo t).align = s.align := s.setClk_align _
@[simp] theorem State.runTo_stats : (s.runTo t).stats = s.stats := s.setClk_stats _
@[simp] theorem State.runTo_locks : (s.runTo t).locks = s.locks := s.setClk_locks _
@[simp] theorem State.runTo_svc : (s.runTo t).svc = s.svc := s.setClk_svc _
@[simp] theorem State.runTo_cues : (s.runTo t).cues = s.cues := s.setClk_cues _
@[simp] theorem State.runTo_caps : (s.runTo t).caps = s.caps := s.setClk_caps _
@[simp] theorem State.runTo_servo : (s.runTo t).servo = s.servo := s.setClk_servo _
@[simp] theorem State.runTo_ptp : (s.runTo t).ptp = s.ptp := s.setClk_ptp _
@[simp] theorem State.runTo_net : (s.runTo t).net = s.net := s.setClk_net _
@[simp] theorem State.runTo_tie : (s.runTo t).tie = s.tie := s.setClk_tie _
@[simp] theorem State.runTo_proc : (s.runTo t).proc = s.proc := s.setClk_proc _
@[simp] theorem State.runTo_serial : (s.runTo t).serial = s.serial := s.setClk_serial _
@[simp] theorem State.runTo_checks : (s.runTo t).checks = s.checks := s.setClk_checks _
@[simp] theorem State.runTo_power : (s.runTo t).power = s.power := s.setClk_power _
@[simp] theorem State.runTo_lc : (s.runTo t).lc = s.lc := s.setClk_lc _
@[simp] theorem State.runTo_ready : (s.runTo t).ready = s.ready := s.setClk_ready _
@[simp] theorem State.runTo_out : (s.runTo t).out = s.out := s.setClk_out _
@[simp] theorem State.runTo_lastRead : (s.runTo t).lastRead = s.lastRead := s.setClk_lastRead _
@[simp] theorem State.runTo_fresh : (s.runTo t).fresh = s.fresh := s.setClk_fresh _
@[simp] theorem State.runTo_cycle : (s.runTo t).cycle = s.cycle := s.setClk_cycle _
@[simp] theorem State.runTo_pending : (s.runTo t).pending = s.pending := s.setClk_pending _

end

/-! ### `runToClock` -/

section

variable (s : State) (t : Nat)

@[simp] theorem State.runToClock_regs : (s.runToClock t).regs = s.regs := s.setClk_regs _
@[simp] theorem State.runToClock_latch : (s.runToClock t).latch = s.latch := s.setClk_latch _
@[simp] theorem State.runToClock_stage : (s.runToClock t).stage = s.stage := s.setClk_stage _
@[simp] theorem State.runToClock_mem : (s.runToClock t).mem = s.mem := s.setClk_mem _
@[simp] theorem State.runToClock_hostMem : (s.runToClock t).hostMem = s.hostMem := s.setClk_hostMem _
@[simp] theorem State.runToClock_flash : (s.runToClock t).flash = s.flash := s.setClk_flash _
@[simp] theorem State.runToClock_load : (s.runToClock t).load = s.load := s.setClk_load _
@[simp] theorem State.runToClock_tempo : (s.runToClock t).tempo = s.tempo := s.setClk_tempo _
@[simp] theorem State.runToClock_queues : (s.runToClock t).queues = s.queues := s.setClk_queues _
@[simp] theorem State.runToClock_posts : (s.runToClock t).posts = s.posts := s.setClk_posts _
@[simp] theorem State.runToClock_trans : (s.runToClock t).trans = s.trans := s.setClk_trans _
@[simp] theorem State.runToClock_dma : (s.runToClock t).dma = s.dma := s.setClk_dma _
@[simp] theorem State.runToClock_arrivals : (s.runToClock t).arrivals = s.arrivals := s.setClk_arrivals _
@[simp] theorem State.runToClock_streams : (s.runToClock t).streams = s.streams := s.setClk_streams _
@[simp] theorem State.runToClock_ports : (s.runToClock t).ports = s.ports := s.setClk_ports _
@[simp] theorem State.runToClock_pipes : (s.runToClock t).pipes = s.pipes := s.setClk_pipes _
@[simp] theorem State.runToClock_align : (s.runToClock t).align = s.align := s.setClk_align _
@[simp] theorem State.runToClock_stats : (s.runToClock t).stats = s.stats := s.setClk_stats _
@[simp] theorem State.runToClock_locks : (s.runToClock t).locks = s.locks := s.setClk_locks _
@[simp] theorem State.runToClock_svc : (s.runToClock t).svc = s.svc := s.setClk_svc _
@[simp] theorem State.runToClock_cues : (s.runToClock t).cues = s.cues := s.setClk_cues _
@[simp] theorem State.runToClock_caps : (s.runToClock t).caps = s.caps := s.setClk_caps _
@[simp] theorem State.runToClock_servo : (s.runToClock t).servo = s.servo := s.setClk_servo _
@[simp] theorem State.runToClock_ptp : (s.runToClock t).ptp = s.ptp := s.setClk_ptp _
@[simp] theorem State.runToClock_net : (s.runToClock t).net = s.net := s.setClk_net _
@[simp] theorem State.runToClock_tie : (s.runToClock t).tie = s.tie := s.setClk_tie _
@[simp] theorem State.runToClock_proc : (s.runToClock t).proc = s.proc := s.setClk_proc _
@[simp] theorem State.runToClock_serial : (s.runToClock t).serial = s.serial := s.setClk_serial _
@[simp] theorem State.runToClock_checks : (s.runToClock t).checks = s.checks := s.setClk_checks _
@[simp] theorem State.runToClock_power : (s.runToClock t).power = s.power := s.setClk_power _
@[simp] theorem State.runToClock_lc : (s.runToClock t).lc = s.lc := s.setClk_lc _
@[simp] theorem State.runToClock_ready : (s.runToClock t).ready = s.ready := s.setClk_ready _
@[simp] theorem State.runToClock_out : (s.runToClock t).out = s.out := s.setClk_out _
@[simp] theorem State.runToClock_lastRead : (s.runToClock t).lastRead = s.lastRead := s.setClk_lastRead _
@[simp] theorem State.runToClock_fresh : (s.runToClock t).fresh = s.fresh := s.setClk_fresh _
@[simp] theorem State.runToClock_cycle : (s.runToClock t).cycle = s.cycle := s.setClk_cycle _
@[simp] theorem State.runToClock_pending : (s.runToClock t).pending = s.pending := s.setClk_pending _

end

/-! ### `charge` -/

section

variable (s : State) (v res n : Nat)

@[simp] theorem State.charge_regs : (s.charge v res n).regs = s.regs := by
  unfold State.charge
  dsimp only
  split <;> rfl
@[simp] theorem State.charge_latch : (s.charge v res n).latch = s.latch := by
  unfold State.charge
  dsimp only
  split <;> rfl
@[simp] theorem State.charge_stage : (s.charge v res n).stage = s.stage := by
  unfold State.charge
  dsimp only
  split <;> rfl
@[simp] theorem State.charge_mem : (s.charge v res n).mem = s.mem := by
  unfold State.charge
  dsimp only
  split <;> rfl
@[simp] theorem State.charge_hostMem : (s.charge v res n).hostMem = s.hostMem := by
  unfold State.charge
  dsimp only
  split <;> rfl
@[simp] theorem State.charge_flash : (s.charge v res n).flash = s.flash := by
  unfold State.charge
  dsimp only
  split <;> rfl
@[simp] theorem State.charge_clock : (s.charge v res n).clock = s.clock := by
  unfold State.charge
  dsimp only
  split <;> rfl
@[simp] theorem State.charge_load : (s.charge v res n).load = s.load := by
  unfold State.charge
  dsimp only
  split <;> rfl
@[simp] theorem State.charge_queues : (s.charge v res n).queues = s.queues := by
  unfold State.charge
  dsimp only
  split <;> rfl
@[simp] theorem State.charge_posts : (s.charge v res n).posts = s.posts := by
  unfold State.charge
  dsimp only
  split <;> rfl
@[simp] theorem State.charge_trans : (s.charge v res n).trans = s.trans := by
  unfold State.charge
  dsimp only
  split <;> rfl
@[simp] theorem State.charge_dma : (s.charge v res n).dma = s.dma := by
  unfold State.charge
  dsimp only
  split <;> rfl
@[simp] theorem State.charge_arrivals : (s.charge v res n).arrivals = s.arrivals := by
  unfold State.charge
  dsimp only
  split <;> rfl
@[simp] theorem State.charge_streams : (s.charge v res n).streams = s.streams := by
  unfold State.charge
  dsimp only
  split <;> rfl
@[simp] theorem State.charge_ports : (s.charge v res n).ports = s.ports := by
  unfold State.charge
  dsimp only
  split <;> rfl
@[simp] theorem State.charge_pipes : (s.charge v res n).pipes = s.pipes := by
  unfold State.charge
  dsimp only
  split <;> rfl
@[simp] theorem State.charge_align : (s.charge v res n).align = s.align := by
  unfold State.charge
  dsimp only
  split <;> rfl
@[simp] theorem State.charge_stats : (s.charge v res n).stats = s.stats := by
  unfold State.charge
  dsimp only
  split <;> rfl
@[simp] theorem State.charge_locks : (s.charge v res n).locks = s.locks := by
  unfold State.charge
  dsimp only
  split <;> rfl
@[simp] theorem State.charge_svc : (s.charge v res n).svc = s.svc := by
  unfold State.charge
  dsimp only
  split <;> rfl
@[simp] theorem State.charge_cues : (s.charge v res n).cues = s.cues := by
  unfold State.charge
  dsimp only
  split <;> rfl
@[simp] theorem State.charge_caps : (s.charge v res n).caps = s.caps := by
  unfold State.charge
  dsimp only
  split <;> rfl
@[simp] theorem State.charge_servo : (s.charge v res n).servo = s.servo := by
  unfold State.charge
  dsimp only
  split <;> rfl
@[simp] theorem State.charge_ptp : (s.charge v res n).ptp = s.ptp := by
  unfold State.charge
  dsimp only
  split <;> rfl
@[simp] theorem State.charge_net : (s.charge v res n).net = s.net := by
  unfold State.charge
  dsimp only
  split <;> rfl
@[simp] theorem State.charge_tie : (s.charge v res n).tie = s.tie := by
  unfold State.charge
  dsimp only
  split <;> rfl
@[simp] theorem State.charge_proc : (s.charge v res n).proc = s.proc := by
  unfold State.charge
  dsimp only
  split <;> rfl
@[simp] theorem State.charge_serial : (s.charge v res n).serial = s.serial := by
  unfold State.charge
  dsimp only
  split <;> rfl
@[simp] theorem State.charge_checks : (s.charge v res n).checks = s.checks := by
  unfold State.charge
  dsimp only
  split <;> rfl
@[simp] theorem State.charge_power : (s.charge v res n).power = s.power := by
  unfold State.charge
  dsimp only
  split <;> rfl
@[simp] theorem State.charge_lc : (s.charge v res n).lc = s.lc := by
  unfold State.charge
  dsimp only
  split <;> rfl
@[simp] theorem State.charge_ready : (s.charge v res n).ready = s.ready := by
  unfold State.charge
  dsimp only
  split <;> rfl
@[simp] theorem State.charge_out : (s.charge v res n).out = s.out := by
  unfold State.charge
  dsimp only
  split <;> rfl
@[simp] theorem State.charge_lastRead : (s.charge v res n).lastRead = s.lastRead := by
  unfold State.charge
  dsimp only
  split <;> rfl
@[simp] theorem State.charge_fresh : (s.charge v res n).fresh = s.fresh := by
  unfold State.charge
  dsimp only
  split <;> rfl
@[simp] theorem State.charge_cycle : (s.charge v res n).cycle = s.cycle := by
  unfold State.charge
  dsimp only
  split <;> rfl
@[simp] theorem State.charge_pending : (s.charge v res n).pending = s.pending := by
  unfold State.charge
  dsimp only
  split <;> rfl

end

/-! ### `setLoad` -/

section

variable (s : State) (l : Load)

@[simp] theorem State.setLoad_latch : (s.setLoad l).latch = s.latch := rfl
@[simp] theorem State.setLoad_stage : (s.setLoad l).stage = s.stage := rfl
@[simp] theorem State.setLoad_mem : (s.setLoad l).mem = s.mem := rfl
@[simp] theorem State.setLoad_hostMem : (s.setLoad l).hostMem = s.hostMem := rfl
@[simp] theorem State.setLoad_flash : (s.setLoad l).flash = s.flash := rfl
@[simp] theorem State.setLoad_clock : (s.setLoad l).clock = s.clock := rfl
@[simp] theorem State.setLoad_tempo : (s.setLoad l).tempo = s.tempo := rfl
@[simp] theorem State.setLoad_queues : (s.setLoad l).queues = s.queues := rfl
@[simp] theorem State.setLoad_posts : (s.setLoad l).posts = s.posts := rfl
@[simp] theorem State.setLoad_trans : (s.setLoad l).trans = s.trans := rfl
@[simp] theorem State.setLoad_dma : (s.setLoad l).dma = s.dma := rfl
@[simp] theorem State.setLoad_arrivals : (s.setLoad l).arrivals = s.arrivals := rfl
@[simp] theorem State.setLoad_streams : (s.setLoad l).streams = s.streams := rfl
@[simp] theorem State.setLoad_ports : (s.setLoad l).ports = s.ports := rfl
@[simp] theorem State.setLoad_pipes : (s.setLoad l).pipes = s.pipes := rfl
@[simp] theorem State.setLoad_align : (s.setLoad l).align = s.align := rfl
@[simp] theorem State.setLoad_stats : (s.setLoad l).stats = s.stats := rfl
@[simp] theorem State.setLoad_locks : (s.setLoad l).locks = s.locks := rfl
@[simp] theorem State.setLoad_svc : (s.setLoad l).svc = s.svc := rfl
@[simp] theorem State.setLoad_cues : (s.setLoad l).cues = s.cues := rfl
@[simp] theorem State.setLoad_caps : (s.setLoad l).caps = s.caps := rfl
@[simp] theorem State.setLoad_servo : (s.setLoad l).servo = s.servo := rfl
@[simp] theorem State.setLoad_ptp : (s.setLoad l).ptp = s.ptp := rfl
@[simp] theorem State.setLoad_net : (s.setLoad l).net = s.net := rfl
@[simp] theorem State.setLoad_tie : (s.setLoad l).tie = s.tie := rfl
@[simp] theorem State.setLoad_proc : (s.setLoad l).proc = s.proc := rfl
@[simp] theorem State.setLoad_serial : (s.setLoad l).serial = s.serial := rfl
@[simp] theorem State.setLoad_checks : (s.setLoad l).checks = s.checks := rfl
@[simp] theorem State.setLoad_power : (s.setLoad l).power = s.power := rfl
@[simp] theorem State.setLoad_lc : (s.setLoad l).lc = s.lc := rfl
@[simp] theorem State.setLoad_ready : (s.setLoad l).ready = s.ready := rfl
@[simp] theorem State.setLoad_out : (s.setLoad l).out = s.out := rfl
@[simp] theorem State.setLoad_lastRead : (s.setLoad l).lastRead = s.lastRead := rfl
@[simp] theorem State.setLoad_fresh : (s.setLoad l).fresh = s.fresh := rfl
@[simp] theorem State.setLoad_cycle : (s.setLoad l).cycle = s.cycle := rfl
@[simp] theorem State.setLoad_pending : (s.setLoad l).pending = s.pending := rfl

end

/-! ### `setReady` -/

section

variable (s : State) (b : Bool)

@[simp] theorem State.setReady_latch : (s.setReady b).latch = s.latch := rfl
@[simp] theorem State.setReady_stage : (s.setReady b).stage = s.stage := rfl
@[simp] theorem State.setReady_mem : (s.setReady b).mem = s.mem := rfl
@[simp] theorem State.setReady_hostMem : (s.setReady b).hostMem = s.hostMem := rfl
@[simp] theorem State.setReady_flash : (s.setReady b).flash = s.flash := rfl
@[simp] theorem State.setReady_clock : (s.setReady b).clock = s.clock := rfl
@[simp] theorem State.setReady_load : (s.setReady b).load = s.load := rfl
@[simp] theorem State.setReady_tempo : (s.setReady b).tempo = s.tempo := rfl
@[simp] theorem State.setReady_queues : (s.setReady b).queues = s.queues := rfl
@[simp] theorem State.setReady_posts : (s.setReady b).posts = s.posts := rfl
@[simp] theorem State.setReady_trans : (s.setReady b).trans = s.trans := rfl
@[simp] theorem State.setReady_dma : (s.setReady b).dma = s.dma := rfl
@[simp] theorem State.setReady_arrivals : (s.setReady b).arrivals = s.arrivals := rfl
@[simp] theorem State.setReady_streams : (s.setReady b).streams = s.streams := rfl
@[simp] theorem State.setReady_ports : (s.setReady b).ports = s.ports := rfl
@[simp] theorem State.setReady_pipes : (s.setReady b).pipes = s.pipes := rfl
@[simp] theorem State.setReady_align : (s.setReady b).align = s.align := rfl
@[simp] theorem State.setReady_stats : (s.setReady b).stats = s.stats := rfl
@[simp] theorem State.setReady_locks : (s.setReady b).locks = s.locks := rfl
@[simp] theorem State.setReady_svc : (s.setReady b).svc = s.svc := rfl
@[simp] theorem State.setReady_cues : (s.setReady b).cues = s.cues := rfl
@[simp] theorem State.setReady_caps : (s.setReady b).caps = s.caps := rfl
@[simp] theorem State.setReady_servo : (s.setReady b).servo = s.servo := rfl
@[simp] theorem State.setReady_ptp : (s.setReady b).ptp = s.ptp := rfl
@[simp] theorem State.setReady_net : (s.setReady b).net = s.net := rfl
@[simp] theorem State.setReady_tie : (s.setReady b).tie = s.tie := rfl
@[simp] theorem State.setReady_proc : (s.setReady b).proc = s.proc := rfl
@[simp] theorem State.setReady_serial : (s.setReady b).serial = s.serial := rfl
@[simp] theorem State.setReady_checks : (s.setReady b).checks = s.checks := rfl
@[simp] theorem State.setReady_power : (s.setReady b).power = s.power := rfl
@[simp] theorem State.setReady_lc : (s.setReady b).lc = s.lc := rfl
@[simp] theorem State.setReady_out : (s.setReady b).out = s.out := rfl
@[simp] theorem State.setReady_lastRead : (s.setReady b).lastRead = s.lastRead := rfl
@[simp] theorem State.setReady_fresh : (s.setReady b).fresh = s.fresh := rfl
@[simp] theorem State.setReady_cycle : (s.setReady b).cycle = s.cycle := rfl
@[simp] theorem State.setReady_pending : (s.setReady b).pending = s.pending := rfl

end

/-! ### `setRing` -/

section

variable (s : State) (v q : Nat) (r : Ring)

@[simp] theorem State.setRing_regs : (s.setRing v q r).regs = s.regs := rfl
@[simp] theorem State.setRing_latch : (s.setRing v q r).latch = s.latch := rfl
@[simp] theorem State.setRing_stage : (s.setRing v q r).stage = s.stage := rfl
@[simp] theorem State.setRing_mem : (s.setRing v q r).mem = s.mem := rfl
@[simp] theorem State.setRing_hostMem : (s.setRing v q r).hostMem = s.hostMem := rfl
@[simp] theorem State.setRing_flash : (s.setRing v q r).flash = s.flash := rfl
@[simp] theorem State.setRing_clock : (s.setRing v q r).clock = s.clock := rfl
@[simp] theorem State.setRing_load : (s.setRing v q r).load = s.load := rfl
@[simp] theorem State.setRing_tempo : (s.setRing v q r).tempo = s.tempo := rfl
@[simp] theorem State.setRing_posts : (s.setRing v q r).posts = s.posts := rfl
@[simp] theorem State.setRing_trans : (s.setRing v q r).trans = s.trans := rfl
@[simp] theorem State.setRing_dma : (s.setRing v q r).dma = s.dma := rfl
@[simp] theorem State.setRing_arrivals : (s.setRing v q r).arrivals = s.arrivals := rfl
@[simp] theorem State.setRing_streams : (s.setRing v q r).streams = s.streams := rfl
@[simp] theorem State.setRing_ports : (s.setRing v q r).ports = s.ports := rfl
@[simp] theorem State.setRing_pipes : (s.setRing v q r).pipes = s.pipes := rfl
@[simp] theorem State.setRing_align : (s.setRing v q r).align = s.align := rfl
@[simp] theorem State.setRing_stats : (s.setRing v q r).stats = s.stats := rfl
@[simp] theorem State.setRing_locks : (s.setRing v q r).locks = s.locks := rfl
@[simp] theorem State.setRing_svc : (s.setRing v q r).svc = s.svc := rfl
@[simp] theorem State.setRing_cues : (s.setRing v q r).cues = s.cues := rfl
@[simp] theorem State.setRing_caps : (s.setRing v q r).caps = s.caps := rfl
@[simp] theorem State.setRing_servo : (s.setRing v q r).servo = s.servo := rfl
@[simp] theorem State.setRing_ptp : (s.setRing v q r).ptp = s.ptp := rfl
@[simp] theorem State.setRing_net : (s.setRing v q r).net = s.net := rfl
@[simp] theorem State.setRing_tie : (s.setRing v q r).tie = s.tie := rfl
@[simp] theorem State.setRing_proc : (s.setRing v q r).proc = s.proc := rfl
@[simp] theorem State.setRing_serial : (s.setRing v q r).serial = s.serial := rfl
@[simp] theorem State.setRing_checks : (s.setRing v q r).checks = s.checks := rfl
@[simp] theorem State.setRing_power : (s.setRing v q r).power = s.power := rfl
@[simp] theorem State.setRing_lc : (s.setRing v q r).lc = s.lc := rfl
@[simp] theorem State.setRing_ready : (s.setRing v q r).ready = s.ready := rfl
@[simp] theorem State.setRing_out : (s.setRing v q r).out = s.out := rfl
@[simp] theorem State.setRing_lastRead : (s.setRing v q r).lastRead = s.lastRead := rfl
@[simp] theorem State.setRing_fresh : (s.setRing v q r).fresh = s.fresh := rfl
@[simp] theorem State.setRing_cycle : (s.setRing v q r).cycle = s.cycle := rfl
@[simp] theorem State.setRing_pending : (s.setRing v q r).pending = s.pending := rfl

end

/-! ### `setOvf` -/

section

variable (s : State) (v q : Nat)

@[simp] theorem State.setOvf_latch : (s.setOvf v q).latch = s.latch := rfl
@[simp] theorem State.setOvf_stage : (s.setOvf v q).stage = s.stage := rfl
@[simp] theorem State.setOvf_mem : (s.setOvf v q).mem = s.mem := rfl
@[simp] theorem State.setOvf_hostMem : (s.setOvf v q).hostMem = s.hostMem := rfl
@[simp] theorem State.setOvf_flash : (s.setOvf v q).flash = s.flash := rfl
@[simp] theorem State.setOvf_clock : (s.setOvf v q).clock = s.clock := rfl
@[simp] theorem State.setOvf_load : (s.setOvf v q).load = s.load := rfl
@[simp] theorem State.setOvf_tempo : (s.setOvf v q).tempo = s.tempo := rfl
@[simp] theorem State.setOvf_queues : (s.setOvf v q).queues = s.queues := rfl
@[simp] theorem State.setOvf_posts : (s.setOvf v q).posts = s.posts := rfl
@[simp] theorem State.setOvf_trans : (s.setOvf v q).trans = s.trans := rfl
@[simp] theorem State.setOvf_dma : (s.setOvf v q).dma = s.dma := rfl
@[simp] theorem State.setOvf_arrivals : (s.setOvf v q).arrivals = s.arrivals := rfl
@[simp] theorem State.setOvf_streams : (s.setOvf v q).streams = s.streams := rfl
@[simp] theorem State.setOvf_ports : (s.setOvf v q).ports = s.ports := rfl
@[simp] theorem State.setOvf_pipes : (s.setOvf v q).pipes = s.pipes := rfl
@[simp] theorem State.setOvf_align : (s.setOvf v q).align = s.align := rfl
@[simp] theorem State.setOvf_stats : (s.setOvf v q).stats = s.stats := rfl
@[simp] theorem State.setOvf_locks : (s.setOvf v q).locks = s.locks := rfl
@[simp] theorem State.setOvf_svc : (s.setOvf v q).svc = s.svc := rfl
@[simp] theorem State.setOvf_cues : (s.setOvf v q).cues = s.cues := rfl
@[simp] theorem State.setOvf_caps : (s.setOvf v q).caps = s.caps := rfl
@[simp] theorem State.setOvf_servo : (s.setOvf v q).servo = s.servo := rfl
@[simp] theorem State.setOvf_ptp : (s.setOvf v q).ptp = s.ptp := rfl
@[simp] theorem State.setOvf_net : (s.setOvf v q).net = s.net := rfl
@[simp] theorem State.setOvf_tie : (s.setOvf v q).tie = s.tie := rfl
@[simp] theorem State.setOvf_proc : (s.setOvf v q).proc = s.proc := rfl
@[simp] theorem State.setOvf_serial : (s.setOvf v q).serial = s.serial := rfl
@[simp] theorem State.setOvf_checks : (s.setOvf v q).checks = s.checks := rfl
@[simp] theorem State.setOvf_power : (s.setOvf v q).power = s.power := rfl
@[simp] theorem State.setOvf_lc : (s.setOvf v q).lc = s.lc := rfl
@[simp] theorem State.setOvf_ready : (s.setOvf v q).ready = s.ready := rfl
@[simp] theorem State.setOvf_out : (s.setOvf v q).out = s.out := rfl
@[simp] theorem State.setOvf_lastRead : (s.setOvf v q).lastRead = s.lastRead := rfl
@[simp] theorem State.setOvf_fresh : (s.setOvf v q).fresh = s.fresh := rfl
@[simp] theorem State.setOvf_cycle : (s.setOvf v q).cycle = s.cycle := rfl
@[simp] theorem State.setOvf_pending : (s.setOvf v q).pending = s.pending := rfl

end

/-! ### `setDropped` -/

section

variable (s : State) (v q : Nat)

@[simp] theorem State.setDropped_latch : (s.setDropped v q).latch = s.latch := rfl
@[simp] theorem State.setDropped_stage : (s.setDropped v q).stage = s.stage := rfl
@[simp] theorem State.setDropped_mem : (s.setDropped v q).mem = s.mem := rfl
@[simp] theorem State.setDropped_hostMem : (s.setDropped v q).hostMem = s.hostMem := rfl
@[simp] theorem State.setDropped_flash : (s.setDropped v q).flash = s.flash := rfl
@[simp] theorem State.setDropped_clock : (s.setDropped v q).clock = s.clock := rfl
@[simp] theorem State.setDropped_load : (s.setDropped v q).load = s.load := rfl
@[simp] theorem State.setDropped_tempo : (s.setDropped v q).tempo = s.tempo := rfl
@[simp] theorem State.setDropped_queues : (s.setDropped v q).queues = s.queues := rfl
@[simp] theorem State.setDropped_posts : (s.setDropped v q).posts = s.posts := rfl
@[simp] theorem State.setDropped_trans : (s.setDropped v q).trans = s.trans := rfl
@[simp] theorem State.setDropped_dma : (s.setDropped v q).dma = s.dma := rfl
@[simp] theorem State.setDropped_arrivals : (s.setDropped v q).arrivals = s.arrivals := rfl
@[simp] theorem State.setDropped_streams : (s.setDropped v q).streams = s.streams := rfl
@[simp] theorem State.setDropped_ports : (s.setDropped v q).ports = s.ports := rfl
@[simp] theorem State.setDropped_pipes : (s.setDropped v q).pipes = s.pipes := rfl
@[simp] theorem State.setDropped_align : (s.setDropped v q).align = s.align := rfl
@[simp] theorem State.setDropped_stats : (s.setDropped v q).stats = s.stats := rfl
@[simp] theorem State.setDropped_locks : (s.setDropped v q).locks = s.locks := rfl
@[simp] theorem State.setDropped_svc : (s.setDropped v q).svc = s.svc := rfl
@[simp] theorem State.setDropped_cues : (s.setDropped v q).cues = s.cues := rfl
@[simp] theorem State.setDropped_caps : (s.setDropped v q).caps = s.caps := rfl
@[simp] theorem State.setDropped_servo : (s.setDropped v q).servo = s.servo := rfl
@[simp] theorem State.setDropped_ptp : (s.setDropped v q).ptp = s.ptp := rfl
@[simp] theorem State.setDropped_net : (s.setDropped v q).net = s.net := rfl
@[simp] theorem State.setDropped_tie : (s.setDropped v q).tie = s.tie := rfl
@[simp] theorem State.setDropped_proc : (s.setDropped v q).proc = s.proc := rfl
@[simp] theorem State.setDropped_serial : (s.setDropped v q).serial = s.serial := rfl
@[simp] theorem State.setDropped_checks : (s.setDropped v q).checks = s.checks := rfl
@[simp] theorem State.setDropped_power : (s.setDropped v q).power = s.power := rfl
@[simp] theorem State.setDropped_lc : (s.setDropped v q).lc = s.lc := rfl
@[simp] theorem State.setDropped_ready : (s.setDropped v q).ready = s.ready := rfl
@[simp] theorem State.setDropped_out : (s.setDropped v q).out = s.out := rfl
@[simp] theorem State.setDropped_lastRead : (s.setDropped v q).lastRead = s.lastRead := rfl
@[simp] theorem State.setDropped_fresh : (s.setDropped v q).fresh = s.fresh := rfl
@[simp] theorem State.setDropped_cycle : (s.setDropped v q).cycle = s.cycle := rfl
@[simp] theorem State.setDropped_pending : (s.setDropped v q).pending = s.pending := rfl

end

/-! ### `releaseSlot` -/

section

variable (s : State) (v k : Nat)

@[simp] theorem State.releaseSlot_regs : (s.releaseSlot v k).regs = s.regs := rfl
@[simp] theorem State.releaseSlot_latch : (s.releaseSlot v k).latch = s.latch := rfl
@[simp] theorem State.releaseSlot_stage : (s.releaseSlot v k).stage = s.stage := rfl
@[simp] theorem State.releaseSlot_mem : (s.releaseSlot v k).mem = s.mem := rfl
@[simp] theorem State.releaseSlot_hostMem : (s.releaseSlot v k).hostMem = s.hostMem := rfl
@[simp] theorem State.releaseSlot_flash : (s.releaseSlot v k).flash = s.flash := rfl
@[simp] theorem State.releaseSlot_clock : (s.releaseSlot v k).clock = s.clock := rfl
@[simp] theorem State.releaseSlot_load : (s.releaseSlot v k).load = s.load := rfl
@[simp] theorem State.releaseSlot_tempo : (s.releaseSlot v k).tempo = s.tempo := rfl
@[simp] theorem State.releaseSlot_queues : (s.releaseSlot v k).queues = s.queues := rfl
@[simp] theorem State.releaseSlot_posts : (s.releaseSlot v k).posts = s.posts := rfl
@[simp] theorem State.releaseSlot_dma : (s.releaseSlot v k).dma = s.dma := rfl
@[simp] theorem State.releaseSlot_arrivals : (s.releaseSlot v k).arrivals = s.arrivals := rfl
@[simp] theorem State.releaseSlot_streams : (s.releaseSlot v k).streams = s.streams := rfl
@[simp] theorem State.releaseSlot_ports : (s.releaseSlot v k).ports = s.ports := rfl
@[simp] theorem State.releaseSlot_pipes : (s.releaseSlot v k).pipes = s.pipes := rfl
@[simp] theorem State.releaseSlot_align : (s.releaseSlot v k).align = s.align := rfl
@[simp] theorem State.releaseSlot_stats : (s.releaseSlot v k).stats = s.stats := rfl
@[simp] theorem State.releaseSlot_locks : (s.releaseSlot v k).locks = s.locks := rfl
@[simp] theorem State.releaseSlot_svc : (s.releaseSlot v k).svc = s.svc := rfl
@[simp] theorem State.releaseSlot_cues : (s.releaseSlot v k).cues = s.cues := rfl
@[simp] theorem State.releaseSlot_caps : (s.releaseSlot v k).caps = s.caps := rfl
@[simp] theorem State.releaseSlot_servo : (s.releaseSlot v k).servo = s.servo := rfl
@[simp] theorem State.releaseSlot_ptp : (s.releaseSlot v k).ptp = s.ptp := rfl
@[simp] theorem State.releaseSlot_net : (s.releaseSlot v k).net = s.net := rfl
@[simp] theorem State.releaseSlot_tie : (s.releaseSlot v k).tie = s.tie := rfl
@[simp] theorem State.releaseSlot_proc : (s.releaseSlot v k).proc = s.proc := rfl
@[simp] theorem State.releaseSlot_serial : (s.releaseSlot v k).serial = s.serial := rfl
@[simp] theorem State.releaseSlot_checks : (s.releaseSlot v k).checks = s.checks := rfl
@[simp] theorem State.releaseSlot_power : (s.releaseSlot v k).power = s.power := rfl
@[simp] theorem State.releaseSlot_lc : (s.releaseSlot v k).lc = s.lc := rfl
@[simp] theorem State.releaseSlot_ready : (s.releaseSlot v k).ready = s.ready := rfl
@[simp] theorem State.releaseSlot_out : (s.releaseSlot v k).out = s.out := rfl
@[simp] theorem State.releaseSlot_lastRead : (s.releaseSlot v k).lastRead = s.lastRead := rfl
@[simp] theorem State.releaseSlot_fresh : (s.releaseSlot v k).fresh = s.fresh := rfl
@[simp] theorem State.releaseSlot_cycle : (s.releaseSlot v k).cycle = s.cycle := rfl
@[simp] theorem State.releaseSlot_pending : (s.releaseSlot v k).pending = s.pending := rfl

end

/-! ### `dropFermata` -/

section

variable (s : State) (p : Fermata → Bool)

@[simp] theorem State.dropFermata_regs : (s.dropFermata p).regs = s.regs := rfl
@[simp] theorem State.dropFermata_latch : (s.dropFermata p).latch = s.latch := rfl
@[simp] theorem State.dropFermata_stage : (s.dropFermata p).stage = s.stage := rfl
@[simp] theorem State.dropFermata_mem : (s.dropFermata p).mem = s.mem := rfl
@[simp] theorem State.dropFermata_hostMem : (s.dropFermata p).hostMem = s.hostMem := rfl
@[simp] theorem State.dropFermata_flash : (s.dropFermata p).flash = s.flash := rfl
@[simp] theorem State.dropFermata_clock : (s.dropFermata p).clock = s.clock := rfl
@[simp] theorem State.dropFermata_load : (s.dropFermata p).load = s.load := rfl
@[simp] theorem State.dropFermata_tempo : (s.dropFermata p).tempo = s.tempo := rfl
@[simp] theorem State.dropFermata_queues : (s.dropFermata p).queues = s.queues := rfl
@[simp] theorem State.dropFermata_posts : (s.dropFermata p).posts = s.posts := rfl
@[simp] theorem State.dropFermata_dma : (s.dropFermata p).dma = s.dma := rfl
@[simp] theorem State.dropFermata_arrivals : (s.dropFermata p).arrivals = s.arrivals := rfl
@[simp] theorem State.dropFermata_streams : (s.dropFermata p).streams = s.streams := rfl
@[simp] theorem State.dropFermata_ports : (s.dropFermata p).ports = s.ports := rfl
@[simp] theorem State.dropFermata_pipes : (s.dropFermata p).pipes = s.pipes := rfl
@[simp] theorem State.dropFermata_align : (s.dropFermata p).align = s.align := rfl
@[simp] theorem State.dropFermata_stats : (s.dropFermata p).stats = s.stats := rfl
@[simp] theorem State.dropFermata_locks : (s.dropFermata p).locks = s.locks := rfl
@[simp] theorem State.dropFermata_svc : (s.dropFermata p).svc = s.svc := rfl
@[simp] theorem State.dropFermata_cues : (s.dropFermata p).cues = s.cues := rfl
@[simp] theorem State.dropFermata_caps : (s.dropFermata p).caps = s.caps := rfl
@[simp] theorem State.dropFermata_servo : (s.dropFermata p).servo = s.servo := rfl
@[simp] theorem State.dropFermata_ptp : (s.dropFermata p).ptp = s.ptp := rfl
@[simp] theorem State.dropFermata_net : (s.dropFermata p).net = s.net := rfl
@[simp] theorem State.dropFermata_tie : (s.dropFermata p).tie = s.tie := rfl
@[simp] theorem State.dropFermata_proc : (s.dropFermata p).proc = s.proc := rfl
@[simp] theorem State.dropFermata_serial : (s.dropFermata p).serial = s.serial := rfl
@[simp] theorem State.dropFermata_checks : (s.dropFermata p).checks = s.checks := rfl
@[simp] theorem State.dropFermata_power : (s.dropFermata p).power = s.power := rfl
@[simp] theorem State.dropFermata_lc : (s.dropFermata p).lc = s.lc := rfl
@[simp] theorem State.dropFermata_ready : (s.dropFermata p).ready = s.ready := rfl
@[simp] theorem State.dropFermata_out : (s.dropFermata p).out = s.out := rfl
@[simp] theorem State.dropFermata_lastRead : (s.dropFermata p).lastRead = s.lastRead := rfl
@[simp] theorem State.dropFermata_fresh : (s.dropFermata p).fresh = s.fresh := rfl
@[simp] theorem State.dropFermata_cycle : (s.dropFermata p).cycle = s.cycle := rfl
@[simp] theorem State.dropFermata_pending : (s.dropFermata p).pending = s.pending := rfl

end

/-! ### `setChan` -/

section

variable (s : State) (c : Nat) (x : Chan)

@[simp] theorem State.setChan_regs : (s.setChan c x).regs = s.regs := rfl
@[simp] theorem State.setChan_latch : (s.setChan c x).latch = s.latch := rfl
@[simp] theorem State.setChan_stage : (s.setChan c x).stage = s.stage := rfl
@[simp] theorem State.setChan_mem : (s.setChan c x).mem = s.mem := rfl
@[simp] theorem State.setChan_hostMem : (s.setChan c x).hostMem = s.hostMem := rfl
@[simp] theorem State.setChan_flash : (s.setChan c x).flash = s.flash := rfl
@[simp] theorem State.setChan_clock : (s.setChan c x).clock = s.clock := rfl
@[simp] theorem State.setChan_load : (s.setChan c x).load = s.load := rfl
@[simp] theorem State.setChan_tempo : (s.setChan c x).tempo = s.tempo := rfl
@[simp] theorem State.setChan_queues : (s.setChan c x).queues = s.queues := rfl
@[simp] theorem State.setChan_posts : (s.setChan c x).posts = s.posts := rfl
@[simp] theorem State.setChan_trans : (s.setChan c x).trans = s.trans := rfl
@[simp] theorem State.setChan_arrivals : (s.setChan c x).arrivals = s.arrivals := rfl
@[simp] theorem State.setChan_streams : (s.setChan c x).streams = s.streams := rfl
@[simp] theorem State.setChan_ports : (s.setChan c x).ports = s.ports := rfl
@[simp] theorem State.setChan_pipes : (s.setChan c x).pipes = s.pipes := rfl
@[simp] theorem State.setChan_align : (s.setChan c x).align = s.align := rfl
@[simp] theorem State.setChan_stats : (s.setChan c x).stats = s.stats := rfl
@[simp] theorem State.setChan_locks : (s.setChan c x).locks = s.locks := rfl
@[simp] theorem State.setChan_svc : (s.setChan c x).svc = s.svc := rfl
@[simp] theorem State.setChan_cues : (s.setChan c x).cues = s.cues := rfl
@[simp] theorem State.setChan_caps : (s.setChan c x).caps = s.caps := rfl
@[simp] theorem State.setChan_servo : (s.setChan c x).servo = s.servo := rfl
@[simp] theorem State.setChan_ptp : (s.setChan c x).ptp = s.ptp := rfl
@[simp] theorem State.setChan_net : (s.setChan c x).net = s.net := rfl
@[simp] theorem State.setChan_tie : (s.setChan c x).tie = s.tie := rfl
@[simp] theorem State.setChan_proc : (s.setChan c x).proc = s.proc := rfl
@[simp] theorem State.setChan_serial : (s.setChan c x).serial = s.serial := rfl
@[simp] theorem State.setChan_checks : (s.setChan c x).checks = s.checks := rfl
@[simp] theorem State.setChan_power : (s.setChan c x).power = s.power := rfl
@[simp] theorem State.setChan_lc : (s.setChan c x).lc = s.lc := rfl
@[simp] theorem State.setChan_ready : (s.setChan c x).ready = s.ready := rfl
@[simp] theorem State.setChan_out : (s.setChan c x).out = s.out := rfl
@[simp] theorem State.setChan_lastRead : (s.setChan c x).lastRead = s.lastRead := rfl
@[simp] theorem State.setChan_fresh : (s.setChan c x).fresh = s.fresh := rfl
@[simp] theorem State.setChan_cycle : (s.setChan c x).cycle = s.cycle := rfl
@[simp] theorem State.setChan_pending : (s.setChan c x).pending = s.pending := rfl

end

/-! ### `dropWaiter` -/

section

variable (s : State) (c : Nat)

@[simp] theorem State.dropWaiter_regs : (s.dropWaiter c).regs = s.regs := rfl
@[simp] theorem State.dropWaiter_latch : (s.dropWaiter c).latch = s.latch := rfl
@[simp] theorem State.dropWaiter_stage : (s.dropWaiter c).stage = s.stage := rfl
@[simp] theorem State.dropWaiter_mem : (s.dropWaiter c).mem = s.mem := rfl
@[simp] theorem State.dropWaiter_hostMem : (s.dropWaiter c).hostMem = s.hostMem := rfl
@[simp] theorem State.dropWaiter_flash : (s.dropWaiter c).flash = s.flash := rfl
@[simp] theorem State.dropWaiter_clock : (s.dropWaiter c).clock = s.clock := rfl
@[simp] theorem State.dropWaiter_load : (s.dropWaiter c).load = s.load := rfl
@[simp] theorem State.dropWaiter_tempo : (s.dropWaiter c).tempo = s.tempo := rfl
@[simp] theorem State.dropWaiter_queues : (s.dropWaiter c).queues = s.queues := rfl
@[simp] theorem State.dropWaiter_posts : (s.dropWaiter c).posts = s.posts := rfl
@[simp] theorem State.dropWaiter_dma : (s.dropWaiter c).dma = s.dma := rfl
@[simp] theorem State.dropWaiter_arrivals : (s.dropWaiter c).arrivals = s.arrivals := rfl
@[simp] theorem State.dropWaiter_streams : (s.dropWaiter c).streams = s.streams := rfl
@[simp] theorem State.dropWaiter_ports : (s.dropWaiter c).ports = s.ports := rfl
@[simp] theorem State.dropWaiter_pipes : (s.dropWaiter c).pipes = s.pipes := rfl
@[simp] theorem State.dropWaiter_align : (s.dropWaiter c).align = s.align := rfl
@[simp] theorem State.dropWaiter_stats : (s.dropWaiter c).stats = s.stats := rfl
@[simp] theorem State.dropWaiter_locks : (s.dropWaiter c).locks = s.locks := rfl
@[simp] theorem State.dropWaiter_svc : (s.dropWaiter c).svc = s.svc := rfl
@[simp] theorem State.dropWaiter_cues : (s.dropWaiter c).cues = s.cues := rfl
@[simp] theorem State.dropWaiter_caps : (s.dropWaiter c).caps = s.caps := rfl
@[simp] theorem State.dropWaiter_servo : (s.dropWaiter c).servo = s.servo := rfl
@[simp] theorem State.dropWaiter_ptp : (s.dropWaiter c).ptp = s.ptp := rfl
@[simp] theorem State.dropWaiter_net : (s.dropWaiter c).net = s.net := rfl
@[simp] theorem State.dropWaiter_tie : (s.dropWaiter c).tie = s.tie := rfl
@[simp] theorem State.dropWaiter_proc : (s.dropWaiter c).proc = s.proc := rfl
@[simp] theorem State.dropWaiter_serial : (s.dropWaiter c).serial = s.serial := rfl
@[simp] theorem State.dropWaiter_checks : (s.dropWaiter c).checks = s.checks := rfl
@[simp] theorem State.dropWaiter_power : (s.dropWaiter c).power = s.power := rfl
@[simp] theorem State.dropWaiter_lc : (s.dropWaiter c).lc = s.lc := rfl
@[simp] theorem State.dropWaiter_ready : (s.dropWaiter c).ready = s.ready := rfl
@[simp] theorem State.dropWaiter_out : (s.dropWaiter c).out = s.out := rfl
@[simp] theorem State.dropWaiter_lastRead : (s.dropWaiter c).lastRead = s.lastRead := rfl
@[simp] theorem State.dropWaiter_fresh : (s.dropWaiter c).fresh = s.fresh := rfl
@[simp] theorem State.dropWaiter_cycle : (s.dropWaiter c).cycle = s.cycle := rfl
@[simp] theorem State.dropWaiter_pending : (s.dropWaiter c).pending = s.pending := rfl

end

/-! ### `setPort` -/

section

variable (s : State) (p : Nat) (x : Port)

@[simp] theorem State.setPort_regs : (s.setPort p x).regs = s.regs := rfl
@[simp] theorem State.setPort_latch : (s.setPort p x).latch = s.latch := rfl
@[simp] theorem State.setPort_stage : (s.setPort p x).stage = s.stage := rfl
@[simp] theorem State.setPort_mem : (s.setPort p x).mem = s.mem := rfl
@[simp] theorem State.setPort_hostMem : (s.setPort p x).hostMem = s.hostMem := rfl
@[simp] theorem State.setPort_flash : (s.setPort p x).flash = s.flash := rfl
@[simp] theorem State.setPort_clock : (s.setPort p x).clock = s.clock := rfl
@[simp] theorem State.setPort_load : (s.setPort p x).load = s.load := rfl
@[simp] theorem State.setPort_tempo : (s.setPort p x).tempo = s.tempo := rfl
@[simp] theorem State.setPort_queues : (s.setPort p x).queues = s.queues := rfl
@[simp] theorem State.setPort_posts : (s.setPort p x).posts = s.posts := rfl
@[simp] theorem State.setPort_trans : (s.setPort p x).trans = s.trans := rfl
@[simp] theorem State.setPort_dma : (s.setPort p x).dma = s.dma := rfl
@[simp] theorem State.setPort_arrivals : (s.setPort p x).arrivals = s.arrivals := rfl
@[simp] theorem State.setPort_streams : (s.setPort p x).streams = s.streams := rfl
@[simp] theorem State.setPort_pipes : (s.setPort p x).pipes = s.pipes := rfl
@[simp] theorem State.setPort_align : (s.setPort p x).align = s.align := rfl
@[simp] theorem State.setPort_stats : (s.setPort p x).stats = s.stats := rfl
@[simp] theorem State.setPort_locks : (s.setPort p x).locks = s.locks := rfl
@[simp] theorem State.setPort_svc : (s.setPort p x).svc = s.svc := rfl
@[simp] theorem State.setPort_cues : (s.setPort p x).cues = s.cues := rfl
@[simp] theorem State.setPort_caps : (s.setPort p x).caps = s.caps := rfl
@[simp] theorem State.setPort_servo : (s.setPort p x).servo = s.servo := rfl
@[simp] theorem State.setPort_ptp : (s.setPort p x).ptp = s.ptp := rfl
@[simp] theorem State.setPort_net : (s.setPort p x).net = s.net := rfl
@[simp] theorem State.setPort_tie : (s.setPort p x).tie = s.tie := rfl
@[simp] theorem State.setPort_proc : (s.setPort p x).proc = s.proc := rfl
@[simp] theorem State.setPort_serial : (s.setPort p x).serial = s.serial := rfl
@[simp] theorem State.setPort_checks : (s.setPort p x).checks = s.checks := rfl
@[simp] theorem State.setPort_power : (s.setPort p x).power = s.power := rfl
@[simp] theorem State.setPort_lc : (s.setPort p x).lc = s.lc := rfl
@[simp] theorem State.setPort_ready : (s.setPort p x).ready = s.ready := rfl
@[simp] theorem State.setPort_out : (s.setPort p x).out = s.out := rfl
@[simp] theorem State.setPort_lastRead : (s.setPort p x).lastRead = s.lastRead := rfl
@[simp] theorem State.setPort_fresh : (s.setPort p x).fresh = s.fresh := rfl
@[simp] theorem State.setPort_cycle : (s.setPort p x).cycle = s.cycle := rfl
@[simp] theorem State.setPort_pending : (s.setPort p x).pending = s.pending := rfl

end

/-! ### `setStrm` -/

section

variable (s : State) (i : Nat) (x : StreamSt)

@[simp] theorem State.setStrm_regs : (s.setStrm i x).regs = s.regs := rfl
@[simp] theorem State.setStrm_latch : (s.setStrm i x).latch = s.latch := rfl
@[simp] theorem State.setStrm_stage : (s.setStrm i x).stage = s.stage := rfl
@[simp] theorem State.setStrm_mem : (s.setStrm i x).mem = s.mem := rfl
@[simp] theorem State.setStrm_hostMem : (s.setStrm i x).hostMem = s.hostMem := rfl
@[simp] theorem State.setStrm_flash : (s.setStrm i x).flash = s.flash := rfl
@[simp] theorem State.setStrm_clock : (s.setStrm i x).clock = s.clock := rfl
@[simp] theorem State.setStrm_load : (s.setStrm i x).load = s.load := rfl
@[simp] theorem State.setStrm_tempo : (s.setStrm i x).tempo = s.tempo := rfl
@[simp] theorem State.setStrm_queues : (s.setStrm i x).queues = s.queues := rfl
@[simp] theorem State.setStrm_posts : (s.setStrm i x).posts = s.posts := rfl
@[simp] theorem State.setStrm_trans : (s.setStrm i x).trans = s.trans := rfl
@[simp] theorem State.setStrm_dma : (s.setStrm i x).dma = s.dma := rfl
@[simp] theorem State.setStrm_arrivals : (s.setStrm i x).arrivals = s.arrivals := rfl
@[simp] theorem State.setStrm_ports : (s.setStrm i x).ports = s.ports := rfl
@[simp] theorem State.setStrm_pipes : (s.setStrm i x).pipes = s.pipes := rfl
@[simp] theorem State.setStrm_align : (s.setStrm i x).align = s.align := rfl
@[simp] theorem State.setStrm_stats : (s.setStrm i x).stats = s.stats := rfl
@[simp] theorem State.setStrm_locks : (s.setStrm i x).locks = s.locks := rfl
@[simp] theorem State.setStrm_svc : (s.setStrm i x).svc = s.svc := rfl
@[simp] theorem State.setStrm_cues : (s.setStrm i x).cues = s.cues := rfl
@[simp] theorem State.setStrm_caps : (s.setStrm i x).caps = s.caps := rfl
@[simp] theorem State.setStrm_servo : (s.setStrm i x).servo = s.servo := rfl
@[simp] theorem State.setStrm_ptp : (s.setStrm i x).ptp = s.ptp := rfl
@[simp] theorem State.setStrm_net : (s.setStrm i x).net = s.net := rfl
@[simp] theorem State.setStrm_tie : (s.setStrm i x).tie = s.tie := rfl
@[simp] theorem State.setStrm_proc : (s.setStrm i x).proc = s.proc := rfl
@[simp] theorem State.setStrm_serial : (s.setStrm i x).serial = s.serial := rfl
@[simp] theorem State.setStrm_checks : (s.setStrm i x).checks = s.checks := rfl
@[simp] theorem State.setStrm_power : (s.setStrm i x).power = s.power := rfl
@[simp] theorem State.setStrm_lc : (s.setStrm i x).lc = s.lc := rfl
@[simp] theorem State.setStrm_ready : (s.setStrm i x).ready = s.ready := rfl
@[simp] theorem State.setStrm_out : (s.setStrm i x).out = s.out := rfl
@[simp] theorem State.setStrm_lastRead : (s.setStrm i x).lastRead = s.lastRead := rfl
@[simp] theorem State.setStrm_fresh : (s.setStrm i x).fresh = s.fresh := rfl
@[simp] theorem State.setStrm_cycle : (s.setStrm i x).cycle = s.cycle := rfl
@[simp] theorem State.setStrm_pending : (s.setStrm i x).pending = s.pending := rfl

end

/-! ### `setLink` -/

section

variable (s : State) (p k c : Nat)

@[simp] theorem State.setLink_latch : (s.setLink p k c).latch = s.latch := rfl
@[simp] theorem State.setLink_stage : (s.setLink p k c).stage = s.stage := rfl
@[simp] theorem State.setLink_mem : (s.setLink p k c).mem = s.mem := rfl
@[simp] theorem State.setLink_hostMem : (s.setLink p k c).hostMem = s.hostMem := rfl
@[simp] theorem State.setLink_flash : (s.setLink p k c).flash = s.flash := rfl
@[simp] theorem State.setLink_clock : (s.setLink p k c).clock = s.clock := rfl
@[simp] theorem State.setLink_load : (s.setLink p k c).load = s.load := rfl
@[simp] theorem State.setLink_tempo : (s.setLink p k c).tempo = s.tempo := rfl
@[simp] theorem State.setLink_queues : (s.setLink p k c).queues = s.queues := rfl
@[simp] theorem State.setLink_posts : (s.setLink p k c).posts = s.posts := rfl
@[simp] theorem State.setLink_trans : (s.setLink p k c).trans = s.trans := rfl
@[simp] theorem State.setLink_dma : (s.setLink p k c).dma = s.dma := rfl
@[simp] theorem State.setLink_arrivals : (s.setLink p k c).arrivals = s.arrivals := rfl
@[simp] theorem State.setLink_streams : (s.setLink p k c).streams = s.streams := rfl
@[simp] theorem State.setLink_ports : (s.setLink p k c).ports = s.ports := rfl
@[simp] theorem State.setLink_pipes : (s.setLink p k c).pipes = s.pipes := rfl
@[simp] theorem State.setLink_align : (s.setLink p k c).align = s.align := rfl
@[simp] theorem State.setLink_stats : (s.setLink p k c).stats = s.stats := rfl
@[simp] theorem State.setLink_locks : (s.setLink p k c).locks = s.locks := rfl
@[simp] theorem State.setLink_svc : (s.setLink p k c).svc = s.svc := rfl
@[simp] theorem State.setLink_cues : (s.setLink p k c).cues = s.cues := rfl
@[simp] theorem State.setLink_caps : (s.setLink p k c).caps = s.caps := rfl
@[simp] theorem State.setLink_servo : (s.setLink p k c).servo = s.servo := rfl
@[simp] theorem State.setLink_ptp : (s.setLink p k c).ptp = s.ptp := rfl
@[simp] theorem State.setLink_net : (s.setLink p k c).net = s.net := rfl
@[simp] theorem State.setLink_tie : (s.setLink p k c).tie = s.tie := rfl
@[simp] theorem State.setLink_proc : (s.setLink p k c).proc = s.proc := rfl
@[simp] theorem State.setLink_serial : (s.setLink p k c).serial = s.serial := rfl
@[simp] theorem State.setLink_checks : (s.setLink p k c).checks = s.checks := rfl
@[simp] theorem State.setLink_power : (s.setLink p k c).power = s.power := rfl
@[simp] theorem State.setLink_lc : (s.setLink p k c).lc = s.lc := rfl
@[simp] theorem State.setLink_ready : (s.setLink p k c).ready = s.ready := rfl
@[simp] theorem State.setLink_out : (s.setLink p k c).out = s.out := rfl
@[simp] theorem State.setLink_lastRead : (s.setLink p k c).lastRead = s.lastRead := rfl
@[simp] theorem State.setLink_fresh : (s.setLink p k c).fresh = s.fresh := rfl
@[simp] theorem State.setLink_cycle : (s.setLink p k c).cycle = s.cycle := rfl
@[simp] theorem State.setLink_pending : (s.setLink p k c).pending = s.pending := rfl

end

/-! ### `setPipe` -/

section

variable (s : State) (p : Nat) (x : Pipe)

@[simp] theorem State.setPipe_regs : (s.setPipe p x).regs = s.regs := rfl
@[simp] theorem State.setPipe_latch : (s.setPipe p x).latch = s.latch := rfl
@[simp] theorem State.setPipe_stage : (s.setPipe p x).stage = s.stage := rfl
@[simp] theorem State.setPipe_mem : (s.setPipe p x).mem = s.mem := rfl
@[simp] theorem State.setPipe_hostMem : (s.setPipe p x).hostMem = s.hostMem := rfl
@[simp] theorem State.setPipe_flash : (s.setPipe p x).flash = s.flash := rfl
@[simp] theorem State.setPipe_clock : (s.setPipe p x).clock = s.clock := rfl
@[simp] theorem State.setPipe_load : (s.setPipe p x).load = s.load := rfl
@[simp] theorem State.setPipe_tempo : (s.setPipe p x).tempo = s.tempo := rfl
@[simp] theorem State.setPipe_queues : (s.setPipe p x).queues = s.queues := rfl
@[simp] theorem State.setPipe_posts : (s.setPipe p x).posts = s.posts := rfl
@[simp] theorem State.setPipe_trans : (s.setPipe p x).trans = s.trans := rfl
@[simp] theorem State.setPipe_dma : (s.setPipe p x).dma = s.dma := rfl
@[simp] theorem State.setPipe_arrivals : (s.setPipe p x).arrivals = s.arrivals := rfl
@[simp] theorem State.setPipe_streams : (s.setPipe p x).streams = s.streams := rfl
@[simp] theorem State.setPipe_ports : (s.setPipe p x).ports = s.ports := rfl
@[simp] theorem State.setPipe_align : (s.setPipe p x).align = s.align := rfl
@[simp] theorem State.setPipe_stats : (s.setPipe p x).stats = s.stats := rfl
@[simp] theorem State.setPipe_locks : (s.setPipe p x).locks = s.locks := rfl
@[simp] theorem State.setPipe_svc : (s.setPipe p x).svc = s.svc := rfl
@[simp] theorem State.setPipe_cues : (s.setPipe p x).cues = s.cues := rfl
@[simp] theorem State.setPipe_caps : (s.setPipe p x).caps = s.caps := rfl
@[simp] theorem State.setPipe_servo : (s.setPipe p x).servo = s.servo := rfl
@[simp] theorem State.setPipe_ptp : (s.setPipe p x).ptp = s.ptp := rfl
@[simp] theorem State.setPipe_net : (s.setPipe p x).net = s.net := rfl
@[simp] theorem State.setPipe_tie : (s.setPipe p x).tie = s.tie := rfl
@[simp] theorem State.setPipe_proc : (s.setPipe p x).proc = s.proc := rfl
@[simp] theorem State.setPipe_serial : (s.setPipe p x).serial = s.serial := rfl
@[simp] theorem State.setPipe_checks : (s.setPipe p x).checks = s.checks := rfl
@[simp] theorem State.setPipe_power : (s.setPipe p x).power = s.power := rfl
@[simp] theorem State.setPipe_lc : (s.setPipe p x).lc = s.lc := rfl
@[simp] theorem State.setPipe_ready : (s.setPipe p x).ready = s.ready := rfl
@[simp] theorem State.setPipe_out : (s.setPipe p x).out = s.out := rfl
@[simp] theorem State.setPipe_lastRead : (s.setPipe p x).lastRead = s.lastRead := rfl
@[simp] theorem State.setPipe_fresh : (s.setPipe p x).fresh = s.fresh := rfl
@[simp] theorem State.setPipe_cycle : (s.setPipe p x).cycle = s.cycle := rfl
@[simp] theorem State.setPipe_pending : (s.setPipe p x).pending = s.pending := rfl

end

/-! ### `setProduct` -/

section

variable (s : State) (p : Product)

@[simp] theorem State.setProduct_regs : (s.setProduct p).regs = s.regs := rfl
@[simp] theorem State.setProduct_latch : (s.setProduct p).latch = s.latch := rfl
@[simp] theorem State.setProduct_stage : (s.setProduct p).stage = s.stage := rfl
@[simp] theorem State.setProduct_mem : (s.setProduct p).mem = s.mem := rfl
@[simp] theorem State.setProduct_hostMem : (s.setProduct p).hostMem = s.hostMem := rfl
@[simp] theorem State.setProduct_flash : (s.setProduct p).flash = s.flash := rfl
@[simp] theorem State.setProduct_clock : (s.setProduct p).clock = s.clock := rfl
@[simp] theorem State.setProduct_load : (s.setProduct p).load = s.load := rfl
@[simp] theorem State.setProduct_tempo : (s.setProduct p).tempo = s.tempo := rfl
@[simp] theorem State.setProduct_queues : (s.setProduct p).queues = s.queues := rfl
@[simp] theorem State.setProduct_posts : (s.setProduct p).posts = s.posts := rfl
@[simp] theorem State.setProduct_trans : (s.setProduct p).trans = s.trans := rfl
@[simp] theorem State.setProduct_dma : (s.setProduct p).dma = s.dma := rfl
@[simp] theorem State.setProduct_arrivals : (s.setProduct p).arrivals = s.arrivals := rfl
@[simp] theorem State.setProduct_streams : (s.setProduct p).streams = s.streams := rfl
@[simp] theorem State.setProduct_ports : (s.setProduct p).ports = s.ports := rfl
@[simp] theorem State.setProduct_pipes : (s.setProduct p).pipes = s.pipes := rfl
@[simp] theorem State.setProduct_stats : (s.setProduct p).stats = s.stats := rfl
@[simp] theorem State.setProduct_locks : (s.setProduct p).locks = s.locks := rfl
@[simp] theorem State.setProduct_svc : (s.setProduct p).svc = s.svc := rfl
@[simp] theorem State.setProduct_cues : (s.setProduct p).cues = s.cues := rfl
@[simp] theorem State.setProduct_caps : (s.setProduct p).caps = s.caps := rfl
@[simp] theorem State.setProduct_servo : (s.setProduct p).servo = s.servo := rfl
@[simp] theorem State.setProduct_ptp : (s.setProduct p).ptp = s.ptp := rfl
@[simp] theorem State.setProduct_net : (s.setProduct p).net = s.net := rfl
@[simp] theorem State.setProduct_tie : (s.setProduct p).tie = s.tie := rfl
@[simp] theorem State.setProduct_proc : (s.setProduct p).proc = s.proc := rfl
@[simp] theorem State.setProduct_serial : (s.setProduct p).serial = s.serial := rfl
@[simp] theorem State.setProduct_checks : (s.setProduct p).checks = s.checks := rfl
@[simp] theorem State.setProduct_power : (s.setProduct p).power = s.power := rfl
@[simp] theorem State.setProduct_lc : (s.setProduct p).lc = s.lc := rfl
@[simp] theorem State.setProduct_ready : (s.setProduct p).ready = s.ready := rfl
@[simp] theorem State.setProduct_out : (s.setProduct p).out = s.out := rfl
@[simp] theorem State.setProduct_lastRead : (s.setProduct p).lastRead = s.lastRead := rfl
@[simp] theorem State.setProduct_fresh : (s.setProduct p).fresh = s.fresh := rfl
@[simp] theorem State.setProduct_cycle : (s.setProduct p).cycle = s.cycle := rfl
@[simp] theorem State.setProduct_pending : (s.setProduct p).pending = s.pending := rfl

end

/-! ### `setStat` -/

section

variable (s : State) (a : StatAcc)

@[simp] theorem State.setStat_regs : (s.setStat a).regs = s.regs := rfl
@[simp] theorem State.setStat_latch : (s.setStat a).latch = s.latch := rfl
@[simp] theorem State.setStat_stage : (s.setStat a).stage = s.stage := rfl
@[simp] theorem State.setStat_mem : (s.setStat a).mem = s.mem := rfl
@[simp] theorem State.setStat_hostMem : (s.setStat a).hostMem = s.hostMem := rfl
@[simp] theorem State.setStat_flash : (s.setStat a).flash = s.flash := rfl
@[simp] theorem State.setStat_clock : (s.setStat a).clock = s.clock := rfl
@[simp] theorem State.setStat_load : (s.setStat a).load = s.load := rfl
@[simp] theorem State.setStat_tempo : (s.setStat a).tempo = s.tempo := rfl
@[simp] theorem State.setStat_queues : (s.setStat a).queues = s.queues := rfl
@[simp] theorem State.setStat_posts : (s.setStat a).posts = s.posts := rfl
@[simp] theorem State.setStat_trans : (s.setStat a).trans = s.trans := rfl
@[simp] theorem State.setStat_dma : (s.setStat a).dma = s.dma := rfl
@[simp] theorem State.setStat_arrivals : (s.setStat a).arrivals = s.arrivals := rfl
@[simp] theorem State.setStat_streams : (s.setStat a).streams = s.streams := rfl
@[simp] theorem State.setStat_ports : (s.setStat a).ports = s.ports := rfl
@[simp] theorem State.setStat_pipes : (s.setStat a).pipes = s.pipes := rfl
@[simp] theorem State.setStat_align : (s.setStat a).align = s.align := rfl
@[simp] theorem State.setStat_locks : (s.setStat a).locks = s.locks := rfl
@[simp] theorem State.setStat_svc : (s.setStat a).svc = s.svc := rfl
@[simp] theorem State.setStat_cues : (s.setStat a).cues = s.cues := rfl
@[simp] theorem State.setStat_caps : (s.setStat a).caps = s.caps := rfl
@[simp] theorem State.setStat_servo : (s.setStat a).servo = s.servo := rfl
@[simp] theorem State.setStat_ptp : (s.setStat a).ptp = s.ptp := rfl
@[simp] theorem State.setStat_net : (s.setStat a).net = s.net := rfl
@[simp] theorem State.setStat_tie : (s.setStat a).tie = s.tie := rfl
@[simp] theorem State.setStat_proc : (s.setStat a).proc = s.proc := rfl
@[simp] theorem State.setStat_serial : (s.setStat a).serial = s.serial := rfl
@[simp] theorem State.setStat_checks : (s.setStat a).checks = s.checks := rfl
@[simp] theorem State.setStat_power : (s.setStat a).power = s.power := rfl
@[simp] theorem State.setStat_lc : (s.setStat a).lc = s.lc := rfl
@[simp] theorem State.setStat_ready : (s.setStat a).ready = s.ready := rfl
@[simp] theorem State.setStat_out : (s.setStat a).out = s.out := rfl
@[simp] theorem State.setStat_lastRead : (s.setStat a).lastRead = s.lastRead := rfl
@[simp] theorem State.setStat_fresh : (s.setStat a).fresh = s.fresh := rfl
@[simp] theorem State.setStat_cycle : (s.setStat a).cycle = s.cycle := rfl
@[simp] theorem State.setStat_pending : (s.setStat a).pending = s.pending := rfl

end

/-! ### `setJob` -/

section

variable (s : State) (j : Job)

@[simp] theorem State.setJob_regs : (s.setJob j).regs = s.regs := rfl
@[simp] theorem State.setJob_latch : (s.setJob j).latch = s.latch := rfl
@[simp] theorem State.setJob_stage : (s.setJob j).stage = s.stage := rfl
@[simp] theorem State.setJob_mem : (s.setJob j).mem = s.mem := rfl
@[simp] theorem State.setJob_hostMem : (s.setJob j).hostMem = s.hostMem := rfl
@[simp] theorem State.setJob_flash : (s.setJob j).flash = s.flash := rfl
@[simp] theorem State.setJob_clock : (s.setJob j).clock = s.clock := rfl
@[simp] theorem State.setJob_load : (s.setJob j).load = s.load := rfl
@[simp] theorem State.setJob_tempo : (s.setJob j).tempo = s.tempo := rfl
@[simp] theorem State.setJob_queues : (s.setJob j).queues = s.queues := rfl
@[simp] theorem State.setJob_posts : (s.setJob j).posts = s.posts := rfl
@[simp] theorem State.setJob_trans : (s.setJob j).trans = s.trans := rfl
@[simp] theorem State.setJob_dma : (s.setJob j).dma = s.dma := rfl
@[simp] theorem State.setJob_arrivals : (s.setJob j).arrivals = s.arrivals := rfl
@[simp] theorem State.setJob_streams : (s.setJob j).streams = s.streams := rfl
@[simp] theorem State.setJob_ports : (s.setJob j).ports = s.ports := rfl
@[simp] theorem State.setJob_pipes : (s.setJob j).pipes = s.pipes := rfl
@[simp] theorem State.setJob_align : (s.setJob j).align = s.align := rfl
@[simp] theorem State.setJob_stats : (s.setJob j).stats = s.stats := rfl
@[simp] theorem State.setJob_locks : (s.setJob j).locks = s.locks := rfl
@[simp] theorem State.setJob_cues : (s.setJob j).cues = s.cues := rfl
@[simp] theorem State.setJob_caps : (s.setJob j).caps = s.caps := rfl
@[simp] theorem State.setJob_servo : (s.setJob j).servo = s.servo := rfl
@[simp] theorem State.setJob_ptp : (s.setJob j).ptp = s.ptp := rfl
@[simp] theorem State.setJob_net : (s.setJob j).net = s.net := rfl
@[simp] theorem State.setJob_tie : (s.setJob j).tie = s.tie := rfl
@[simp] theorem State.setJob_proc : (s.setJob j).proc = s.proc := rfl
@[simp] theorem State.setJob_serial : (s.setJob j).serial = s.serial := rfl
@[simp] theorem State.setJob_checks : (s.setJob j).checks = s.checks := rfl
@[simp] theorem State.setJob_power : (s.setJob j).power = s.power := rfl
@[simp] theorem State.setJob_lc : (s.setJob j).lc = s.lc := rfl
@[simp] theorem State.setJob_ready : (s.setJob j).ready = s.ready := rfl
@[simp] theorem State.setJob_out : (s.setJob j).out = s.out := rfl
@[simp] theorem State.setJob_lastRead : (s.setJob j).lastRead = s.lastRead := rfl
@[simp] theorem State.setJob_fresh : (s.setJob j).fresh = s.fresh := rfl
@[simp] theorem State.setJob_cycle : (s.setJob j).cycle = s.cycle := rfl
@[simp] theorem State.setJob_pending : (s.setJob j).pending = s.pending := rfl

end

/-! ### `setRequests` -/

section

variable (s : State) (l : List Request)

@[simp] theorem State.setRequests_latch : (s.setRequests l).latch = s.latch := rfl
@[simp] theorem State.setRequests_stage : (s.setRequests l).stage = s.stage := rfl
@[simp] theorem State.setRequests_mem : (s.setRequests l).mem = s.mem := rfl
@[simp] theorem State.setRequests_hostMem : (s.setRequests l).hostMem = s.hostMem := rfl
@[simp] theorem State.setRequests_flash : (s.setRequests l).flash = s.flash := rfl
@[simp] theorem State.setRequests_clock : (s.setRequests l).clock = s.clock := rfl
@[simp] theorem State.setRequests_load : (s.setRequests l).load = s.load := rfl
@[simp] theorem State.setRequests_tempo : (s.setRequests l).tempo = s.tempo := rfl
@[simp] theorem State.setRequests_queues : (s.setRequests l).queues = s.queues := rfl
@[simp] theorem State.setRequests_posts : (s.setRequests l).posts = s.posts := rfl
@[simp] theorem State.setRequests_trans : (s.setRequests l).trans = s.trans := rfl
@[simp] theorem State.setRequests_dma : (s.setRequests l).dma = s.dma := rfl
@[simp] theorem State.setRequests_arrivals : (s.setRequests l).arrivals = s.arrivals := rfl
@[simp] theorem State.setRequests_streams : (s.setRequests l).streams = s.streams := rfl
@[simp] theorem State.setRequests_ports : (s.setRequests l).ports = s.ports := rfl
@[simp] theorem State.setRequests_pipes : (s.setRequests l).pipes = s.pipes := rfl
@[simp] theorem State.setRequests_align : (s.setRequests l).align = s.align := rfl
@[simp] theorem State.setRequests_stats : (s.setRequests l).stats = s.stats := rfl
@[simp] theorem State.setRequests_locks : (s.setRequests l).locks = s.locks := rfl
@[simp] theorem State.setRequests_cues : (s.setRequests l).cues = s.cues := rfl
@[simp] theorem State.setRequests_caps : (s.setRequests l).caps = s.caps := rfl
@[simp] theorem State.setRequests_servo : (s.setRequests l).servo = s.servo := rfl
@[simp] theorem State.setRequests_ptp : (s.setRequests l).ptp = s.ptp := rfl
@[simp] theorem State.setRequests_net : (s.setRequests l).net = s.net := rfl
@[simp] theorem State.setRequests_tie : (s.setRequests l).tie = s.tie := rfl
@[simp] theorem State.setRequests_proc : (s.setRequests l).proc = s.proc := rfl
@[simp] theorem State.setRequests_serial : (s.setRequests l).serial = s.serial := rfl
@[simp] theorem State.setRequests_checks : (s.setRequests l).checks = s.checks := rfl
@[simp] theorem State.setRequests_power : (s.setRequests l).power = s.power := rfl
@[simp] theorem State.setRequests_lc : (s.setRequests l).lc = s.lc := rfl
@[simp] theorem State.setRequests_ready : (s.setRequests l).ready = s.ready := rfl
@[simp] theorem State.setRequests_out : (s.setRequests l).out = s.out := rfl
@[simp] theorem State.setRequests_lastRead : (s.setRequests l).lastRead = s.lastRead := rfl
@[simp] theorem State.setRequests_fresh : (s.setRequests l).fresh = s.fresh := rfl
@[simp] theorem State.setRequests_cycle : (s.setRequests l).cycle = s.cycle := rfl
@[simp] theorem State.setRequests_pending : (s.setRequests l).pending = s.pending := rfl

end

/-! ### `setCap` -/

section

variable (s : State) (k : Nat) (l : List Capture)

@[simp] theorem State.setCap_latch : (s.setCap k l).latch = s.latch := rfl
@[simp] theorem State.setCap_stage : (s.setCap k l).stage = s.stage := rfl
@[simp] theorem State.setCap_mem : (s.setCap k l).mem = s.mem := rfl
@[simp] theorem State.setCap_hostMem : (s.setCap k l).hostMem = s.hostMem := rfl
@[simp] theorem State.setCap_flash : (s.setCap k l).flash = s.flash := rfl
@[simp] theorem State.setCap_clock : (s.setCap k l).clock = s.clock := rfl
@[simp] theorem State.setCap_load : (s.setCap k l).load = s.load := rfl
@[simp] theorem State.setCap_tempo : (s.setCap k l).tempo = s.tempo := rfl
@[simp] theorem State.setCap_queues : (s.setCap k l).queues = s.queues := rfl
@[simp] theorem State.setCap_posts : (s.setCap k l).posts = s.posts := rfl
@[simp] theorem State.setCap_trans : (s.setCap k l).trans = s.trans := rfl
@[simp] theorem State.setCap_dma : (s.setCap k l).dma = s.dma := rfl
@[simp] theorem State.setCap_arrivals : (s.setCap k l).arrivals = s.arrivals := rfl
@[simp] theorem State.setCap_streams : (s.setCap k l).streams = s.streams := rfl
@[simp] theorem State.setCap_ports : (s.setCap k l).ports = s.ports := rfl
@[simp] theorem State.setCap_pipes : (s.setCap k l).pipes = s.pipes := rfl
@[simp] theorem State.setCap_align : (s.setCap k l).align = s.align := rfl
@[simp] theorem State.setCap_stats : (s.setCap k l).stats = s.stats := rfl
@[simp] theorem State.setCap_locks : (s.setCap k l).locks = s.locks := rfl
@[simp] theorem State.setCap_svc : (s.setCap k l).svc = s.svc := rfl
@[simp] theorem State.setCap_cues : (s.setCap k l).cues = s.cues := rfl
@[simp] theorem State.setCap_servo : (s.setCap k l).servo = s.servo := rfl
@[simp] theorem State.setCap_ptp : (s.setCap k l).ptp = s.ptp := rfl
@[simp] theorem State.setCap_net : (s.setCap k l).net = s.net := rfl
@[simp] theorem State.setCap_tie : (s.setCap k l).tie = s.tie := rfl
@[simp] theorem State.setCap_proc : (s.setCap k l).proc = s.proc := rfl
@[simp] theorem State.setCap_serial : (s.setCap k l).serial = s.serial := rfl
@[simp] theorem State.setCap_checks : (s.setCap k l).checks = s.checks := rfl
@[simp] theorem State.setCap_power : (s.setCap k l).power = s.power := rfl
@[simp] theorem State.setCap_lc : (s.setCap k l).lc = s.lc := rfl
@[simp] theorem State.setCap_ready : (s.setCap k l).ready = s.ready := rfl
@[simp] theorem State.setCap_out : (s.setCap k l).out = s.out := rfl
@[simp] theorem State.setCap_lastRead : (s.setCap k l).lastRead = s.lastRead := rfl
@[simp] theorem State.setCap_fresh : (s.setCap k l).fresh = s.fresh := rfl
@[simp] theorem State.setCap_cycle : (s.setCap k l).cycle = s.cycle := rfl
@[simp] theorem State.setCap_pending : (s.setCap k l).pending = s.pending := rfl

end

/-! ### `cueLate` -/

section

variable (s : State) (k : Nat)

@[simp] theorem State.cueLate_latch : (s.cueLate k).latch = s.latch := rfl
@[simp] theorem State.cueLate_stage : (s.cueLate k).stage = s.stage := rfl
@[simp] theorem State.cueLate_mem : (s.cueLate k).mem = s.mem := rfl
@[simp] theorem State.cueLate_hostMem : (s.cueLate k).hostMem = s.hostMem := rfl
@[simp] theorem State.cueLate_flash : (s.cueLate k).flash = s.flash := rfl
@[simp] theorem State.cueLate_clock : (s.cueLate k).clock = s.clock := rfl
@[simp] theorem State.cueLate_load : (s.cueLate k).load = s.load := rfl
@[simp] theorem State.cueLate_tempo : (s.cueLate k).tempo = s.tempo := rfl
@[simp] theorem State.cueLate_queues : (s.cueLate k).queues = s.queues := rfl
@[simp] theorem State.cueLate_posts : (s.cueLate k).posts = s.posts := rfl
@[simp] theorem State.cueLate_trans : (s.cueLate k).trans = s.trans := rfl
@[simp] theorem State.cueLate_dma : (s.cueLate k).dma = s.dma := rfl
@[simp] theorem State.cueLate_arrivals : (s.cueLate k).arrivals = s.arrivals := rfl
@[simp] theorem State.cueLate_streams : (s.cueLate k).streams = s.streams := rfl
@[simp] theorem State.cueLate_ports : (s.cueLate k).ports = s.ports := rfl
@[simp] theorem State.cueLate_pipes : (s.cueLate k).pipes = s.pipes := rfl
@[simp] theorem State.cueLate_align : (s.cueLate k).align = s.align := rfl
@[simp] theorem State.cueLate_stats : (s.cueLate k).stats = s.stats := rfl
@[simp] theorem State.cueLate_locks : (s.cueLate k).locks = s.locks := rfl
@[simp] theorem State.cueLate_svc : (s.cueLate k).svc = s.svc := rfl
@[simp] theorem State.cueLate_cues : (s.cueLate k).cues = s.cues := rfl
@[simp] theorem State.cueLate_caps : (s.cueLate k).caps = s.caps := rfl
@[simp] theorem State.cueLate_servo : (s.cueLate k).servo = s.servo := rfl
@[simp] theorem State.cueLate_ptp : (s.cueLate k).ptp = s.ptp := rfl
@[simp] theorem State.cueLate_net : (s.cueLate k).net = s.net := rfl
@[simp] theorem State.cueLate_tie : (s.cueLate k).tie = s.tie := rfl
@[simp] theorem State.cueLate_proc : (s.cueLate k).proc = s.proc := rfl
@[simp] theorem State.cueLate_serial : (s.cueLate k).serial = s.serial := rfl
@[simp] theorem State.cueLate_checks : (s.cueLate k).checks = s.checks := rfl
@[simp] theorem State.cueLate_power : (s.cueLate k).power = s.power := rfl
@[simp] theorem State.cueLate_lc : (s.cueLate k).lc = s.lc := rfl
@[simp] theorem State.cueLate_ready : (s.cueLate k).ready = s.ready := rfl
@[simp] theorem State.cueLate_out : (s.cueLate k).out = s.out := rfl
@[simp] theorem State.cueLate_lastRead : (s.cueLate k).lastRead = s.lastRead := rfl
@[simp] theorem State.cueLate_fresh : (s.cueLate k).fresh = s.fresh := rfl
@[simp] theorem State.cueLate_cycle : (s.cueLate k).cycle = s.cycle := rfl
@[simp] theorem State.cueLate_pending : (s.cueLate k).pending = s.pending := rfl

end

/-! ### `setTxq` -/

section

variable (s : State) (q : Nat) (l : List TxStamp)

@[simp] theorem State.setTxq_latch : (s.setTxq q l).latch = s.latch := rfl
@[simp] theorem State.setTxq_stage : (s.setTxq q l).stage = s.stage := rfl
@[simp] theorem State.setTxq_mem : (s.setTxq q l).mem = s.mem := rfl
@[simp] theorem State.setTxq_hostMem : (s.setTxq q l).hostMem = s.hostMem := rfl
@[simp] theorem State.setTxq_flash : (s.setTxq q l).flash = s.flash := rfl
@[simp] theorem State.setTxq_clock : (s.setTxq q l).clock = s.clock := rfl
@[simp] theorem State.setTxq_load : (s.setTxq q l).load = s.load := rfl
@[simp] theorem State.setTxq_tempo : (s.setTxq q l).tempo = s.tempo := rfl
@[simp] theorem State.setTxq_queues : (s.setTxq q l).queues = s.queues := rfl
@[simp] theorem State.setTxq_posts : (s.setTxq q l).posts = s.posts := rfl
@[simp] theorem State.setTxq_trans : (s.setTxq q l).trans = s.trans := rfl
@[simp] theorem State.setTxq_dma : (s.setTxq q l).dma = s.dma := rfl
@[simp] theorem State.setTxq_arrivals : (s.setTxq q l).arrivals = s.arrivals := rfl
@[simp] theorem State.setTxq_streams : (s.setTxq q l).streams = s.streams := rfl
@[simp] theorem State.setTxq_ports : (s.setTxq q l).ports = s.ports := rfl
@[simp] theorem State.setTxq_pipes : (s.setTxq q l).pipes = s.pipes := rfl
@[simp] theorem State.setTxq_align : (s.setTxq q l).align = s.align := rfl
@[simp] theorem State.setTxq_stats : (s.setTxq q l).stats = s.stats := rfl
@[simp] theorem State.setTxq_locks : (s.setTxq q l).locks = s.locks := rfl
@[simp] theorem State.setTxq_svc : (s.setTxq q l).svc = s.svc := rfl
@[simp] theorem State.setTxq_cues : (s.setTxq q l).cues = s.cues := rfl
@[simp] theorem State.setTxq_caps : (s.setTxq q l).caps = s.caps := rfl
@[simp] theorem State.setTxq_servo : (s.setTxq q l).servo = s.servo := rfl
@[simp] theorem State.setTxq_net : (s.setTxq q l).net = s.net := rfl
@[simp] theorem State.setTxq_tie : (s.setTxq q l).tie = s.tie := rfl
@[simp] theorem State.setTxq_proc : (s.setTxq q l).proc = s.proc := rfl
@[simp] theorem State.setTxq_serial : (s.setTxq q l).serial = s.serial := rfl
@[simp] theorem State.setTxq_checks : (s.setTxq q l).checks = s.checks := rfl
@[simp] theorem State.setTxq_power : (s.setTxq q l).power = s.power := rfl
@[simp] theorem State.setTxq_lc : (s.setTxq q l).lc = s.lc := rfl
@[simp] theorem State.setTxq_ready : (s.setTxq q l).ready = s.ready := rfl
@[simp] theorem State.setTxq_out : (s.setTxq q l).out = s.out := rfl
@[simp] theorem State.setTxq_lastRead : (s.setTxq q l).lastRead = s.lastRead := rfl
@[simp] theorem State.setTxq_fresh : (s.setTxq q l).fresh = s.fresh := rfl
@[simp] theorem State.setTxq_cycle : (s.setTxq q l).cycle = s.cycle := rfl
@[simp] theorem State.setTxq_pending : (s.setTxq q l).pending = s.pending := rfl

end

/-! ### `setUplink` -/

section

variable (s : State) (u : Nat) (x : Uplink)

@[simp] theorem State.setUplink_regs : (s.setUplink u x).regs = s.regs := rfl
@[simp] theorem State.setUplink_latch : (s.setUplink u x).latch = s.latch := rfl
@[simp] theorem State.setUplink_stage : (s.setUplink u x).stage = s.stage := rfl
@[simp] theorem State.setUplink_mem : (s.setUplink u x).mem = s.mem := rfl
@[simp] theorem State.setUplink_hostMem : (s.setUplink u x).hostMem = s.hostMem := rfl
@[simp] theorem State.setUplink_flash : (s.setUplink u x).flash = s.flash := rfl
@[simp] theorem State.setUplink_clock : (s.setUplink u x).clock = s.clock := rfl
@[simp] theorem State.setUplink_load : (s.setUplink u x).load = s.load := rfl
@[simp] theorem State.setUplink_tempo : (s.setUplink u x).tempo = s.tempo := rfl
@[simp] theorem State.setUplink_queues : (s.setUplink u x).queues = s.queues := rfl
@[simp] theorem State.setUplink_posts : (s.setUplink u x).posts = s.posts := rfl
@[simp] theorem State.setUplink_trans : (s.setUplink u x).trans = s.trans := rfl
@[simp] theorem State.setUplink_dma : (s.setUplink u x).dma = s.dma := rfl
@[simp] theorem State.setUplink_arrivals : (s.setUplink u x).arrivals = s.arrivals := rfl
@[simp] theorem State.setUplink_streams : (s.setUplink u x).streams = s.streams := rfl
@[simp] theorem State.setUplink_ports : (s.setUplink u x).ports = s.ports := rfl
@[simp] theorem State.setUplink_pipes : (s.setUplink u x).pipes = s.pipes := rfl
@[simp] theorem State.setUplink_align : (s.setUplink u x).align = s.align := rfl
@[simp] theorem State.setUplink_stats : (s.setUplink u x).stats = s.stats := rfl
@[simp] theorem State.setUplink_locks : (s.setUplink u x).locks = s.locks := rfl
@[simp] theorem State.setUplink_svc : (s.setUplink u x).svc = s.svc := rfl
@[simp] theorem State.setUplink_cues : (s.setUplink u x).cues = s.cues := rfl
@[simp] theorem State.setUplink_caps : (s.setUplink u x).caps = s.caps := rfl
@[simp] theorem State.setUplink_servo : (s.setUplink u x).servo = s.servo := rfl
@[simp] theorem State.setUplink_ptp : (s.setUplink u x).ptp = s.ptp := rfl
@[simp] theorem State.setUplink_tie : (s.setUplink u x).tie = s.tie := rfl
@[simp] theorem State.setUplink_proc : (s.setUplink u x).proc = s.proc := rfl
@[simp] theorem State.setUplink_serial : (s.setUplink u x).serial = s.serial := rfl
@[simp] theorem State.setUplink_checks : (s.setUplink u x).checks = s.checks := rfl
@[simp] theorem State.setUplink_power : (s.setUplink u x).power = s.power := rfl
@[simp] theorem State.setUplink_lc : (s.setUplink u x).lc = s.lc := rfl
@[simp] theorem State.setUplink_ready : (s.setUplink u x).ready = s.ready := rfl
@[simp] theorem State.setUplink_out : (s.setUplink u x).out = s.out := rfl
@[simp] theorem State.setUplink_lastRead : (s.setUplink u x).lastRead = s.lastRead := rfl
@[simp] theorem State.setUplink_fresh : (s.setUplink u x).fresh = s.fresh := rfl
@[simp] theorem State.setUplink_cycle : (s.setUplink u x).cycle = s.cycle := rfl
@[simp] theorem State.setUplink_pending : (s.setUplink u x).pending = s.pending := rfl

end

/-! ### `setFlow` -/

section

variable (s : State) (f : Nat) (x : FlowSt)

@[simp] theorem State.setFlow_regs : (s.setFlow f x).regs = s.regs := rfl
@[simp] theorem State.setFlow_latch : (s.setFlow f x).latch = s.latch := rfl
@[simp] theorem State.setFlow_stage : (s.setFlow f x).stage = s.stage := rfl
@[simp] theorem State.setFlow_mem : (s.setFlow f x).mem = s.mem := rfl
@[simp] theorem State.setFlow_hostMem : (s.setFlow f x).hostMem = s.hostMem := rfl
@[simp] theorem State.setFlow_flash : (s.setFlow f x).flash = s.flash := rfl
@[simp] theorem State.setFlow_clock : (s.setFlow f x).clock = s.clock := rfl
@[simp] theorem State.setFlow_load : (s.setFlow f x).load = s.load := rfl
@[simp] theorem State.setFlow_tempo : (s.setFlow f x).tempo = s.tempo := rfl
@[simp] theorem State.setFlow_queues : (s.setFlow f x).queues = s.queues := rfl
@[simp] theorem State.setFlow_posts : (s.setFlow f x).posts = s.posts := rfl
@[simp] theorem State.setFlow_trans : (s.setFlow f x).trans = s.trans := rfl
@[simp] theorem State.setFlow_dma : (s.setFlow f x).dma = s.dma := rfl
@[simp] theorem State.setFlow_arrivals : (s.setFlow f x).arrivals = s.arrivals := rfl
@[simp] theorem State.setFlow_streams : (s.setFlow f x).streams = s.streams := rfl
@[simp] theorem State.setFlow_ports : (s.setFlow f x).ports = s.ports := rfl
@[simp] theorem State.setFlow_pipes : (s.setFlow f x).pipes = s.pipes := rfl
@[simp] theorem State.setFlow_align : (s.setFlow f x).align = s.align := rfl
@[simp] theorem State.setFlow_stats : (s.setFlow f x).stats = s.stats := rfl
@[simp] theorem State.setFlow_locks : (s.setFlow f x).locks = s.locks := rfl
@[simp] theorem State.setFlow_svc : (s.setFlow f x).svc = s.svc := rfl
@[simp] theorem State.setFlow_cues : (s.setFlow f x).cues = s.cues := rfl
@[simp] theorem State.setFlow_caps : (s.setFlow f x).caps = s.caps := rfl
@[simp] theorem State.setFlow_servo : (s.setFlow f x).servo = s.servo := rfl
@[simp] theorem State.setFlow_ptp : (s.setFlow f x).ptp = s.ptp := rfl
@[simp] theorem State.setFlow_tie : (s.setFlow f x).tie = s.tie := rfl
@[simp] theorem State.setFlow_proc : (s.setFlow f x).proc = s.proc := rfl
@[simp] theorem State.setFlow_serial : (s.setFlow f x).serial = s.serial := rfl
@[simp] theorem State.setFlow_checks : (s.setFlow f x).checks = s.checks := rfl
@[simp] theorem State.setFlow_power : (s.setFlow f x).power = s.power := rfl
@[simp] theorem State.setFlow_lc : (s.setFlow f x).lc = s.lc := rfl
@[simp] theorem State.setFlow_ready : (s.setFlow f x).ready = s.ready := rfl
@[simp] theorem State.setFlow_out : (s.setFlow f x).out = s.out := rfl
@[simp] theorem State.setFlow_lastRead : (s.setFlow f x).lastRead = s.lastRead := rfl
@[simp] theorem State.setFlow_fresh : (s.setFlow f x).fresh = s.fresh := rfl
@[simp] theorem State.setFlow_cycle : (s.setFlow f x).cycle = s.cycle := rfl
@[simp] theorem State.setFlow_pending : (s.setFlow f x).pending = s.pending := rfl

end

/-! ### `setProc` -/

section

variable (s : State) (c : Nat) (x : ProcCh)

@[simp] theorem State.setProc_regs : (s.setProc c x).regs = s.regs := rfl
@[simp] theorem State.setProc_latch : (s.setProc c x).latch = s.latch := rfl
@[simp] theorem State.setProc_stage : (s.setProc c x).stage = s.stage := rfl
@[simp] theorem State.setProc_mem : (s.setProc c x).mem = s.mem := rfl
@[simp] theorem State.setProc_hostMem : (s.setProc c x).hostMem = s.hostMem := rfl
@[simp] theorem State.setProc_flash : (s.setProc c x).flash = s.flash := rfl
@[simp] theorem State.setProc_clock : (s.setProc c x).clock = s.clock := rfl
@[simp] theorem State.setProc_load : (s.setProc c x).load = s.load := rfl
@[simp] theorem State.setProc_tempo : (s.setProc c x).tempo = s.tempo := rfl
@[simp] theorem State.setProc_queues : (s.setProc c x).queues = s.queues := rfl
@[simp] theorem State.setProc_posts : (s.setProc c x).posts = s.posts := rfl
@[simp] theorem State.setProc_trans : (s.setProc c x).trans = s.trans := rfl
@[simp] theorem State.setProc_dma : (s.setProc c x).dma = s.dma := rfl
@[simp] theorem State.setProc_arrivals : (s.setProc c x).arrivals = s.arrivals := rfl
@[simp] theorem State.setProc_streams : (s.setProc c x).streams = s.streams := rfl
@[simp] theorem State.setProc_ports : (s.setProc c x).ports = s.ports := rfl
@[simp] theorem State.setProc_pipes : (s.setProc c x).pipes = s.pipes := rfl
@[simp] theorem State.setProc_align : (s.setProc c x).align = s.align := rfl
@[simp] theorem State.setProc_stats : (s.setProc c x).stats = s.stats := rfl
@[simp] theorem State.setProc_locks : (s.setProc c x).locks = s.locks := rfl
@[simp] theorem State.setProc_svc : (s.setProc c x).svc = s.svc := rfl
@[simp] theorem State.setProc_cues : (s.setProc c x).cues = s.cues := rfl
@[simp] theorem State.setProc_caps : (s.setProc c x).caps = s.caps := rfl
@[simp] theorem State.setProc_servo : (s.setProc c x).servo = s.servo := rfl
@[simp] theorem State.setProc_ptp : (s.setProc c x).ptp = s.ptp := rfl
@[simp] theorem State.setProc_net : (s.setProc c x).net = s.net := rfl
@[simp] theorem State.setProc_tie : (s.setProc c x).tie = s.tie := rfl
@[simp] theorem State.setProc_serial : (s.setProc c x).serial = s.serial := rfl
@[simp] theorem State.setProc_checks : (s.setProc c x).checks = s.checks := rfl
@[simp] theorem State.setProc_power : (s.setProc c x).power = s.power := rfl
@[simp] theorem State.setProc_lc : (s.setProc c x).lc = s.lc := rfl
@[simp] theorem State.setProc_ready : (s.setProc c x).ready = s.ready := rfl
@[simp] theorem State.setProc_out : (s.setProc c x).out = s.out := rfl
@[simp] theorem State.setProc_lastRead : (s.setProc c x).lastRead = s.lastRead := rfl
@[simp] theorem State.setProc_fresh : (s.setProc c x).fresh = s.fresh := rfl
@[simp] theorem State.setProc_cycle : (s.setProc c x).cycle = s.cycle := rfl
@[simp] theorem State.setProc_pending : (s.setProc c x).pending = s.pending := rfl

end

/-! ### `putSer` -/

section

variable (s : State) (p : Nat) (x : SerPort)

@[simp] theorem State.putSer_regs : (s.putSer p x).regs = s.regs := rfl
@[simp] theorem State.putSer_latch : (s.putSer p x).latch = s.latch := rfl
@[simp] theorem State.putSer_stage : (s.putSer p x).stage = s.stage := rfl
@[simp] theorem State.putSer_mem : (s.putSer p x).mem = s.mem := rfl
@[simp] theorem State.putSer_hostMem : (s.putSer p x).hostMem = s.hostMem := rfl
@[simp] theorem State.putSer_flash : (s.putSer p x).flash = s.flash := rfl
@[simp] theorem State.putSer_clock : (s.putSer p x).clock = s.clock := rfl
@[simp] theorem State.putSer_load : (s.putSer p x).load = s.load := rfl
@[simp] theorem State.putSer_tempo : (s.putSer p x).tempo = s.tempo := rfl
@[simp] theorem State.putSer_queues : (s.putSer p x).queues = s.queues := rfl
@[simp] theorem State.putSer_posts : (s.putSer p x).posts = s.posts := rfl
@[simp] theorem State.putSer_trans : (s.putSer p x).trans = s.trans := rfl
@[simp] theorem State.putSer_dma : (s.putSer p x).dma = s.dma := rfl
@[simp] theorem State.putSer_arrivals : (s.putSer p x).arrivals = s.arrivals := rfl
@[simp] theorem State.putSer_streams : (s.putSer p x).streams = s.streams := rfl
@[simp] theorem State.putSer_ports : (s.putSer p x).ports = s.ports := rfl
@[simp] theorem State.putSer_pipes : (s.putSer p x).pipes = s.pipes := rfl
@[simp] theorem State.putSer_align : (s.putSer p x).align = s.align := rfl
@[simp] theorem State.putSer_stats : (s.putSer p x).stats = s.stats := rfl
@[simp] theorem State.putSer_locks : (s.putSer p x).locks = s.locks := rfl
@[simp] theorem State.putSer_svc : (s.putSer p x).svc = s.svc := rfl
@[simp] theorem State.putSer_cues : (s.putSer p x).cues = s.cues := rfl
@[simp] theorem State.putSer_caps : (s.putSer p x).caps = s.caps := rfl
@[simp] theorem State.putSer_servo : (s.putSer p x).servo = s.servo := rfl
@[simp] theorem State.putSer_ptp : (s.putSer p x).ptp = s.ptp := rfl
@[simp] theorem State.putSer_net : (s.putSer p x).net = s.net := rfl
@[simp] theorem State.putSer_tie : (s.putSer p x).tie = s.tie := rfl
@[simp] theorem State.putSer_proc : (s.putSer p x).proc = s.proc := rfl
@[simp] theorem State.putSer_checks : (s.putSer p x).checks = s.checks := rfl
@[simp] theorem State.putSer_power : (s.putSer p x).power = s.power := rfl
@[simp] theorem State.putSer_lc : (s.putSer p x).lc = s.lc := rfl
@[simp] theorem State.putSer_ready : (s.putSer p x).ready = s.ready := rfl
@[simp] theorem State.putSer_out : (s.putSer p x).out = s.out := rfl
@[simp] theorem State.putSer_lastRead : (s.putSer p x).lastRead = s.lastRead := rfl
@[simp] theorem State.putSer_fresh : (s.putSer p x).fresh = s.fresh := rfl
@[simp] theorem State.putSer_cycle : (s.putSer p x).cycle = s.cycle := rfl
@[simp] theorem State.putSer_pending : (s.putSer p x).pending = s.pending := rfl

end

/-! ### `setChk` -/

section

variable (s : State) (c v n : Nat)

@[simp] theorem State.setChk_latch : (s.setChk c v n).latch = s.latch := rfl
@[simp] theorem State.setChk_stage : (s.setChk c v n).stage = s.stage := rfl
@[simp] theorem State.setChk_mem : (s.setChk c v n).mem = s.mem := rfl
@[simp] theorem State.setChk_hostMem : (s.setChk c v n).hostMem = s.hostMem := rfl
@[simp] theorem State.setChk_flash : (s.setChk c v n).flash = s.flash := rfl
@[simp] theorem State.setChk_clock : (s.setChk c v n).clock = s.clock := rfl
@[simp] theorem State.setChk_load : (s.setChk c v n).load = s.load := rfl
@[simp] theorem State.setChk_tempo : (s.setChk c v n).tempo = s.tempo := rfl
@[simp] theorem State.setChk_queues : (s.setChk c v n).queues = s.queues := rfl
@[simp] theorem State.setChk_posts : (s.setChk c v n).posts = s.posts := rfl
@[simp] theorem State.setChk_trans : (s.setChk c v n).trans = s.trans := rfl
@[simp] theorem State.setChk_dma : (s.setChk c v n).dma = s.dma := rfl
@[simp] theorem State.setChk_arrivals : (s.setChk c v n).arrivals = s.arrivals := rfl
@[simp] theorem State.setChk_streams : (s.setChk c v n).streams = s.streams := rfl
@[simp] theorem State.setChk_ports : (s.setChk c v n).ports = s.ports := rfl
@[simp] theorem State.setChk_pipes : (s.setChk c v n).pipes = s.pipes := rfl
@[simp] theorem State.setChk_align : (s.setChk c v n).align = s.align := rfl
@[simp] theorem State.setChk_stats : (s.setChk c v n).stats = s.stats := rfl
@[simp] theorem State.setChk_locks : (s.setChk c v n).locks = s.locks := rfl
@[simp] theorem State.setChk_svc : (s.setChk c v n).svc = s.svc := rfl
@[simp] theorem State.setChk_cues : (s.setChk c v n).cues = s.cues := rfl
@[simp] theorem State.setChk_caps : (s.setChk c v n).caps = s.caps := rfl
@[simp] theorem State.setChk_servo : (s.setChk c v n).servo = s.servo := rfl
@[simp] theorem State.setChk_ptp : (s.setChk c v n).ptp = s.ptp := rfl
@[simp] theorem State.setChk_net : (s.setChk c v n).net = s.net := rfl
@[simp] theorem State.setChk_tie : (s.setChk c v n).tie = s.tie := rfl
@[simp] theorem State.setChk_proc : (s.setChk c v n).proc = s.proc := rfl
@[simp] theorem State.setChk_serial : (s.setChk c v n).serial = s.serial := rfl
@[simp] theorem State.setChk_power : (s.setChk c v n).power = s.power := rfl
@[simp] theorem State.setChk_lc : (s.setChk c v n).lc = s.lc := rfl
@[simp] theorem State.setChk_ready : (s.setChk c v n).ready = s.ready := rfl
@[simp] theorem State.setChk_out : (s.setChk c v n).out = s.out := rfl
@[simp] theorem State.setChk_lastRead : (s.setChk c v n).lastRead = s.lastRead := rfl
@[simp] theorem State.setChk_fresh : (s.setChk c v n).fresh = s.fresh := rfl
@[simp] theorem State.setChk_cycle : (s.setChk c v n).cycle = s.cycle := rfl
@[simp] theorem State.setChk_pending : (s.setChk c v n).pending = s.pending := rfl

end

/-! ### `setSlot` -/

section

variable (s : State) (k : Nat) (x : KeySlot)

@[simp] theorem State.setSlot_regs : (s.setSlot k x).regs = s.regs := rfl
@[simp] theorem State.setSlot_latch : (s.setSlot k x).latch = s.latch := rfl
@[simp] theorem State.setSlot_stage : (s.setSlot k x).stage = s.stage := rfl
@[simp] theorem State.setSlot_mem : (s.setSlot k x).mem = s.mem := rfl
@[simp] theorem State.setSlot_hostMem : (s.setSlot k x).hostMem = s.hostMem := rfl
@[simp] theorem State.setSlot_flash : (s.setSlot k x).flash = s.flash := rfl
@[simp] theorem State.setSlot_clock : (s.setSlot k x).clock = s.clock := rfl
@[simp] theorem State.setSlot_load : (s.setSlot k x).load = s.load := rfl
@[simp] theorem State.setSlot_tempo : (s.setSlot k x).tempo = s.tempo := rfl
@[simp] theorem State.setSlot_queues : (s.setSlot k x).queues = s.queues := rfl
@[simp] theorem State.setSlot_posts : (s.setSlot k x).posts = s.posts := rfl
@[simp] theorem State.setSlot_trans : (s.setSlot k x).trans = s.trans := rfl
@[simp] theorem State.setSlot_dma : (s.setSlot k x).dma = s.dma := rfl
@[simp] theorem State.setSlot_arrivals : (s.setSlot k x).arrivals = s.arrivals := rfl
@[simp] theorem State.setSlot_streams : (s.setSlot k x).streams = s.streams := rfl
@[simp] theorem State.setSlot_ports : (s.setSlot k x).ports = s.ports := rfl
@[simp] theorem State.setSlot_pipes : (s.setSlot k x).pipes = s.pipes := rfl
@[simp] theorem State.setSlot_align : (s.setSlot k x).align = s.align := rfl
@[simp] theorem State.setSlot_stats : (s.setSlot k x).stats = s.stats := rfl
@[simp] theorem State.setSlot_locks : (s.setSlot k x).locks = s.locks := rfl
@[simp] theorem State.setSlot_svc : (s.setSlot k x).svc = s.svc := rfl
@[simp] theorem State.setSlot_cues : (s.setSlot k x).cues = s.cues := rfl
@[simp] theorem State.setSlot_caps : (s.setSlot k x).caps = s.caps := rfl
@[simp] theorem State.setSlot_servo : (s.setSlot k x).servo = s.servo := rfl
@[simp] theorem State.setSlot_ptp : (s.setSlot k x).ptp = s.ptp := rfl
@[simp] theorem State.setSlot_net : (s.setSlot k x).net = s.net := rfl
@[simp] theorem State.setSlot_tie : (s.setSlot k x).tie = s.tie := rfl
@[simp] theorem State.setSlot_proc : (s.setSlot k x).proc = s.proc := rfl
@[simp] theorem State.setSlot_serial : (s.setSlot k x).serial = s.serial := rfl
@[simp] theorem State.setSlot_checks : (s.setSlot k x).checks = s.checks := rfl
@[simp] theorem State.setSlot_power : (s.setSlot k x).power = s.power := rfl
@[simp] theorem State.setSlot_ready : (s.setSlot k x).ready = s.ready := rfl
@[simp] theorem State.setSlot_out : (s.setSlot k x).out = s.out := rfl
@[simp] theorem State.setSlot_lastRead : (s.setSlot k x).lastRead = s.lastRead := rfl
@[simp] theorem State.setSlot_fresh : (s.setSlot k x).fresh = s.fresh := rfl
@[simp] theorem State.setSlot_cycle : (s.setSlot k x).cycle = s.cycle := rfl
@[simp] theorem State.setSlot_pending : (s.setSlot k x).pending = s.pending := rfl

end

/-! ### `setHeld` -/

section

variable (s : State) (l : List Nat)

@[simp] theorem State.setHeld_latch : (s.setHeld l).latch = s.latch := rfl
@[simp] theorem State.setHeld_stage : (s.setHeld l).stage = s.stage := rfl
@[simp] theorem State.setHeld_mem : (s.setHeld l).mem = s.mem := rfl
@[simp] theorem State.setHeld_hostMem : (s.setHeld l).hostMem = s.hostMem := rfl
@[simp] theorem State.setHeld_flash : (s.setHeld l).flash = s.flash := rfl
@[simp] theorem State.setHeld_clock : (s.setHeld l).clock = s.clock := rfl
@[simp] theorem State.setHeld_load : (s.setHeld l).load = s.load := rfl
@[simp] theorem State.setHeld_queues : (s.setHeld l).queues = s.queues := rfl
@[simp] theorem State.setHeld_posts : (s.setHeld l).posts = s.posts := rfl
@[simp] theorem State.setHeld_trans : (s.setHeld l).trans = s.trans := rfl
@[simp] theorem State.setHeld_dma : (s.setHeld l).dma = s.dma := rfl
@[simp] theorem State.setHeld_arrivals : (s.setHeld l).arrivals = s.arrivals := rfl
@[simp] theorem State.setHeld_streams : (s.setHeld l).streams = s.streams := rfl
@[simp] theorem State.setHeld_ports : (s.setHeld l).ports = s.ports := rfl
@[simp] theorem State.setHeld_pipes : (s.setHeld l).pipes = s.pipes := rfl
@[simp] theorem State.setHeld_align : (s.setHeld l).align = s.align := rfl
@[simp] theorem State.setHeld_stats : (s.setHeld l).stats = s.stats := rfl
@[simp] theorem State.setHeld_locks : (s.setHeld l).locks = s.locks := rfl
@[simp] theorem State.setHeld_svc : (s.setHeld l).svc = s.svc := rfl
@[simp] theorem State.setHeld_cues : (s.setHeld l).cues = s.cues := rfl
@[simp] theorem State.setHeld_caps : (s.setHeld l).caps = s.caps := rfl
@[simp] theorem State.setHeld_servo : (s.setHeld l).servo = s.servo := rfl
@[simp] theorem State.setHeld_ptp : (s.setHeld l).ptp = s.ptp := rfl
@[simp] theorem State.setHeld_net : (s.setHeld l).net = s.net := rfl
@[simp] theorem State.setHeld_tie : (s.setHeld l).tie = s.tie := rfl
@[simp] theorem State.setHeld_proc : (s.setHeld l).proc = s.proc := rfl
@[simp] theorem State.setHeld_serial : (s.setHeld l).serial = s.serial := rfl
@[simp] theorem State.setHeld_checks : (s.setHeld l).checks = s.checks := rfl
@[simp] theorem State.setHeld_power : (s.setHeld l).power = s.power := rfl
@[simp] theorem State.setHeld_lc : (s.setHeld l).lc = s.lc := rfl
@[simp] theorem State.setHeld_ready : (s.setHeld l).ready = s.ready := rfl
@[simp] theorem State.setHeld_out : (s.setHeld l).out = s.out := rfl
@[simp] theorem State.setHeld_lastRead : (s.setHeld l).lastRead = s.lastRead := rfl
@[simp] theorem State.setHeld_fresh : (s.setHeld l).fresh = s.fresh := rfl
@[simp] theorem State.setHeld_cycle : (s.setHeld l).cycle = s.cycle := rfl
@[simp] theorem State.setHeld_pending : (s.setHeld l).pending = s.pending := rfl

end

end Sys2Proof.Machine
end

