-- ==== Sys2Proof/Laws/Tab.lean ====
section
/-!
SUPPORT. The laws of the sparse table: what a read gives after a write, and that every operation keeps the canonical form.
-/

namespace Sys2Proof

variable {α : Type}

theorem Tab.get_put (d a : α) (k j : Nat) : ∀ t : Tab α, Tab.get d (Tab.put k a t) j = if j = k then a else Tab.get d t j
  | [] => by
    simp only [Tab.put, Tab.get]
    by_cases h : k = j
    · subst h; simp
    · rw [if_neg h, if_neg (Ne.symm h)]
  | (i, b) :: t => by
    have ih := Tab.get_put d a k j t
    simp only [Tab.put]
    by_cases h : k = j
    · subst h
      split
      · simp [Tab.get]
      · split
        · simp [Tab.get]
        · next h2 => simp [Tab.get, ih, Ne.symm h2]
    · have h' : ¬ j = k := Ne.symm h
      rw [if_neg h'] at ih
      split
      · simp [Tab.get, h]
      · split
        · next h2 => subst h2; simp [Tab.get, h]
        · simp [Tab.get, ih]

theorem Tab.get_erase (d : α) (k j : Nat) : ∀ t : Tab α, Tab.get d (Tab.erase k t) j = if j = k then d else Tab.get d t j
  | [] => by simp [Tab.erase, Tab.get]
  | (i, b) :: t => by
    have ih := Tab.get_erase d k j t
    simp only [Tab.erase]
    by_cases h : j = k
    · subst h
      split
      · simpa using ih
      · next h2 => simpa [Tab.get, h2] using ih
    · rw [if_neg h] at ih
      split
      · next h2 => subst h2; simp [Tab.get, ih, Ne.symm h]
      · simp [Tab.get, ih]

theorem Tab.get_set [DecidableEq α] (d a : α) (k j : Nat) (t : Tab α) :
    Tab.get d (Tab.set d t k a) j = if j = k then a else Tab.get d t j := by
  unfold Tab.set
  split
  · rw [Tab.get_erase]; split <;> simp_all
  · rw [Tab.get_put]

@[simp] theorem Tab.get_set_same [DecidableEq α] (d a : α) (k : Nat) (t : Tab α) : Tab.get d (Tab.set d t k a) k = a := by
  simp [Tab.get_set]

@[simp] theorem Tab.get_put_same (d a : α) (k : Nat) (t : Tab α) : Tab.get d (Tab.put k a t) k = a := by simp [Tab.get_put]

theorem Tab.above_mono {i k : Nat} (h : i < k) {t : Tab α} (ht : Tab.above k t = true) : Tab.above i t = true := by
  simp only [Tab.above, List.all_eq_true, decide_eq_true_eq] at *
  intro e he; have := ht e he; omega

theorem Tab.above_put {i k : Nat} (h : i < k) (a : α) : ∀ {t : Tab α}, Tab.above i t = true → Tab.above i (Tab.put k a t) = true
  | [], _ => by simp [Tab.put, Tab.above, h]
  | (j, b) :: t, ht => by
    simp only [Tab.above, List.all_cons, Bool.and_eq_true, decide_eq_true_eq] at ht
    have ih := Tab.above_put h a (t := t) ht.2
    simp only [Tab.put]
    split
    · simp [Tab.above] at *; exact ⟨h, ht.1, ht.2⟩
    · split
      · simp [Tab.above] at *; exact ⟨h, ht.2⟩
      · simp [Tab.above] at *; exact ⟨ht.1, ih⟩

theorem Tab.above_erase {i k : Nat} : ∀ {t : Tab α}, Tab.above i t = true → Tab.above i (Tab.erase k t) = true
  | [], _ => rfl
  | (j, b) :: t, ht => by
    simp only [Tab.above, List.all_cons, Bool.and_eq_true, decide_eq_true_eq] at ht
    have ih := Tab.above_erase (k := k) (t := t) ht.2
    simp only [Tab.erase]
    split
    · exact ih
    · simp [Tab.above] at *; exact ⟨ht.1, ih⟩

theorem Tab.wf_put [DecidableEq α] {d a : α} (ha : a ≠ d) (k : Nat) : ∀ {t : Tab α}, Tab.wf d t = true → Tab.wf d (Tab.put k a t) = true
  | [], _ => by simp [Tab.put, Tab.wf, Tab.above, ha]
  | (j, b) :: t, ht => by
    simp only [Tab.wf, Bool.and_eq_true, decide_eq_true_eq] at ht
    obtain ⟨⟨hb, hab⟩, hw⟩ := ht
    have ih := Tab.wf_put ha k hw
    simp only [Tab.put]
    split
    · next h =>
      have := Tab.above_mono h hab
      simp only [Tab.wf, Bool.and_eq_true, decide_eq_true_eq]
      refine ⟨⟨ha, ?_⟩, ⟨hb, hab⟩, hw⟩
      simpa [Tab.above, h] using this
    · split
      · next h => subst h; simp [Tab.wf, ha, hab, hw]
      · next h1 h2 =>
        have h3 : j < k := by omega
        simp [Tab.wf, hb, ih, Tab.above_put h3 a hab]

theorem Tab.wf_erase [DecidableEq α] {d : α} (k : Nat) : ∀ {t : Tab α}, Tab.wf d t = true → Tab.wf d (Tab.erase k t) = true
  | [], _ => rfl
  | (j, b) :: t, ht => by
    simp only [Tab.wf, Bool.and_eq_true, decide_eq_true_eq] at ht
    have ih := Tab.wf_erase k (t := t) ht.2
    simp only [Tab.erase]
    split
    · exact ih
    · simp [Tab.wf, ht.1.1, ih, Tab.above_erase ht.1.2]

/-- A write keeps the canonical form. -/
theorem Tab.wf_set [DecidableEq α] (d a : α) (k : Nat) {t : Tab α} (h : Tab.wf d t = true) : Tab.wf d (Tab.set d t k a) = true := by
  unfold Tab.set
  split
  · exact Tab.wf_erase k h
  · next ha => exact Tab.wf_put ha k h

/-- Leaving entries out keeps the canonical form. -/
theorem Tab.wf_filter [DecidableEq α] (d : α) (p : Nat × α → Bool) : ∀ {t : Tab α}, Tab.wf d t = true → Tab.wf d (t.filter p) = true
  | [], _ => rfl
  | (j, b) :: t, ht => by
    simp only [Tab.wf, Bool.and_eq_true, decide_eq_true_eq] at ht
    have ih := Tab.wf_filter d p (t := t) ht.2
    simp only [List.filter_cons]
    split
    · simp only [Tab.wf, Bool.and_eq_true, decide_eq_true_eq]
      refine ⟨⟨ht.1.1, ?_⟩, ih⟩
      have := ht.1.2
      simp only [Tab.above, List.all_eq_true, decide_eq_true_eq] at this ⊢
      intro e he; exact this e ((List.mem_filter.mp he).1)
    · exact ih

/-- Leaving entries out but keeping every one of a key leaves that key's value. -/
theorem Tab.get_filter_key (d : α) (k : Nat) {p : Nat × α → Bool} (h : ∀ v, p (k, v) = true) :
    ∀ t : Tab α, Tab.get d (t.filter p) k = Tab.get d t k
  | [] => rfl
  | (j, v) :: t => by
    have ih := Tab.get_filter_key d k h t
    rw [List.filter_cons]
    by_cases e : j = k
    · subst e; rw [if_pos (h v)]; simp [Tab.get]
    · split
      · simp [Tab.get, e, ih]
      · simp [Tab.get, e, ih]

end Sys2Proof
end

