-- ==== Sys2Proof/Laws/Regs.lean ====
section
/-!
SUPPORT. What the register operations leave in the registers: each register, field and bit after each write.
-/

namespace Sys2Proof.Machine

/-! ### Fields of numbers -/

theorem bit_setFld {hi lo : Nat} (h : lo ≤ hi) (v n j : Nat) :
    (setFld hi lo v n).testBit j = if lo ≤ j ∧ j ≤ hi then v.testBit (j - lo) else n.testBit j := by
  have e : setFld hi lo v n = ((n >>> (hi + 1)) <<< (hi + 1)) ||| (((v % 2 ^ (hi + 1 - lo)) <<< lo) ||| (n % 2 ^ lo)) := by
    unfold setFld
    have h1 : n % 2 ^ lo < 2 ^ lo := Nat.mod_lt _ (Nat.two_pow_pos _)
    rw [← Nat.shiftLeft_add_eq_or_of_lt h1]
    have h2 : (v % 2 ^ (hi + 1 - lo)) <<< lo + n % 2 ^ lo < 2 ^ (hi + 1) := by
      have h3 : v % 2 ^ (hi + 1 - lo) < 2 ^ (hi + 1 - lo) := Nat.mod_lt _ (Nat.two_pow_pos _)
      have h4 : 2 ^ (hi + 1) = 2 ^ (hi + 1 - lo) * 2 ^ lo := by rw [← Nat.pow_add]; congr 1; omega
      have h5 : (v % 2 ^ (hi + 1 - lo) + 1) * 2 ^ lo ≤ 2 ^ (hi + 1 - lo) * 2 ^ lo := Nat.mul_le_mul_right _ h3
      rw [Nat.shiftLeft_eq, h4]; rw [Nat.add_mul] at h5; omega
    rw [← Nat.shiftLeft_add_eq_or_of_lt h2]; omega
  rw [e]
  simp only [Nat.testBit_or, Nat.testBit_shiftLeft, Nat.testBit_shiftRight, Nat.testBit_mod_two_pow]
  by_cases h1 : lo ≤ j <;> by_cases h2 : j ≤ hi
  · have a : ¬ hi + 1 ≤ j := by omega
    have b : j - lo < hi + 1 - lo := by omega
    have c : ¬ j < lo := by omega
    simp [h1, h2, a, b, c]
  · have a : hi + 1 ≤ j := by omega
    have b : ¬ j - lo < hi + 1 - lo := by omega
    have c : ¬ j < lo := by omega
    have d : hi + 1 + (j - (hi + 1)) = j := by omega
    simp [h1, h2, a, b, c, d]
  · have a : ¬ hi + 1 ≤ j := by omega
    have c : j < lo := by omega
    simp [h1, h2, a, c]
  · omega

theorem setFld_lt {hi lo w : Nat} (h : lo ≤ hi) (hw : hi < w) (v : Nat) {n : Nat} (hn : n < 2 ^ w) : setFld hi lo v n < 2 ^ w := by
  apply Nat.lt_pow_two_of_testBit
  intro j hj
  rw [bit_setFld h, if_neg (by omega)]
  exact Nat.testBit_lt_two_pow (Nat.lt_of_lt_of_le hn (Nat.pow_le_pow_right (by omega) hj))

/-- The field just set. -/
theorem fld_setFld {hi lo : Nat} (h : lo ≤ hi) (v n : Nat) : fld hi lo (setFld hi lo v n) = v % 2 ^ (hi + 1 - lo) := by
  apply Nat.eq_of_testBit_eq
  intro j
  unfold fld
  rw [Nat.testBit_mod_two_pow, Nat.testBit_mod_two_pow, Nat.testBit_shiftRight, bit_setFld h]
  by_cases hj : j < hi + 1 - lo
  · rw [if_pos (by omega)]; simp [hj]
  · simp [hj]

/-- A field beside the one just set. -/
theorem fld_setFld_ne {hi lo a b : Nat} (h : lo ≤ hi) (d : a < lo ∨ hi < b) (v n : Nat) :
    fld a b (setFld hi lo v n) = fld a b n := by
  apply Nat.eq_of_testBit_eq
  intro j
  unfold fld
  rw [Nat.testBit_mod_two_pow, Nat.testBit_mod_two_pow, Nat.testBit_shiftRight, Nat.testBit_shiftRight, bit_setFld h]
  by_cases hj : j < a + 1 - b
  · rw [if_neg (by omega)]
  · simp [hj]

/-! ### Register keys -/

theorem RegId.code_lt (r : RegId) : r.code < 512 := by cases r <;> exact Nat.le_of_ble_eq_true rfl

theorem RegId.code_inj {r q : RegId} (h : r.code = q.code) : r = q := by
  have a := RegId.ofNat_ctorIdx r
  have b := RegId.ofNat_ctorIdx q
  unfold RegId.code at h
  rw [← a, ← b, h]

theorem regKey_inj {r q : RegId} {i k : Nat} : regKey r i = regKey q k ↔ r = q ∧ i = k := by
  have a := r.code_lt
  have b := q.code_lt
  unfold regKey
  constructor
  · intro h; exact ⟨RegId.code_inj (by omega), by omega⟩
  · rintro ⟨rfl, rfl⟩; rfl

/-! ### Registers -/

theorem State.rd_lt (s : State) (r : RegId) (i : Nat) : s.rd r i < 2 ^ 64 := BitVec.isLt _

/-- Every register after a write of one. -/
theorem State.rd_wr (s : State) (r q : RegId) (i k n : Nat) :
    (s.wr r i n).rd q k = if q = r ∧ k = i then n % 2 ^ 64 else s.rd q k := by
  unfold State.rd State.wr
  simp only [Tab.get_put, regKey_inj]
  split
  · simp [BitVec.toNat_ofNat]
  · rfl

@[simp] theorem State.rd_wr_same (s : State) (r : RegId) (i n : Nat) : (s.wr r i n).rd r i = n % 2 ^ 64 := by simp [State.rd_wr]

theorem State.rd_wr_ne (s : State) {r q : RegId} {i k : Nat} (h : (q, k) ≠ (r, i)) (n : Nat) : (s.wr r i n).rd q k = s.rd q k := by
  rw [State.rd_wr, if_neg]; rintro ⟨rfl, rfl⟩; exact h rfl

/-- Every register after one field of one register is set. -/
theorem State.rd_wrF (s : State) (r q : RegId) {i k hi lo : Nat} (h : lo ≤ hi) (hw : hi < 64) (v : Nat) :
    (s.wrF r i hi lo v).rd q k = if q = r ∧ k = i then setFld hi lo v (s.rd r i) else s.rd q k := by
  unfold State.wrF
  rw [State.rd_wr]
  split
  · exact Nat.mod_eq_of_lt (setFld_lt h hw v (s.rd_lt r i))
  · rfl

theorem State.rd_wrF_ne (s : State) {r q : RegId} {i k : Nat} (hne : (q, k) ≠ (r, i)) (hi lo v : Nat) :
    (s.wrF r i hi lo v).rd q k = s.rd q k := State.rd_wr_ne s hne _

/-- The field just set. -/
theorem State.rdF_wrF_same (s : State) (r : RegId) {i hi lo : Nat} (h : lo ≤ hi) (hw : hi < 64) (v : Nat) :
    (s.wrF r i hi lo v).rdF r i hi lo = v % 2 ^ (hi + 1 - lo) := by
  unfold State.rdF
  rw [State.rd_wrF s r r h hw, if_pos ⟨rfl, rfl⟩, fld_setFld h]

/-- A field beside the one just set. -/
theorem State.rdF_wrF_ne (s : State) (r : RegId) {i hi lo a b : Nat} (h : lo ≤ hi) (hw : hi < 64) (d : a < lo ∨ hi < b) (v : Nat) :
    (s.wrF r i hi lo v).rdF r i a b = s.rdF r i a b := by
  unfold State.rdF
  rw [State.rd_wrF s r r h hw, if_pos ⟨rfl, rfl⟩, fld_setFld_ne h d]

/-- Every register after a saturating field of one is counted up (R16). -/
theorem State.rd_addF (s : State) (r q : RegId) {i k hi lo : Nat} (h : lo ≤ hi) (hw : hi < 64) (n : Nat) :
    (s.addF r i hi lo n).rd q k =
      if q = r ∧ k = i then setFld hi lo (min (2 ^ (hi + 1 - lo) - 1) (s.rdF r i hi lo + n)) (s.rd r i) else s.rd q k := by
  unfold State.addF satAdd
  rw [State.rd_wrF s r q h hw]

/-- A 32-bit counter counted up by one stops at all ones (R16). -/
theorem State.rdF_bump (s : State) (r : RegId) (i : Nat) :
    (s.bump r i).rdF r i 31 0 = min (2 ^ 32 - 1) (s.rdF r i 31 0 + 1) := by
  unfold State.bump State.addF satAdd
  rw [State.rdF_wrF_same s r (by omega) (by omega)]
  apply Nat.mod_eq_of_lt
  omega

theorem State.rd_bump_ne (s : State) {r q : RegId} {i k : Nat} (hne : (q, k) ≠ (r, i)) : (s.bump r i).rd q k = s.rd q k :=
  State.rd_wr_ne s hne _

/-- A bit just set or cleared, and every other register. -/
theorem State.rd_setB (s : State) (r q : RegId) {i k j : Nat} (hw : j < 64) :
    (s.setB r i j).rd q k = if q = r ∧ k = i then setBit j true (s.rd r i) else s.rd q k :=
  State.rd_wrF s r q (hi := j) (lo := j) (Nat.le_refl _) hw _

theorem State.rd_clrB (s : State) (r q : RegId) {i k j : Nat} (hw : j < 64) :
    (s.clrB r i j).rd q k = if q = r ∧ k = i then setBit j false (s.rd r i) else s.rd q k :=
  State.rd_wrF s r q (hi := j) (lo := j) (Nat.le_refl _) hw _

theorem bit_setBit (j k : Nat) (b : Bool) (n : Nat) : bit k (setBit j b n) = if k = j then b else bit k n := by
  unfold bit setBit
  rw [bit_setFld (Nat.le_refl _)]
  by_cases h : k = j
  · subst h; cases b <;> simp
  · rw [if_neg (by omega), if_neg h]

@[simp] theorem State.rdB_setB_same (s : State) (r : RegId) (i : Nat) {j : Nat} (hw : j < 64) : (s.setB r i j).rdB r i j = true := by
  unfold State.rdB; rw [State.rd_setB s r r hw]; simp [bit_setBit]

@[simp] theorem State.rdB_clrB_same (s : State) (r : RegId) (i : Nat) {j : Nat} (hw : j < 64) : (s.clrB r i j).rdB r i j = false := by
  unfold State.rdB; rw [State.rd_clrB s r r hw]; simp [bit_setBit]

/-- Every register after one entry returns to its reset value (R432). -/
theorem State.rd_resetReg (s : State) (r q : RegId) (i k : Nat) :
    (s.resetReg r i).rd q k = if q = r ∧ k = i then (BitVec.ofNat 64 (r.resetValue i)).toNat else s.rd q k := by
  unfold State.rd State.resetReg
  simp only [Tab.get_erase, regKey_inj]
  split
  · next h => obtain ⟨rfl, rfl⟩ := h; rfl
  · rfl

end Sys2Proof.Machine
end

