-- ==== Sys2Proof/Laws/Keeps.lean ====
section
/-!
SUPPORT. What every part of a command may change, said as one relation of two states that composes. `Keeps m s t`: the queue,
the canonical form of the memories, the time of day and the fuses are kept, and beside them no part and no register differs but
those whose bit is set in the mask `m` (bit k < 64: the part number k of StatePart; bit 64 + k: the register of code k).
-/

namespace Sys2Proof.Machine

set_option Elab.async false

/-- Bit `k` of a mask. -/
def hasBit (m k : Nat) : Bool := Nat.beq (Nat.land (Nat.shiftRight m k) 1) 1

/-- The bit of a register. -/
def regBit (r : RegId) : Nat := 64 + r.ctorIdx

/-- The bit of a part. -/
def partBit (p : StatePart) : Nat := p.ctorIdx

/-- Every bit of `a` is set in `b`. -/
def Sub (a b : Nat) : Prop := Nat.land a b = a

theorem hasBit_eq (m k : Nat) : hasBit m k = m.testBit k := by
  unfold hasBit Nat.testBit
  show Nat.beq ((m >>> k) &&& 1) 1 = _
  rw [Nat.and_comm]
  have h : 1 &&& (m >>> k) = (m >>> k) % 2 := by rw [Nat.and_comm]; exact Nat.and_one_is_mod _
  rw [h]
  rcases Nat.mod_two_eq_zero_or_one (m >>> k) with e | e <;> rw [e] <;> rfl

theorem Sub.bit {a b k : Nat} (h : Sub a b) (e : hasBit b k = false) : hasBit a k = false := by
  rw [hasBit_eq] at *
  have : (a &&& b).testBit k = a.testBit k := congrArg (·.testBit k) h
  rw [Nat.testBit_and, e, Bool.and_false] at this
  exact this.symm

theorem Sub.trans {a b c : Nat} (h : Sub a b) (k : Sub b c) : Sub a c := by
  unfold Sub at *
  show a &&& c = a
  have h' : a &&& b = a := h
  have k' : b &&& c = b := k
  rw [← h', Nat.and_assoc, k']

/-- `t` is a state that a part of a command may make of `s`, with no more changed than the mask says. -/
structure Keeps (m : Nat) (s t : State) : Prop where
  pending : t.pending = s.pending
  mem : s.memOk → t.memOk
  clock : s.clockOk → t.clockOk
  fuses : s.fusesLater t
  cycle : s.cycle = none → t.cycle = none
  regs : ∀ r i, hasBit m (regBit r) = false → t.rd r i = s.rd r i
  parts : ∀ p : StatePart, hasBit m (partBit p) = false → p.same s t

theorem slotLater.refl (a : KeySlot) : slotLater a a := fun h => ⟨h, rfl, rfl, id⟩

theorem slotLater.trans {a b c : KeySlot} (h : slotLater a b) (k : slotLater b c) : slotLater a c := by
  intro p
  obtain ⟨p1, u1, k1, r1⟩ := h p
  obtain ⟨p2, u2, k2, r2⟩ := k p1
  exact ⟨p2, u2.trans u1, k2.trans k1, r2 ∘ r1⟩

theorem StatePart.same_refl (s : State) (p : StatePart) : p.same s s := by cases p <;> simp [StatePart.same]

theorem StatePart.same_trans {s t u : State} {p : StatePart} (h : p.same s t) (k : p.same t u) : p.same s u := by
  cases p <;> simp only [StatePart.same] at * <;> simp_all

theorem Keeps.refl (m : Nat) (s : State) : Keeps m s s :=
  ⟨rfl, id, id, fun _ => slotLater.refl _, id, fun _ _ _ => rfl, fun p _ => p.same_refl s⟩

theorem Keeps.trans {m : Nat} {s t u : State} (h : Keeps m s t) (k : Keeps m t u) : Keeps m s u :=
  ⟨k.pending.trans h.pending, k.mem ∘ h.mem, k.clock ∘ h.clock, fun n => (h.fuses n).trans (k.fuses n),
    k.cycle ∘ h.cycle, fun r i e => (k.regs r i e).trans (h.regs r i e), fun p e => StatePart.same_trans (h.parts p e) (k.parts p e)⟩

theorem Keeps.mono {a m : Nat} {s t : State} (h : Keeps a s t) (hm : Sub a m) : Keeps m s t :=
  ⟨h.pending, h.mem, h.clock, h.fuses, h.cycle, fun r i e => h.regs r i (hm.bit e), fun p e => h.parts p (hm.bit e)⟩

/-- What a part of a command changes, after what went before it. -/
theorem Keeps.start {a m : Nat} {s t u : State} (h : Keeps m s t) (hm : Sub a m) (k : ∀ x, Keeps a x t → Keeps a x u) :
    Keeps m s u := h.trans ((k t (Keeps.refl a t)).mono hm)

theorem cycle_bit {m : Nat} (h : Sub 0x4000000000 m) : hasBit m (partBit .cycle) = true := by
  cases e : hasBit m (partBit .cycle)
  · have := h.bit e; cases this
  · rfl

/-- A change of other fields than memory, clock, fuses and registers: each part whose bit is not set is as it was. -/
theorem Keeps.upd {m : Nat} {s t : State} {latch' : Tab (Option Word)} {stage' : Tab (Option Word)} {load' :
    Load} {tempo' : Tempo} {queues' : Tab Ring} {posts' : List Post} {trans' : Trans} {dma' : Dma} {arrivals' : Nat}
    {streams' : Tab StreamSt} {ports' : Tab Port} {pipes' : Tab Pipe} {align' : Align} {stats' : List StatAcc} {locks'
    : List Lock} {svc' : Services} {cues' : Tab Cue} {caps' : Tab (List Capture)} {servo' : Servo} {ptp' : Ptp} {net'
    : Net} {tie' : Tie} {proc' : Proc} {serial' : Tab SerPort} {checks' : Tab Nat} {power' : Power} {lc' : Lc} {ready'
    : Bool} {cycle' : Option Nat} {out' : List Out} {lastRead' : Word} {fresh' : Nat} (h : Keeps m s t)
    (hl : lc'.slots = t.lc.slots := by rfl) (hy : t.cycle = none → cycle' = none := by exact id)
    (h0 : hasBit m 0 = true ∨ latch' = t.latch := by first | exact .inl rfl | exact .inr rfl)
    (h1 : hasBit m 1 = true ∨ stage' = t.stage := by first | exact .inl rfl | exact .inr rfl)
    (h6 : hasBit m 6 = true ∨ load' = t.load := by first | exact .inl rfl | exact .inr rfl)
    (h7 : hasBit m 7 = true ∨ tempo'.used = t.tempo.used := by first | exact .inl rfl | exact .inr rfl)
    (h8 : hasBit m 8 = true ∨ (tempo'.isOpen = t.tempo.isOpen ∧ tempo'.last = t.tempo.last ∧ tempo'.beats = t.tempo.beats)
      := by first | exact .inl rfl | exact .inr ⟨rfl, rfl, rfl⟩)
    (h9 : hasBit m 9 = true ∨ (tempo'.target = t.tempo.target ∧ tempo'.timerDue = t.tempo.timerDue)
      := by first | exact .inl rfl | exact .inr ⟨rfl, rfl⟩)
    (h10 : hasBit m 10 = true ∨ (tempo'.held = t.tempo.held ∧ tempo'.playing = t.tempo.playing ∧ tempo'.judged = t.tempo.judged)
      := by first | exact .inl rfl | exact .inr ⟨rfl, rfl, rfl⟩)
    (h11 : hasBit m 11 = true ∨ queues' = t.queues := by first | exact .inl rfl | exact .inr rfl)
    (h12 : hasBit m 12 = true ∨ posts' = t.posts := by first | exact .inl rfl | exact .inr rfl)
    (h13 : hasBit m 13 = true ∨ trans' = t.trans := by first | exact .inl rfl | exact .inr rfl)
    (h14 : hasBit m 14 = true ∨ dma' = t.dma := by first | exact .inl rfl | exact .inr rfl)
    (h15 : hasBit m 15 = true ∨ arrivals' = t.arrivals := by first | exact .inl rfl | exact .inr rfl)
    (h16 : hasBit m 16 = true ∨ streams' = t.streams := by first | exact .inl rfl | exact .inr rfl)
    (h17 : hasBit m 17 = true ∨ ports' = t.ports := by first | exact .inl rfl | exact .inr rfl)
    (h18 : hasBit m 18 = true ∨ pipes' = t.pipes := by first | exact .inl rfl | exact .inr rfl)
    (h19 : hasBit m 19 = true ∨ align' = t.align := by first | exact .inl rfl | exact .inr rfl)
    (h20 : hasBit m 20 = true ∨ stats' = t.stats := by first | exact .inl rfl | exact .inr rfl)
    (h21 : hasBit m 21 = true ∨ locks' = t.locks := by first | exact .inl rfl | exact .inr rfl)
    (h22 : hasBit m 22 = true ∨ svc' = t.svc := by first | exact .inl rfl | exact .inr rfl)
    (h23 : hasBit m 23 = true ∨ cues' = t.cues := by first | exact .inl rfl | exact .inr rfl)
    (h24 : hasBit m 24 = true ∨ caps' = t.caps := by first | exact .inl rfl | exact .inr rfl)
    (h25 : hasBit m 25 = true ∨ servo' = t.servo := by first | exact .inl rfl | exact .inr rfl)
    (h26 : hasBit m 26 = true ∨ ptp' = t.ptp := by first | exact .inl rfl | exact .inr rfl)
    (h27 : hasBit m 27 = true ∨ net' = t.net := by first | exact .inl rfl | exact .inr rfl)
    (h28 : hasBit m 28 = true ∨ tie' = t.tie := by first | exact .inl rfl | exact .inr rfl)
    (h29 : hasBit m 29 = true ∨ proc' = t.proc := by first | exact .inl rfl | exact .inr rfl)
    (h30 : hasBit m 30 = true ∨ serial' = t.serial := by first | exact .inl rfl | exact .inr rfl)
    (h31 : hasBit m 31 = true ∨ checks' = t.checks := by first | exact .inl rfl | exact .inr rfl)
    (h32 : hasBit m 32 = true ∨ power' = t.power := by first | exact .inl rfl | exact .inr rfl)
    (h33 : hasBit m 33 = true ∨ lc' = t.lc := by first | exact .inl rfl | exact .inr rfl)
    (h34 : hasBit m 34 = true ∨ ready' = t.ready := by first | exact .inl rfl | exact .inr rfl)
    (h35 : hasBit m 35 = true ∨ out' = t.out := by first | exact .inl rfl | exact .inr rfl)
    (h36 : hasBit m 36 = true ∨ lastRead' = t.lastRead := by first | exact .inl rfl | exact .inr rfl)
    (h37 : hasBit m 37 = true ∨ fresh' = t.fresh := by first | exact .inl rfl | exact .inr rfl)
    (h38 : hasBit m 38 = true ∨ cycle' = t.cycle := by first | exact .inl rfl | exact .inr rfl) :
    Keeps m s ⟨t.regs, latch', stage', t.mem, t.hostMem, t.flash, t.clock, load', tempo', queues', posts', trans', dma',
      arrivals', streams', ports', pipes', align', stats', locks', svc', cues', caps', servo', ptp', net', tie', proc',
      serial', checks', power', lc', ready', cycle', out', lastRead', fresh', t.pending⟩ := by
  refine h.trans ⟨rfl, id, id, fun n => ?_, hy, fun _ _ _ => rfl, fun p e => ?_⟩
  · show slotLater _ (Tab.get _ lc'.slots n); rw [hl]; exact slotLater.refl _
  · cases p
    · exact h0.resolve_left (by rw [show hasBit m 0 = false from e]; exact Bool.false_ne_true)
    · exact h1.resolve_left (by rw [show hasBit m 1 = false from e]; exact Bool.false_ne_true)
    · exact rfl
    · exact rfl
    · exact rfl
    · exact rfl
    · exact h6.resolve_left (by rw [show hasBit m 6 = false from e]; exact Bool.false_ne_true)
    · exact h7.resolve_left (by rw [show hasBit m 7 = false from e]; exact Bool.false_ne_true)
    · exact h8.resolve_left (by rw [show hasBit m 8 = false from e]; exact Bool.false_ne_true)
    · exact h9.resolve_left (by rw [show hasBit m 9 = false from e]; exact Bool.false_ne_true)
    · exact h10.resolve_left (by rw [show hasBit m 10 = false from e]; exact Bool.false_ne_true)
    · exact h11.resolve_left (by rw [show hasBit m 11 = false from e]; exact Bool.false_ne_true)
    · exact h12.resolve_left (by rw [show hasBit m 12 = false from e]; exact Bool.false_ne_true)
    · exact h13.resolve_left (by rw [show hasBit m 13 = false from e]; exact Bool.false_ne_true)
    · exact h14.resolve_left (by rw [show hasBit m 14 = false from e]; exact Bool.false_ne_true)
    · exact h15.resolve_left (by rw [show hasBit m 15 = false from e]; exact Bool.false_ne_true)
    · exact h16.resolve_left (by rw [show hasBit m 16 = false from e]; exact Bool.false_ne_true)
    · exact h17.resolve_left (by rw [show hasBit m 17 = false from e]; exact Bool.false_ne_true)
    · exact h18.resolve_left (by rw [show hasBit m 18 = false from e]; exact Bool.false_ne_true)
    · exact h19.resolve_left (by rw [show hasBit m 19 = false from e]; exact Bool.false_ne_true)
    · exact h20.resolve_left (by rw [show hasBit m 20 = false from e]; exact Bool.false_ne_true)
    · exact h21.resolve_left (by rw [show hasBit m 21 = false from e]; exact Bool.false_ne_true)
    · exact h22.resolve_left (by rw [show hasBit m 22 = false from e]; exact Bool.false_ne_true)
    · exact h23.resolve_left (by rw [show hasBit m 23 = false from e]; exact Bool.false_ne_true)
    · exact h24.resolve_left (by rw [show hasBit m 24 = false from e]; exact Bool.false_ne_true)
    · exact h25.resolve_left (by rw [show hasBit m 25 = false from e]; exact Bool.false_ne_true)
    · exact h26.resolve_left (by rw [show hasBit m 26 = false from e]; exact Bool.false_ne_true)
    · exact h27.resolve_left (by rw [show hasBit m 27 = false from e]; exact Bool.false_ne_true)
    · exact h28.resolve_left (by rw [show hasBit m 28 = false from e]; exact Bool.false_ne_true)
    · exact h29.resolve_left (by rw [show hasBit m 29 = false from e]; exact Bool.false_ne_true)
    · exact h30.resolve_left (by rw [show hasBit m 30 = false from e]; exact Bool.false_ne_true)
    · exact h31.resolve_left (by rw [show hasBit m 31 = false from e]; exact Bool.false_ne_true)
    · exact h32.resolve_left (by rw [show hasBit m 32 = false from e]; exact Bool.false_ne_true)
    · exact h33.resolve_left (by rw [show hasBit m 33 = false from e]; exact Bool.false_ne_true)
    · exact h34.resolve_left (by rw [show hasBit m 34 = false from e]; exact Bool.false_ne_true)
    · exact h35.resolve_left (by rw [show hasBit m 35 = false from e]; exact Bool.false_ne_true)
    · exact h36.resolve_left (by rw [show hasBit m 36 = false from e]; exact Bool.false_ne_true)
    · exact h37.resolve_left (by rw [show hasBit m 37 = false from e]; exact Bool.false_ne_true)
    · exact h38.resolve_left (by rw [show hasBit m 38 = false from e]; exact Bool.false_ne_true)

/-- A reset keeps all where what it leaves does, and may change every register and part. -/
theorem Keeps.renew {m : Nat} {s t u : State} (h : Keeps m s t) (hp : u.pending = t.pending)
    (ha : Sub 0xffffffffffffffffffffffffffffffffffffffffffffffffffffffffffffffffffffffffffffffffffffffffffffffffffff m) (hm : t.memOk → u.memOk) (hc : t.clockOk → u.clockOk)
    (hl : u.lc.slots = t.lc.slots) (hy : t.cycle = none → u.cycle = none := by exact id) : Keeps m s u := by
  refine h.trans ⟨hp, hm, hc, ?_, hy, ?_, ?_⟩
  · intro n; rw [hl]; exact slotLater.refl _
  · intro r i e; have := ha.bit e; cases r <;> cases this
  · intro p e; have := ha.bit e; cases p <;> cases this

/-- Inside an FCLK cycle the lowest place may change. -/
theorem Keeps.inCycle {m : Nat} {s t : State} (h : Keeps m s t) (n : Nat) (hc : t.cycle ≠ none) (hm : Sub 0x4000000000 m := by rfl) :
    Keeps m s { t with cycle := some n } :=
  h.start hm fun _ h => h.upd (hy := fun e => absurd e hc)

/-- What is done in one FCLK cycle keeps what its parts keep. -/
theorem Keeps.oneCycle {m : Nat} {s t : State} {f : State → State} (h : Keeps m s t)
    (k : ∀ x y, Keeps m x y → Keeps m x (f y)) (hm : Sub 0x4000000000 m := by rfl) : Keeps m s (t.oneCycle f) := by
  unfold State.oneCycle
  split
  · exact k _ _ h
  · have q := k { t with cycle := some 16384 } _ (Keeps.refl m _)
    refine h.trans ⟨q.pending, q.mem, q.clock, q.fuses, fun _ => rfl, q.regs, fun p e => ?_⟩
    have := q.parts p e
    cases p <;> first | exact this | exact absurd e (by rw [show hasBit m (partBit .cycle) = true from cycle_bit hm]; decide)

/-- The same for the state of a pair. -/
theorem Keeps.fst {α : Type} {m : Nat} {s t : State} {x : α} {p : State × α} (h : p = (t, x)) (k : Keeps m s p.1) :
    Keeps m s t := by subst h; exact k

theorem Keeps.snd {α : Type} {m : Nat} {s t : State} {x : α} {p : α × State} (h : p = (x, t)) (k : Keeps m s p.2) :
    Keeps m s t := by subst h; exact k

theorem Keeps.foldl {α : Type} {m : Nat} {s t : State} {f : State → α → State} {l : List α} (h : Keeps m s t)
    (k : ∀ x a, Keeps m s x → Keeps m s (f x a)) : Keeps m s (l.foldl f t) := by
  induction l generalizing t with
  | nil => exact h
  | cons a l ih => exact ih (k t a h)

/-- The same, with what holds of each item. -/
theorem Keeps.foldl_mem {α : Type} {m : Nat} {s t : State} {f : State → α → State} {l : List α} (h : Keeps m s t)
    (k : ∀ x a, a ∈ l → Keeps m s x → Keeps m s (f x a)) : Keeps m s (l.foldl f t) := by
  induction l generalizing t with
  | nil => exact h
  | cons a l ih => exact ih (k t a List.mem_cons_self h) fun x b hb => k x b (List.mem_cons_of_mem _ hb)

theorem Keeps.foldl_fst {α β : Type} {m : Nat} {s : State} {p : State × β} {f : State × β → α → State × β} {l : List α}
    (h : Keeps m s p.1) (k : ∀ x a, Keeps m s x.1 → Keeps m s (f x a).1) : Keeps m s (l.foldl f p).1 := by
  induction l generalizing p with
  | nil => exact h
  | cons a l ih => exact ih (k p a h)

/-! ### Registers -/

theorem Keeps.wr {m : Nat} {s t : State} (h : Keeps m s t) (r : RegId) (i n : Nat) (hm : hasBit m (regBit r) = true := by rfl) :
    Keeps m s (t.wr r i n) := by
  refine h.trans ⟨rfl, id, id, fun _ => slotLater.refl _, id, fun r' i' e => ?_, fun p _ => by cases p <;> simp [StatePart.same, State.wr]⟩
  exact State.rd_wr_ne _ (fun k => by cases k; rw [hm] at e; cases e) _

theorem Keeps.resetReg {m : Nat} {s t : State} (h : Keeps m s t) (r : RegId) (i : Nat)
    (hm : hasBit m (regBit r) = true := by rfl) (hp : Sub 3 m := by rfl) : Keeps m s (t.resetReg r i) := by
  refine h.trans ⟨rfl, id, id, fun _ => slotLater.refl _, id, fun r' i' e => ?_, fun p e => ?_⟩
  · unfold State.rd State.resetReg
    rw [Tab.get_erase, if_neg]
    exact fun k => by rw [(regKey_inj.mp k).1, hm] at e; cases e
  · have := hp.bit e
    cases p <;> first | exact absurd this (by decide) | simp [StatePart.same, State.resetReg]

theorem Keeps.resetRegs {m : Nat} {s t : State} (h : Keeps m s t) (l : List (RegId × Nat))
    (hm : ∀ e ∈ l, hasBit m (regBit e.1) = true) (hp : Sub 3 m := by rfl) : Keeps m s (t.resetRegs l) :=
  h.foldl_mem fun _ a ha k => k.resetReg _ _ (hm a ha) hp

/-- The entries of listed registers. -/
theorem entries_mask {m : Nat} {rs : List RegId} (i : Nat) (h : rs.all (fun r => hasBit m (regBit r)) = true := by rfl) :
    ∀ e ∈ entries rs i, hasBit m (regBit e.1) = true := by
  intro e he
  obtain ⟨r, hr, rfl⟩ := List.mem_map.mp he
  exact List.all_eq_true.mp h r hr

/-- The register entries of any element. -/
theorem elemRegs_mask {m : Nat} (e : Elem) (h : Sub 0x1ffffe0ff0000c01fffe03f80000000003f1f7ffffffffffff07fe800000000000000000000000000000000 m := by rfl) : ∀ x ∈ elemRegs e, hasBit m (regBit x.1) = true := by
  have k : (elemRegs e).all (fun x => hasBit 0x1ffffe0ff0000c01fffe03f80000000003f1f7ffffffffffff07fe800000000000000000000000000000000 (regBit x.1)) = true := by
    unfold elemRegs
    split <;> (try rfl) <;> simp [entries, portRegs, pipeRegs, chanRegs, procRegs, serialRegs, uplinkRegs, List.range,
      List.range.loop] <;> decide
  intro x hx
  cases c : hasBit m (regBit x.1)
  · have := List.all_eq_true.mp k x hx
    rw [h.bit c] at this
    cases this
  · rfl

theorem dropRegs_get {α : Type} (d : α) (rs : List RegId) (keep : RegId → Nat → Bool) (t : Tab α) (r : RegId) (i : Nat)
    (h : r ∉ rs) : Tab.get d (dropRegs rs keep t) (regKey r i) = Tab.get d t (regKey r i) := by
  unfold dropRegs
  rw [Tab.get_filter_key]
  intro v
  simp only [List.all_eq_true]
  intro x hx
  have : ¬(regKey r i % 512 = x.code) := by
    intro e
    apply h
    have : r.code = x.code := by
      unfold regKey at e
      have := r.code_lt
      omega
    rwa [RegId.code_inj this]
  simp [this]

theorem Keeps.resetBlock {m : Nat} {s t : State} (h : Keeps m s t) (rs : List RegId) (keep : RegId → Nat → Bool)
    (hm : rs.all (fun r => hasBit m (regBit r)) = true := by rfl) (hp : Sub 3 m := by rfl) : Keeps m s (t.resetBlock rs keep) := by
  refine h.trans ⟨rfl, id, id, fun _ => slotLater.refl _, id, fun r' i' e => ?_, fun p e => ?_⟩
  · unfold State.rd State.resetBlock
    rw [dropRegs_get]
    exact fun k => by rw [List.all_eq_true.mp hm _ k] at e; cases e
  · have := hp.bit e
    cases p <;> first | exact absurd this (by decide) | simp [StatePart.same, State.resetBlock]

/-! ### Clock and memory -/

theorem Clock.setTotal_ok (c : Clock) (x : Int) :
    (c.setTotal x).sec < 18446744073709551616 ∧ (c.setTotal x).ns < 1000000000 ∧ (c.setTotal x).frac < 4294967296 := by
  refine ⟨?_, Nat.mod_lt _ (by decide), Nat.mod_lt _ (by decide)⟩
  apply Nat.div_lt_of_lt_mul
  have h := Int.emod_lt_of_pos x (show (0 : Int) < 18446744073709551616 * 1000000000 * 4294967296 by decide)
  have h0 := Int.emod_nonneg x (show (18446744073709551616 * 1000000000 * 4294967296 : Int) ≠ 0 by decide)
  omega

theorem Clock.advance_ok (c : Clock) (d : Nat) :
    (c.advance d).sec < 18446744073709551616 ∧ (c.advance d).ns < 1000000000 ∧ (c.advance d).frac < 4294967296 :=
  c.setTotal_ok _

theorem Keeps.setClk {m : Nat} {s t : State} (h : Keeps m s t) {c : Clock}
    (hc : c.sec < 18446744073709551616 ∧ c.ns < 1000000000 ∧ c.frac < 4294967296) (hm : hasBit m 5 = true := by rfl) :
    Keeps m s (t.setClk c) := by
  refine h.trans ⟨rfl, id, fun _ => hc, fun _ => slotLater.refl _, id, fun _ _ _ => rfl, fun p e => ?_⟩
  cases p <;> first | (exact absurd (hm.symm.trans e) (by decide)) | simp [StatePart.same, State.setClk]

theorem Keeps.ticks {m : Nat} {s t : State} (h : Keeps m s t) (n : Nat) (hm : hasBit m 5 = true := by rfl) :
    Keeps m s (t.ticks n) := h.setClk (Clock.advance_ok _ _) hm

/-- A mask that holds every register's bit holds each. -/
theorem regs_all {m : Nat} (h : Sub 0x7fffffffffffffffffffffffffffffffffffffffffffffffffffffffffffffffffffffffffffffffff0000000000000000 m) (r : RegId) : hasBit m (regBit r) = true := by
  cases e : hasBit m (regBit r)
  · have := h.bit e; cases r <;> cases this
  · rfl

/-- Device memory may change. -/
theorem Keeps.setMem {m : Nat} {s t : State} (h : Keeps m s t) {l : List Host.Cell} (k : Memory.wf t.mem → Memory.wf l)
    (hs : hasBit m 2 = true := by rfl) : Keeps m s { t with mem := l } := by
  refine h.trans ⟨rfl, fun ⟨a, b, c⟩ => ⟨k a, b, c⟩, id, fun n => slotLater.refl _, id, fun _ _ _ => rfl, fun p e => ?_⟩
  cases p <;> first | (exact absurd (hs.symm.trans e) (by decide)) | simp [StatePart.same]

/-- Host memory may change. -/
theorem Keeps.setHostMem {m : Nat} {s t : State} (h : Keeps m s t) {l : List Host.Cell}
    (k : Memory.wf t.hostMem → Memory.wf l) (hs : hasBit m 3 = true := by rfl) : Keeps m s { t with hostMem := l } := by
  refine h.trans ⟨rfl, fun ⟨a, b, c⟩ => ⟨a, k b, c⟩, id, fun n => slotLater.refl _, id, fun _ _ _ => rfl, fun p e => ?_⟩
  cases p <;> first | (exact absurd (hs.symm.trans e) (by decide)) | simp [StatePart.same]

theorem Keeps.writeByte {m : Nat} {s t : State} (h : Keeps m s t) (pa : Nat) (b : Byte) (hs : Sub 0xc m := by rfl) :
    Keeps m s (t.writeByte pa b) := by
  refine h.start hs fun s h => ?_
  unfold State.writeByte
  split
  · exact h.setMem (Tab.wf_set _ _ _)
  · exact h.setMem (Tab.wf_set _ _ _)
  · exact h.setHostMem (Tab.wf_set _ _ _)
  · exact h
  · exact h

theorem Keeps.writePhys {m : Nat} {s t : State} (h : Keeps m s t) (pa : Nat) (l : List Byte) (hs : Sub 0xc m := by rfl) :
    Keeps m s (t.writePhys pa l) := by
  induction l generalizing t pa with
  | nil => exact h
  | cons b l ih => exact ih (h.writeByte pa b hs) _

/-- A key slot may be set to a later form of itself. -/
theorem Keeps.setSlot {m : Nat} {s t : State} (h : Keeps m s t) {k : Nat} {x : KeySlot}
    (hx : slotLater (Tab.get {} t.lc.slots k) x) (hm : Sub 0x200000000 m := by rfl) : Keeps m s (t.setSlot k x) := by
  refine h.trans (Keeps.mono ⟨rfl, id, id, fun n => ?_, id, fun _ _ _ => rfl, fun p e => ?_⟩ hm)
  · show slotLater _ (Tab.get {} (Tab.set {} t.lc.slots k x) n)
    rw [Tab.get_set]
    split
    · next e => exact e ▸ hx
    · exact slotLater.refl _
  · cases p <;> first | exact absurd e (by decide) | simp [StatePart.same, State.setSlot]

theorem Keeps.tlbLookup {m : Nat} {s t u : State} {v va : Nat} {w : Bool} {e : TlbEntry} (h : Keeps m s t)
    (k : t.tlbLookup v va w = some (e, u)) (hm : Sub 0x2000 m := by rfl) : Keeps m s u := by
  unfold State.tlbLookup at k
  split at k
  · cases k; exact h.start hm fun _ h => h.upd
  · cases k

theorem Keeps.sideNow {m : Nat} {s t u : State} {v va : Nat} {w : Bool} {x : SideXlat} {r : Xlat} (h : Keeps m s t)
    (k : t.sideNow v va w x = some (u, r)) (hm : Sub 0x2000 m := by rfl) : Keeps m s u := by
  unfold State.sideNow at k
  split at k
  · cases k; exact h
  · cases k
  · split at k
    · next e => cases k; exact h.tlbLookup e hm
    · cases k

/-- Where a command goes on, it keeps all. -/
def KeepsO (m : Nat) (s : State) (o : Host.Outcome State Fault Refusal) : Prop := ∀ u, o = .next u → Keeps m s u

theorem Keeps.next {m : Nat} {s t : State} (h : Keeps m s t) : KeepsO m s (.next t) := by intro u hu; cases hu; exact h

theorem Keeps.fault (m : Nat) (s : State) (f : Fault) : KeepsO m s (.fault f) := by intro u hu; cases hu

/-- What a command changes, after what went before it. -/
theorem Keeps.startO {a m : Nat} {s t : State} {o : Host.Outcome State Fault Refusal} (h : Keeps m s t) (hm : Sub a m)
    (k : ∀ x, Keeps a x t → KeepsO a x o) : KeepsO m s o := fun u hu => h.trans ((k t (Keeps.refl a t) u hu).mono hm)

end Sys2Proof.Machine
end

