-- ==== Sys2Proof/Laws/KeepsBase.lean ====
section
/-!
SUPPORT. What the parts of a command keep: the shared operations, queues and the DMA engine.
-/

namespace Sys2Proof.Machine

set_option Elab.async false

theorem Keeps.wrF {μ : Nat} {s t : State} (h : Keeps μ s t) (r : RegId) (i hi lo v : Nat) (hm : hasBit μ (regBit r) =
    true := by rfl) : Keeps μ s (State.wrF t r i hi lo v) := by
  unfold State.wrF
  repeat' first
    | with_reducible assumption | exact rfl | with_reducible apply regs_all | with_reducible apply Keeps.wr

theorem Keeps.setB {μ : Nat} {s t : State} (h : Keeps μ s t) (r : RegId) (i k : Nat) (hm : hasBit μ (regBit r) = true
    := by rfl) : Keeps μ s (State.setB t r i k) := by
  unfold State.setB
  repeat' first
    | with_reducible assumption | exact rfl | with_reducible apply regs_all | with_reducible apply Keeps.wr

theorem Keeps.clrB {μ : Nat} {s t : State} (h : Keeps μ s t) (r : RegId) (i k : Nat) (hm : hasBit μ (regBit r) = true
    := by rfl) : Keeps μ s (State.clrB t r i k) := by
  unfold State.clrB
  repeat' first
    | with_reducible assumption | exact rfl | with_reducible apply regs_all | with_reducible apply Keeps.wr

theorem Keeps.addF {μ : Nat} {s t : State} (h : Keeps μ s t) (r : RegId) (i hi lo n : Nat) (hm : hasBit μ (regBit r) =
    true := by rfl) : Keeps μ s (State.addF t r i hi lo n) := by
  unfold State.addF
  repeat' first
    | with_reducible assumption | exact rfl | with_reducible apply regs_all | with_reducible apply Keeps.wrF

theorem Keeps.bump {μ : Nat} {s t : State} (h : Keeps μ s t) (r : RegId) (i : Nat) (hm : hasBit μ (regBit r) = true :=
    by rfl) : Keeps μ s (State.bump t r i) := by
  unfold State.bump
  repeat' first
    | with_reducible assumption | exact rfl | with_reducible apply regs_all | with_reducible apply Keeps.addF

theorem Keeps.addWrap {μ : Nat} {s t : State} (h : Keeps μ s t) (r : RegId) (i n : Nat) (hm : hasBit μ (regBit r) =
    true := by rfl) : Keeps μ s (State.addWrap t r i n) := by
  unfold State.addWrap
  repeat' first
    | with_reducible assumption | exact rfl | with_reducible apply regs_all | with_reducible apply Keeps.wr

theorem Keeps.freeUse {μ : Nat} {s t : State} (h : Keeps μ s t) (hm : Sub 0x2000000000 μ := by rfl) : Keeps μ s
    (State.freeUse t).2 := by
  refine Keeps.start h hm fun s h => ?_
  unfold State.freeUse
  repeat' first | with_reducible assumption | exact rfl | with_reducible refine Keeps.upd ?_

theorem Keeps.runTo {μ : Nat} {s t : State} (h : Keeps μ s t) (t' : Nat) (hm : Sub 0x20 μ := by rfl) : Keeps μ s
    (State.runTo t t') := by
  refine Keeps.start h hm fun s h => ?_
  unfold State.runTo
  repeat' first | with_reducible assumption | exact rfl | with_reducible apply Keeps.ticks

theorem Keeps.runToClock {μ : Nat} {s t : State} (h : Keeps μ s t) (t' : Nat) (hm : Sub 0x20 μ := by rfl) : Keeps μ s
    (State.runToClock t t') := by
  refine Keeps.start h hm fun s h => ?_
  unfold State.runToClock
  repeat' first | with_reducible assumption | exact rfl | with_reducible apply Keeps.ticks

theorem Keeps.emit {μ : Nat} {s t : State} (h : Keeps μ s t) (o : Out) (hm : Sub 0x800000000 μ := by rfl) : Keeps μ s
    (State.emit t o) := by
  refine Keeps.start h hm fun s h => ?_
  unfold State.emit
  repeat' first | with_reducible assumption | exact rfl | with_reducible refine Keeps.upd ?_

theorem Keeps.charge {μ : Nat} {s t : State} (h : Keeps μ s t) (v res n : Nat) (hm : Sub 0x80 μ := by rfl) : Keeps μ s
    (State.charge t v res n) := by
  refine Keeps.start h hm fun s h => ?_
  unfold State.charge
  try dsimp only
  repeat' first | with_reducible assumption | exact rfl | split | with_reducible refine Keeps.upd ?_

theorem Keeps.msix {μ : Nat} {s t : State} (h : Keeps μ s t) (vec : Nat) (hm : Sub
    0x40000000000000000000000000000000000000000000000000000000000000000000000000000000800000000 μ := by rfl) : Keeps μ
    s (State.msix t vec) := by
  refine Keeps.start h hm fun s h => ?_
  unfold State.msix
  repeat' first
    | with_reducible assumption | exact rfl | with_reducible apply Keeps.setB | with_reducible apply Keeps.emit
    | split

theorem Keeps.notify {μ : Nat} {s t : State} (h : Keeps μ s t) (v k : Nat) (hm : Sub
    0x8000040000000000000000000000000000000000000000000000000000000000000000000000000000000800000000 μ := by rfl) :
    Keeps μ s (State.notify t v k) := by
  refine Keeps.start h hm fun s h => ?_
  unfold State.notify
  try dsimp only
  repeat' first
    | with_reducible assumption | exact rfl | with_reducible apply Keeps.setB | with_reducible apply Keeps.msix
    | split

theorem Keeps.vector0 {μ : Nat} {s t : State} (h : Keeps μ s t) (hm : Sub
    0x8000040000000000000000000000000000000000000000000000000000000000000000000000000000000800000000 μ := by rfl) :
    Keeps μ s (State.vector0 t) := by
  refine Keeps.start h hm fun s h => ?_
  unfold State.vector0
  repeat' first | with_reducible assumption | exact rfl | with_reducible apply Keeps.notify

theorem Keeps.voiceEvent {μ : Nat} {s t : State} (h : Keeps μ s t) (v k : Nat) (hm : Sub
    0xa000040000000000000000000000000000000000000000000000000000000000000000000000000000000800000000 μ := by rfl) :
    Keeps μ s (State.voiceEvent t v k) := by
  refine Keeps.start h hm fun s h => ?_
  unfold State.voiceEvent
  repeat' first
    | with_reducible assumption | exact rfl | with_reducible apply Keeps.setB | with_reducible apply Keeps.notify
    | split

theorem Keeps.record {μ : Nat} {s t : State} (h : Keeps μ s t) (x : Violation) (hm : Sub
    0x80000400000000000000000000000000000000000000000000000000000000000000001e0000000000000800000000 μ := by rfl) :
    Keeps μ s (State.record t x) := by
  refine Keeps.start h hm fun s h => ?_
  unfold State.record
  try dsimp only
  repeat' first
    | with_reducible assumption | exact rfl | with_reducible apply Keeps.wr | with_reducible apply Keeps.vector0
    | split

theorem Keeps.violate {μ : Nat} {s t : State} (h : Keeps μ s t) (v path : Nat) (write : Bool) (elem va pa : Nat) (hm :
    Sub 0x8000040000000000000000000000000000000000000000000000000000000000000000be0000000000004800000000 μ := by rfl)
    : Keeps μ s (State.violate t v path write elem va pa) := by
  refine Keeps.start h hm fun s h => ?_
  unfold State.violate
  have k := Keeps.setB (h.addF .VOICE_VIOL_CNT v 15 0 1) .VIOL_MAP (v / 32) (v % 32)
  dsimp only
  split
  · exact k.record _
  · next e =>
    split
    · exact k
    · exact (k.inCycle _ (by rw [State.setB_cycle, State.addF_cycle, e]; exact Option.some_ne_none _)).record _

theorem Keeps.fieldWrite {μ : Nat} {s t : State} (h : Keeps μ s t) (r : RegId) (i w : Nat) (hm : hasBit μ (regBit r) =
    true := by rfl) : Keeps μ s (State.fieldWrite t r i w) := by
  unfold State.fieldWrite
  repeat' first
    | with_reducible assumption | exact rfl | with_reducible apply regs_all | with_reducible apply Keeps.wr

theorem Keeps.wordWrite {μ : Nat} {s t : State} (h : Keeps μ s t) (r : RegId) (i : Nat) (high : Bool) (w : Nat) (hm :
    Sub 0x7fffffffffffffffffffffffffffffffffffffffffffffffffffffffffffffffffffffffffffffffff0000000000000002 μ := by
    rfl) : Keeps μ s (State.wordWrite t r i high w) := by
  refine Keeps.start h hm fun s h => ?_
  unfold State.wordWrite
  repeat' first
    | with_reducible assumption | exact rfl | with_reducible apply regs_all | with_reducible apply Keeps.fieldWrite
    | split | with_reducible refine Keeps.upd ?_

theorem Keeps.latchHigh {μ : Nat} {s t : State} (h : Keeps μ s t) (r : RegId) (i v : Nat) (hm : Sub 1 μ := by rfl) :
    Keeps μ s (State.latchHigh t r i v) := by
  refine Keeps.start h hm fun s h => ?_
  unfold State.latchHigh
  repeat' first | with_reducible assumption | exact rfl | with_reducible refine Keeps.upd ?_

theorem Keeps.wordRead {μ : Nat} {s t : State} (h : Keeps μ s t) (r : RegId) (i v : Nat) (high : Bool) (hm : Sub
    0x7fffffffffffffffffffffffffffffffffffffffffffffffffffffffffffffffffffffffffffffffff0000000000000001 μ := by rfl)
    : Keeps μ s (State.wordRead t r i v high).1 := by
  refine Keeps.start h hm fun s h => ?_
  unfold State.wordRead
  try dsimp only
  repeat' first
    | with_reducible assumption | exact rfl | with_reducible apply regs_all | with_reducible apply Keeps.wr
    | with_reducible apply Keeps.latchHigh | split

theorem Keeps.setUplink {μ : Nat} {s t : State} (h : Keeps μ s t) (u : Nat) (x : Uplink) (hm : Sub 0x8000000 μ := by
    rfl) : Keeps μ s (State.setUplink t u x) := by
  refine Keeps.start h hm fun s h => ?_
  unfold State.setUplink
  repeat' first | with_reducible assumption | exact rfl | with_reducible refine Keeps.upd ?_

theorem Keeps.setFlow {μ : Nat} {s t : State} (h : Keeps μ s t) (f : Nat) (x : FlowSt) (hm : Sub 0x8000000 μ := by
    rfl) : Keeps μ s (State.setFlow t f x) := by
  refine Keeps.start h hm fun s h => ?_
  unfold State.setFlow
  repeat' first | with_reducible assumption | exact rfl | with_reducible refine Keeps.upd ?_

theorem Keeps.alertSync {μ : Nat} {s t : State} (h : Keeps μ s t) (hm : Sub
    0x400000000000000000000000000000000000000000000000000000000000000000000000 μ := by rfl) : Keeps μ s
    (State.alertSync t) := by
  refine Keeps.start h hm fun s h => ?_
  unfold State.alertSync
  try dsimp only
  repeat' first
    | with_reducible assumption | exact rfl | with_reducible apply Keeps.wrF | with_reducible apply Keeps.setB | split

theorem Keeps.queueAlert {μ : Nat} {s t : State} (h : Keeps μ s t) (code detail : Nat) (at_ : Stamp) (mirrored : Bool)
    (hm : Sub 0x4c00000000000000000000000000000000000000000000000000000000000000008000000 μ := by rfl) : Keeps μ s
    (State.queueAlert t code detail at_ mirrored) := by
  refine Keeps.start h hm fun s h => ?_
  unfold State.queueAlert
  try dsimp only
  repeat' first
    | with_reducible assumption | exact rfl | with_reducible apply Keeps.setB | with_reducible apply Keeps.bump
    | with_reducible apply Keeps.addWrap | split | with_reducible refine Keeps.upd ?_

theorem Keeps.alertRoom {μ : Nat} {s t : State} (h : Keeps μ s t) (hm : Sub
    0x4c00000000000000000000000000000000000000000000000000000000000000008000000 μ := by rfl) : Keeps μ s
    (State.alertRoom t) := by
  refine Keeps.start h hm fun s h => ?_
  unfold State.alertRoom
  try dsimp only
  repeat' first
    | with_reducible assumption | exact rfl | with_reducible apply Keeps.queueAlert | split
    | with_reducible refine Keeps.upd ?_

theorem Keeps.setTxq {μ : Nat} {s t : State} (h : Keeps μ s t) (q : Nat) (l : List TxStamp) (hm : Sub
    0x40000000000000000000000000000000000000000000000000000004000000 μ := by rfl) : Keeps μ s (State.setTxq t q l) :=
    by
  refine Keeps.start h hm fun s h => ?_
  unfold State.setTxq
  repeat' first
    | with_reducible assumption | exact rfl | with_reducible apply Keeps.wrF | with_reducible refine Keeps.upd ?_

theorem Keeps.freeStamp {μ : Nat} {s t : State} (h : Keeps μ s t) (q kind ident : Nat) (hm : Sub
    0x40000000000000000000000000000000000000000000000000000004000000 μ := by rfl) : Keeps μ s (State.freeStamp t q
    kind ident) := by
  refine Keeps.start h hm fun s h => ?_
  unfold State.freeStamp
  repeat' first | with_reducible assumption | exact rfl | with_reducible apply Keeps.setTxq

theorem Keeps.ptpStart {μ : Nat} {s t : State} (h : Keeps μ s t) (u : Nat) (f : NetFrame) (hm : Sub
    0x4000000000000000000000000000000000000000000000000000000c000000 μ := by rfl) : Keeps μ s (State.ptpStart t u f)
    := by
  refine Keeps.start h hm fun s h => ?_
  unfold State.ptpStart
  try dsimp only
  repeat' first
    | with_reducible assumption | exact rfl | with_reducible apply Keeps.setUplink | with_reducible apply Keeps.setTxq
    | with_reducible apply Keeps.freeStamp | with_reducible refine Keeps.fst (by assumption) ?_ | split
    | with_reducible refine Keeps.upd ?_

theorem Keeps.putOnWire {μ : Nat} {s t : State} (h : Keeps μ s t) (u : Nat) (f : EgFrame) (hm : Sub
    0x4000000000000000000000000000000000000000000000000000080c000000 μ := by rfl) : Keeps μ s (State.putOnWire t u f)
    := by
  refine Keeps.start h hm fun s h => ?_
  unfold State.putOnWire
  try dsimp only
  repeat' first
    | with_reducible assumption | exact rfl | with_reducible apply Keeps.emit | with_reducible apply Keeps.setUplink
    | with_reducible apply Keeps.ptpStart | split | with_reducible refine Keeps.upd ?_

theorem Keeps.mapItems {μ : Nat} {s t : State} (h : Keeps μ s t) (f : Nat) (g : List FlowItem → List FlowItem) (hm :
    Sub 0x8000000 μ := by rfl) : Keeps μ s (State.mapItems t f g) := by
  refine Keeps.start h hm fun s h => ?_
  unfold State.mapItems
  repeat' first
    | with_reducible assumption | exact rfl | with_reducible apply Keeps.setFlow | with_reducible refine Keeps.upd ?_

theorem Keeps.flowDone {μ : Nat} {s t : State} (h : Keeps μ s t) (f : EgFrame) (hm : Sub 0x8000000 μ := by rfl) :
    Keeps μ s (State.flowDone t f) := by
  refine Keeps.start h hm fun s h => ?_
  unfold State.flowDone
  repeat' first | with_reducible assumption | exact rfl | with_reducible apply Keeps.mapItems

theorem Keeps.flowSent {μ : Nat} {s t : State} (h : Keeps μ s t) (f : EgFrame) (res : Nat) (hm : Sub
    0x40000000000000000000000000000000000000000000000000000000000000000008000080 μ := by rfl) : Keeps μ s
    (State.flowSent t f res) := by
  refine Keeps.start h hm fun s h => ?_
  unfold State.flowSent
  try dsimp only
  repeat' first
    | with_reducible assumption | exact rfl | with_reducible apply Keeps.bump | with_reducible apply Keeps.charge
    | with_reducible apply Keeps.setFlow | with_reducible apply Keeps.flowDone | split
    | with_reducible refine Keeps.upd ?_

theorem Keeps.flowHanded {μ : Nat} {s t : State} (h : Keeps μ s t) (u : Nat) (f : EgFrame) (hm : Sub
    0x40000000000000000000000000000000000000000000000000000000000000000008000080 μ := by rfl) : Keeps μ s
    (State.flowHanded t u f) := by
  refine Keeps.start h hm fun s h => ?_
  unfold State.flowHanded
  repeat' first
    | with_reducible assumption | exact rfl | with_reducible apply Keeps.charge | with_reducible apply Keeps.flowSent
    | split

theorem Keeps.discard {μ : Nat} {s t : State} (h : Keeps μ s t) (u : Nat) (f : EgFrame) (hm : Sub
    0x4000000000000000000000000000000000000000000000000000000c000000 μ := by rfl) : Keeps μ s (State.discard t u f) :=
    by
  refine Keeps.start h hm fun s h => ?_
  unfold State.discard
  repeat' first
    | with_reducible assumption | exact rfl | with_reducible apply Keeps.freeStamp
    | with_reducible apply Keeps.mapItems | with_reducible refine Keeps.fst (by assumption) ?_ | split
    | with_reducible refine Keeps.upd ?_

theorem Keeps.sendNext {μ : Nat} {s t : State} (h : Keeps μ s t) (u : Nat) (hm : Sub
    0x4000000000004000000000000000000000000000000000000000000000000000080c000080 μ := by rfl) : Keeps μ s
    (State.sendNext t u) := by
  refine Keeps.start h hm fun s h => ?_
  unfold State.sendNext
  try dsimp only
  repeat' first
    | with_reducible assumption | exact rfl | with_reducible apply Keeps.setUplink
    | with_reducible apply Keeps.putOnWire | with_reducible apply Keeps.flowHanded
    | with_reducible refine Keeps.fst (by assumption) ?_ | split | with_reducible refine Keeps.upd ?_

theorem Keeps.startTx {μ : Nat} {s t : State} (h : Keeps μ s t) (u : Nat) (hm : Sub
    0x44c0000000004000000000000000000000000000000000000000000000000000080c000080 μ := by rfl) : Keeps μ s
    (State.startTx t u) := by
  refine Keeps.start h hm fun s h => ?_
  unfold State.startTx
  try dsimp only
  repeat' first
    | with_reducible assumption | exact rfl | with_reducible apply Keeps.alertSync
    | with_reducible apply Keeps.alertRoom | with_reducible apply Keeps.putOnWire
    | with_reducible apply Keeps.sendNext | with_reducible refine Keeps.fst (by assumption) ?_ | split
    | with_reducible refine Keeps.upd ?_

theorem Keeps.enqueue {μ : Nat} {s t : State} (h : Keeps μ s t) (u : Nat) (f : EgFrame) (hm : Sub
    0x44c0000000004000000000000000000000000000000000000000000000000000080c000080 μ := by rfl) : Keeps μ s
    (State.enqueue t u f) := by
  refine Keeps.start h hm fun s h => ?_
  unfold State.enqueue
  try dsimp only
  repeat' first
    | with_reducible assumption | exact rfl | with_reducible apply Keeps.setUplink
    | with_reducible apply Keeps.startTx | split | with_reducible refine Keeps.upd ?_

theorem Keeps.placeAlert {μ : Nat} {s t : State} (h : Keeps μ s t) (u : Nat) (a : Alert) (hm : Sub
    0x200000004000000000000000000000000000000000000000000000000000000c000000 μ := by rfl) : Keeps μ s
    (State.placeAlert t u a) := by
  refine Keeps.start h hm fun s h => ?_
  unfold State.placeAlert
  try dsimp only
  repeat' first
    | with_reducible assumption | exact rfl | with_reducible apply Keeps.bump | with_reducible apply Keeps.setUplink
    | with_reducible apply Keeps.discard | with_reducible refine Keeps.fst (by assumption) ?_ | split
    | with_reducible refine Keeps.upd ?_

theorem Keeps.tieSend {μ : Nat} {s t : State} (h : Keeps μ s t) (ttype : Nat) (body : List Byte) (hm : Sub 0x800000000
    μ := by rfl) : Keeps μ s (State.tieSend t ttype body) := by
  refine Keeps.start h hm fun s h => ?_
  unfold State.tieSend
  repeat' first | with_reducible assumption | exact rfl | with_reducible apply Keeps.emit

theorem Keeps.tieReliable {μ : Nat} {s t : State} (h : Keeps μ s t) (ttype : Nat) (body : List Byte) (hm : Sub
    0x810000000 μ := by rfl) : Keeps μ s (State.tieReliable t ttype body) := by
  refine Keeps.start h hm fun s h => ?_
  unfold State.tieReliable
  try dsimp only
  repeat' first
    | with_reducible assumption | exact rfl | with_reducible apply Keeps.emit | with_reducible refine Keeps.upd ?_

theorem Keeps.mirrorOne {μ : Nat} {s t : State} (h : Keeps μ s t) (a : Alert) (hm : Sub 0x818000000 μ := by rfl) :
    Keeps μ s (State.mirrorOne t a) := by
  refine Keeps.start h hm fun s h => ?_
  unfold State.mirrorOne
  try dsimp only
  repeat' first
    | with_reducible assumption | exact rfl | with_reducible apply Keeps.tieReliable
    | with_reducible refine Keeps.fst (by assumption) ?_ | split | with_reducible refine Keeps.upd ?_

theorem Keeps.alertPump {μ : Nat} {s t : State} (h : Keeps μ s t) (hm : Sub
    0x44c0200000004000000000000000000000000000000000000000000000000000081c000080 μ := by rfl) : Keeps μ s
    (State.alertPump t) := by
  refine Keeps.start h hm fun s h => ?_
  unfold State.alertPump
  try dsimp only
  repeat' first
    | with_reducible assumption | exact rfl | with_reducible apply Keeps.alertSync
    | with_reducible apply Keeps.startTx | with_reducible apply Keeps.placeAlert
    | with_reducible apply Keeps.mirrorOne | with_reducible refine Keeps.foldl ?_ (fun _ _ _ => ?_)
    | with_reducible refine Keeps.fst (by assumption) ?_ | split | with_reducible refine Keeps.upd ?_

theorem Keeps.alert {μ : Nat} {s t : State} (h : Keeps μ s t) (code detail : Nat) (hm : Sub
    0x44c0200000004000000000000000000000000000000000000000000000000000081c000080 μ := by rfl) : Keeps μ s (State.alert
    t code detail) := by
  refine Keeps.start h hm fun s h => ?_
  unfold State.alert
  repeat' first
    | with_reducible assumption | exact rfl | with_reducible apply Keeps.queueAlert
    | with_reducible apply Keeps.alertPump

theorem Keeps.eccResult {μ : Nat} {s t : State} (h : Keeps μ s t) (r : MemResult) (pa : Nat) (hm : Sub
    0x8000042000000000000044c02000000040000000000000000000000000000001c0000000000000000000081c000080 μ := by rfl) :
    Keeps μ s (State.eccResult t r pa) := by
  refine Keeps.start h hm fun s h => ?_
  unfold State.eccResult
  repeat' first
    | with_reducible assumption | exact rfl | with_reducible apply Keeps.wr | with_reducible apply Keeps.bump
    | with_reducible apply Keeps.vector0 | with_reducible apply Keeps.alert
    | with_reducible refine Keeps.fst (by assumption) ?_ | split | with_reducible refine Keeps.upd ?_

theorem Keeps.walkFrom {μ : Nat} {s t : State} (h : Keeps μ s t) (v va : Nat) (r : List MemResult) (a0 : List Nat) (a1
    : Nat) (hm : Sub 0x8000042000000000000044c02000000040000000000000000000000000000001c0000000000000000000081c000080
    μ := by rfl) : Keeps μ s (Sys2Proof.Machine.walkFrom t v va r a0 a1).1 := by
  refine Keeps.start h hm ?_
  clear h hm s
  intro s h
  induction a0 generalizing t r a1 with
  | nil => exact h
  | cons level rest ih =>
    unfold Sys2Proof.Machine.walkFrom
    dsimp only
    repeat' first | with_reducible assumption | exact rfl | with_reducible apply ih | with_reducible apply Keeps.charge | with_reducible apply Keeps.eccResult | split

theorem Keeps.walk {μ : Nat} {s t : State} (h : Keeps μ s t) (v va : Nat) (r : List MemResult) (hm : Sub
    0x8000042000000000000044c02000000040000000000000000000000000000001c0000000000000000000081c000080 μ := by rfl) :
    Keeps μ s (Sys2Proof.Machine.walk t v va r).1 := by
  refine Keeps.start h hm fun s h => ?_
  unfold Sys2Proof.Machine.walk
  repeat' first | with_reducible assumption | exact rfl | with_reducible apply Keeps.walkFrom | split

theorem Keeps.tlbInsert {μ : Nat} {s t : State} (h : Keeps μ s t) (e : TlbEntry) (hm : Sub 0x2000 μ := by rfl) : Keeps
    μ s (State.tlbInsert t e) := by
  refine Keeps.start h hm fun s h => ?_
  unfold State.tlbInsert
  try dsimp only
  repeat' first | with_reducible assumption | exact rfl | with_reducible refine Keeps.upd ?_

theorem Keeps.walkResult {μ : Nat} {s t : State} (h : Keeps μ s t) (w : WalkEnd) (va : Nat) (write : Bool) (hm : Sub
    0x2000 μ := by rfl) : Keeps μ s (State.walkResult t w va write).1 := by
  refine Keeps.start h hm fun s h => ?_
  unfold State.walkResult
  repeat' first
    | with_reducible assumption | exact rfl | with_reducible apply Keeps.tlbInsert
    | with_reducible refine Keeps.fst (by assumption) ?_ | split | with_reducible refine Keeps.upd ?_

theorem Keeps.walkNow {μ : Nat} {s t : State} (h : Keeps μ s t) (v va : Nat) (r : List MemResult) (hm : Sub
    0x8000042000000000000044c02000000040000000000000000000000000000061c0000000000000000000081c000080 μ := by rfl) :
    Keeps μ s (State.walkNow t v va r).1 := by
  refine Keeps.start h hm fun s h => ?_
  unfold State.walkNow
  have k := h.bump .TLB_MISS_CNT 0
  dsimp only
  split
  · have q := (Keeps.refl 0x8000042000000000000044c02000000040000000000000000000000000000061c0000000000000000000081c000080 (t.bump .TLB_MISS_CNT 0)).walk v va r
    have b : _ ∧ _ ∧ _ := q.parts .beat rfl
    have c : _ ∧ _ := q.parts .source rfl
    have d : _ ∧ _ ∧ _ := q.parts .tempo rfl
    exact k.trans (q.upd (h8 := .inr ⟨b.1.symm, b.2.1.symm, b.2.2.symm⟩) (h9 := .inr ⟨c.1.symm, c.2.symm⟩)
      (h10 := .inr ⟨d.1.symm, d.2.1.symm, d.2.2.symm⟩))
  · split
    · exact k.walk _ _ _
    · exact (k.bump _ _).walk _ _ _

theorem Keeps.translate {μ : Nat} {s t : State} (h : Keeps μ s t) (v va : Nat) (write : Bool) (r : List MemResult) (hm
    : Sub 0x8000042000000000000044c02000000040000000000000000000000000000061c0000000000000000000081c002080 μ := by
    rfl) : Keeps μ s (State.translate t v va write r).1 := by
  refine Keeps.start h hm fun s h => ?_
  unfold State.translate
  split
  · next e => exact h.tlbLookup e
  · exact (h.walkNow _ _ _).walkResult _ _ _

theorem Keeps.tlbRemove {μ : Nat} {s t : State} (h : Keeps μ s t) (p : TlbEntry → Bool) (hm : Sub 0x2000 μ := by rfl)
    : Keeps μ s (State.tlbRemove t p) := by
  refine Keeps.start h hm fun s h => ?_
  unfold State.tlbRemove
  repeat' first | with_reducible assumption | exact rfl | with_reducible refine Keeps.upd ?_

theorem Keeps.setRing {μ : Nat} {s t : State} (h : Keeps μ s t) (v q : Nat) (r : Ring) (hm : Sub 0x800 μ := by rfl) :
    Keeps μ s (State.setRing t v q r) := by
  refine Keeps.start h hm fun s h => ?_
  unfold State.setRing
  repeat' first | with_reducible assumption | exact rfl | with_reducible refine Keeps.upd ?_

theorem Keeps.posted {μ : Nat} {s t : State} (h : Keeps μ s t) (v q : Nat) (hm : Sub
    0x18000040000000000000000000000000000000000000000000000000000000000000000000000000000000800000800 μ := by rfl) :
    Keeps μ s (State.posted t v q) := by
  refine Keeps.start h hm fun s h => ?_
  unfold State.posted
  try dsimp only
  repeat' first
    | with_reducible assumption | exact rfl | with_reducible apply Keeps.setB | with_reducible apply Keeps.msix
    | with_reducible apply Keeps.notify | with_reducible apply Keeps.setRing | split
    | with_reducible refine Keeps.upd ?_

theorem Keeps.setOvf {μ : Nat} {s t : State} (h : Keeps μ s t) (v q : Nat) (hm : Sub
    0x20000000000000000000000000000000000000000000000000000000000000000000000000000000000000000000000 μ := by rfl) :
    Keeps μ s (State.setOvf t v q) := by
  refine Keeps.start h hm fun s h => ?_
  unfold State.setOvf
  repeat' first | with_reducible assumption | exact rfl | with_reducible apply Keeps.setB

theorem Keeps.setDropped {μ : Nat} {s t : State} (h : Keeps μ s t) (v q : Nat) (hm : Sub
    0x20000000000000000000000000000000000000000000000000000000000000000000000000000000000000000000000 μ := by rfl) :
    Keeps μ s (State.setDropped t v q) := by
  refine Keeps.start h hm fun s h => ?_
  unfold State.setDropped
  repeat' first | with_reducible assumption | exact rfl | with_reducible apply Keeps.setB

theorem Keeps.pulseLine {μ : Nat} {s t : State} (h : Keeps μ s t) (l : Nat) (hm : Sub
    0x8000000000000000000000000000000000000 μ := by rfl) : Keeps μ s (State.pulseLine t l) := by
  refine Keeps.start h hm fun s h => ?_
  unfold State.pulseLine
  repeat' first
    | with_reducible assumption | exact rfl | with_reducible apply Keeps.wrF | with_reducible apply Keeps.setB | split

theorem Keeps.postEnded {μ : Nat} {s t : State} (h : Keeps μ s t) (p : Post) (hm : Sub
    0x8000000000000000000000000000000000000 μ := by rfl) : Keeps μ s (State.postEnded t p) := by
  refine Keeps.start h hm fun s h => ?_
  unfold State.postEnded
  repeat' first
    | with_reducible assumption | exact rfl | with_reducible apply Keeps.pulseLine
    | with_reducible refine Keeps.fst (by assumption) ?_ | split | with_reducible refine Keeps.upd ?_

theorem Keeps.makePost {μ : Nat} {s t : State} (h : Keeps μ s t) (p : Post) (m : MemAnswers) (hm : Sub
    0x38000042000000000000044c02000000040000000000000000000000008000061c00000be000000000000481c00288c μ := by rfl) :
    Keeps μ s (State.makePost t p m).1 := by
  refine Keeps.start h hm fun s h => ?_
  unfold State.makePost
  try dsimp only
  repeat' first
    | with_reducible assumption | exact rfl | with_reducible apply Keeps.writePhys
    | with_reducible apply Keeps.violate | with_reducible apply Keeps.eccResult | with_reducible apply Keeps.walk
    | with_reducible apply Keeps.translate | with_reducible apply Keeps.posted | with_reducible apply Keeps.setDropped
    | with_reducible apply Keeps.postEnded | with_reducible refine Keeps.fst (by assumption) ?_ | split
    | with_reducible refine Keeps.upd ?_

theorem Keeps.post15 {μ : Nat} {s t : State} (h : Keeps μ s t) (p : Post) (hm : Sub
    0x38000042000000000000044c02000000040000000000000000000000008000061c00000be000000000000481c00388c μ := by rfl) :
    Keeps μ s (State.post15 t p) := by
  refine Keeps.start h hm fun s h => ?_
  unfold State.post15
  try dsimp only
  repeat' first
    | with_reducible assumption | exact rfl | with_reducible apply Keeps.setOvf | with_reducible apply Keeps.makePost
    | with_reducible refine Keeps.fst (by assumption) ?_ | split | with_reducible refine Keeps.upd ?_

theorem Keeps.takeSlot {μ : Nat} {s t : State} (h : Keeps μ s t) (f : Fermata) (k : Nat) (hm : Sub
    0x38000042000000000000044c02000000040000000000000000000000008000061c00000be000000000000481c00388c μ := by rfl) :
    Keeps μ s (State.takeSlot t f k) := by
  refine Keeps.start h hm fun s h => ?_
  unfold State.takeSlot
  try dsimp only
  repeat' first
    | with_reducible assumption | exact rfl | with_reducible apply Keeps.post15 | with_reducible refine Keeps.upd ?_

theorem Keeps.enterFermata {μ : Nat} {s t : State} (h : Keeps μ s t) (f : Fermata) (hm : Sub
    0x38000042000000000000044c02000000040000000000000000000000008000061c00000be000000000000481c00388c μ := by rfl) :
    Keeps μ s (State.enterFermata t f) := by
  refine Keeps.start h hm fun s h => ?_
  unfold State.enterFermata
  repeat' first
    | with_reducible assumption | exact rfl | with_reducible apply Keeps.takeSlot
    | with_reducible refine Keeps.fst (by assumption) ?_ | split | with_reducible refine Keeps.upd ?_

theorem Keeps.releaseSlot {μ : Nat} {s t : State} (h : Keeps μ s t) (v k : Nat) (hm : Sub 0x2000 μ := by rfl) : Keeps
    μ s (State.releaseSlot t v k) := by
  refine Keeps.start h hm fun s h => ?_
  unfold State.releaseSlot
  repeat' first | with_reducible assumption | exact rfl | with_reducible refine Keeps.upd ?_

theorem Keeps.dropFermata {μ : Nat} {s t : State} (h : Keeps μ s t) (p : Fermata → Bool) (hm : Sub 0x2000 μ := by rfl)
    : Keeps μ s (State.dropFermata t p) := by
  refine Keeps.start h hm fun s h => ?_
  unfold State.dropFermata
  try dsimp only
  repeat' first
    | with_reducible assumption | exact rfl | with_reducible refine Keeps.fst (by assumption) ?_ | split
    | with_reducible refine Keeps.upd ?_

theorem Keeps.postM {μ : Nat} {s t : State} (h : Keeps μ s t) (p : Post) (m : MemAnswers) (hm : Sub
    0x38000042000000000000044c02000000040000000000000000000000008000061c00000be000000000000481c00388c μ := by rfl) :
    Keeps μ s (State.postM t p m) := by
  refine Keeps.start h hm fun s h => ?_
  unfold State.postM
  try dsimp only
  repeat' first
    | with_reducible assumption | exact rfl | with_reducible apply Keeps.setOvf | with_reducible apply Keeps.postEnded
    | with_reducible apply Keeps.makePost | with_reducible apply Keeps.post15
    | with_reducible apply Keeps.enterFermata | with_reducible refine Keeps.fst (by assumption) ?_ | split
    | with_reducible refine Keeps.upd ?_

theorem Keeps.post {μ : Nat} {s t : State} (h : Keeps μ s t) (p : Post) (hm : Sub
    0x38000042000000000000044c02000000040000000000000000000000008000061c00000be000000000000481c00388c μ := by rfl) :
    Keeps μ s (State.post t p) := by
  refine Keeps.start h hm fun s h => ?_
  unfold State.post
  repeat' first | with_reducible assumption | exact rfl | with_reducible apply Keeps.postM

theorem Keeps.releasePost {μ : Nat} {s t : State} (h : Keeps μ s t) (v q : Nat) (m : MemAnswers) (hm : Sub
    0x38000042000000000000044c02000000040000000000000000000000008000061c00000be000000000000481c00388c μ := by rfl) :
    Keeps μ s (State.releasePost t v q m) := by
  refine Keeps.start h hm fun s h => ?_
  unfold State.releasePost
  try dsimp only
  repeat' first
    | with_reducible assumption | exact rfl | with_reducible apply Keeps.setOvf | with_reducible apply Keeps.makePost
    | with_reducible apply Keeps.enterFermata | with_reducible apply Keeps.post
    | with_reducible refine Keeps.fst (by assumption) ?_ | split | with_reducible refine Keeps.upd ?_

theorem Keeps.dropPosts {μ : Nat} {s t : State} (h : Keeps μ s t) (p : Post → Bool) (hm : Sub
    0x20000000000000000000000000000000000000000000000000000000008000000000000000000000000000000001000 μ := by rfl) :
    Keeps μ s (State.dropPosts t p) := by
  refine Keeps.start h hm fun s h => ?_
  unfold State.dropPosts
  try dsimp only
  repeat' first
    | with_reducible assumption | exact rfl | with_reducible apply Keeps.setDropped
    | with_reducible apply Keeps.postEnded | with_reducible refine Keeps.foldl ?_ (fun _ _ _ => ?_)
    | with_reducible refine Keeps.upd ?_

theorem Keeps.dropFaulted {μ : Nat} {s t : State} (h : Keeps μ s t) (n : Nat) (hm : Sub
    0x20000000000000000000000000000000000000000000000000000000008000000000000000000000000000000002000 μ := by rfl) :
    Keeps μ s (State.dropFaulted t n) := by
  refine Keeps.start h hm fun s h => ?_
  unfold State.dropFaulted
  try dsimp only
  repeat' first
    | with_reducible assumption | exact rfl | with_reducible apply Keeps.setDropped
    | with_reducible apply Keeps.postEnded | with_reducible apply Keeps.dropFermata | with_reducible apply Keeps.post
    | with_reducible refine Keeps.foldl ?_ (fun _ _ _ => ?_)
    | with_reducible refine Keeps.foldl_fst ?_ (fun _ _ _ => ?_) | with_reducible refine Keeps.fst (by assumption) ?_
    | split | with_reducible refine Keeps.upd ?_

theorem Keeps.setChan {μ : Nat} {s t : State} (h : Keeps μ s t) (c : Nat) (x : Chan) (hm : Sub 0x4000 μ := by rfl) :
    Keeps μ s (State.setChan t c x) := by
  refine Keeps.start h hm fun s h => ?_
  unfold State.setChan
  repeat' first | with_reducible assumption | exact rfl | with_reducible refine Keeps.upd ?_

theorem Keeps.spend {μ : Nat} {s t : State} (h : Keeps μ s t) (d : Desc) (len : Nat) (hm : Sub 0x2000000000 μ := by
    rfl) : Keeps μ s (State.spend t d len) := by
  refine Keeps.start h hm fun s h => ?_
  unfold State.spend
  repeat' first | with_reducible assumption | exact rfl | split | with_reducible refine Keeps.upd ?_

theorem Keeps.stallAt {μ : Nat} {s t : State} (h : Keeps μ s t) (c : Nat) (bounds : List Nat) (hm : Sub
    0x8000000000000000000000000000000000000000000000000007100000000000000000000000000000004000 μ := by rfl) : Keeps μ
    s (State.stallAt t c bounds) := by
  refine Keeps.start h hm fun s h => ?_
  unfold State.stallAt
  try dsimp only
  repeat' first
    | with_reducible assumption | exact rfl | with_reducible apply Keeps.bump | with_reducible apply Keeps.setChan
    | with_reducible refine Keeps.foldl ?_ (fun _ _ _ => ?_) | split | with_reducible refine Keeps.upd ?_

theorem Keeps.served {μ : Nat} {s t : State} (h : Keeps μ s t) (k c : Nat) (e : Elem) (hm : Sub 0x4000 μ := by rfl) :
    Keeps μ s (State.served t k c e) := by
  refine Keeps.start h hm fun s h => ?_
  unfold State.served
  try dsimp only
  repeat' first | with_reducible assumption | exact rfl | split | with_reducible refine Keeps.upd ?_

theorem Keeps.lendTo {μ : Nat} {s t : State} (h : Keeps μ s t) (v : Nat) (hm : Sub 0x4000 μ := by rfl) : Keeps μ s
    (State.lendTo t v) := by
  refine Keeps.start h hm fun s h => ?_
  unfold State.lendTo
  repeat' first | with_reducible assumption | exact rfl | with_reducible refine Keeps.upd ?_

theorem Keeps.postDone {μ : Nat} {s t : State} (h : Keeps μ s t) (c : Nat) (e : Elem) (status residue idx ei : Nat)
    (item : Option Item) (line : Option Nat) (hm : Sub
    0x38000042000000000000044c02000000040000000000000000000000008000061c00000be000000000000481c00388c μ := by rfl) :
    Keeps μ s (State.postDone t c e status residue idx ei item line) := by
  refine Keeps.start h hm fun s h => ?_
  unfold State.postDone
  try dsimp only
  repeat' first | with_reducible assumption | exact rfl | with_reducible apply Keeps.post

theorem Keeps.writeback {μ : Nat} {s t : State} (h : Keeps μ s t) (c : Nat) (e : Elem) (d : Desc) (status residue :
    Nat) (f : Option DmaFail) (fetch : Bool) (hm : Sub
    0x38000042000000000000044c02000000040000000000000000000000008080061c00000be000000000000481c00388c μ := by rfl) :
    Keeps μ s (State.writeback t c e d status residue f fetch) := by
  refine Keeps.start h hm fun s h => ?_
  unfold State.writeback
  try dsimp only
  repeat' first
    | with_reducible assumption | exact rfl | with_reducible apply Keeps.writePhys | with_reducible apply Keeps.bump
    | with_reducible apply Keeps.violate | with_reducible apply Keeps.translate | with_reducible apply Keeps.setRing
    | with_reducible apply Keeps.pulseLine | with_reducible apply Keeps.postDone
    | with_reducible refine Keeps.fst (by assumption) ?_ | split | with_reducible refine Keeps.upd ?_

theorem Keeps.land {μ : Nat} {s t : State} (h : Keeps μ s t) (c : Nat) (b : Burst) (hm : Sub
    0x4000000000000000000000000000000000c μ := by rfl) : Keeps μ s (State.land t c b) := by
  refine Keeps.start h hm fun s h => ?_
  unfold State.land
  repeat' first
    | with_reducible assumption | exact rfl | with_reducible apply Keeps.writePhys
    | with_reducible apply Keeps.addWrap | with_reducible refine Keeps.fst (by assumption) ?_ | split
    | with_reducible refine Keeps.upd ?_

theorem Keeps.landAll {μ : Nat} {s t : State} (h : Keeps μ s t) (c : Nat) (l : List Burst) (hm : Sub
    0x4000000000000000000000000000000000c μ := by rfl) : Keeps μ s (State.landAll t c l) := by
  refine Keeps.start h hm fun s h => ?_
  unfold State.landAll
  repeat' first
    | with_reducible assumption | exact rfl | with_reducible apply Keeps.land
    | with_reducible refine Keeps.foldl ?_ (fun _ _ _ => ?_)

theorem Keeps.completeHead {μ : Nat} {s t : State} (h : Keeps μ s t) (c : Nat) (status : Nat) (f : Option DmaFail) (hm
    : Sub 0x38000042000000000000044c020000000400000000000000000000000080c0061c00000be000000000000481c00788c μ := by
    rfl) : Keeps μ s (State.completeHead t c status f) := by
  refine Keeps.start h hm fun s h => ?_
  unfold State.completeHead
  try dsimp only
  repeat' first
    | with_reducible assumption | exact rfl | with_reducible apply Keeps.setChan
    | with_reducible apply Keeps.writeback | with_reducible apply Keeps.landAll
    | with_reducible refine Keeps.fst (by assumption) ?_ | split | with_reducible refine Keeps.upd ?_

theorem Keeps.completeNext {μ : Nat} {s t : State} (h : Keeps μ s t) (c : Nat) (hm : Sub
    0x38000042000000000000044c020000000400000000000000000000000080c0061c00000be000000000000481c00788c μ := by rfl) :
    Keeps μ s (State.completeNext t c) := by
  refine Keeps.start h hm fun s h => ?_
  unfold State.completeNext
  repeat' first
    | with_reducible assumption | exact rfl | with_reducible apply Keeps.completeHead
    | with_reducible refine Keeps.fst (by assumption) ?_ | split | with_reducible refine Keeps.upd ?_

theorem Keeps.completeChain {μ : Nat} {s t : State} (h : Keeps μ s t) (c : Nat) (status : Nat) (f : Option DmaFail)
    (hm : Sub 0x38000042000000000000044c020000000400000000000000000000000080c0061c00000be000000000000481c00788c μ :=
    by rfl) : Keeps μ s (State.completeChain t c status f) := by
  refine Keeps.start h hm fun s h => ?_
  unfold State.completeChain
  repeat' first
    | with_reducible assumption | exact rfl | with_reducible apply Keeps.completeHead
    | with_reducible apply Keeps.completeNext

theorem Keeps.completeIfDone {μ : Nat} {s t : State} (h : Keeps μ s t) (c : Nat) (hm : Sub
    0x38000042000000000000044c020000000400000000000000000000000080c0061c00000be000000000000481c00788c μ := by rfl) :
    Keeps μ s (State.completeIfDone t c) := by
  refine Keeps.start h hm fun s h => ?_
  unfold State.completeIfDone
  try dsimp only
  repeat' first
    | with_reducible assumption | exact rfl | with_reducible apply Keeps.completeChain
    | with_reducible refine Keeps.fst (by assumption) ?_ | split | with_reducible refine Keeps.upd ?_

theorem Keeps.endDesc {μ : Nat} {s t : State} (h : Keeps μ s t) (c idx : Nat) (status : Nat) (f : Option DmaFail) (hm
    : Sub 0x38000042000000000000044c020000000400000000000000000000000080c0061c00000be000000000000481c00788c μ := by
    rfl) : Keeps μ s (State.endDesc t c idx status f) := by
  refine Keeps.start h hm fun s h => ?_
  unfold State.endDesc
  try dsimp only
  repeat' first
    | with_reducible assumption | exact rfl | with_reducible apply Keeps.setChan
    | with_reducible apply Keeps.completeChain | with_reducible refine Keeps.fst (by assumption) ?_ | split
    | with_reducible refine Keeps.upd ?_

theorem Keeps.latchBusError {μ : Nat} {s t : State} (h : Keeps μ s t) (c : Nat) (idx : Nat) (va pa : Nat) (write fetch
    : Bool) (hm : Sub 0x438000000000000000000000000000000000 μ := by rfl) : Keeps μ s (State.latchBusError t c idx va
    pa write fetch) := by
  refine Keeps.start h hm fun s h => ?_
  unfold State.latchBusError
  repeat' first
    | with_reducible assumption | exact rfl | with_reducible apply Keeps.wr | with_reducible apply Keeps.bump

theorem Keeps.busPolicy {μ : Nat} {s t : State} (h : Keeps μ s t) (c : Nat) (e : Elem) (idx : Nat) (f : DmaFail) (hm :
    Sub 0x38000042000000000000044c020000000400000000000000000000000080c0061c00000be000000000000481c00788c μ := by rfl)
    : Keeps μ s (State.busPolicy t c e idx f) := by
  refine Keeps.start h hm fun s h => ?_
  unfold State.busPolicy
  try dsimp only
  repeat' first
    | with_reducible assumption | exact rfl | with_reducible apply Keeps.setChan | with_reducible apply Keeps.postDone
    | with_reducible apply Keeps.endDesc | with_reducible refine Keeps.fst (by assumption) ?_ | split
    | with_reducible refine Keeps.upd ?_

theorem Keeps.dmaBusError {μ : Nat} {s t : State} (h : Keeps μ s t) (c : Nat) (e : Elem) (idx : Nat) (f : DmaFail) (b
    : Option Burst) (hm : Sub
    0x38000042000000000000044c020000000400000000000000000000000084f8061c00000be000000000000481c00788c μ := by rfl) :
    Keeps μ s (State.dmaBusError t c e idx f b) := by
  refine Keeps.start h hm fun s h => ?_
  unfold State.dmaBusError
  try dsimp only
  repeat' first
    | with_reducible assumption | exact rfl | with_reducible apply Keeps.setChan
    | with_reducible apply Keeps.latchBusError | with_reducible apply Keeps.busPolicy | split
    | with_reducible refine Keeps.upd ?_

theorem Keeps.returnUnfetched {μ : Nat} {s t : State} (h : Keeps μ s t) (c : Nat) (e : Elem) (a0 : Nat) (hm : Sub
    0x38000042000000000000044c02000000040000000000000000000000008080061c00000be000000000000481c00388c μ := by rfl) :
    Keeps μ s (State.returnUnfetched t c e a0) := by
  refine Keeps.start h hm ?_
  clear h hm s
  intro s h
  induction a0 generalizing t with
  | zero => exact h
  | succ n ih =>
    unfold State.returnUnfetched
    dsimp only
    split
    · exact h
    · exact ih ((h.translate _ _ _ _).writeback _ _ _ _ _ _ _)

theorem Keeps.endHead {μ : Nat} {s t : State} (h : Keeps μ s t) (c : Nat) (status : Nat) (hm : Sub
    0x38000042000000000000044c020000000400000000000000000000000080c0061c00000be000000000000481c00788c μ := by rfl) :
    Keeps μ s (State.endHead t c status) := by
  refine Keeps.start h hm fun s h => ?_
  unfold State.endHead
  repeat' first | with_reducible assumption | exact rfl | with_reducible apply Keeps.completeHead

theorem Keeps.dropWaiter {μ : Nat} {s t : State} (h : Keeps μ s t) (c : Nat) (hm : Sub 0x2000 μ := by rfl) : Keeps μ s
    (State.dropWaiter t c) := by
  refine Keeps.start h hm fun s h => ?_
  unfold State.dropWaiter
  try dsimp only
  repeat' first | with_reducible assumption | exact rfl | with_reducible refine Keeps.upd ?_

theorem Keeps.landFlying {μ : Nat} {s t : State} (h : Keeps μ s t) (c : Nat) (hm : Sub
    0x4000000000000000000000000000000000c μ := by rfl) : Keeps μ s (State.landFlying t c) := by
  refine Keeps.start h hm fun s h => ?_
  unfold State.landFlying
  try dsimp only
  repeat' first | with_reducible assumption | exact rfl | with_reducible apply Keeps.landAll

theorem Keeps.abortChan {μ : Nat} {s t : State} (h : Keeps μ s t) (c : Nat) (hm : Sub
    0x38000042000000000000044c020000000400000000000000000000000080c0061c00000be000000000000481c00788c μ := by rfl) :
    Keeps μ s (State.abortChan t c) := by
  refine Keeps.start h hm fun s h => ?_
  unfold State.abortChan
  try dsimp only
  repeat' first
    | with_reducible assumption | exact rfl | with_reducible apply Keeps.dropFermata
    | with_reducible apply Keeps.setChan | with_reducible apply Keeps.endHead | with_reducible apply Keeps.dropWaiter
    | with_reducible apply Keeps.landFlying

theorem Keeps.haltChan {μ : Nat} {s t : State} (h : Keeps μ s t) (c : Nat) (hm : Sub
    0x38000042000000000000044c020000000400000000000000000000000080c0061c00000be000000000000481c00788c μ := by rfl) :
    Keeps μ s (State.haltChan t c) := by
  refine Keeps.start h hm fun s h => ?_
  unfold State.haltChan
  repeat' first
    | with_reducible assumption | exact rfl | with_reducible apply Keeps.returnUnfetched
    | with_reducible apply Keeps.abortChan | with_reducible refine Keeps.fst (by assumption) ?_ | split
    | with_reducible refine Keeps.upd ?_

theorem Keeps.removeChan {μ : Nat} {s t : State} (h : Keeps μ s t) (c : Nat) (hm : Sub
    0x4000000000000000000000000000000600c μ := by rfl) : Keeps μ s (State.removeChan t c) := by
  refine Keeps.start h hm fun s h => ?_
  unfold State.removeChan
  try dsimp only
  repeat' first
    | with_reducible assumption | exact rfl | with_reducible apply Keeps.dropFermata
    | with_reducible apply Keeps.dropWaiter | with_reducible apply Keeps.landFlying
    | with_reducible refine Keeps.upd ?_

theorem Keeps.missFor {μ : Nat} {s t : State} (h : Keeps μ s t) (v va : Nat) (who : Nat × Bool) (hm : Sub
    0x60000000000000000000000000002000 μ := by rfl) : Keeps μ s (State.missFor t v va who) := by
  refine Keeps.start h hm fun s h => ?_
  unfold State.missFor
  try dsimp only
  repeat' first
    | with_reducible assumption | exact rfl | with_reducible apply Keeps.bump
    | with_reducible refine Keeps.fst (by assumption) ?_ | split | with_reducible refine Keeps.upd ?_

theorem Keeps.execWalkStart {μ : Nat} {s t : State} (h : Keeps μ s t) (hm : Sub 0x2000 μ := by rfl) : KeepsO μ s
    (Sys2Proof.Machine.execWalkStart t) := by
  refine Keeps.startO h hm fun s h => ?_
  unfold Sys2Proof.Machine.execWalkStart
  repeat' first
    | with_reducible assumption | exact rfl | with_reducible apply Keeps.next
    | with_reducible refine Keeps.fst (by assumption) ?_ | split | with_reducible refine Keeps.upd ?_

theorem Keeps.answerSide {μ : Nat} {s t : State} (h : Keeps μ s t) (x : Xlat) (who : Nat × Bool) (hm : Sub
    0x38000042000000000000044c020000000400000000000000000000000084f8061c00000be000000000000481c00788c μ := by rfl) :
    Keeps μ s (State.answerSide t x who) := by
  refine Keeps.start h hm fun s h => ?_
  unfold State.answerSide
  try dsimp only
  repeat' first
    | with_reducible assumption | exact rfl | with_reducible apply Keeps.wr | with_reducible apply Keeps.enterFermata
    | with_reducible apply Keeps.setChan | with_reducible apply Keeps.dmaBusError
    | with_reducible refine Keeps.fst (by assumption) ?_ | split | with_reducible refine Keeps.upd ?_

theorem Keeps.walkAnswer {μ : Nat} {s t : State} (h : Keeps μ s t) (page : Nat) (w : WalkEnd) (who : Nat × Bool) (hm :
    Sub 0x38000042000000000000044c020000000400000000000000000000000084f8061c00000be000000000000481c00788c μ := by rfl)
    : Keeps μ s (State.walkAnswer t page w who) := by
  refine Keeps.start h hm fun s h => ?_
  unfold State.walkAnswer
  try dsimp only
  repeat' first
    | with_reducible assumption | exact rfl | with_reducible apply Keeps.wr | with_reducible apply Keeps.answerSide
    | with_reducible refine Keeps.fst (by assumption) ?_ | split | with_reducible refine Keeps.upd ?_

theorem Keeps.execWalkComplete {μ : Nat} {s t : State} (h : Keeps μ s t) (k : Nat) (r : List MemResult) (hm : Sub
    0x38000042000000000000044c020000000400000000000000000000000084f8061c00000be000000000000481c00788c μ := by rfl) :
    KeepsO μ s (Sys2Proof.Machine.execWalkComplete k r t) := by
  refine Keeps.startO h hm fun s h => ?_
  unfold Sys2Proof.Machine.execWalkComplete
  try dsimp only
  repeat' first
    | with_reducible assumption | exact rfl | with_reducible apply Keeps.walk | with_reducible apply Keeps.tlbInsert
    | with_reducible apply Keeps.walkAnswer | with_reducible apply Keeps.next
    | with_reducible refine Keeps.foldl ?_ (fun _ _ _ => ?_)
    | with_reducible refine Keeps.foldl_fst ?_ (fun _ _ _ => ?_) | with_reducible refine Keeps.fst (by assumption) ?_
    | split | with_reducible refine Keeps.upd ?_

theorem Keeps.takeDesc {μ : Nat} {s t : State} (h : Keeps μ s t) (c : Nat) (e : Elem) (idx : Nat) (pa : Option Nat)
    (raw : List Byte) (hm : Sub
    0x38000042000000000000044c020000000400000000000000000000000080c0061c00000be000000000000481c00788c μ := by rfl) :
    Keeps μ s (State.takeDesc t c e idx pa raw) := by
  refine Keeps.start h hm fun s h => ?_
  unfold State.takeDesc
  try dsimp only
  repeat' first
    | with_reducible assumption | exact rfl | with_reducible apply Keeps.setChan
    | with_reducible apply Keeps.completeHead | with_reducible refine Keeps.fst (by assumption) ?_ | split
    | with_reducible refine Keeps.upd ?_

theorem Keeps.fetchError {μ : Nat} {s t : State} (h : Keeps μ s t) (c : Nat) (e : Elem) (idx va pa : Nat) (hm : Sub
    0x38000042000000000000044c02000000040000000000000000000000008438061c00000be000000000000481c00788c μ := by rfl) :
    Keeps μ s (State.fetchError t c e idx va pa) := by
  refine Keeps.start h hm fun s h => ?_
  unfold State.fetchError
  try dsimp only
  repeat' first
    | with_reducible assumption | exact rfl | with_reducible apply Keeps.setChan | with_reducible apply Keeps.postDone
    | with_reducible apply Keeps.latchBusError | with_reducible refine Keeps.upd ?_

theorem Keeps.execDescriptorFetchReturn {μ : Nat} {s t : State} (h : Keeps μ s t) (ch : Nat) (m : MemAnswers) (hm :
    Sub 0x38000042000000000000044c020000000400000000000000000000000084f8061c00000be000000000000481c00788c μ := by rfl)
    : KeepsO μ s (Sys2Proof.Machine.execDescriptorFetchReturn ch m t) := by
  refine Keeps.startO h hm fun s h => ?_
  unfold Sys2Proof.Machine.execDescriptorFetchReturn
  try dsimp only
  repeat' first
    | with_reducible assumption | exact rfl | with_reducible apply Keeps.violate
    | with_reducible apply Keeps.eccResult | with_reducible apply Keeps.walk | with_reducible apply Keeps.translate
    | with_reducible apply Keeps.enterFermata | with_reducible apply Keeps.setChan
    | with_reducible apply Keeps.takeDesc | with_reducible apply Keeps.fetchError | with_reducible apply Keeps.next
    | with_reducible apply Keeps.fault | with_reducible refine Keeps.fst (by assumption) ?_ | split
    | with_reducible refine Keeps.upd ?_

theorem Keeps.waitChan {μ : Nat} {s t : State} (h : Keeps μ s t) (c : Nat) (hm : Sub 0x4000 μ := by rfl) : Keeps μ s
    (State.waitChan t c) := by
  refine Keeps.start h hm fun s h => ?_
  unfold State.waitChan
  repeat' first
    | with_reducible assumption | exact rfl | with_reducible apply Keeps.setChan | with_reducible refine Keeps.upd ?_

theorem Keeps.askRest {μ : Nat} {s t : State} (h : Keeps μ s t) (c : Nat) (e : Elem) (hm : Sub 0x4000 μ := by rfl) :
    Keeps μ s (State.askRest t c e) := by
  refine Keeps.start h hm fun s h => ?_
  unfold State.askRest
  repeat' first
    | with_reducible assumption | exact rfl | with_reducible apply Keeps.setChan | with_reducible refine Keeps.upd ?_

theorem Keeps.readGo {μ : Nat} {s t : State} (h : Keeps μ s t) (c : Nat) (e : Elem) (d : Desc) (b : Burst) (lent :
    Bool) (hm : Sub 0x4000 μ := by rfl) : Keeps μ s (State.readGo t c e d b lent) := by
  refine Keeps.start h hm fun s h => ?_
  unfold State.readGo
  try dsimp only
  repeat' first
    | with_reducible assumption | exact rfl | with_reducible apply Keeps.setChan | with_reducible apply Keeps.served
    | with_reducible apply Keeps.lendTo | split | with_reducible refine Keeps.upd ?_

theorem Keeps.tryRead {μ : Nat} {s t : State} (h : Keeps μ s t) (c : Nat) (e : Elem) (outbound lent : Bool) (go :
    State → State) (k : ∀ x, Keeps μ s x → Keeps μ s (go x)) (hm : Sub
    0x8000000000000000000000000000000000000000000000000007100000000000000000000000000000004000 μ := by rfl) : Keeps μ
    s (State.tryRead t c e outbound lent go) := by
  unfold State.tryRead
  split
  · split
    · exact k _ h
    · exact h
  · exact h.stallAt _ _ (Sub.trans (by rfl) hm)

theorem Keeps.execReadBurstIssue {μ : Nat} {s t : State} (h : Keeps μ s t) (ch : Nat) (rest : Bool) (hm : Sub
    0x3800004a000000000000044c0200000004000000000000000000000000f5f8061c00000be000000000000481c00788c μ := by rfl) :
    KeepsO μ s (Sys2Proof.Machine.execReadBurstIssue ch rest t) := by
  refine Keeps.startO h hm fun s h => ?_
  unfold Sys2Proof.Machine.execReadBurstIssue
  try dsimp only
  repeat' first
    | with_reducible assumption | exact rfl | with_reducible apply Keeps.charge | with_reducible apply Keeps.violate
    | with_reducible apply Keeps.eccResult | with_reducible apply Keeps.setChan
    | with_reducible apply Keeps.dmaBusError | with_reducible apply Keeps.missFor
    | with_reducible apply Keeps.waitChan | with_reducible apply Keeps.askRest | with_reducible apply Keeps.readGo
    | with_reducible apply Keeps.tryRead | refine Keeps.sideNow ?_ (by assumption) | with_reducible apply Keeps.next
    | with_reducible refine Keeps.fst (by assumption) ?_ | (intro (_ : State) (_ : Keeps _ _ _); try dsimp only)
    | split

theorem Keeps.readReturned {μ : Nat} {s t : State} (h : Keeps μ s t) (ch : Nat) (r : MemResult) (hm : Sub
    0x38000042000000000000044c020000000400000000000000000000000084f8061c00000be000000000000481c00788c μ := by rfl) :
    Keeps μ s (State.readReturned t ch r) := by
  refine Keeps.start h hm fun s h => ?_
  unfold State.readReturned
  try dsimp only
  repeat' first
    | with_reducible assumption | exact rfl | with_reducible apply Keeps.eccResult
    | with_reducible apply Keeps.setChan | with_reducible apply Keeps.dmaBusError
    | with_reducible refine Keeps.fst (by assumption) ?_ | split | with_reducible refine Keeps.upd ?_

theorem Keeps.execReadBurstReturn {μ : Nat} {s t : State} (h : Keeps μ s t) (ch : Nat) (r : MemResult) (hm : Sub
    0x38000042000000000000044c020000000400000000000000000000000084f8061c00000be000000000000481c00788c μ := by rfl) :
    KeepsO μ s (Sys2Proof.Machine.execReadBurstReturn ch r t) := by
  refine Keeps.startO h hm fun s h => ?_
  unfold Sys2Proof.Machine.execReadBurstReturn
  repeat' first
    | with_reducible assumption | exact rfl | with_reducible apply Keeps.readReturned
    | with_reducible apply Keeps.next

theorem Keeps.writeGo {μ : Nat} {s t : State} (h : Keeps μ s t) (c : Nat) (e : Elem) (d : Desc) (b : Burst) (lent :
    Bool) (hm : Sub 0x38000042000000000000044c020000000400000000000000000000000080c4061c00000be000000000000481c00788c
    μ := by rfl) : Keeps μ s (State.writeGo t c e d b lent) := by
  refine Keeps.start h hm fun s h => ?_
  unfold State.writeGo
  try dsimp only
  repeat' first
    | with_reducible assumption | exact rfl | with_reducible apply Keeps.writePhys | with_reducible apply Keeps.wr
    | with_reducible apply Keeps.addWrap | with_reducible apply Keeps.charge | with_reducible apply Keeps.setChan
    | with_reducible apply Keeps.served | with_reducible apply Keeps.lendTo
    | with_reducible apply Keeps.completeIfDone | with_reducible refine Keeps.fst (by assumption) ?_ | split
    | with_reducible refine Keeps.upd ?_

theorem Keeps.execWriteBurstIssue {μ : Nat} {s t : State} (h : Keeps μ s t) (ch : Nat) (rest : Bool) (hm : Sub
    0x3800004a000000000000044c0200000004000000000000000000000000f5fc061c00000be000000000000681c00788c μ := by rfl) :
    KeepsO μ s (Sys2Proof.Machine.execWriteBurstIssue ch rest t) := by
  refine Keeps.startO h hm fun s h => ?_
  unfold Sys2Proof.Machine.execWriteBurstIssue
  try dsimp only
  repeat' first
    | with_reducible assumption | exact rfl | with_reducible apply Keeps.wr | with_reducible apply Keeps.violate
    | with_reducible apply Keeps.eccResult | with_reducible apply Keeps.setChan | with_reducible apply Keeps.spend
    | with_reducible apply Keeps.stallAt | with_reducible apply Keeps.dmaBusError | with_reducible apply Keeps.missFor
    | with_reducible apply Keeps.waitChan | with_reducible apply Keeps.askRest | with_reducible apply Keeps.writeGo
    | refine Keeps.sideNow ?_ (by assumption) | with_reducible apply Keeps.next
    | with_reducible refine Keeps.fst (by assumption) ?_ | split

theorem Keeps.ackFlying {μ : Nat} {s t : State} (h : Keeps μ s t) (c idx : Nat) (b : Burst) (t' : List (Nat × Burst))
    (r : MemResult) (hm : Sub
    0x38000042000000000000044c020000000400000000000000000000000084f8061c00000be000000000000481c00788c μ := by rfl) :
    Keeps μ s (State.ackFlying t c idx b t' r) := by
  refine Keeps.start h hm fun s h => ?_
  unfold State.ackFlying
  try dsimp only
  repeat' first
    | with_reducible assumption | exact rfl | with_reducible apply Keeps.eccResult
    | with_reducible apply Keeps.setChan | with_reducible apply Keeps.land | with_reducible apply Keeps.completeIfDone
    | with_reducible apply Keeps.latchBusError | split | with_reducible refine Keeps.upd ?_

theorem Keeps.ackBurst {μ : Nat} {s t : State} (h : Keeps μ s t) (c : Nat) (e : Elem) (d : Desc) (b : Burst) (r :
    MemResult) (hm : Sub
    0x38000042000000000000044c020000000400000000000000000000000084f8061c00000be000000000000481c00788c μ := by rfl) :
    Keeps μ s (State.ackBurst t c e d b r) := by
  refine Keeps.start h hm fun s h => ?_
  unfold State.ackBurst
  try dsimp only
  repeat' first
    | with_reducible assumption | exact rfl | with_reducible apply Keeps.eccResult
    | with_reducible apply Keeps.setChan | with_reducible apply Keeps.land | with_reducible apply Keeps.completeIfDone
    | with_reducible apply Keeps.dmaBusError | split | with_reducible refine Keeps.upd ?_

theorem Keeps.execWriteBurstAck {μ : Nat} {s t : State} (h : Keeps μ s t) (ch : Nat) (r : MemResult) (hm : Sub
    0x38000042000000000000044c020000000400000000000000000000000084f8061c00000be000000000000481c00788c μ := by rfl) :
    KeepsO μ s (Sys2Proof.Machine.execWriteBurstAck ch r t) := by
  refine Keeps.startO h hm fun s h => ?_
  unfold Sys2Proof.Machine.execWriteBurstAck
  repeat' first
    | with_reducible assumption | exact rfl | with_reducible apply Keeps.ackFlying
    | with_reducible apply Keeps.ackBurst | with_reducible apply Keeps.next
    | with_reducible refine Keeps.fst (by assumption) ?_ | split | with_reducible refine Keeps.upd ?_

theorem Keeps.execEventLineWaitEnd {μ : Nat} {s t : State} (h : Keeps μ s t) (ch : Nat) (hm : Sub
    0x8000040000000000000000000000000000000000000000000000000008000000000000be0000000000004800004000 μ := by rfl) :
    KeepsO μ s (Sys2Proof.Machine.execEventLineWaitEnd ch t) := by
  refine Keeps.startO h hm fun s h => ?_
  unfold Sys2Proof.Machine.execEventLineWaitEnd
  try dsimp only
  repeat' first
    | with_reducible assumption | exact rfl | with_reducible apply Keeps.wrF | with_reducible apply Keeps.violate
    | with_reducible apply Keeps.setChan | with_reducible apply Keeps.next
    | with_reducible refine Keeps.fst (by assumption) ?_ | split | with_reducible refine Keeps.upd ?_

theorem Keeps.cmdNone {μ : Nat} {s t : State} (h : Keeps μ s t) (c : Nat) (cmd : Nat) (hm : Sub 0x4000 μ := by rfl) :
    Keeps μ s (State.cmdNone t c cmd) := by
  refine Keeps.start h hm fun s h => ?_
  unfold State.cmdNone
  repeat' first
    | with_reducible assumption | exact rfl | with_reducible apply Keeps.setChan | split
    | with_reducible refine Keeps.upd ?_

theorem Keeps.execDmaCmdResume {μ : Nat} {s t : State} (h : Keeps μ s t) (ch : Nat) (hm : Sub 0x4000 μ := by rfl) :
    KeepsO μ s (Sys2Proof.Machine.execDmaCmdResume ch t) := by
  refine Keeps.startO h hm fun s h => ?_
  unfold Sys2Proof.Machine.execDmaCmdResume
  try dsimp only
  repeat' first
    | with_reducible assumption | exact rfl | with_reducible apply Keeps.setChan | with_reducible apply Keeps.cmdNone
    | with_reducible apply Keeps.next | with_reducible refine Keeps.fst (by assumption) ?_ | split
    | with_reducible refine Keeps.upd ?_

theorem Keeps.execDmaCmdAbort {μ : Nat} {s t : State} (h : Keeps μ s t) (ch : Nat) (hm : Sub
    0x38000042000000000000044c020000000400000000000000000000000080c0061c00000be000000000000481c00788c μ := by rfl) :
    KeepsO μ s (Sys2Proof.Machine.execDmaCmdAbort ch t) := by
  refine Keeps.startO h hm fun s h => ?_
  unfold Sys2Proof.Machine.execDmaCmdAbort
  try dsimp only
  repeat' first
    | with_reducible assumption | exact rfl | with_reducible apply Keeps.setChan | with_reducible apply Keeps.endDesc
    | with_reducible apply Keeps.cmdNone | with_reducible apply Keeps.next
    | with_reducible refine Keeps.fst (by assumption) ?_ | split | with_reducible refine Keeps.upd ?_

theorem Keeps.execOutboundCompletionTimeout {μ : Nat} {s t : State} (h : Keeps μ s t) (ch : Nat) (hm : Sub
    0x38000042000000000000044c020000000400000000000000000000000084f8061c00000be000000000000481c00788c μ := by rfl) :
    KeepsO μ s (Sys2Proof.Machine.execOutboundCompletionTimeout ch t) := by
  refine Keeps.startO h hm fun s h => ?_
  unfold Sys2Proof.Machine.execOutboundCompletionTimeout
  repeat' first
    | with_reducible assumption | exact rfl | with_reducible apply Keeps.readReturned
    | with_reducible apply Keeps.next | with_reducible refine Keeps.fst (by assumption) ?_ | split
    | with_reducible refine Keeps.upd ?_

end Sys2Proof.Machine
end

