-- ==== Sys2Proof/Laws/KeepsImage.lean ====
section
/-!
SUPPORT. What the parts of a command keep: ports, pipes, alignment, statistics and services.
-/

namespace Sys2Proof.Machine

set_option Elab.async false

theorem Keeps.setPort {μ : Nat} {s t : State} (h : Keeps μ s t) (p : Nat) (x : Port) (hm : Sub 0x20000 μ := by rfl) :
    Keeps μ s (State.setPort t p x) := by
  refine Keeps.start h hm fun s h => ?_
  unfold State.setPort
  repeat' first | with_reducible assumption | exact rfl | with_reducible refine Keeps.upd ?_

theorem Keeps.setStrm {μ : Nat} {s t : State} (h : Keeps μ s t) (i : Nat) (x : StreamSt) (hm : Sub 0x10000 μ := by
    rfl) : Keeps μ s (State.setStrm t i x) := by
  refine Keeps.start h hm fun s h => ?_
  unfold State.setStrm
  repeat' first | with_reducible assumption | exact rfl | with_reducible refine Keeps.upd ?_

theorem Keeps.setLink {μ : Nat} {s t : State} (h : Keeps μ s t) (p k c : Nat) (hm : Sub
    0x20000000000000000000000000000000000000 μ := by rfl) : Keeps μ s (State.setLink t p k c) := by
  refine Keeps.start h hm fun s h => ?_
  unfold State.setLink
  repeat' first | with_reducible assumption | exact rfl | with_reducible apply Keeps.wrF

theorem Keeps.postBundle {μ : Nat} {s t : State} (h : Keeps μ s t) (b : DueBundle) (status done : Nat) (straddle :
    Bool) (written : Nat) (old : Bool) (hm : Sub
    0x38000042000000000000044c02000000040000000000000000000000008000061c00000be000000000000481c00388c μ := by rfl) :
    Keeps μ s (State.postBundle t b status done straddle written old) := by
  refine Keeps.start h hm fun s h => ?_
  unfold State.postBundle
  repeat' first
    | with_reducible assumption | exact rfl | with_reducible apply Keeps.post
    | with_reducible refine Keeps.fst (by assumption) ?_ | split | with_reducible refine Keeps.upd ?_

theorem Keeps.deferBundle {μ : Nat} {s t : State} (h : Keeps μ s t) (p : Nat) (b : DueBundle) (hm : Sub
    0x200000000000000000000000000000000000020000 μ := by rfl) : Keeps μ s (State.deferBundle t p b) := by
  refine Keeps.start h hm fun s h => ?_
  unfold State.deferBundle
  try dsimp only
  repeat' first
    | with_reducible assumption | exact rfl | with_reducible apply Keeps.bump | with_reducible apply Keeps.setPort
    | split | with_reducible refine Keeps.upd ?_

theorem Keeps.pickBundle {μ : Nat} {s t : State} (h : Keeps μ s t) (p : Nat) (a0 : Nat) (hm : Sub
    0x200000000000000000000000000000000000020000 μ := by rfl) : Keeps μ s (State.pickBundle t p a0) := by
  refine Keeps.start h hm ?_
  clear h hm s
  intro s h
  induction a0 generalizing t with
  | zero => exact h
  | succ n ih =>
    unfold State.pickBundle
    dsimp only
    repeat' first | with_reducible assumption | exact rfl | exact rfl | with_reducible assumption | with_reducible apply ih | with_reducible apply Keeps.deferBundle | with_reducible apply Keeps.setPort | split | with_reducible refine Keeps.upd ?_

theorem Keeps.pickBundles {μ : Nat} {s t : State} (h : Keeps μ s t) (p : Nat) (hm : Sub
    0x200000000000000000000000000000000000020000 μ := by rfl) : Keeps μ s (State.pickBundles t p) := by
  refine Keeps.start h hm fun s h => ?_
  unfold State.pickBundles
  repeat' first | with_reducible assumption | exact rfl | with_reducible apply Keeps.pickBundle

theorem Keeps.closeWindows {μ : Nat} {s t : State} (h : Keeps μ s t) (p : Nat) (links : List Nat) (hm : Sub
    0x200000000000000000000000000000000000020000 μ := by rfl) : Keeps μ s (State.closeWindows t p links) := by
  refine Keeps.start h hm fun s h => ?_
  unfold State.closeWindows
  try dsimp only
  repeat' first
    | with_reducible assumption | exact rfl | with_reducible apply Keeps.setPort
    | with_reducible apply Keeps.deferBundle | with_reducible refine Keeps.foldl ?_ (fun _ _ _ => ?_) | split
    | with_reducible refine Keeps.upd ?_

theorem Keeps.openWindows {μ : Nat} {s t : State} (h : Keeps μ s t) (p : Nat) (hm : Sub
    0x200000000000000000000000000000000000020000 μ := by rfl) : Keeps μ s (State.openWindows t p) := by
  refine Keeps.start h hm fun s h => ?_
  unfold State.openWindows
  try dsimp only
  repeat' first
    | with_reducible assumption | exact rfl | with_reducible apply Keeps.setPort
    | with_reducible apply Keeps.pickBundles | split | with_reducible refine Keeps.upd ?_

theorem Keeps.addDue {μ : Nat} {s t : State} (h : Keeps μ s t) (e : Elem) (target : Nat) (hm : Sub 0x20000 μ := by
    rfl) : Keeps μ s (State.addDue t e target) := by
  refine Keeps.start h hm fun s h => ?_
  unfold State.addDue
  try dsimp only
  repeat' first
    | with_reducible assumption | exact rfl | with_reducible apply Keeps.setPort | with_reducible refine Keeps.upd ?_

theorem Keeps.bundleDone {μ : Nat} {s t : State} (h : Keeps μ s t) (p : Nat) (r : RunBundle) (hm : Sub
    0x38000042000000000000044c02000000040000000000000000001400008000061c00000be000000000000481c03388c μ := by rfl) :
    Keeps μ s (State.bundleDone t p r) := by
  refine Keeps.start h hm fun s h => ?_
  unfold State.bundleDone
  try dsimp only
  repeat' first
    | with_reducible assumption | exact rfl | with_reducible apply Keeps.wrF | with_reducible apply Keeps.bump
    | with_reducible apply Keeps.setPort | with_reducible apply Keeps.setStrm | with_reducible apply Keeps.postBundle
    | with_reducible refine Keeps.foldl ?_ (fun _ _ _ => ?_) | with_reducible refine Keeps.fst (by assumption) ?_
    | split | with_reducible refine Keeps.upd ?_

theorem Keeps.bundleFailed {μ : Nat} {s t : State} (h : Keeps μ s t) (p : Nat) (r : RunBundle) (hm : Sub
    0x38000042000000000000044c02000000040000000000000000000800008000061c00000be000000000000481c02388c μ := by rfl) :
    Keeps μ s (State.bundleFailed t p r) := by
  refine Keeps.start h hm fun s h => ?_
  unfold State.bundleFailed
  repeat' first
    | with_reducible assumption | exact rfl | with_reducible apply Keeps.bump | with_reducible apply Keeps.setPort
    | with_reducible apply Keeps.postBundle | with_reducible refine Keeps.upd ?_

theorem Keeps.bundleWrite {μ : Nat} {s t : State} (h : Keeps μ s t) (p : Nat) (a : CciResult) (hm : Sub
    0x38000042000000000000044c02000000040000000000000000001f00008000061c00000be000000000000481c03388c μ := by rfl) :
    Keeps μ s (State.bundleWrite t p a) := by
  refine Keeps.start h hm fun s h => ?_
  unfold State.bundleWrite
  try dsimp only
  repeat' first
    | with_reducible assumption | exact rfl | with_reducible apply Keeps.bump | with_reducible apply Keeps.emit
    | with_reducible apply Keeps.setPort | with_reducible apply Keeps.pickBundles
    | with_reducible apply Keeps.bundleDone | with_reducible apply Keeps.bundleFailed
    | with_reducible refine Keeps.fst (by assumption) ?_ | split | with_reducible refine Keeps.upd ?_

theorem Keeps.execCciWriteEnd {μ : Nat} {s t : State} (h : Keeps μ s t) (port : Nat) (r : CciResult) (hm : Sub
    0x38000042000000000000044c02000000040000000000000000001f00008000061c00000be000000000000481c03388c μ := by rfl) :
    KeepsO μ s (Sys2Proof.Machine.execCciWriteEnd port r t) := by
  refine Keeps.startO h hm fun s h => ?_
  unfold Sys2Proof.Machine.execCciWriteEnd
  repeat' first
    | with_reducible assumption | exact rfl | with_reducible apply Keeps.bundleWrite | with_reducible apply Keeps.next
    | split

theorem Keeps.directDone {μ : Nat} {s t : State} (h : Keeps μ s t) (p : Nat) (d : Direct) (r : CciResult) (data : Nat)
    (hm : Sub 0x1c0000000000000000000000000000000800020000 μ := by rfl) : Keeps μ s (State.directDone t p d r data) :=
    by
  refine Keeps.start h hm fun s h => ?_
  unfold State.directDone
  try dsimp only
  repeat' first
    | with_reducible assumption | exact rfl | with_reducible apply Keeps.wr | with_reducible apply Keeps.setB
    | with_reducible apply Keeps.clrB | with_reducible apply Keeps.bump | with_reducible apply Keeps.emit
    | with_reducible apply Keeps.setPort | with_reducible refine Keeps.fst (by assumption) ?_ | split
    | with_reducible refine Keeps.upd ?_

theorem Keeps.directEnd {μ : Nat} {s t : State} (h : Keeps μ s t) (p : Nat) (r : CciResult) (data : Nat) (hm : Sub
    0x3c0000000000000000000000000000000800020000 μ := by rfl) : Keeps μ s (State.directEnd t p r data) := by
  refine Keeps.start h hm fun s h => ?_
  unfold State.directEnd
  try dsimp only
  repeat' first
    | with_reducible assumption | exact rfl | with_reducible apply Keeps.setPort
    | with_reducible apply Keeps.pickBundles | with_reducible apply Keeps.directDone
    | with_reducible refine Keeps.fst (by assumption) ?_ | split | with_reducible refine Keeps.upd ?_

theorem Keeps.cciCmd {μ : Nat} {s t : State} (h : Keeps μ s t) (p v : Nat) (hm : Sub
    0x80000000000000000000000000000000000020000 μ := by rfl) : Keeps μ s (State.cciCmd t p v) := by
  refine Keeps.start h hm fun s h => ?_
  unfold State.cciCmd
  repeat' first
    | with_reducible assumption | exact rfl | with_reducible apply Keeps.setB | with_reducible apply Keeps.setPort
    | split | with_reducible refine Keeps.upd ?_

theorem Keeps.execCciDirectWrite {μ : Nat} {s t : State} (h : Keeps μ s t) (p : Path) (port : Nat) (v : Word) (hm :
    Sub 0x80000000000000000000000000000000000020000 μ := by rfl) : KeepsO μ s (Sys2Proof.Machine.execCciDirectWrite p
    port v t) := by
  refine Keeps.startO h hm fun s h => ?_
  unfold Sys2Proof.Machine.execCciDirectWrite
  repeat' first
    | with_reducible assumption | exact rfl | with_reducible apply Keeps.cciCmd | with_reducible apply Keeps.next
    | split

theorem Keeps.execCciDirectRead {μ : Nat} {s t : State} (h : Keeps μ s t) (p : Path) (port : Nat) (v : Word) (hm : Sub
    0x80000000000000000000000000000000000020000 μ := by rfl) : KeepsO μ s (Sys2Proof.Machine.execCciDirectRead p port
    v t) := by
  refine Keeps.startO h hm fun s h => ?_
  unfold Sys2Proof.Machine.execCciDirectRead
  repeat' first
    | with_reducible assumption | exact rfl | with_reducible apply Keeps.cciCmd | with_reducible apply Keeps.next
    | split

theorem Keeps.execCciDirectStart {μ : Nat} {s t : State} (h : Keeps μ s t) (port : Nat) (hm : Sub
    0x1c0000000000000000000000000000000800020000 μ := by rfl) : KeepsO μ s (Sys2Proof.Machine.execCciDirectStart port
    t) := by
  refine Keeps.startO h hm fun s h => ?_
  unfold Sys2Proof.Machine.execCciDirectStart
  try dsimp only
  repeat' first
    | with_reducible assumption | exact rfl | with_reducible apply Keeps.setPort
    | with_reducible apply Keeps.directDone | with_reducible apply Keeps.next
    | with_reducible refine Keeps.fst (by assumption) ?_ | split | with_reducible refine Keeps.upd ?_

theorem Keeps.execCciDirectEnd {μ : Nat} {s t : State} (h : Keeps μ s t) (port : Nat) (r : CciResult) (data : Word)
    (hm : Sub 0x3c0000000000000000000000000000000800020000 μ := by rfl) : KeepsO μ s
    (Sys2Proof.Machine.execCciDirectEnd port r data t) := by
  refine Keeps.startO h hm fun s h => ?_
  unfold Sys2Proof.Machine.execCciDirectEnd
  repeat' first
    | with_reducible assumption | exact rfl | with_reducible apply Keeps.directEnd | with_reducible apply Keeps.next

theorem Keeps.execCciStretchTimeout {μ : Nat} {s t : State} (h : Keeps μ s t) (port : Nat) (hm : Sub
    0x38000042000000000000044c02000000040000000000000000001fc0008000061c00000be000000000000481c03388c μ := by rfl) :
    KeepsO μ s (Sys2Proof.Machine.execCciStretchTimeout port t) := by
  refine Keeps.startO h hm fun s h => ?_
  unfold Sys2Proof.Machine.execCciStretchTimeout
  repeat' first
    | with_reducible assumption | exact rfl | with_reducible apply Keeps.bundleWrite
    | with_reducible apply Keeps.directEnd | with_reducible apply Keeps.next | split

theorem Keeps.portPulse {μ : Nat} {s t : State} (h : Keeps μ s t) (p : Nat) (hm : Sub
    0x204000000000000000000000000000000000020000 μ := by rfl) : Keeps μ s (State.portPulse t p) := by
  refine Keeps.start h hm fun s h => ?_
  unfold State.portPulse
  try dsimp only
  repeat' first
    | with_reducible assumption | exact rfl | with_reducible apply Keeps.bump | with_reducible apply Keeps.setPort
    | with_reducible apply Keeps.closeWindows | split | with_reducible refine Keeps.upd ?_

theorem Keeps.portPulseEnd {μ : Nat} {s t : State} (h : Keeps μ s t) (p : Nat) (hm : Sub 0x20000 μ := by rfl) : Keeps
    μ s (State.portPulseEnd t p) := by
  refine Keeps.start h hm fun s h => ?_
  unfold State.portPulseEnd
  repeat' first
    | with_reducible assumption | exact rfl | with_reducible apply Keeps.setPort | with_reducible refine Keeps.upd ?_

theorem Keeps.closeFrame {μ : Nat} {s t : State} (h : Keeps μ s t) (e : Elem) (mode : StreamMode) (deadline epoch :
    Bool) (hm : Sub 0xf000000000000000000000000000000000000010000 μ := by rfl) : Keeps μ s (State.closeFrame t e mode
    deadline epoch) := by
  refine Keeps.start h hm fun s h => ?_
  unfold State.closeFrame
  try dsimp only
  repeat' first
    | with_reducible assumption | exact rfl | with_reducible apply Keeps.wrF | with_reducible apply Keeps.clrB
    | with_reducible apply Keeps.bump | with_reducible apply Keeps.setStrm
    | with_reducible refine Keeps.fst (by assumption) ?_ | split | with_reducible refine Keeps.upd ?_

theorem Keeps.beginPacket {μ : Nat} {s t : State} (h : Keeps μ s t) (p k : Nat) (first : Bool) (hm : Sub 0x20000 μ :=
    by rfl) : Keeps μ s (State.beginPacket t p k first) := by
  refine Keeps.start h hm fun s h => ?_
  unfold State.beginPacket
  repeat' first
    | with_reducible assumption | exact rfl | with_reducible apply Keeps.setPort | split
    | with_reducible refine Keeps.upd ?_

theorem Keeps.streamFs {μ : Nat} {s t : State} (h : Keeps μ s t) (e : Elem) (hm : Sub
    0xf001000000000000000000000000000000000010000 μ := by rfl) : Keeps μ s (State.streamFs t e).1 := by
  refine Keeps.start h hm fun s h => ?_
  unfold State.streamFs
  try dsimp only
  repeat' first
    | with_reducible assumption | exact rfl | with_reducible apply Keeps.wr | with_reducible apply Keeps.bump
    | with_reducible apply Keeps.setStrm | with_reducible apply Keeps.closeFrame
    | with_reducible refine Keeps.fst (by assumption) ?_ | split | with_reducible refine Keeps.upd ?_

theorem Keeps.frameStart {μ : Nat} {s t : State} (h : Keeps μ s t) (port link vc : Nat) (corrected first : Bool) (hm :
    Sub 0xf201060000000000000000000000000000000030000 μ := by rfl) : Keeps μ s (State.frameStart t port link vc
    corrected first) := by
  refine Keeps.start h hm fun s h => ?_
  unfold State.frameStart
  try dsimp only
  repeat' first
    | with_reducible assumption | exact rfl | with_reducible apply Keeps.bump | with_reducible apply Keeps.setPort
    | with_reducible apply Keeps.setLink | with_reducible apply Keeps.closeWindows
    | with_reducible apply Keeps.beginPacket | with_reducible apply Keeps.streamFs
    | with_reducible refine Keeps.foldl ?_ (fun _ _ _ => ?_)
    | with_reducible refine Keeps.foldl_fst ?_ (fun _ _ _ => ?_) | with_reducible refine Keeps.fst (by assumption) ?_
    | split | with_reducible refine Keeps.upd ?_

theorem Keeps.frameEnd {μ : Nat} {s t : State} (h : Keeps μ s t) (port link vc : Nat) (corrected first : Bool) (hm :
    Sub 0xf000040000000000000000000000000000000030000 μ := by rfl) : Keeps μ s (State.frameEnd t port link vc
    corrected first) := by
  refine Keeps.start h hm fun s h => ?_
  unfold State.frameEnd
  try dsimp only
  repeat' first
    | with_reducible assumption | exact rfl | with_reducible apply Keeps.bump | with_reducible apply Keeps.closeFrame
    | with_reducible apply Keeps.beginPacket | with_reducible refine Keeps.foldl ?_ (fun _ _ _ => ?_) | split

theorem Keeps.markMissing {μ : Nat} {s t : State} (h : Keeps μ s t) (i beat : Nat) (hm : Sub
    0x8000000000000000000000000000000000000010000 μ := by rfl) : Keeps μ s (State.markMissing t i beat) := by
  refine Keeps.start h hm fun s h => ?_
  unfold State.markMissing
  try dsimp only
  repeat' first
    | with_reducible assumption | exact rfl | with_reducible apply Keeps.bump | with_reducible apply Keeps.setStrm
    | with_reducible refine Keeps.fst (by assumption) ?_ | split | with_reducible refine Keeps.upd ?_

theorem Keeps.execLinkLost {μ : Nat} {s t : State} (h : Keeps μ s t) (port link : Nat) (hm : Sub
    0x8000040000000000000044c0200000004000000000000000000000002000000000000000000000000000081c000080 μ := by rfl) :
    KeepsO μ s (Sys2Proof.Machine.execLinkLost port link t) := by
  refine Keeps.startO h hm fun s h => ?_
  unfold Sys2Proof.Machine.execLinkLost
  repeat' first
    | with_reducible assumption | exact rfl | with_reducible apply Keeps.setB | with_reducible apply Keeps.vector0
    | with_reducible apply Keeps.alert | with_reducible apply Keeps.setLink | with_reducible apply Keeps.next | split

theorem Keeps.execLaneError {μ : Nat} {s t : State} (h : Keeps μ s t) (l : LaneEvent) (hm : Sub
    0x8000000000000000000000000000000000000000 μ := by rfl) : KeepsO μ s (Sys2Proof.Machine.execLaneError l t) := by
  refine Keeps.startO h hm fun s h => ?_
  unfold Sys2Proof.Machine.execLaneError
  repeat' first
    | with_reducible assumption | exact rfl | with_reducible apply Keeps.bump | with_reducible apply Keeps.next
    | with_reducible refine Keeps.fst (by assumption) ?_ | split | with_reducible refine Keeps.upd ?_

theorem Keeps.mapOpen {μ : Nat} {s t : State} (h : Keeps μ s t) (i : Nat) (f : Frame → Frame) (hm : Sub 0x10000 μ :=
    by rfl) : Keeps μ s (State.mapOpen t i f) := by
  refine Keeps.start h hm fun s h => ?_
  unfold State.mapOpen
  try dsimp only
  repeat' first
    | with_reducible assumption | exact rfl | with_reducible apply Keeps.setStrm | split
    | with_reducible refine Keeps.upd ?_

theorem Keeps.missLine {μ : Nat} {s t : State} (h : Keeps μ s t) (e : Elem) (hm : Sub 0x10000 μ := by rfl) : Keeps μ s
    (State.missLine t e) := by
  refine Keeps.start h hm fun s h => ?_
  unfold State.missLine
  repeat' first
    | with_reducible assumption | exact rfl | with_reducible apply Keeps.mapOpen | split
    | with_reducible refine Keeps.upd ?_

theorem Keeps.latchStamp {μ : Nat} {s t : State} (h : Keeps μ s t) (i line beat : Nat) (hm : Sub
    0x7800000000000000000000000000000000000000000000000000000000000000 μ := by rfl) : Keeps μ s (State.latchStamp t i
    line beat) := by
  refine Keeps.start h hm fun s h => ?_
  unfold State.latchStamp
  repeat' first | with_reducible assumption | exact rfl | with_reducible apply Keeps.wr | split

theorem Keeps.takeLine {μ : Nat} {s t : State} (h : Keeps μ s t) (e : Elem) (bytes : List Byte) (hm : Sub
    0x7800000000000000000000003800000000000000000000000000000000038000 μ := by rfl) : Keeps μ s (State.takeLine t e
    bytes) := by
  refine Keeps.start h hm fun s h => ?_
  unfold State.takeLine
  try dsimp only
  repeat' first
    | with_reducible assumption | exact rfl | with_reducible apply Keeps.bump | with_reducible apply Keeps.setPort
    | with_reducible apply Keeps.mapOpen | with_reducible apply Keeps.missLine | with_reducible apply Keeps.latchStamp
    | with_reducible refine Keeps.fst (by assumption) ?_ | split | with_reducible refine Keeps.upd ?_

theorem Keeps.longPacket {μ : Nat} {s t : State} (h : Keeps μ s t) (k : LongPacket) (hm : Sub
    0x7800000000000000000000003fc0000000000000000000000000000000038000 μ := by rfl) : Keeps μ s (State.longPacket t k)
    := by
  refine Keeps.start h hm fun s h => ?_
  unfold State.longPacket
  try dsimp only
  repeat' first
    | with_reducible assumption | exact rfl | with_reducible apply Keeps.bump | with_reducible apply Keeps.setPort
    | with_reducible apply Keeps.beginPacket | with_reducible apply Keeps.missLine
    | with_reducible apply Keeps.takeLine | with_reducible refine Keeps.fst (by assumption) ?_ | split
    | with_reducible refine Keeps.upd ?_

theorem Keeps.captureDeadline {μ : Nat} {s t : State} (h : Keeps μ s t) (hm : Sub
    0xf000000000000000000000000000000000000010000 μ := by rfl) : Keeps μ s (State.captureDeadline t) := by
  refine Keeps.start h hm fun s h => ?_
  unfold State.captureDeadline
  repeat' first
    | with_reducible assumption | exact rfl | with_reducible apply Keeps.closeFrame
    | with_reducible refine Keeps.foldl ?_ (fun _ _ _ => ?_) | split

theorem Keeps.portBarline {μ : Nat} {s t : State} (h : Keeps μ s t) (idle : Bool) (p : Nat) (hm : Sub 0x20000 μ := by
    rfl) : Keeps μ s (State.portBarline t idle p) := by
  refine Keeps.start h hm fun s h => ?_
  unfold State.portBarline
  try dsimp only
  repeat' first
    | with_reducible assumption | exact rfl | with_reducible apply Keeps.setPort
    | with_reducible refine Keeps.foldl ?_ (fun _ _ _ => ?_) | split | with_reducible refine Keeps.upd ?_

theorem Keeps.resetPort {μ : Nat} {s t : State} (h : Keeps μ s t) (p : Nat) (hm : Sub
    0x38000042000000000000044c0200000004000000000000000000f9c0028000061c00000be000000000000481c03388c μ := by rfl) :
    Keeps μ s (State.resetPort t p) := by
  refine Keeps.start h hm fun s h => ?_
  unfold State.resetPort
  try dsimp only
  repeat' first
    | with_reducible assumption | exact rfl | with_reducible apply Keeps.setPort | with_reducible apply Keeps.setLink
    | with_reducible apply Keeps.bundleFailed | with_reducible apply Keeps.directDone
    | with_reducible apply Keeps.closeFrame | with_reducible refine Keeps.foldl ?_ (fun _ _ _ => ?_)
    | with_reducible refine Keeps.fst (by assumption) ?_ | split | with_reducible refine Keeps.upd ?_

theorem Keeps.setRow {μ : Nat} {s t : State} (h : Keeps μ s t) (x : Source) (i : RowInfo) (hm : Sub 0x80000 μ := by
    rfl) : Keeps μ s (State.setRow t x i) := by
  refine Keeps.start h hm fun s h => ?_
  unfold State.setRow
  repeat' first | with_reducible assumption | exact rfl | with_reducible refine Keeps.upd ?_

theorem Keeps.placeSeg {μ : Nat} {s t : State} (h : Keeps μ s t) (x : Source) (row member col : Nat) (bytes : List
    Byte) (st : Stamp) (gen : Nat) (hm : Sub 0x8008c μ := by rfl) : Keeps μ s (State.placeSeg t x row member col bytes
    st gen) := by
  refine Keeps.start h hm fun s h => ?_
  unfold State.placeSeg
  try dsimp only
  repeat' first
    | with_reducible assumption | exact rfl | with_reducible apply Keeps.writePhys | with_reducible apply Keeps.charge
    | with_reducible apply Keeps.setRow | split | with_reducible refine Keeps.upd ?_

theorem Keeps.placeAt {μ : Nat} {s t : State} (h : Keeps μ s t) (p : Source × Nat × Nat × Nat × Nat) (beat line : Nat)
    (bytes : List Byte) (st : Stamp) (gen : Nat) (hm : Sub 0x8008c μ := by rfl) : Keeps μ s (State.placeAt t p beat
    line bytes st gen) := by
  refine Keeps.start h hm fun s h => ?_
  unfold State.placeAt
  try dsimp only
  repeat' first
    | with_reducible assumption | exact rfl | with_reducible apply Keeps.placeSeg
    | with_reducible refine Keeps.fst (by assumption) ?_ | split | with_reducible refine Keeps.upd ?_

theorem Keeps.placeLine {μ : Nat} {s t : State} (h : Keeps μ s t) (i beat line : Nat) (bytes : List Byte) (st : Stamp)
    (gen : Nat) (hm : Sub 0x8008c μ := by rfl) : Keeps μ s (State.placeLine t i beat line bytes st gen) := by
  refine Keeps.start h hm fun s h => ?_
  unfold State.placeLine
  repeat' first
    | with_reducible assumption | exact rfl | with_reducible apply Keeps.placeAt
    | with_reducible refine Keeps.foldl ?_ (fun _ _ _ => ?_)

theorem Keeps.markAt {μ : Nat} {s t : State} (h : Keeps μ s t) (p : Source × Nat × Nat × Nat × Nat) (beat : Nat) (ovr
    epoch : Bool) (hm : Sub 0x80000 μ := by rfl) : Keeps μ s (State.markAt t p beat ovr epoch) := by
  refine Keeps.start h hm fun s h => ?_
  unfold State.markAt
  try dsimp only
  repeat' first
    | with_reducible assumption | exact rfl | with_reducible apply Keeps.setRow
    | with_reducible refine Keeps.foldl ?_ (fun _ _ _ => ?_)
    | with_reducible refine Keeps.foldl_fst ?_ (fun _ _ _ => ?_) | with_reducible refine Keeps.fst (by assumption) ?_
    | split | with_reducible refine Keeps.upd ?_

theorem Keeps.markRows {μ : Nat} {s t : State} (h : Keeps μ s t) (i beat : Nat) (ovr epoch : Bool) (hm : Sub 0x80000 μ
    := by rfl) : Keeps μ s (State.markRows t i beat ovr epoch) := by
  refine Keeps.start h hm fun s h => ?_
  unfold State.markRows
  repeat' first
    | with_reducible assumption | exact rfl | with_reducible apply Keeps.markAt
    | with_reducible refine Keeps.foldl ?_ (fun _ _ _ => ?_)

theorem Keeps.clearRows {μ : Nat} {s t : State} (h : Keeps μ s t) (ring : Nat) (p : RowInfo → Bool) (hm : Sub 0x80000
    μ := by rfl) : Keeps μ s (State.clearRows t ring p) := by
  refine Keeps.start h hm fun s h => ?_
  unfold State.clearRows
  try dsimp only
  repeat' first
    | with_reducible assumption | exact rfl | with_reducible refine Keeps.fst (by assumption) ?_ | split
    | with_reducible refine Keeps.upd ?_

theorem Keeps.dropRows {μ : Nat} {s t : State} (h : Keeps μ s t) (hm : Sub 0x80000 μ := by rfl) : Keeps μ s
    (State.dropRows t) := by
  refine Keeps.start h hm fun s h => ?_
  unfold State.dropRows
  try dsimp only
  repeat' first
    | with_reducible assumption | exact rfl | with_reducible apply Keeps.clearRows
    | with_reducible refine Keeps.foldl ?_ (fun _ _ _ => ?_) | with_reducible refine Keeps.upd ?_

theorem Keeps.advanceRows {μ : Nat} {s t : State} (h : Keeps μ s t) (idle : Bool) (hm : Sub
    0x10000000000000000000000000000000000000000000080000 μ := by rfl) : Keeps μ s (State.advanceRows t idle).1 := by
  refine Keeps.start h hm fun s h => ?_
  unfold State.advanceRows
  try dsimp only
  repeat' first
    | with_reducible assumption | exact rfl | with_reducible apply Keeps.wrF
    | with_reducible refine Keeps.foldl ?_ (fun _ _ _ => ?_)
    | with_reducible refine Keeps.foldl_fst ?_ (fun _ _ _ => ?_) | split | with_reducible refine Keeps.upd ?_

theorem Keeps.judgeGroup {μ : Nat} {s t : State} (h : Keeps μ s t) (x : Source) (g : Elem) (beat : Nat) (hm : Sub
    0x710000000000000000000000000000000000000000000080000 μ := by rfl) : Keeps μ s (State.judgeGroup t x g beat) := by
  refine Keeps.start h hm fun s h => ?_
  unfold State.judgeGroup
  try dsimp only
  repeat' first
    | with_reducible assumption | exact rfl | with_reducible apply Keeps.wrF | with_reducible apply Keeps.setB
    | with_reducible apply Keeps.addF | with_reducible apply Keeps.bump
    | with_reducible refine Keeps.fst (by assumption) ?_ | split | with_reducible refine Keeps.upd ?_

theorem Keeps.setProduct {μ : Nat} {s t : State} (h : Keeps μ s t) (p : Product) (hm : Sub 0x80000 μ := by rfl) :
    Keeps μ s (State.setProduct t p) := by
  refine Keeps.start h hm fun s h => ?_
  unfold State.setProduct
  repeat' first | with_reducible assumption | exact rfl | with_reducible refine Keeps.upd ?_

theorem Keeps.cutWindow {μ : Nat} {s t : State} (h : Keeps μ s t) (w : Elem) (beat : Nat) (uncut : Bool) (hm : Sub
    0x171000000000000000000000000000000000000000000008008c μ := by rfl) : Keeps μ s (State.cutWindow t w beat uncut)
    := by
  refine Keeps.start h hm fun s h => ?_
  unfold State.cutWindow
  try dsimp only
  repeat' first
    | with_reducible assumption | exact rfl | with_reducible apply Keeps.writePhys | with_reducible apply Keeps.bump
    | with_reducible apply Keeps.charge | with_reducible apply Keeps.judgeGroup
    | with_reducible apply Keeps.setProduct | with_reducible refine Keeps.fst (by assumption) ?_ | split
    | with_reducible refine Keeps.upd ?_

theorem Keeps.countOvr {μ : Nat} {s t : State} (h : Keeps μ s t) (v n : Nat) (hm : Sub
    0x800000000000000000000000000000000000000000000000000000000000000060000000000000000000000000000 μ := by rfl) :
    Keeps μ s (State.countOvr t v n) := by
  refine Keeps.start h hm fun s h => ?_
  unfold State.countOvr
  try dsimp only
  repeat' first
    | with_reducible assumption | exact rfl | with_reducible apply Keeps.addF | with_reducible apply Keeps.addWrap
    | split

theorem Keeps.finishProducts {μ : Nat} {s t : State} (h : Keeps μ s t) (beat : Nat) (hm : Sub
    0x171000000000000000000000000000000000000000000008008c μ := by rfl) : Keeps μ s (State.finishProducts t beat).1 :=
    by
  refine Keeps.start h hm fun s h => ?_
  unfold State.finishProducts
  try dsimp only
  repeat' first
    | with_reducible assumption | exact rfl | with_reducible apply Keeps.judgeGroup
    | with_reducible apply Keeps.cutWindow | with_reducible refine Keeps.foldl ?_ (fun _ _ _ => ?_)
    | with_reducible refine Keeps.foldl_fst ?_ (fun _ _ _ => ?_) | with_reducible refine Keeps.fst (by assumption) ?_
    | split | with_reducible refine Keeps.upd ?_

theorem Keeps.clearBeat {μ : Nat} {s t : State} (h : Keeps μ s t) (beat : Nat) (hm : Sub 0x80000 μ := by rfl) : Keeps
    μ s (State.clearBeat t beat) := by
  refine Keeps.start h hm fun s h => ?_
  unfold State.clearBeat
  try dsimp only
  repeat' first
    | with_reducible assumption | exact rfl | with_reducible apply Keeps.clearRows
    | with_reducible refine Keeps.foldl ?_ (fun _ _ _ => ?_)
    | with_reducible refine Keeps.foldl_fst ?_ (fun _ _ _ => ?_) | with_reducible refine Keeps.fst (by assumption) ?_
    | split | with_reducible refine Keeps.upd ?_

theorem Keeps.execLongPacketReceive {μ : Nat} {s t : State} (h : Keeps μ s t) (k : LongPacket) (hm : Sub
    0x7800000000000000000000003fc00000000000000000000000000000000b808c μ := by rfl) : KeepsO μ s
    (Sys2Proof.Machine.execLongPacketReceive k t) := by
  refine Keeps.startO h hm fun s h => ?_
  unfold Sys2Proof.Machine.execLongPacketReceive
  try dsimp only
  repeat' first
    | with_reducible assumption | exact rfl | with_reducible apply Keeps.setPort
    | with_reducible apply Keeps.longPacket | with_reducible apply Keeps.placeLine | with_reducible apply Keeps.next
    | with_reducible refine Keeps.foldl ?_ (fun _ _ _ => ?_) | split | with_reducible refine Keeps.upd ?_

theorem Keeps.setStat {μ : Nat} {s t : State} (h : Keeps μ s t) (a : StatAcc) (hm : Sub 0x100000 μ := by rfl) : Keeps
    μ s (State.setStat t a) := by
  refine Keeps.start h hm fun s h => ?_
  unfold State.setStat
  repeat' first | with_reducible assumption | exact rfl | with_reducible refine Keeps.upd ?_

theorem Keeps.dropStat {μ : Nat} {s t : State} (h : Keeps μ s t) (i beat y : Nat) (hm : Sub 0x100000 μ := by rfl) :
    Keeps μ s (State.dropStat t i beat y) := by
  refine Keeps.start h hm fun s h => ?_
  unfold State.dropStat
  repeat' first
    | with_reducible assumption | exact rfl | with_reducible apply Keeps.setStat
    | with_reducible refine Keeps.fst (by assumption) ?_ | split | with_reducible refine Keeps.upd ?_

theorem Keeps.bindStats {μ : Nat} {s t : State} (h : Keeps μ s t) (beat : Nat) (hm : Sub 0x100000 μ := by rfl) : Keeps
    μ s (State.bindStats t beat) := by
  refine Keeps.start h hm fun s h => ?_
  unfold State.bindStats
  repeat' first
    | with_reducible assumption | exact rfl | with_reducible apply Keeps.setStat
    | with_reducible refine Keeps.foldl ?_ (fun _ _ _ => ?_)

theorem Keeps.statLine {μ : Nat} {s t : State} (h : Keeps μ s t) (e : Elem) (beat y : Nat) (st : Stamp) (l : List Nat)
    (hm : Sub 0x100000 μ := by rfl) : Keeps μ s (State.statLine t e beat y st l) := by
  refine Keeps.start h hm fun s h => ?_
  unfold State.statLine
  repeat' first
    | with_reducible assumption | exact rfl | with_reducible apply Keeps.setStat
    | with_reducible refine Keeps.fst (by assumption) ?_ | split | with_reducible refine Keeps.upd ?_

theorem Keeps.completeStat {μ : Nat} {s t : State} (h : Keeps μ s t) (a : StatAcc) (e r : Elem) (ovr : Bool) (hm : Sub
    0x3c00000000000000000000000000000000000002000700000 μ := by rfl) : Keeps μ s (State.completeStat t a e r ovr) :=
    by
  refine Keeps.start h hm fun s h => ?_
  unfold State.completeStat
  extract_lets _ _ _ _ _ _ _ _ _ _ _ _ _ _ _ s1 _ _ _ s2 s3 s4 s5 s6
  have k1 : Keeps 0x3c00000000000000000000000000000000000002000700000 s s1 := Keeps.setStat (h.upd) _
  have k2 : Keeps 0x3c00000000000000000000000000000000000002000700000 s s2 := (k1.wrF _ _ _ _ _).wrF _ _ _ _ _
  have k3 : Keeps 0x3c00000000000000000000000000000000000002000700000 s s3 := by
    unfold s3
    split
    · exact k2.setB _ _ _
    · exact k2
  have k4 : Keeps 0x3c00000000000000000000000000000000000002000700000 s s4 := by
    unfold s4
    split
    · exact k3
    · exact k3.setB _ _ _
  have k5 : Keeps 0x3c00000000000000000000000000000000000002000700000 s s5 := Keeps.bump (Keeps.wr (Keeps.wr k4 _ _ _) _ _ _) _ _
  have k6 : Keeps 0x3c00000000000000000000000000000000000002000700000 s s6 := by
    unfold s6
    split
    · exact k5.upd
    · exact k5
  exact k6.upd

theorem Keeps.execStatsRecordCompute {μ : Nat} {s t : State} (h : Keeps μ s t) (stream : Nat) (hm : Sub
    0x3c00000000000000000000000000000000000002000700000 μ := by rfl) : KeepsO μ s
    (Sys2Proof.Machine.execStatsRecordCompute stream t) := by
  refine Keeps.startO h hm fun s h => ?_
  unfold Sys2Proof.Machine.execStatsRecordCompute
  repeat' first
    | with_reducible assumption | exact rfl | with_reducible apply Keeps.completeStat
    | with_reducible apply Keeps.next | with_reducible refine Keeps.fst (by assumption) ?_ | split
    | with_reducible refine Keeps.upd ?_

theorem Keeps.finishStats {μ : Nat} {s t : State} (h : Keeps μ s t) (beat : Nat) (hm : Sub
    0x3c00000000000000000000000000000000000002000700000 μ := by rfl) : Keeps μ s (State.finishStats t beat) := by
  refine Keeps.start h hm fun s h => ?_
  unfold State.finishStats
  try dsimp only
  repeat' first
    | with_reducible assumption | exact rfl | with_reducible apply Keeps.completeStat
    | with_reducible refine Keeps.foldl ?_ (fun _ _ _ => ?_) | with_reducible refine Keeps.fst (by assumption) ?_
    | split | with_reducible refine Keeps.upd ?_

theorem Keeps.setPipe {μ : Nat} {s t : State} (h : Keeps μ s t) (p : Nat) (x : Pipe) (hm : Sub 0x40000 μ := by rfl) :
    Keeps μ s (State.setPipe t p x) := by
  refine Keeps.start h hm fun s h => ?_
  unfold State.setPipe
  repeat' first | with_reducible assumption | exact rfl | with_reducible refine Keeps.upd ?_

theorem Keeps.cutFrame {μ : Nat} {s t : State} (h : Keeps μ s t) (i beat : Nat) (hm : Sub 0x90000 μ := by rfl) : Keeps
    μ s (State.cutFrame t i beat) := by
  refine Keeps.start h hm fun s h => ?_
  unfold State.cutFrame
  try dsimp only
  repeat' first
    | with_reducible assumption | exact rfl | with_reducible apply Keeps.setStrm | with_reducible apply Keeps.markRows
    | split | with_reducible refine Keeps.upd ?_

theorem Keeps.feedLine {μ : Nat} {s t : State} (h : Keeps μ s t) (e : Elem) (out beat y : Nat) (pix : List (List Int))
    (mrg : List Nat) (st : Stamp) (enc : Nat) (hm : Sub 0x40000 μ := by rfl) : Keeps μ s (State.feedLine t e out beat
    y pix mrg st enc) := by
  refine Keeps.start h hm fun s h => ?_
  unfold State.feedLine
  try dsimp only
  repeat' first
    | with_reducible assumption | exact rfl | with_reducible apply Keeps.setPipe | split
    | with_reducible refine Keeps.upd ?_

theorem Keeps.feedRaw {μ : Nat} {s t : State} (h : Keeps μ s t) (e : Elem) (out beat y : Nat) (m : List Nat) (st :
    Stamp) (enc : Nat) (hm : Sub 0x40000 μ := by rfl) : Keeps μ s (State.feedRaw t e out beat y m st enc) := by
  refine Keeps.start h hm fun s h => ?_
  unfold State.feedRaw
  try dsimp only
  repeat' first | with_reducible assumption | exact rfl | with_reducible apply Keeps.feedLine | split

theorem Keeps.dropMerge {μ : Nat} {s t : State} (h : Keeps μ s t) (e : Elem) (l : MergeLine) (hm : Sub
    0x128000000000000000000000000000000000000150000 μ := by rfl) : Keeps μ s (State.dropMerge t e l) := by
  refine Keeps.start h hm fun s h => ?_
  unfold State.dropMerge
  try dsimp only
  repeat' first
    | with_reducible assumption | exact rfl | with_reducible apply Keeps.setB | with_reducible apply Keeps.bump
    | with_reducible apply Keeps.markMissing | with_reducible apply Keeps.dropStat
    | with_reducible apply Keeps.setPipe | with_reducible refine Keeps.upd ?_

theorem Keeps.mergeTake {μ : Nat} {s t : State} (h : Keeps μ s t) (e : Elem) (l : MergeLine) (hm : Sub
    0x128000000000000000000000000000000000000150000 μ := by rfl) : Keeps μ s (State.mergeTake t e l) := by
  refine Keeps.start h hm fun s h => ?_
  unfold State.mergeTake
  try dsimp only
  repeat' first
    | with_reducible assumption | exact rfl | with_reducible apply Keeps.setPipe | with_reducible apply Keeps.feedRaw
    | with_reducible apply Keeps.dropMerge | with_reducible refine Keeps.fst (by assumption) ?_ | split
    | with_reducible refine Keeps.upd ?_

theorem Keeps.settleMerge {μ : Nat} {s t : State} (h : Keeps μ s t) (e : Elem) (beat : Nat) (hm : Sub
    0x128000000000000000000000000000000000000150000 μ := by rfl) : Keeps μ s (State.settleMerge t e beat) := by
  refine Keeps.start h hm fun s h => ?_
  unfold State.settleMerge
  try dsimp only
  repeat' first
    | with_reducible assumption | exact rfl | with_reducible apply Keeps.markMissing
    | with_reducible apply Keeps.dropMerge | with_reducible refine Keeps.foldl ?_ (fun _ _ _ => ?_)
    | with_reducible refine Keeps.fst (by assumption) ?_ | split | with_reducible refine Keeps.upd ?_

theorem Keeps.settleMerges {μ : Nat} {s t : State} (h : Keeps μ s t) (hm : Sub
    0x128000000000000000000000000000000000000150000 μ := by rfl) : Keeps μ s (State.settleMerges t) := by
  refine Keeps.start h hm fun s h => ?_
  unfold State.settleMerges
  repeat' first
    | with_reducible assumption | exact rfl | with_reducible apply Keeps.settleMerge
    | with_reducible refine Keeps.foldl ?_ (fun _ _ _ => ?_)

theorem Keeps.execFrameStart {μ : Nat} {s t : State} (h : Keeps μ s t) (port link vc : Nat) (p : ShortHead) (hm :
    Sub 0x12f201060000000000000000000000000000000170000 μ := by rfl) : KeepsO μ s (Sys2Proof.Machine.execFrameStart
    port link vc p t) := by
  refine Keeps.startO h hm fun s h => ?_
  unfold Sys2Proof.Machine.execFrameStart
  repeat' first
    | with_reducible assumption | exact rfl | with_reducible apply Keeps.frameStart
    | with_reducible apply Keeps.settleMerges | with_reducible apply Keeps.next

theorem Keeps.execFrameEnd {μ : Nat} {s t : State} (h : Keeps μ s t) (port link vc : Nat) (p : ShortHead) (hm : Sub
    0x12f000040000000000000000000000000000000170000 μ := by rfl) : KeepsO μ s (Sys2Proof.Machine.execFrameEnd port
    link vc p t) := by
  refine Keeps.startO h hm fun s h => ?_
  unfold Sys2Proof.Machine.execFrameEnd
  repeat' first
    | with_reducible assumption | exact rfl | with_reducible apply Keeps.frameEnd
    | with_reducible apply Keeps.settleMerges | with_reducible apply Keeps.next

theorem Keeps.processLine {μ : Nat} {s t : State} (h : Keeps μ s t) (e x : Elem) (l : BufLine) (hm : Sub
    0x128000000000000000000000000000000000000150000 μ := by rfl) : Keeps μ s (State.processLine t e x l) := by
  refine Keeps.start h hm fun s h => ?_
  unfold State.processLine
  try dsimp only
  repeat' first
    | with_reducible assumption | exact rfl | with_reducible apply Keeps.statLine | with_reducible apply Keeps.setPipe
    | with_reducible apply Keeps.feedLine | with_reducible apply Keeps.feedRaw | with_reducible apply Keeps.mergeTake
    | split | with_reducible refine Keeps.upd ?_

theorem Keeps.execPipeLineTake {μ : Nat} {s t : State} (h : Keeps μ s t) (pipe : Nat) (hm : Sub
    0x1a8000000000000000000000000000000000000170000 μ := by rfl) : KeepsO μ s (Sys2Proof.Machine.execPipeLineTake pipe
    t) := by
  refine Keeps.startO h hm fun s h => ?_
  unfold Sys2Proof.Machine.execPipeLineTake
  try dsimp only
  repeat' first
    | with_reducible assumption | exact rfl | with_reducible apply Keeps.setB | with_reducible apply Keeps.bump
    | with_reducible apply Keeps.setPort | with_reducible apply Keeps.markMissing | with_reducible apply Keeps.setPipe
    | with_reducible apply Keeps.settleMerges | with_reducible apply Keeps.processLine
    | with_reducible apply Keeps.next | with_reducible refine Keeps.fst (by assumption) ?_ | split
    | with_reducible refine Keeps.upd ?_

theorem Keeps.probe {μ : Nat} {s t : State} (h : Keeps μ s t) (e : Elem) (f : PipeFrame) (y : Nat) (pix : List PixOut)
    (hm : Sub 0x1fe000000000000000000000000000000000000000000000 μ := by rfl) : Keeps μ s (State.probe t e f y pix) :=
    by
  refine Keeps.start h hm fun s h => ?_
  unfold State.probe
  try dsimp only
  repeat' first
    | with_reducible assumption | exact rfl | with_reducible apply Keeps.wr
    | with_reducible refine Keeps.foldl ?_ (fun _ _ _ => ?_) | with_reducible refine Keeps.fst (by assumption) ?_
    | split | with_reducible refine Keeps.upd ?_

theorem Keeps.sendLine {μ : Nat} {s t : State} (h : Keeps μ s t) (bpp stream line beat : Nat) (st : Stamp) (enc gen
    flags : Nat) (a0 : Nat) (a1 : Nat) (a2 : List Byte) (hm : Sub 0x800000080 μ := by rfl) : Keeps μ s (State.sendLine
    t bpp stream line beat st enc gen flags a0 a1 a2) := by
  refine Keeps.start h hm ?_
  clear h hm s
  intro s h
  induction a0 generalizing t a1 a2 with
  | zero => exact h
  | succ n ih =>
    unfold State.sendLine
    dsimp only
    repeat' first | with_reducible assumption | exact rfl | exact rfl | with_reducible assumption | with_reducible apply ih | with_reducible apply Keeps.tieSend | with_reducible apply Keeps.charge | split | with_reducible refine Keeps.upd ?_

theorem Keeps.tieLine {μ : Nat} {s t : State} (h : Keeps μ s t) (i line beat bpp : Nat) (st : Stamp) (enc gen flags :
    Nat) (bytes : List Byte) (hm : Sub 0x800000080 μ := by rfl) : Keeps μ s (State.tieLine t i line beat bpp st enc
    gen flags bytes) := by
  refine Keeps.start h hm fun s h => ?_
  unfold State.tieLine
  try dsimp only
  repeat' first
    | with_reducible assumption | exact rfl | with_reducible apply Keeps.sendLine
    | with_reducible refine Keeps.fst (by assumption) ?_ | split | with_reducible refine Keeps.upd ?_

theorem Keeps.execPipeLineEmit {μ : Nat} {s t : State} (h : Keeps μ s t) (stream : Nat) (hm : Sub
    0x1fe6000000000000000000000000000000000008000c008c μ := by rfl) : KeepsO μ s (Sys2Proof.Machine.execPipeLineEmit
    stream t) := by
  refine Keeps.startO h hm fun s h => ?_
  unfold Sys2Proof.Machine.execPipeLineEmit
  try dsimp only
  repeat' first
    | with_reducible assumption | exact rfl | with_reducible apply Keeps.addF | with_reducible apply Keeps.placeLine
    | with_reducible apply Keeps.setPipe | with_reducible apply Keeps.probe | with_reducible apply Keeps.tieLine
    | with_reducible apply Keeps.next | with_reducible refine Keeps.fst (by assumption) ?_ | split
    | with_reducible refine Keeps.upd ?_

theorem Keeps.pipeBarline {μ : Nat} {s t : State} (h : Keeps μ s t) (beat last : Nat) (p : Nat) (hm : Sub
    0x40000000000000000000000000000000000000040000 μ := by rfl) : Keeps μ s (State.pipeBarline t beat last p) := by
  refine Keeps.start h hm fun s h => ?_
  unfold State.pipeBarline
  try dsimp only
  repeat' first
    | with_reducible assumption | exact rfl | with_reducible apply Keeps.wr | with_reducible apply Keeps.setPipe
    | with_reducible refine Keeps.upd ?_

theorem Keeps.resetPipe {μ : Nat} {s t : State} (h : Keeps μ s t) (p : Nat) (hm : Sub
    0xf0000000000000000000000000000000000000d0000 μ := by rfl) : Keeps μ s (State.resetPipe t p) := by
  refine Keeps.start h hm fun s h => ?_
  unfold State.resetPipe
  try dsimp only
  repeat' first
    | with_reducible assumption | exact rfl | with_reducible apply Keeps.closeFrame
    | with_reducible apply Keeps.markMissing | with_reducible apply Keeps.setPipe
    | with_reducible apply Keeps.cutFrame | with_reducible refine Keeps.foldl ?_ (fun _ _ _ => ?_)
    | with_reducible refine Keeps.foldl_fst ?_ (fun _ _ _ => ?_) | with_reducible refine Keeps.fst (by assumption) ?_
    | split | with_reducible refine Keeps.upd ?_

theorem Keeps.execWindowCut {μ : Nat} {s t : State} (h : Keeps μ s t) (window : Nat) (hm : Sub
    0x171000000000000000000000000000000000000000000008008c μ := by rfl) : KeepsO μ s (Sys2Proof.Machine.execWindowCut
    window t) := by
  refine Keeps.startO h hm fun s h => ?_
  unfold Sys2Proof.Machine.execWindowCut
  repeat' first
    | with_reducible assumption | exact rfl | with_reducible apply Keeps.cutWindow | with_reducible apply Keeps.next
    | with_reducible apply Keeps.fault | with_reducible refine Keeps.fst (by assumption) ?_ | split
    | with_reducible refine Keeps.upd ?_

theorem Keeps.setJob {μ : Nat} {s t : State} (h : Keeps μ s t) (j : Job) (hm : Sub 0x400000 μ := by rfl) : Keeps μ s
    (State.setJob t j) := by
  refine Keeps.start h hm fun s h => ?_
  unfold State.setJob
  repeat' first | with_reducible assumption | exact rfl | with_reducible refine Keeps.upd ?_

theorem Keeps.svcDropped {μ : Nat} {s t : State} (h : Keeps μ s t) (w : Elem) (beat : Nat) (hm : Sub
    0x710000000000000000000000000000000000000000000080000 μ := by rfl) : Keeps μ s (State.svcDropped t w beat).1 := by
  refine Keeps.start h hm fun s h => ?_
  unfold State.svcDropped
  try dsimp only
  repeat' first
    | with_reducible assumption | exact rfl | with_reducible apply Keeps.judgeGroup
    | with_reducible refine Keeps.fst (by assumption) ?_ | split | with_reducible refine Keeps.upd ?_

theorem Keeps.finishJob {μ : Nat} {s t : State} (h : Keeps μ s t) (j : Job) (e w : Elem) (x : Source) (r0 : Nat) (ovr
    : Bool) (hm : Sub 0x160000000000000000000000000000000000000000002000400000 μ := by rfl) : Keeps μ s
    (State.finishJob t j e w x r0 ovr) := by
  refine Keeps.start h hm fun s h => ?_
  unfold State.finishJob
  try dsimp only
  repeat' first
    | with_reducible assumption | exact rfl | with_reducible apply Keeps.wr | with_reducible apply Keeps.bump
    | with_reducible apply Keeps.setJob | with_reducible refine Keeps.fst (by assumption) ?_ | split
    | with_reducible refine Keeps.upd ?_

theorem Keeps.svcRead {μ : Nat} {s t : State} (h : Keeps μ s t) (v elem : Nat) (r : MemAnswers) (a0 : List (Nat ×
    Nat)) (hm : Sub 0x8000042000000000000044c02000000040000000000000000000000000000061c00000be000000000000481c002080 μ
    := by rfl) : Keeps μ s (State.svcRead t v elem r a0).1 := by
  refine Keeps.start h hm ?_
  clear h hm s
  intro s h
  induction a0 generalizing t r with
  | nil => exact h
  | cons a l ih =>
    unfold State.svcRead
    split <;> first
      | exact Keeps.fst (by assumption) (h.translate _ _ _ _)
      | (dsimp only; exact ih _ ((Keeps.fst (by assumption) (h.translate _ _ _ _)).violate _ _ _ _ _ _))
      | skip
    next e =>
      dsimp only
      have k := Keeps.fst e (h.translate _ _ _ _)
      split
      · exact (k.charge _ _ _).eccResult _ _
      · exact ih _ ((k.charge _ _ _).eccResult _ _)

theorem Keeps.svcReach {μ : Nat} {s t : State} (h : Keeps μ s t) (v : Nat) (a0 : List (Nat × Nat)) (hm : Sub
    0x8000042000000000000044c02000000040000000000000000000000000000061c0000000000000000000081c002080 μ := by rfl) :
    Keeps μ s (State.svcReach t v a0).1 := by
  refine Keeps.start h hm ?_
  clear h hm s
  intro s h
  induction a0 generalizing t with
  | nil => exact h
  | cons a l ih =>
    unfold State.svcReach
    split <;> first
      | exact Keeps.fst (by assumption) (h.translate _ _ _ _)
      | (dsimp only; exact ih (Keeps.fst (by assumption) (h.translate _ _ _ _)))

theorem Keeps.svcPut {μ : Nat} {s t : State} (h : Keeps μ s t) (v elem : Nat) (a0 : List (Nat × Nat)) (a1 : List Xlat)
    (a2 : List Byte) (hm : Sub
    0x8000042000000000000044c02000000040000000000000000000000000000001c00000be000000000000481c00008c μ := by rfl) :
    Keeps μ s (State.svcPut t v elem a0 a1 a2).1 := by
  refine Keeps.start h hm ?_
  clear h hm s
  intro s h
  induction a0 generalizing t a1 a2 with
  | nil => unfold State.svcPut; exact h
  | cons a l ih =>
    unfold State.svcPut
    split
    · next e => cases e; exact ih _ _ (h.violate _ _ _ _ _ _)
    · next e =>
      cases e
      split
      · dsimp only; exact h.eccResult _ _
      · exact ih _ _ ((h.charge _ _ _).writePhys _ _)
    · exact h

theorem Keeps.svcWrite {μ : Nat} {s t : State} (h : Keeps μ s t) (v elem : Nat) (ps : List (Nat × Nat)) (b : List
    Byte) (hm : Sub 0x8000042000000000000044c02000000040000000000000000000000000000061c00000be000000000000481c00208c μ
    := by rfl) : Keeps μ s (State.svcWrite t v elem ps b).1 := by
  refine Keeps.start h hm fun s h => ?_
  unfold State.svcWrite
  split
  · next e => exact (Keeps.fst e (h.svcReach _ _)).svcPut _ _ _ _ _
  · next e => exact Keeps.fst e (h.svcReach _ _)

theorem Keeps.endJob {μ : Nat} {s t : State} (h : Keeps μ s t) (j : Job) (e w : Elem) (x : Source) (r0 status : Nat)
    (hm : Sub 0x160000000000000000000000000000000000000000002000402000 μ := by rfl) : Keeps μ s (State.endJob t j e w
    x r0 status) := by
  refine Keeps.start h hm fun s h => ?_
  unfold State.endJob
  try dsimp only
  repeat' first
    | with_reducible assumption | exact rfl | with_reducible apply Keeps.dropFermata
    | with_reducible apply Keeps.finishJob | with_reducible refine Keeps.fst (by assumption) ?_ | split
    | with_reducible refine Keeps.upd ?_

theorem Keeps.stageTile {μ : Nat} {s t : State} (h : Keeps μ s t) (j : Job) (e w : Elem) (x : Source) (r0 t' : Nat) (r
    : MemAnswers) (hm : Sub
    0x38000042000000000000044c02000000040000000360000000000000008000061c00000be000000000000681c40388c μ := by rfl) :
    Keeps μ s (State.stageTile t j e w x r0 t' r) := by
  refine Keeps.start h hm fun s h => ?_
  unfold State.stageTile
  try dsimp only
  repeat' first
    | with_reducible assumption | exact rfl | with_reducible apply Keeps.bump | with_reducible apply Keeps.charge
    | with_reducible apply Keeps.enterFermata | with_reducible apply Keeps.setJob | with_reducible apply Keeps.svcRead
    | with_reducible apply Keeps.endJob | with_reducible refine Keeps.fst (by assumption) ?_ | split
    | with_reducible refine Keeps.upd ?_

theorem Keeps.execTileStageEnd {μ : Nat} {s t : State} (h : Keeps μ s t) (inst tile : Nat) (r : MemAnswers) (hm : Sub
    0x38000042000000000000044c02000000040000000360710000000000008000061c00000be000000000000681c48388c μ := by rfl) :
    KeepsO μ s (Sys2Proof.Machine.execTileStageEnd inst tile r t) := by
  refine Keeps.startO h hm fun s h => ?_
  unfold Sys2Proof.Machine.execTileStageEnd
  try dsimp only
  repeat' first
    | with_reducible assumption | exact rfl | with_reducible apply Keeps.svcDropped
    | with_reducible apply Keeps.stageTile | with_reducible apply Keeps.next
    | with_reducible refine Keeps.fst (by assumption) ?_ | split | with_reducible refine Keeps.upd ?_

theorem Keeps.execSlotStart {μ : Nat} {s t : State} (h : Keeps μ s t) (engine voice : Nat) (hm : Sub 0x400020 μ := by
    rfl) : KeepsO μ s (Sys2Proof.Machine.execSlotStart engine voice t) := by
  refine Keeps.startO h hm fun s h => ?_
  unfold Sys2Proof.Machine.execSlotStart
  try dsimp only
  repeat' first
    | with_reducible assumption | exact rfl | with_reducible apply Keeps.runTo | with_reducible apply Keeps.next
    | with_reducible refine Keeps.fst (by assumption) ?_ | split | with_reducible refine Keeps.upd ?_

theorem Keeps.execTileStart {μ : Nat} {s t : State} (h : Keeps μ s t) (engine : Nat) (hm : Sub 0x400000 μ := by rfl) :
    KeepsO μ s (Sys2Proof.Machine.execTileStart engine t) := by
  refine Keeps.startO h hm fun s h => ?_
  unfold Sys2Proof.Machine.execTileStart
  try dsimp only
  repeat' first
    | with_reducible assumption | exact rfl | with_reducible apply Keeps.setJob | with_reducible apply Keeps.next
    | with_reducible refine Keeps.fst (by assumption) ?_ | split | with_reducible refine Keeps.upd ?_

theorem Keeps.histWrite {μ : Nat} {s t : State} (h : Keeps μ s t) (j : Job) (e w : Elem) (x : Source) (r0 t' : Nat)
    (hm : Sub 0x38000042000000000000044c02000000040000000360000000000000008000061c00000be000000000000681c40388c μ :=
    by rfl) : Keeps μ s (State.histWrite t j e w x r0 t') := by
  refine Keeps.start h hm fun s h => ?_
  unfold State.histWrite
  try dsimp only
  repeat' first
    | with_reducible assumption | exact rfl | with_reducible apply Keeps.bump
    | with_reducible apply Keeps.enterFermata | with_reducible apply Keeps.setJob
    | with_reducible apply Keeps.finishJob | with_reducible apply Keeps.svcWrite | with_reducible apply Keeps.endJob
    | with_reducible refine Keeps.fst (by assumption) ?_ | split | with_reducible refine Keeps.upd ?_

theorem Keeps.settleJob {μ : Nat} {s t : State} (h : Keeps μ s t) (inst beat : Nat) (e w : Elem) (x : Source) (r0 :
    Nat) (hm : Sub 0x38000042000000000000044c02000000040000000360000000000000008000061c00000be000000000000681c40388c μ
    := by rfl) : Keeps μ s (State.settleJob t inst beat e w x r0) := by
  refine Keeps.start h hm fun s h => ?_
  unfold State.settleJob
  try dsimp only
  repeat' first
    | with_reducible assumption | exact rfl | with_reducible apply Keeps.finishJob
    | with_reducible apply Keeps.histWrite | split

theorem Keeps.execTileEnd {μ : Nat} {s t : State} (h : Keeps μ s t) (engine : Nat) (hm : Sub
    0x38000042000000000000044c0200000004000000036c000000000000008000061c00000be000000000000681c4038ac μ := by rfl) :
    KeepsO μ s (Sys2Proof.Machine.execTileEnd engine t) := by
  refine Keeps.startO h hm fun s h => ?_
  unfold Sys2Proof.Machine.execTileEnd
  try dsimp only
  repeat' first
    | with_reducible assumption | exact rfl | with_reducible apply Keeps.bump | with_reducible apply Keeps.runTo
    | with_reducible apply Keeps.setJob | with_reducible apply Keeps.histWrite | with_reducible apply Keeps.settleJob
    | with_reducible apply Keeps.next | with_reducible refine Keeps.fst (by assumption) ?_ | split
    | with_reducible refine Keeps.upd ?_

theorem Keeps.svcRetry {μ : Nat} {s t : State} (h : Keeps μ s t) (inst tile beat : Nat) (write : Bool) (hm : Sub
    0x38000042000000000000044c02000000040000000360000000000000008000061c00000be000000000000681c40388c μ := by rfl) :
    Keeps μ s (State.svcRetry t inst tile beat write) := by
  refine Keeps.start h hm fun s h => ?_
  unfold State.svcRetry
  try dsimp only
  repeat' first
    | with_reducible assumption | exact rfl | with_reducible apply Keeps.setJob | with_reducible apply Keeps.histWrite
    | with_reducible refine Keeps.fst (by assumption) ?_ | split | with_reducible refine Keeps.upd ?_

theorem Keeps.svcSkip {μ : Nat} {s t : State} (h : Keeps μ s t) (inst tile beat : Nat) (hm : Sub
    0x38000042000000000000044c020000000400000003e0000000000000008000061c00000be000000000000681c40388c μ := by rfl) :
    Keeps μ s (State.svcSkip t inst tile beat) := by
  refine Keeps.start h hm fun s h => ?_
  unfold State.svcSkip
  try dsimp only
  repeat' first
    | with_reducible assumption | exact rfl | with_reducible apply Keeps.bump | with_reducible apply Keeps.setJob
    | with_reducible apply Keeps.settleJob | with_reducible refine Keeps.fst (by assumption) ?_ | split
    | with_reducible refine Keeps.upd ?_

theorem Keeps.svcAbort {μ : Nat} {s t : State} (h : Keeps μ s t) (inst beat : Nat) (hm : Sub
    0x160000000000000000000000000000000000000000002000402000 μ := by rfl) : Keeps μ s (State.svcAbort t inst beat) :=
    by
  refine Keeps.start h hm fun s h => ?_
  unfold State.svcAbort
  repeat' first
    | with_reducible assumption | exact rfl | with_reducible apply Keeps.endJob
    | with_reducible refine Keeps.fst (by assumption) ?_ | split | with_reducible refine Keeps.upd ?_

theorem Keeps.loseRequest {μ : Nat} {s t : State} (h : Keeps μ s t) (v : Nat) (hm : Sub 0x400000 μ := by rfl) : Keeps
    μ s (State.loseRequest t v) := by
  refine Keeps.start h hm fun s h => ?_
  unfold State.loseRequest
  repeat' first | with_reducible assumption | exact rfl | with_reducible refine Keeps.upd ?_

theorem Keeps.finishServices {μ : Nat} {s t : State} (h : Keeps μ s t) (beat : Nat) (hm : Sub
    0x160710000000000000000000000000000000000000002000482000 μ := by rfl) : Keeps μ s (State.finishServices t beat).1
    := by
  refine Keeps.start h hm fun s h => ?_
  unfold State.finishServices
  try dsimp only
  repeat' first
    | with_reducible assumption | exact rfl | with_reducible apply Keeps.dropFermata
    | with_reducible apply Keeps.svcDropped | with_reducible apply Keeps.finishJob
    | with_reducible refine Keeps.foldl ?_ (fun _ _ _ => ?_)
    | with_reducible refine Keeps.foldl_fst ?_ (fun _ _ _ => ?_) | with_reducible refine Keeps.fst (by assumption) ?_
    | split | with_reducible refine Keeps.upd ?_

theorem Keeps.haltServices {μ : Nat} {s t : State} (h : Keeps μ s t) (v : Nat) (hm : Sub 0x400000 μ := by rfl) : Keeps
    μ s (State.haltServices t v) := by
  refine Keeps.start h hm fun s h => ?_
  unfold State.haltServices
  repeat' first | with_reducible assumption | exact rfl | with_reducible refine Keeps.upd ?_

end Sys2Proof.Machine
end

