-- ==== Sys2Proof/Laws/KeepsLinks.lean ====
section
/-!
SUPPORT. What the parts of a command keep: voices, time, uplinks, the tie link, process and serial inputs, the host.
-/

namespace Sys2Proof.Machine

set_option Elab.async false

theorem Keeps.pageAccess {μ : Nat} {s t : State} (h : Keeps μ s t) (p : Path) (v ofs : Nat) (write : Bool) (act :
    State → State) (k : ∀ x, Keeps μ s x → Keeps μ s (act x)) (hm : Sub
    0x8000040000000000000000000000000000000000000000000000000000000000000000be0000000000004800000000 μ := by rfl) :
    Keeps μ s (State.pageAccess t p v ofs write act) := by
  unfold State.pageAccess
  split
  · exact h
  · split
    · exact k _ h
    · exact h.violate _ _ _ _ _ _ (Sub.trans (by rfl) hm)

theorem Keeps.pageWrite {μ : Nat} {s t : State} (h : Keeps μ s t) (p : Path) (v ofs : Nat) (act : State → State) (k :
    ∀ x, Keeps μ s x → Keeps μ s (act x)) (hm : Sub
    0x8000040000000000000000000000000000000000000000000000000000000000000000be0000000000004800000000 μ := by rfl) :
    Keeps μ s (State.pageWrite t p v ofs act) := by
  exact h.pageAccess _ _ _ _ _ k (Sub.trans (by rfl) hm)

theorem Keeps.unmaskBit {μ : Nat} {s t : State} (h : Keeps μ s t) (old : Nat) (v k : Nat) (hm : Sub
    0x40000000000000000000000000000000000000000000000000000000000000000000000000000000800000000 μ := by rfl) : Keeps μ
    s (State.unmaskBit old v k t) := by
  refine Keeps.start h hm fun s h => ?_
  unfold State.unmaskBit
  repeat' first | with_reducible assumption | exact rfl | with_reducible apply Keeps.msix | split

theorem Keeps.maskWrite {μ : Nat} {s t : State} (h : Keeps μ s t) (v w : Nat) (hm : Sub
    0x4000040000000000000000000000000000000000000000000000000000000000000000000000000000000800000000 μ := by rfl) :
    Keeps μ s (State.maskWrite t v w) := by
  refine Keeps.start h hm fun s h => ?_
  unfold State.maskWrite
  try dsimp only
  repeat' first
    | with_reducible assumption | exact rfl | with_reducible apply Keeps.wr | with_reducible apply Keeps.unmaskBit

theorem Keeps.execVwIrqMaskWrite {μ : Nat} {s t : State} (h : Keeps μ s t) (p : Path) (voice : Nat) (v : Word) (hm :
    Sub 0xc000040000000000000000000000000000000000000000000000000000000000000000be0000000000004800000000 μ := by rfl)
    : KeepsO μ s (Sys2Proof.Machine.execVwIrqMaskWrite p voice v t) := by
  refine Keeps.startO h hm fun s h => ?_
  unfold Sys2Proof.Machine.execVwIrqMaskWrite
  repeat' first
    | with_reducible assumption | exact rfl | with_reducible apply Keeps.pageWrite
    | with_reducible apply Keeps.maskWrite | with_reducible apply Keeps.next
    | (intro (_ : State) (_ : Keeps _ _ _); try dsimp only)

theorem Keeps.violClear {μ : Nat} {s t : State} (h : Keeps μ s t) (w : Nat) (hm : Sub 0x1e0000000000000000000000 μ :=
    by rfl) : Keeps μ s (State.violClear t w) := by
  refine Keeps.start h hm fun s h => ?_
  unfold State.violClear
  repeat' first | with_reducible assumption | exact rfl | with_reducible apply Keeps.wr | split

theorem Keeps.execViolInfoClear {μ : Nat} {s t : State} (h : Keeps μ s t) (p : Path) (v : Word) (hm : Sub
    0x1e0000000000000000000000 μ := by rfl) : KeepsO μ s (Sys2Proof.Machine.execViolInfoClear p v t) := by
  refine Keeps.startO h hm fun s h => ?_
  unfold Sys2Proof.Machine.execViolInfoClear
  repeat' first
    | with_reducible assumption | exact rfl | with_reducible apply Keeps.violClear | with_reducible apply Keeps.next
    | split

theorem Keeps.execQueuePostRelease {μ : Nat} {s t : State} (h : Keeps μ s t) (q : QueueRef) (m : MemAnswers) (hm :
    Sub 0x38000042000000000000044c02000000040000000000000000000000008000061c00000be000000000000481c00388c μ := by
    rfl) : KeepsO μ s (Sys2Proof.Machine.execQueuePostRelease q m t) := by
  refine Keeps.startO h hm fun s h => ?_
  unfold Sys2Proof.Machine.execQueuePostRelease
  repeat' first
    | with_reducible assumption | exact rfl | with_reducible apply Keeps.releasePost | with_reducible apply Keeps.next

theorem Keeps.execFaultSlotTake {μ : Nat} {s t : State} (h : Keeps μ s t) (voice : Nat) (hm : Sub
    0x38000042000000000000044c02000000040000000000000000000000008000061c00000be000000000000481c00388c μ := by rfl) :
    KeepsO μ s (Sys2Proof.Machine.execFaultSlotTake voice t) := by
  refine Keeps.startO h hm fun s h => ?_
  unfold Sys2Proof.Machine.execFaultSlotTake
  repeat' first
    | with_reducible assumption | exact rfl | with_reducible apply Keeps.takeSlot | with_reducible apply Keeps.next
    | with_reducible refine Keeps.fst (by assumption) ?_ | split | with_reducible refine Keeps.upd ?_

theorem Keeps.retrySide {μ : Nat} {s t : State} (h : Keeps μ s t) (c : Nat) (f : Fermata) (write : Bool) (hm : Sub
    0x38000042000000000000044c020000000400000000000000000000000080c0061c00000be000000000000481c00788c μ := by rfl) :
    Keeps μ s (State.retrySide t c f write) := by
  refine Keeps.start h hm fun s h => ?_
  unfold State.retrySide
  try dsimp only
  repeat' first
    | with_reducible assumption | exact rfl | with_reducible apply Keeps.wr | with_reducible apply Keeps.setChan
    | with_reducible apply Keeps.busPolicy | with_reducible apply Keeps.missFor
    | with_reducible refine Keeps.fst (by assumption) ?_ | split | with_reducible refine Keeps.upd ?_

theorem Keeps.endSide {μ : Nat} {s t : State} (h : Keeps μ s t) (c : Nat) (f : Fermata) (write stop : Bool) (hm : Sub
    0x38000042000000000000044c020000000400000000000000000000000080c0061c00000be000000000000481c00788c μ := by rfl) :
    Keeps μ s (State.endSide t c f write stop) := by
  refine Keeps.start h hm fun s h => ?_
  unfold State.endSide
  try dsimp only
  repeat' first
    | with_reducible assumption | exact rfl | with_reducible apply Keeps.wr | with_reducible apply Keeps.dropFermata
    | with_reducible apply Keeps.setChan | with_reducible apply Keeps.endDesc | with_reducible apply Keeps.dropWaiter
    | split | with_reducible refine Keeps.upd ?_

theorem Keeps.endFetch {μ : Nat} {s t : State} (h : Keeps μ s t) (c : Nat) (f : Fermata) (stop : Bool) (hm : Sub
    0x38000042000000000000044c02000000040000000000000000000000008080061c00000be000000000000481c00788c μ := by rfl) :
    Keeps μ s (State.endFetch t c f stop) := by
  refine Keeps.start h hm fun s h => ?_
  unfold State.endFetch
  try dsimp only
  repeat' first
    | with_reducible assumption | exact rfl | with_reducible apply Keeps.setChan
    | with_reducible apply Keeps.writeback | with_reducible refine Keeps.fst (by assumption) ?_ | split
    | with_reducible refine Keeps.upd ?_

theorem Keeps.retryPost {μ : Nat} {s t : State} (h : Keeps μ s t) (f : Fermata) (p : Post) (hm : Sub
    0x38000042000000000000044c02000000040000000000000000000000008000061c00000be000000000000481c00388c μ := by rfl) :
    Keeps μ s (State.retryPost t f p) := by
  refine Keeps.start h hm fun s h => ?_
  unfold State.retryPost
  repeat' first
    | with_reducible assumption | exact rfl | with_reducible apply Keeps.makePost
    | with_reducible apply Keeps.enterFermata | with_reducible refine Keeps.fst (by assumption) ?_ | split
    | with_reducible refine Keeps.upd ?_

theorem Keeps.retryOp {μ : Nat} {s t : State} (h : Keeps μ s t) (f : Fermata) (hm : Sub
    0x38000042000000000000044c020000000400000003600000000000000080c0061c00000be000000000000681c40788c μ := by rfl) :
    Keeps μ s (State.retryOp t f) := by
  refine Keeps.start h hm fun s h => ?_
  unfold State.retryOp
  repeat' first
    | with_reducible assumption | exact rfl | with_reducible apply Keeps.post | with_reducible apply Keeps.setChan
    | with_reducible apply Keeps.svcRetry | with_reducible apply Keeps.retrySide
    | with_reducible apply Keeps.retryPost | with_reducible refine Keeps.fst (by assumption) ?_ | split
    | with_reducible refine Keeps.upd ?_

theorem Keeps.skipOp {μ : Nat} {s t : State} (h : Keeps μ s t) (f : Fermata) (hm : Sub
    0x38000042000000000000044c020000000400000003e00000000000000080c0061c00000be000000000000681c40788c μ := by rfl) :
    Keeps μ s (State.skipOp t f) := by
  refine Keeps.start h hm fun s h => ?_
  unfold State.skipOp
  repeat' first
    | with_reducible assumption | exact rfl | with_reducible apply Keeps.setDropped
    | with_reducible apply Keeps.postEnded | with_reducible apply Keeps.post | with_reducible apply Keeps.svcSkip
    | with_reducible apply Keeps.loseRequest | with_reducible apply Keeps.endSide
    | with_reducible apply Keeps.endFetch | with_reducible refine Keeps.fst (by assumption) ?_ | split
    | with_reducible refine Keeps.upd ?_

theorem Keeps.abortOp {μ : Nat} {s t : State} (h : Keeps μ s t) (f : Fermata) (hm : Sub
    0x38000042000000000000044c020000000400000001600000000000000080c0061c00000be000000000000681c40788c μ := by rfl) :
    Keeps μ s (State.abortOp t f) := by
  refine Keeps.start h hm fun s h => ?_
  unfold State.abortOp
  repeat' first
    | with_reducible assumption | exact rfl | with_reducible apply Keeps.setDropped
    | with_reducible apply Keeps.postEnded | with_reducible apply Keeps.post | with_reducible apply Keeps.svcAbort
    | with_reducible apply Keeps.loseRequest | with_reducible apply Keeps.endSide
    | with_reducible apply Keeps.endFetch | with_reducible refine Keeps.fst (by assumption) ?_ | split
    | with_reducible refine Keeps.upd ?_

theorem Keeps.faultDecision {μ : Nat} {s t : State} (h : Keeps μ s t) (v slot tag action : Nat) (hm : Sub
    0x38000042000000000000044c020000000400000003e00000000000000080c0061c00000be000000000000681c40788c μ := by rfl) :
    Keeps μ s (State.faultDecision t v slot tag action) := by
  refine Keeps.start h hm fun s h => ?_
  unfold State.faultDecision
  try dsimp only
  repeat' first
    | with_reducible assumption | exact rfl | with_reducible apply Keeps.releaseSlot
    | with_reducible apply Keeps.retryOp | with_reducible apply Keeps.skipOp | with_reducible apply Keeps.abortOp
    | with_reducible refine Keeps.fst (by assumption) ?_ | split | with_reducible refine Keeps.upd ?_

theorem Keeps.execFaultRetry {μ : Nat} {s t : State} (h : Keeps μ s t) (p : Path) (voice slot tag : Nat) (hm : Sub
    0x38000042000000000000044c020000000400000003e00000000000000080c0061c00000be000000000000681c40788c μ := by rfl) :
    KeepsO μ s (Sys2Proof.Machine.execFaultRetry p voice slot tag t) := by
  refine Keeps.startO h hm fun s h => ?_
  unfold Sys2Proof.Machine.execFaultRetry
  repeat' first
    | with_reducible assumption | exact rfl | with_reducible apply Keeps.pageWrite
    | with_reducible apply Keeps.faultDecision | with_reducible apply Keeps.next | with_reducible apply Keeps.fault
    | (intro (_ : State) (_ : Keeps _ _ _); try dsimp only)

theorem Keeps.execFaultSkip {μ : Nat} {s t : State} (h : Keeps μ s t) (p : Path) (voice slot tag : Nat) (hm : Sub
    0x38000042000000000000044c020000000400000003e00000000000000080c0061c00000be000000000000681c40788c μ := by rfl) :
    KeepsO μ s (Sys2Proof.Machine.execFaultSkip p voice slot tag t) := by
  refine Keeps.startO h hm fun s h => ?_
  unfold Sys2Proof.Machine.execFaultSkip
  repeat' first
    | with_reducible assumption | exact rfl | with_reducible apply Keeps.pageWrite
    | with_reducible apply Keeps.faultDecision | with_reducible apply Keeps.next | with_reducible apply Keeps.fault
    | (intro (_ : State) (_ : Keeps _ _ _); try dsimp only)

theorem Keeps.execFaultAbort {μ : Nat} {s t : State} (h : Keeps μ s t) (p : Path) (voice slot tag : Nat) (hm : Sub
    0x38000042000000000000044c020000000400000003e00000000000000080c0061c00000be000000000000681c40788c μ := by rfl) :
    KeepsO μ s (Sys2Proof.Machine.execFaultAbort p voice slot tag t) := by
  refine Keeps.startO h hm fun s h => ?_
  unfold Sys2Proof.Machine.execFaultAbort
  repeat' first
    | with_reducible assumption | exact rfl | with_reducible apply Keeps.pageWrite
    | with_reducible apply Keeps.faultDecision | with_reducible apply Keeps.next | with_reducible apply Keeps.fault
    | (intro (_ : State) (_ : Keeps _ _ _); try dsimp only)

theorem Keeps.startInval {μ : Nat} {s t : State} (h : Keeps μ s t) (v : Nat) (i : Inval) (hm : Sub
    0x4000000000000000000000000000000000000000000000000000000000000000000000000000000000000000000002000 μ := by rfl) :
    Keeps μ s (State.startInval t v i) := by
  refine Keeps.start h hm fun s h => ?_
  unfold State.startInval
  repeat' first
    | with_reducible assumption | exact rfl | with_reducible apply Keeps.setB | with_reducible refine Keeps.upd ?_

theorem Keeps.askInval {μ : Nat} {s t : State} (h : Keeps μ s t) (v : Nat) (i : Inval) (hm : Sub
    0x4000000000000000000000000000000000000000000000000000000000000000000000000000000000000000000002000 μ := by rfl) :
    Keeps μ s (State.askInval t v i) := by
  refine Keeps.start h hm fun s h => ?_
  unfold State.askInval
  try dsimp only
  repeat' first
    | with_reducible assumption | exact rfl | with_reducible apply Keeps.setB | with_reducible apply Keeps.startInval
    | with_reducible refine Keeps.fst (by assumption) ?_ | split | with_reducible refine Keeps.upd ?_

theorem Keeps.tlbInv {μ : Nat} {s t : State} (h : Keeps μ s t) (v w : Nat) (hm : Sub
    0x6000000000000000000000000000000000000000000000000000000000000000000000000000000000000000000002000 μ := by rfl) :
    Keeps μ s (State.tlbInv t v w) := by
  refine Keeps.start h hm fun s h => ?_
  unfold State.tlbInv
  try dsimp only
  repeat' first
    | with_reducible assumption | exact rfl | with_reducible apply Keeps.wr | with_reducible apply Keeps.askInval
    | split

theorem Keeps.execTlbInvalidate {μ : Nat} {s t : State} (h : Keeps μ s t) (p : Path) (voice : Nat) (v : Word) (hm :
    Sub 0x6008000040000000000000000000000000000000000000000000000000000000000000000be0000000000004800002000 μ := by
    rfl) : KeepsO μ s (Sys2Proof.Machine.execTlbInvalidate p voice v t) := by
  refine Keeps.startO h hm fun s h => ?_
  unfold Sys2Proof.Machine.execTlbInvalidate
  repeat' first
    | with_reducible assumption | exact rfl | with_reducible apply Keeps.pageWrite | with_reducible apply Keeps.tlbInv
    | with_reducible apply Keeps.next | (intro (_ : State) (_ : Keeps _ _ _); try dsimp only)

theorem Keeps.forgetAnswers {μ : Nat} {s t : State} (h : Keeps μ s t) (v : Nat) (i : Inval) (hm : Sub 0x4000 μ := by
    rfl) : Keeps μ s (State.forgetAnswers t v i) := by
  refine Keeps.start h hm fun s h => ?_
  unfold State.forgetAnswers
  try dsimp only
  repeat' first
    | with_reducible assumption | exact rfl | with_reducible apply Keeps.wr
    | with_reducible refine Keeps.fst (by assumption) ?_ | split | with_reducible refine Keeps.upd ?_

theorem Keeps.execInvalidationComplete {μ : Nat} {s t : State} (h : Keeps μ s t) (voice : Nat) (hm : Sub
    0x4038000042000000000000044c02000000040000000000000000000000008000061c00000be000000000000481c00788c μ := by rfl) :
    KeepsO μ s (Sys2Proof.Machine.execInvalidationComplete voice t) := by
  refine Keeps.startO h hm fun s h => ?_
  unfold Sys2Proof.Machine.execInvalidationComplete
  try dsimp only
  repeat' first
    | with_reducible assumption | exact rfl | with_reducible apply Keeps.wr | with_reducible apply Keeps.tlbRemove
    | with_reducible apply Keeps.releasePost | with_reducible apply Keeps.startInval
    | with_reducible apply Keeps.forgetAnswers | with_reducible apply Keeps.next
    | with_reducible refine Keeps.fst (by assumption) ?_ | split | with_reducible refine Keeps.upd ?_

theorem Keeps.ptroot {μ : Nat} {s t : State} (h : Keeps μ s t) (v w : Nat) (hm : Sub
    0x5000000000000000000000000000000000000000000000000000000000000000000000000000000000000000000002000 μ := by rfl) :
    Keeps μ s (State.ptroot t v w) := by
  refine Keeps.start h hm fun s h => ?_
  unfold State.ptroot
  try dsimp only
  repeat' first
    | with_reducible assumption | exact rfl | with_reducible apply Keeps.wr | with_reducible apply Keeps.askInval
    | with_reducible refine Keeps.fst (by assumption) ?_ | split | with_reducible refine Keeps.upd ?_

theorem Keeps.execPtrootWrite {μ : Nat} {s t : State} (h : Keeps μ s t) (p : Path) (voice : Nat) (v : Word) (hm : Sub
    0x5008000040000000000000000000000000000000000000000000000000000000000000000be0000000000004800002000 μ := by rfl) :
    KeepsO μ s (Sys2Proof.Machine.execPtrootWrite p voice v t) := by
  refine Keeps.startO h hm fun s h => ?_
  unfold Sys2Proof.Machine.execPtrootWrite
  repeat' first
    | with_reducible assumption | exact rfl | with_reducible apply Keeps.pageWrite | with_reducible apply Keeps.ptroot
    | with_reducible apply Keeps.next | (intro (_ : State) (_ : Keeps _ _ _); try dsimp only)

theorem Keeps.execScrubPass {μ : Nat} {s t : State} (h : Keeps μ s t) (lpddr : Bool) (corrected : Nat) (uncorrectable
    : List Nat) (hm : Sub
    0x8000042000000000000044c02000000040000000000000000000000000000001c0000000000000000000081c000080 μ := by rfl) :
    KeepsO μ s (Sys2Proof.Machine.execScrubPass lpddr corrected uncorrectable t) := by
  refine Keeps.startO h hm fun s h => ?_
  unfold Sys2Proof.Machine.execScrubPass
  repeat' first
    | with_reducible assumption | exact rfl | with_reducible apply Keeps.addF | with_reducible apply Keeps.eccResult
    | with_reducible apply Keeps.next | with_reducible refine Keeps.foldl ?_ (fun _ _ _ => ?_) | split

theorem Keeps.execRefmultPoll {μ : Nat} {s t : State} (h : Keeps μ s t) (mult : Nat) (derated : Bool) (hm : Sub
    0x100000000000000000000000000000 μ := by rfl) : KeepsO μ s (Sys2Proof.Machine.execRefmultPoll mult derated t) :=
    by
  refine Keeps.startO h hm fun s h => ?_
  unfold Sys2Proof.Machine.execRefmultPoll
  repeat' first
    | with_reducible assumption | exact rfl | with_reducible apply Keeps.wr | with_reducible apply Keeps.next | split

theorem Keeps.shortfall {μ : Nat} {s t : State} (h : Keeps μ s t) (unserved : List Nat) (hm : Sub
    0x44c0200000004000000000000000000000000000000e00000000000000000000081c000080 μ := by rfl) : Keeps μ s
    (State.shortfall t unserved) := by
  refine Keeps.start h hm fun s h => ?_
  unfold State.shortfall
  try dsimp only
  repeat' first
    | with_reducible assumption | exact rfl | with_reducible apply Keeps.wr | with_reducible apply Keeps.bump
    | with_reducible apply Keeps.alert | split | with_reducible refine Keeps.upd ?_

theorem Keeps.execShortfallCheck {μ : Nat} {s t : State} (h : Keeps μ s t) (unserved : List Nat) (served hostUnserved
    : Nat) (hm : Sub 0x10000000000000044c0200000004000000000000000000000000000000e00000000000000000000081c0004a0 μ :=
    by rfl) : KeepsO μ s (Sys2Proof.Machine.execShortfallCheck unserved served hostUnserved t) := by
  refine Keeps.startO h hm fun s h => ?_
  unfold Sys2Proof.Machine.execShortfallCheck
  try dsimp only
  repeat' first
    | with_reducible assumption | exact rfl | with_reducible apply Keeps.bump | with_reducible apply Keeps.runTo
    | with_reducible apply Keeps.served | with_reducible apply Keeps.shortfall | with_reducible apply Keeps.next
    | split | with_reducible refine Keeps.upd ?_

theorem Keeps.setCue {μ : Nat} {s t : State} (h : Keeps μ s t) (k : Nat) (c : Cue) (hm : Sub
    0x70000000000000000000000000000000000000000000000000000000000800000 μ := by rfl) : Keeps μ s (State.setCue t k c)
    := by
  refine Keeps.start h hm fun s h => ?_
  unfold State.setCue
  try dsimp only
  repeat' first
    | with_reducible assumption | exact rfl | with_reducible apply Keeps.wr | with_reducible apply Keeps.wrF
    | with_reducible refine Keeps.fst (by assumption) ?_ | split | with_reducible refine Keeps.upd ?_

theorem Keeps.cueLate {μ : Nat} {s t : State} (h : Keeps μ s t) (k : Nat) (hm : Sub
    0x210000000000000000000000000000000000000000000000000000000000000000 μ := by rfl) : Keeps μ s (State.cueLate t k)
    := by
  refine Keeps.start h hm fun s h => ?_
  unfold State.cueLate
  repeat' first
    | with_reducible assumption | exact rfl | with_reducible apply Keeps.setB | with_reducible apply Keeps.addF

theorem Keeps.placeEdge {μ : Nat} {s t : State} (h : Keeps μ s t) (k t' : Nat) (late : Bool) (hm : Sub
    0x270000000000000000000000000000000000000000000000000000000000800000 μ := by rfl) : Keeps μ s (State.placeEdge t k
    t' late) := by
  refine Keeps.start h hm fun s h => ?_
  unfold State.placeEdge
  try dsimp only
  repeat' first
    | with_reducible assumption | exact rfl | with_reducible apply Keeps.setCue | with_reducible apply Keeps.cueLate
    | split | with_reducible refine Keeps.upd ?_

theorem Keeps.truncPulse {μ : Nat} {s t : State} (h : Keeps μ s t) (k : Nat) (hm : Sub
    0x270000000000000000000000000000000000000000000000000000000000800000 μ := by rfl) : Keeps μ s (State.truncPulse t
    k) := by
  refine Keeps.start h hm fun s h => ?_
  unfold State.truncPulse
  try dsimp only
  repeat' first
    | with_reducible assumption | exact rfl | with_reducible apply Keeps.setB | with_reducible apply Keeps.addF
    | with_reducible apply Keeps.setCue | with_reducible refine Keeps.fst (by assumption) ?_ | split
    | with_reducible refine Keeps.upd ?_

theorem Keeps.declareCue {μ : Nat} {s t : State} (h : Keeps μ s t) (e : Elem) (bar : Nat) (hm : Sub
    0x3f8000000000000000000000000000000000000000000000000000000000800003 μ := by rfl) : Keeps μ s (State.declareCue t
    e bar) := by
  refine Keeps.start h hm fun s h => ?_
  unfold State.declareCue
  dsimp only
  exact Keeps.setCue (Keeps.wr (Keeps.resetRegs h _ (entries_mask (rs := [.CUE_STATUS, .CUE_ARM_NS, .CUE_ARM_S, .CUE_CNT]) e.id)) _ _ _) _ _

theorem Keeps.waitCues {μ : Nat} {s t : State} (h : Keeps μ s t) (hm : Sub
    0x70000000000000000000000000000000000000000000000000000000000800000 μ := by rfl) : Keeps μ s (State.waitCues t) :=
    by
  refine Keeps.start h hm fun s h => ?_
  unfold State.waitCues
  repeat' first
    | with_reducible assumption | exact rfl | with_reducible apply Keeps.setCue
    | with_reducible refine Keeps.foldl ?_ (fun _ _ _ => ?_) | with_reducible refine Keeps.upd ?_

theorem Keeps.anchorCues {μ : Nat} {s t : State} (h : Keeps μ s t) (bar : Nat) (hm : Sub
    0x70000000000000000000000000000000000000000000000000000000000800000 μ := by rfl) : Keeps μ s (State.anchorCues t
    bar) := by
  refine Keeps.start h hm fun s h => ?_
  unfold State.anchorCues
  repeat' first
    | with_reducible assumption | exact rfl | with_reducible apply Keeps.setCue
    | with_reducible refine Keeps.foldl ?_ (fun _ _ _ => ?_) | split | with_reducible refine Keeps.upd ?_

theorem Keeps.removeCue {μ : Nat} {s t : State} (h : Keeps μ s t) (k : Nat) (hm : Sub
    0x3f8000000000000000000000000000000000000000000000000000000000800003 μ := by rfl) : Keeps μ s (State.removeCue t
    k) := by
  refine Keeps.start h hm fun s h => ?_
  unfold State.removeCue
  dsimp only
  exact Keeps.upd (Keeps.resetRegs h _ (entries_mask (rs := [.CUE_CFG, .CUE_STATUS, .CUE_NEXT_S, .CUE_NEXT_NS, .CUE_ARM_NS, .CUE_ARM_S,
    .CUE_CNT]) k))

theorem Keeps.barCues {μ : Nat} {s t : State} (h : Keeps μ s t) (idle : Bool) (bar : Nat) (hm : Sub
    0x70000000000000000000000000000000000000000000000000000000000800000 μ := by rfl) : Keeps μ s (State.barCues t idle
    bar) := by
  refine Keeps.start h hm fun s h => ?_
  unfold State.barCues
  repeat' first
    | with_reducible assumption | exact rfl | with_reducible apply Keeps.setCue
    | with_reducible refine Keeps.foldl ?_ (fun _ _ _ => ?_) | split | with_reducible refine Keeps.upd ?_

theorem Keeps.lockCues {μ : Nat} {s t : State} (h : Keeps μ s t) (ord bar : Nat) (hm : Sub
    0x70000000000000000000000000000000000000000000000000000000000a00000 μ := by rfl) : Keeps μ s (State.lockCues t ord
    bar) := by
  refine Keeps.start h hm fun s h => ?_
  unfold State.lockCues
  try dsimp only
  repeat' first
    | with_reducible assumption | exact rfl | with_reducible apply Keeps.setB | with_reducible apply Keeps.setCue
    | with_reducible refine Keeps.foldl ?_ (fun _ _ _ => ?_) | with_reducible refine Keeps.fst (by assumption) ?_
    | split | with_reducible refine Keeps.upd ?_

theorem Keeps.cueTrail {μ : Nat} {s t : State} (h : Keeps μ s t) (k : Nat) (hm : Sub
    0x70000000000000000000000000000000000000000000000000000000000820000 μ := by rfl) : Keeps μ s (State.cueTrail t k)
    := by
  refine Keeps.start h hm fun s h => ?_
  unfold State.cueTrail
  try dsimp only
  repeat' first
    | with_reducible assumption | exact rfl | with_reducible apply Keeps.portPulseEnd
    | with_reducible apply Keeps.setCue | with_reducible refine Keeps.foldl ?_ (fun _ _ _ => ?_) | split
    | with_reducible refine Keeps.upd ?_

theorem Keeps.cueLead {μ : Nat} {s t : State} (h : Keeps μ s t) (e : Elem) (t' : Nat) (hm : Sub
    0x270000000000000000000000204000000000000000000000000000000000820000 μ := by rfl) : Keeps μ s (State.cueLead t e
    t') := by
  refine Keeps.start h hm fun s h => ?_
  unfold State.cueLead
  try dsimp only
  repeat' first
    | with_reducible assumption | exact rfl | with_reducible apply Keeps.portPulse | with_reducible apply Keeps.setCue
    | with_reducible apply Keeps.truncPulse | with_reducible apply Keeps.cueTrail
    | with_reducible refine Keeps.foldl ?_ (fun _ _ _ => ?_) | with_reducible refine Keeps.fst (by assumption) ?_
    | split | with_reducible refine Keeps.upd ?_

theorem Keeps.execCueTrailingEdge {μ : Nat} {s t : State} (h : Keeps μ s t) (cue : Nat) (hm : Sub
    0x270000000000000000000000000000000000000000000000000000000000820020 μ := by rfl) : KeepsO μ s
    (Sys2Proof.Machine.execCueTrailingEdge cue t) := by
  refine Keeps.startO h hm fun s h => ?_
  unfold Sys2Proof.Machine.execCueTrailingEdge
  try dsimp only
  repeat' first
    | with_reducible assumption | exact rfl | with_reducible apply Keeps.runTo | with_reducible apply Keeps.truncPulse
    | with_reducible apply Keeps.cueTrail | with_reducible apply Keeps.next | split

theorem Keeps.armCue {μ : Nat} {s t : State} (h : Keeps μ s t) (k v : Nat) (hm : Sub
    0x2f0000000000000000000000000000000000000000000000000000000000800000 μ := by rfl) : Keeps μ s (State.armCue t k v)
    := by
  refine Keeps.start h hm fun s h => ?_
  unfold State.armCue
  try dsimp only
  repeat' first
    | with_reducible assumption | exact rfl | with_reducible apply Keeps.wr | with_reducible apply Keeps.setCue
    | with_reducible apply Keeps.placeEdge | with_reducible refine Keeps.fst (by assumption) ?_ | split
    | with_reducible refine Keeps.upd ?_

theorem Keeps.execCueArm {μ : Nat} {s t : State} (h : Keeps μ s t) (p : Path) (cue : Nat) (v : Word) (hm : Sub
    0x2f0000000000000000000000000000000000000000000000000000000000800000 μ := by rfl) : KeepsO μ s
    (Sys2Proof.Machine.execCueArm p cue v t) := by
  refine Keeps.startO h hm fun s h => ?_
  unfold Sys2Proof.Machine.execCueArm
  repeat' first
    | with_reducible assumption | exact rfl | with_reducible apply Keeps.armCue | with_reducible apply Keeps.next
    | split

theorem Keeps.recompute {μ : Nat} {s t : State} (h : Keeps μ s t) (d : Int) (e : Elem) (hm : Sub
    0x270000000000000000000000000000000000000000000000000000000000800000 μ := by rfl) : Keeps μ s (State.recompute t d
    e) := by
  refine Keeps.start h hm fun s h => ?_
  unfold State.recompute
  try dsimp only
  repeat' first
    | with_reducible assumption | exact rfl | with_reducible apply Keeps.setB | with_reducible apply Keeps.addF
    | with_reducible apply Keeps.placeEdge | with_reducible refine Keeps.fst (by assumption) ?_ | split
    | with_reducible refine Keeps.upd ?_

theorem Keeps.clockMark {μ : Nat} {s t : State} (h : Keeps μ s t) (hm : Sub 0x2000000 μ := by rfl) : Keeps μ s
    (State.clockMark t) := by
  refine Keeps.start h hm fun s h => ?_
  unfold State.clockMark
  repeat' first | with_reducible assumption | exact rfl | with_reducible refine Keeps.upd ?_

theorem Keeps.moveClock {μ : Nat} {s t : State} (h : Keeps μ s t) (t' : Int) (hm : Sub
    0x270002040000000000000000000000000000000000000000000000000002800020 μ := by rfl) : Keeps μ s (State.moveClock t
    t') := by
  refine Keeps.start h hm fun s h => ?_
  unfold State.moveClock
  dsimp only
  refine Keeps.foldl (Keeps.setB (Keeps.bump (Keeps.upd (h.setClk (Clock.setTotal_ok _ _))) _ _) _ _ _) (fun _ _ k => k.recompute _ _)

theorem Keeps.stepClock {μ : Nat} {s t : State} (h : Keeps μ s t) (d : Int) (hm : Sub
    0x270002040000000000000000000000000000000000000000000000000002800020 μ := by rfl) : Keeps μ s (State.stepClock t
    d) := by
  refine Keeps.start h hm fun s h => ?_
  unfold State.stepClock
  try dsimp only
  repeat' first
    | with_reducible assumption | exact rfl | with_reducible apply Keeps.ticks | with_reducible apply Keeps.moveClock

theorem Keeps.setClock {μ : Nat} {s t : State} (h : Keeps μ s t) (w : Nat) (hm : Sub
    0x270002040000000000000000000000000000000000000000000000000002800020 μ := by rfl) : Keeps μ s (State.setClock t w)
    := by
  refine Keeps.start h hm fun s h => ?_
  unfold State.setClock
  repeat' first
    | with_reducible assumption | exact rfl | with_reducible apply Keeps.ticks | with_reducible apply Keeps.moveClock
    | split

theorem Keeps.execClockSet {μ : Nat} {s t : State} (h : Keeps μ s t) (p : Path) (v : Word) (hm : Sub
    0x270002040000000000000000000000000000000000000000000000000002800020 μ := by rfl) : KeepsO μ s
    (Sys2Proof.Machine.execClockSet p v t) := by
  refine Keeps.startO h hm fun s h => ?_
  unfold Sys2Proof.Machine.execClockSet
  repeat' first
    | with_reducible assumption | exact rfl | with_reducible apply Keeps.setClock | with_reducible apply Keeps.next
    | split

theorem Keeps.execClockStep {μ : Nat} {s t : State} (h : Keeps μ s t) (p : Path) (v : Word) (hm : Sub
    0x270002040000000000000000000000000000000000000000000000000002800020 μ := by rfl) : KeepsO μ s
    (Sys2Proof.Machine.execClockStep p v t) := by
  refine Keeps.startO h hm fun s h => ?_
  unfold Sys2Proof.Machine.execClockStep
  repeat' first
    | with_reducible assumption | exact rfl | with_reducible apply Keeps.stepClock | with_reducible apply Keeps.next
    | split

theorem Keeps.readClkNs {μ : Nat} {s t : State} (h : Keeps μ s t) (hm : Sub
    0x180000000000000000000000000000000000000000000000000000000 μ := by rfl) : Keeps μ s (State.readClkNs t).1 := by
  refine Keeps.start h hm fun s h => ?_
  unfold State.readClkNs
  repeat' first | with_reducible assumption | exact rfl | with_reducible apply Keeps.wr

theorem Keeps.execClkNsRead {μ : Nat} {s t : State} (h : Keeps μ s t) (p : Path) (hm : Sub
    0x180000000000000000000000000000000000000000000001000000000 μ := by rfl) : KeepsO μ s
    (Sys2Proof.Machine.execClkNsRead p t) := by
  refine Keeps.startO h hm fun s h => ?_
  unfold Sys2Proof.Machine.execClkNsRead
  try dsimp only
  repeat' first
    | with_reducible assumption | exact rfl | with_reducible apply Keeps.readClkNs | with_reducible apply Keeps.next
    | with_reducible refine Keeps.fst (by assumption) ?_ | split | with_reducible refine Keeps.upd ?_

theorem Keeps.setCap {μ : Nat} {s t : State} (h : Keeps μ s t) (k : Nat) (l : List Capture) (hm : Sub
    0x800000000000000000000000000000000000000000000000000000000001000000 μ := by rfl) : Keeps μ s (State.setCap t k l)
    := by
  refine Keeps.start h hm fun s h => ?_
  unfold State.setCap
  repeat' first
    | with_reducible assumption | exact rfl | with_reducible apply Keeps.wrF | with_reducible refine Keeps.upd ?_

theorem Keeps.execCaptureEdge {μ : Nat} {s t : State} (h : Keeps μ s t) (k : Nat) (v : Level) (hm : Sub
    0x8000040000000000000000000010800000000000000000000000000000000000000000000000000000000801000000 μ := by rfl) :
    KeepsO μ s (Sys2Proof.Machine.execCaptureEdge k v t) := by
  refine Keeps.startO h hm fun s h => ?_
  unfold Sys2Proof.Machine.execCaptureEdge
  try dsimp only
  repeat' first
    | with_reducible assumption | exact rfl | with_reducible apply Keeps.setB | with_reducible apply Keeps.bump
    | with_reducible apply Keeps.vector0 | with_reducible apply Keeps.setCap | with_reducible apply Keeps.next | split

theorem Keeps.popCap {μ : Nat} {s t : State} (h : Keeps μ s t) (k w : Nat) (hm : Sub
    0x800000000000000000000000000000000000000000000000000000000001000000 μ := by rfl) : Keeps μ s (State.popCap t k w)
    := by
  refine Keeps.start h hm fun s h => ?_
  unfold State.popCap
  repeat' first | with_reducible assumption | exact rfl | with_reducible apply Keeps.setCap | split

theorem Keeps.execCapturePop {μ : Nat} {s t : State} (h : Keeps μ s t) (p : Path) (k : Nat) (v : Word) (hm : Sub
    0x800000000000000000000000000000000000000000000000000000000001000000 μ := by rfl) : KeepsO μ s
    (Sys2Proof.Machine.execCapturePop p k v t) := by
  refine Keeps.startO h hm fun s h => ?_
  unfold Sys2Proof.Machine.execCapturePop
  repeat' first
    | with_reducible assumption | exact rfl | with_reducible apply Keeps.popCap | with_reducible apply Keeps.next
    | split

theorem Keeps.mapRef {μ : Nat} {s t : State} (h : Keeps μ s t) (alt : Bool) (f : RefSt → RefSt) (hm : Sub 0x2000000 μ
    := by rfl) : Keeps μ s (State.mapRef t alt f) := by
  refine Keeps.start h hm fun s h => ?_
  unfold State.mapRef
  repeat' first | with_reducible assumption | exact rfl | with_reducible refine Keeps.upd ?_

theorem Keeps.setIncr {μ : Nat} {s t : State} (h : Keeps μ s t) (hm : Sub
    0x200000000000000000000000000000000000000000000000002000000 μ := by rfl) : Keeps μ s (State.setIncr t) := by
  refine Keeps.start h hm fun s h => ?_
  unfold State.setIncr
  try dsimp only
  repeat' first
    | with_reducible assumption | exact rfl | with_reducible apply Keeps.wr | with_reducible apply Keeps.clockMark
    | split

theorem Keeps.incrBase {μ : Nat} {s t : State} (h : Keeps μ s t) (w : Nat) (hm : Sub
    0x600000000000000000000000000000000000000000000000002000000 μ := by rfl) : Keeps μ s (State.incrBase t w) := by
  refine Keeps.start h hm fun s h => ?_
  unfold State.incrBase
  repeat' first
    | with_reducible assumption | exact rfl | with_reducible apply Keeps.wr | with_reducible apply Keeps.setIncr
    | split

theorem Keeps.execIncrBaseWrite {μ : Nat} {s t : State} (h : Keeps μ s t) (p : Path) (v : Word) (hm : Sub
    0x600000000000000000000000000000000000000000000000002000000 μ := by rfl) : KeepsO μ s
    (Sys2Proof.Machine.execIncrBaseWrite p v t) := by
  refine Keeps.startO h hm fun s h => ?_
  unfold Sys2Proof.Machine.execIncrBaseWrite
  repeat' first
    | with_reducible assumption | exact rfl | with_reducible apply Keeps.incrBase | with_reducible apply Keeps.next
    | split

theorem Keeps.applyY {μ : Nat} {s t : State} (h : Keeps μ s t) (y : Int) (hm : Sub
    0x200200000000000000000000000000000000000000000000000002000000 μ := by rfl) : Keeps μ s (State.applyY t y) := by
  refine Keeps.start h hm fun s h => ?_
  unfold State.applyY
  try dsimp only
  repeat' first
    | with_reducible assumption | exact rfl | with_reducible apply Keeps.wr | with_reducible apply Keeps.setIncr
    | with_reducible refine Keeps.upd ?_

theorem Keeps.acquire {μ : Nat} {s t : State} (h : Keeps μ s t) (alt : Bool) (hm : Sub
    0x40000000000000000000000000000000000000000000000000002000000 μ := by rfl) : Keeps μ s (State.acquire t alt) := by
  refine Keeps.start h hm fun s h => ?_
  unfold State.acquire
  try dsimp only
  repeat' first
    | with_reducible assumption | exact rfl | with_reducible apply Keeps.wrF | with_reducible apply Keeps.mapRef
    | with_reducible refine Keeps.upd ?_

theorem Keeps.hold {μ : Nat} {s t : State} (h : Keeps μ s t) (code : Nat) (hm : Sub
    0x640200000000000000000000000000000000000000000000000002000000 μ := by rfl) : Keeps μ s (State.hold t code) := by
  refine Keeps.start h hm fun s h => ?_
  unfold State.hold
  try dsimp only
  repeat' first
    | with_reducible assumption | exact rfl | with_reducible apply Keeps.wr | with_reducible apply Keeps.wrF
    | with_reducible apply Keeps.applyY

theorem Keeps.loseRef {μ : Nat} {s t : State} (h : Keeps μ s t) (hm : Sub
    0x44c0200000004064020000000000000000000000000000000000000000000000081e000080 μ := by rfl) : Keeps μ s
    (State.loseRef t) := by
  refine Keeps.start h hm fun s h => ?_
  unfold State.loseRef
  try dsimp only
  repeat' first
    | with_reducible assumption | exact rfl | with_reducible apply Keeps.setB | with_reducible apply Keeps.alert
    | with_reducible apply Keeps.hold | split | with_reducible refine Keeps.upd ?_

theorem Keeps.suspect {μ : Nat} {s t : State} (h : Keeps μ s t) (f : Int) (hm : Sub
    0x8000040000000000000044c0200000004464020000000000000000000000000000000000000000000000081e000080 μ := by rfl) :
    Keeps μ s (State.suspect t f) := by
  refine Keeps.start h hm fun s h => ?_
  unfold State.suspect
  try dsimp only
  repeat' first
    | with_reducible assumption | exact rfl | with_reducible apply Keeps.setB | with_reducible apply Keeps.bump
    | with_reducible apply Keeps.vector0 | with_reducible apply Keeps.alert | with_reducible apply Keeps.hold
    | with_reducible refine Keeps.upd ?_

theorem Keeps.applySample {μ : Nat} {s t : State} (h : Keeps μ s t) (e : Int) (t' : Nat) (hm : Sub
    0x200200000000000000000000000000000000000000000000002002000000 μ := by rfl) : Keeps μ s (State.applySample t e t')
    := by
  refine Keeps.start h hm fun s h => ?_
  unfold State.applySample
  try dsimp only
  repeat' first
    | with_reducible assumption | exact rfl | with_reducible apply Keeps.freeUse | with_reducible apply Keeps.applyY
    | with_reducible refine Keeps.fst (by assumption) ?_ | with_reducible refine Keeps.snd (by assumption) ?_ | split
    | with_reducible refine Keeps.upd ?_

theorem Keeps.servoJump {μ : Nat} {s t : State} (h : Keeps μ s t) (e : Int) (hm : Sub
    0x270002240200000000000000000000000000000000000000000000000002800020 μ := by rfl) : Keeps μ s (State.servoJump t
    e) := by
  refine Keeps.start h hm fun s h => ?_
  unfold State.servoJump
  repeat' first
    | with_reducible assumption | exact rfl | with_reducible apply Keeps.stepClock | with_reducible apply Keeps.applyY
    | with_reducible refine Keeps.upd ?_

theorem Keeps.servoSample {μ : Nat} {s t : State} (h : Keeps μ s t) (alt : Bool) (e : Int) (hm : Sub
    0x2700022c0200000000000000000000000000000000000000000000002002800020 μ := by rfl) : Keeps μ s (State.servoSample t
    alt e) := by
  refine Keeps.start h hm fun s h => ?_
  unfold State.servoSample
  try dsimp only
  repeat' first
    | with_reducible assumption | exact rfl | with_reducible apply Keeps.wr | with_reducible apply Keeps.wrF
    | with_reducible apply Keeps.mapRef | with_reducible apply Keeps.acquire | with_reducible apply Keeps.applySample
    | with_reducible apply Keeps.servoJump | with_reducible refine Keeps.fst (by assumption) ?_ | split
    | with_reducible refine Keeps.upd ?_

theorem Keeps.execServoSyncTimeout {μ : Nat} {s t : State} (h : Keeps μ s t) (hm : Sub
    0x44c0200000004064020000000000000000000000000000000000000000000000081e0000a0 μ := by rfl) : KeepsO μ s
    (Sys2Proof.Machine.execServoSyncTimeout t) := by
  refine Keeps.startO h hm fun s h => ?_
  unfold Sys2Proof.Machine.execServoSyncTimeout
  repeat' first
    | with_reducible assumption | exact rfl | with_reducible apply Keeps.runTo | with_reducible apply Keeps.loseRef
    | with_reducible apply Keeps.next | split

theorem Keeps.execPtpAnnounceTimeout {μ : Nat} {s t : State} (h : Keeps μ s t) (hm : Sub
    0x44c0200000004064020000000000000000000000000000000000000000000000081e0000a0 μ := by rfl) : KeepsO μ s
    (Sys2Proof.Machine.execPtpAnnounceTimeout t) := by
  refine Keeps.startO h hm fun s h => ?_
  unfold Sys2Proof.Machine.execPtpAnnounceTimeout
  repeat' first
    | with_reducible assumption | exact rfl | with_reducible apply Keeps.runTo | with_reducible apply Keeps.mapRef
    | with_reducible apply Keeps.loseRef | with_reducible apply Keeps.next | split
    | with_reducible refine Keeps.upd ?_

theorem Keeps.blockDecide {μ : Nat} {s t : State} (h : Keeps μ s t) (f : Option Int) (hm : Sub
    0x8000040000000000000044c0200000004464020000000000000000000000000000000000000000000000081e000080 μ := by rfl) :
    Keeps μ s (State.blockDecide t f) := by
  refine Keeps.start h hm fun s h => ?_
  unfold State.blockDecide
  try dsimp only
  repeat' first
    | with_reducible assumption | exact rfl | with_reducible apply Keeps.acquire | with_reducible apply Keeps.suspect
    | split | with_reducible refine Keeps.upd ?_

theorem Keeps.execServoBlockEnd {μ : Nat} {s t : State} (h : Keeps μ s t) (hm : Sub
    0x8000040000000000000044c02000000045e4020000000000000000000000000000000000000000000000081e0000a0 μ := by rfl) :
    KeepsO μ s (Sys2Proof.Machine.execServoBlockEnd t) := by
  refine Keeps.startO h hm fun s h => ?_
  unfold Sys2Proof.Machine.execServoBlockEnd
  try dsimp only
  repeat' first
    | with_reducible assumption | exact rfl | with_reducible apply Keeps.wr | with_reducible apply Keeps.wrF
    | with_reducible apply Keeps.runTo | with_reducible apply Keeps.blockDecide | with_reducible apply Keeps.next
    | with_reducible refine Keeps.fst (by assumption) ?_ | split | with_reducible refine Keeps.upd ?_

theorem Keeps.servoCommit {μ : Nat} {s t : State} (h : Keeps μ s t) (hm : Sub
    0x240200000000000000000000000000000000000000000000000002000000 μ := by rfl) : Keeps μ s (State.servoCommit t) :=
    by
  refine Keeps.start h hm fun s h => ?_
  unfold State.servoCommit
  try dsimp only
  repeat' first
    | with_reducible assumption | exact rfl | with_reducible apply Keeps.wrF | with_reducible apply Keeps.setIncr
    | with_reducible apply Keeps.applyY | with_reducible apply Keeps.acquire | split
    | with_reducible refine Keeps.upd ?_

theorem Keeps.holdEvent {μ : Nat} {s t : State} (h : Keeps μ s t) (q kind : Nat) (hm : Sub
    0xc0000000000000000000000000000000000000000000000000000004000000 μ := by rfl) : Keeps μ s (State.holdEvent t q
    kind) := by
  refine Keeps.start h hm fun s h => ?_
  unfold State.holdEvent
  try dsimp only
  repeat' first
    | with_reducible assumption | exact rfl | with_reducible apply Keeps.setB | with_reducible apply Keeps.bump
    | with_reducible refine Keeps.upd ?_

theorem Keeps.nextSeq {μ : Nat} {s t : State} (h : Keeps μ s t) (k : Nat) (hm : Sub 0x4000000 μ := by rfl) : Keeps μ s
    (State.nextSeq t k).2 := by
  refine Keeps.start h hm fun s h => ?_
  unfold State.nextSeq
  try dsimp only
  repeat' first | with_reducible assumption | exact rfl | with_reducible refine Keeps.upd ?_

theorem Keeps.sendPtp {μ : Nat} {s t : State} (h : Keeps μ s t) (u kind seq time : Nat) (corr : Int) (req : Nat) (ann
    : Option Announce) (hm : Sub 0x44c0000000004000000000000000000000000000000000000000000000000000080c000080 μ := by
    rfl) : Keeps μ s (State.sendPtp t u kind seq time corr req ann) := by
  refine Keeps.start h hm fun s h => ?_
  unfold State.sendPtp
  repeat' first | with_reducible assumption | exact rfl | with_reducible apply Keeps.enqueue

theorem Keeps.sendEvent {μ : Nat} {s t : State} (h : Keeps μ s t) (u kind : Nat) (hm : Sub
    0x44c0000000004000000000000000000000000000000000000000000000000000080c000080 μ := by rfl) : Keeps μ s
    (State.sendEvent t u kind) := by
  refine Keeps.start h hm fun s h => ?_
  unfold State.sendEvent
  try dsimp only
  repeat' first
    | with_reducible assumption | exact rfl | with_reducible apply Keeps.setTxq | with_reducible apply Keeps.nextSeq
    | with_reducible apply Keeps.sendPtp | with_reducible refine Keeps.fst (by assumption) ?_ | split

theorem Keeps.eventDue {μ : Nat} {s t : State} (h : Keeps μ s t) (u kind : Nat) (hm : Sub
    0x44c000000000c000000000000000000000000000000000000000000000000000080c000080 μ := by rfl) : Keeps μ s
    (State.eventDue t u kind) := by
  refine Keeps.start h hm fun s h => ?_
  unfold State.eventDue
  repeat' first
    | with_reducible assumption | exact rfl | with_reducible apply Keeps.holdEvent
    | with_reducible apply Keeps.sendEvent | split

theorem Keeps.execPtpSyncTx {μ : Nat} {s t : State} (h : Keeps μ s t) (uplink : Nat) (hm : Sub
    0x44c000000000c000000000000000000000000000000000000000000000000000080c000080 μ := by rfl) : KeepsO μ s
    (Sys2Proof.Machine.execPtpSyncTx uplink t) := by
  refine Keeps.startO h hm fun s h => ?_
  unfold Sys2Proof.Machine.execPtpSyncTx
  repeat' first
    | with_reducible assumption | exact rfl | with_reducible apply Keeps.eventDue | with_reducible apply Keeps.next
    | split

theorem Keeps.execPtpAnnounceTx {μ : Nat} {s t : State} (h : Keeps μ s t) (uplink : Nat) (hm : Sub
    0x44c0000000004000000000000000000000000000000000000000000000000000080c000080 μ := by rfl) : KeepsO μ s
    (Sys2Proof.Machine.execPtpAnnounceTx uplink t) := by
  refine Keeps.startO h hm fun s h => ?_
  unfold Sys2Proof.Machine.execPtpAnnounceTx
  try dsimp only
  repeat' first
    | with_reducible assumption | exact rfl | with_reducible apply Keeps.nextSeq | with_reducible apply Keeps.sendPtp
    | with_reducible apply Keeps.next | with_reducible refine Keeps.fst (by assumption) ?_ | split

theorem Keeps.execPtpDelayReqTx {μ : Nat} {s t : State} (h : Keeps μ s t) (uplink : Nat) (hm : Sub
    0x44c000000000c000000000000000000000000000000000000000000000000000080c000080 μ := by rfl) : KeepsO μ s
    (Sys2Proof.Machine.execPtpDelayReqTx uplink t) := by
  refine Keeps.startO h hm fun s h => ?_
  unfold Sys2Proof.Machine.execPtpDelayReqTx
  repeat' first
    | with_reducible assumption | exact rfl | with_reducible apply Keeps.eventDue | with_reducible apply Keeps.next
    | split

theorem Keeps.execPtpDelayReqRx {μ : Nat} {s t : State} (h : Keeps μ s t) (m : PtpMsg) (hm : Sub
    0x44c0000000004000000000000000000000000000000000000000000000000000080c000080 μ := by rfl) : KeepsO μ s
    (Sys2Proof.Machine.execPtpDelayReqRx m t) := by
  refine Keeps.startO h hm fun s h => ?_
  unfold Sys2Proof.Machine.execPtpDelayReqRx
  repeat' first
    | with_reducible assumption | exact rfl | with_reducible apply Keeps.sendPtp | with_reducible apply Keeps.next
    | split

theorem Keeps.execPtpAnnounceRx {μ : Nat} {s t : State} (h : Keeps μ s t) (uplink : Nat) (a : Announce) (hm : Sub
    0x200000000000000000000000000000000000000000000000000000002000000 μ := by rfl) : KeepsO μ s
    (Sys2Proof.Machine.execPtpAnnounceRx uplink a t) := by
  refine Keeps.startO h hm fun s h => ?_
  unfold Sys2Proof.Machine.execPtpAnnounceRx
  try dsimp only
  repeat' first
    | with_reducible assumption | exact rfl | with_reducible apply Keeps.bump | with_reducible apply Keeps.mapRef
    | with_reducible apply Keeps.next | with_reducible refine Keeps.fst (by assumption) ?_ | split
    | with_reducible refine Keeps.upd ?_

theorem Keeps.syncDone {μ : Nat} {s t : State} (h : Keeps μ s t) (alt : Bool) (t1 t2 : Int) (hm : Sub
    0x2700022c0200000000000000000000000000000000000000000000002002800020 μ := by rfl) : Keeps μ s (State.syncDone t
    alt t1 t2) := by
  refine Keeps.start h hm fun s h => ?_
  unfold State.syncDone
  try dsimp only
  repeat' first
    | with_reducible assumption | exact rfl | with_reducible apply Keeps.mapRef
    | with_reducible apply Keeps.servoSample | split | with_reducible refine Keeps.upd ?_

theorem Keeps.execPtpSyncRx {μ : Nat} {s t : State} (h : Keeps μ s t) (m : PtpMsg) (hm : Sub
    0x2700022c0200000000000000000000000000000000000000000000002002800020 μ := by rfl) : KeepsO μ s
    (Sys2Proof.Machine.execPtpSyncRx m t) := by
  refine Keeps.startO h hm fun s h => ?_
  unfold Sys2Proof.Machine.execPtpSyncRx
  repeat' first
    | with_reducible assumption | exact rfl | with_reducible apply Keeps.mapRef | with_reducible apply Keeps.syncDone
    | with_reducible apply Keeps.next | with_reducible refine Keeps.fst (by assumption) ?_ | split
    | with_reducible refine Keeps.upd ?_

theorem Keeps.execPtpFollowUpRx {μ : Nat} {s t : State} (h : Keeps μ s t) (m : PtpMsg) (hm : Sub
    0x2700022c0200000000000000000000000000000000000000000000002002800020 μ := by rfl) : KeepsO μ s
    (Sys2Proof.Machine.execPtpFollowUpRx m t) := by
  refine Keeps.startO h hm fun s h => ?_
  unfold Sys2Proof.Machine.execPtpFollowUpRx
  repeat' first
    | with_reducible assumption | exact rfl | with_reducible apply Keeps.syncDone | with_reducible apply Keeps.next
    | with_reducible refine Keeps.fst (by assumption) ?_ | split | with_reducible refine Keeps.upd ?_

theorem Keeps.addDelay {μ : Nat} {s t : State} (h : Keeps μ s t) (alt : Bool) (d : Int) (hm : Sub
    0x100000000000000000000000000000000000000000000000000002000000 μ := by rfl) : Keeps μ s (State.addDelay t alt d)
    := by
  refine Keeps.start h hm fun s h => ?_
  unfold State.addDelay
  try dsimp only
  repeat' first
    | with_reducible assumption | exact rfl | with_reducible apply Keeps.wr | with_reducible apply Keeps.mapRef
    | split | with_reducible refine Keeps.upd ?_

theorem Keeps.execPtpDelayRespRx {μ : Nat} {s t : State} (h : Keeps μ s t) (m : PtpMsg) (hm : Sub
    0x40100000000000000000000000000000000000000000000000000006000000 μ := by rfl) : KeepsO μ s
    (Sys2Proof.Machine.execPtpDelayRespRx m t) := by
  refine Keeps.startO h hm fun s h => ?_
  unfold Sys2Proof.Machine.execPtpDelayRespRx
  try dsimp only
  repeat' first
    | with_reducible assumption | exact rfl | with_reducible apply Keeps.setTxq | with_reducible apply Keeps.addDelay
    | with_reducible apply Keeps.next | with_reducible refine Keeps.fst (by assumption) ?_ | split
    | with_reducible refine Keeps.upd ?_

theorem Keeps.execDelayReqTimeout {μ : Nat} {s t : State} (h : Keeps μ s t) (uplink : Nat) (hm : Sub
    0x140000000000000000000000000000000000000000000000000000004000020 μ := by rfl) : KeepsO μ s
    (Sys2Proof.Machine.execDelayReqTimeout uplink t) := by
  refine Keeps.startO h hm fun s h => ?_
  unfold Sys2Proof.Machine.execDelayReqTimeout
  try dsimp only
  repeat' first
    | with_reducible assumption | exact rfl | with_reducible apply Keeps.bump | with_reducible apply Keeps.runTo
    | with_reducible apply Keeps.setTxq | with_reducible apply Keeps.next
    | with_reducible refine Keeps.fst (by assumption) ?_ | split | with_reducible refine Keeps.upd ?_

theorem Keeps.agedTie {μ : Nat} {s t : State} (h : Keeps μ s t) (hm : Sub
    0x40000000000000000000000000000000000000000000000000000004000000 μ := by rfl) : Keeps μ s (State.agedTie t) := by
  refine Keeps.start h hm fun s h => ?_
  unfold State.agedTie
  repeat' first | with_reducible assumption | exact rfl | with_reducible apply Keeps.setTxq

theorem Keeps.sendTieEvent {μ : Nat} {s t : State} (h : Keeps μ s t) (kind : Nat) (hm : Sub
    0x40000000000000000000000000000000000000000000000000000804000000 μ := by rfl) : Keeps μ s (State.sendTieEvent t
    kind) := by
  refine Keeps.start h hm fun s h => ?_
  unfold State.sendTieEvent
  try dsimp only
  repeat' first
    | with_reducible assumption | exact rfl | with_reducible apply Keeps.setTxq | with_reducible apply Keeps.freeStamp
    | with_reducible apply Keeps.tieSend | with_reducible apply Keeps.nextSeq
    | with_reducible refine Keeps.fst (by assumption) ?_ | split

theorem Keeps.tieEventDue {μ : Nat} {s t : State} (h : Keeps μ s t) (kind : Nat) (hm : Sub
    0xc0000000000000000000000000000000000000000000000000000804000000 μ := by rfl) : Keeps μ s (State.tieEventDue t
    kind) := by
  refine Keeps.start h hm fun s h => ?_
  unfold State.tieEventDue
  try dsimp only
  repeat' first
    | with_reducible assumption | exact rfl | with_reducible apply Keeps.holdEvent
    | with_reducible apply Keeps.agedTie | with_reducible apply Keeps.sendTieEvent | split

theorem Keeps.execPtpHeldMessageSend {μ : Nat} {s t : State} (h : Keeps μ s t) (queue : Nat) (hm : Sub
    0x44c0000000004000000000000000000000000000000000000000000000000000080c000080 μ := by rfl) : KeepsO μ s
    (Sys2Proof.Machine.execPtpHeldMessageSend queue t) := by
  refine Keeps.startO h hm fun s h => ?_
  unfold Sys2Proof.Machine.execPtpHeldMessageSend
  try dsimp only
  repeat' first
    | with_reducible assumption | exact rfl | with_reducible apply Keeps.sendEvent
    | with_reducible apply Keeps.agedTie | with_reducible apply Keeps.sendTieEvent | with_reducible apply Keeps.next
    | with_reducible refine Keeps.fst (by assumption) ?_ | split | with_reducible refine Keeps.upd ?_

theorem Keeps.nextEpoch {μ : Nat} {s t : State} (h : Keeps μ s t) (k : Nat) (hm : Sub 0x400000000000000000000000 μ :=
    by rfl) : Keeps μ s (State.nextEpoch t k) := by
  refine Keeps.start h hm fun s h => ?_
  unfold State.nextEpoch
  repeat' first | with_reducible assumption | exact rfl | with_reducible apply Keeps.wrF

theorem Keeps.dropForwards {μ : Nat} {s t : State} (h : Keeps μ s t) (hm : Sub
    0x40000000000000000000000000000000000000000000000000000000000000000000008000000 μ := by rfl) : Keeps μ s
    (State.dropForwards t) := by
  refine Keeps.start h hm fun s h => ?_
  unfold State.dropForwards
  try dsimp only
  repeat' first
    | with_reducible assumption | exact rfl | with_reducible apply Keeps.addF | with_reducible apply Keeps.mapItems
    | with_reducible refine Keeps.foldl ?_ (fun _ _ _ => ?_) | split

theorem Keeps.leaveUp {μ : Nat} {s t : State} (h : Keeps μ s t) (u code : Nat) (hm : Sub
    0x40044c0204000004000000000000000000000000000000000000000000000000000081c000080 μ := by rfl) : Keeps μ s
    (State.leaveUp t u code) := by
  refine Keeps.start h hm fun s h => ?_
  unfold State.leaveUp
  try dsimp only
  repeat' first
    | with_reducible assumption | exact rfl | with_reducible apply Keeps.wrF | with_reducible apply Keeps.addF
    | with_reducible apply Keeps.setUplink | with_reducible apply Keeps.discard | with_reducible apply Keeps.alertPump
    | with_reducible apply Keeps.dropForwards | with_reducible refine Keeps.foldl ?_ (fun _ _ _ => ?_) | split
    | with_reducible refine Keeps.upd ?_

theorem Keeps.execUplinkUp {μ : Nat} {s t : State} (h : Keeps μ s t) (uplink : Nat) (hm : Sub
    0x44c0204000004000000000000000000000000000000000000000000000000000081c000080 μ := by rfl) : KeepsO μ s
    (Sys2Proof.Machine.execUplinkUp uplink t) := by
  refine Keeps.startO h hm fun s h => ?_
  unfold Sys2Proof.Machine.execUplinkUp
  repeat' first
    | with_reducible assumption | exact rfl | with_reducible apply Keeps.wrF | with_reducible apply Keeps.startTx
    | with_reducible apply Keeps.alert | with_reducible apply Keeps.next
    | with_reducible refine Keeps.fst (by assumption) ?_ | split | with_reducible refine Keeps.upd ?_

theorem Keeps.execUplinkDown {μ : Nat} {s t : State} (h : Keeps μ s t) (uplink : Nat) (modAbs los txFault : Bool) (hm
    : Sub 0x40044c0204000004000000000000000000000000000000000000000000000000000081c000080 μ := by rfl) : KeepsO μ s
    (Sys2Proof.Machine.execUplinkDown uplink modAbs los txFault t) := by
  refine Keeps.startO h hm fun s h => ?_
  unfold Sys2Proof.Machine.execUplinkDown
  try dsimp only
  repeat' first
    | with_reducible assumption | exact rfl | with_reducible apply Keeps.wrF | with_reducible apply Keeps.leaveUp
    | with_reducible apply Keeps.next | split

theorem Keeps.execUplinkRetrain {μ : Nat} {s t : State} (h : Keeps μ s t) (uplink errors : Nat) (hm : Sub
    0x8000040000000000040044c023c000004000000000000000000000000000000000000040000000000000081c000080 μ := by rfl) :
    KeepsO μ s (Sys2Proof.Machine.execUplinkRetrain uplink errors t) := by
  refine Keeps.startO h hm fun s h => ?_
  unfold Sys2Proof.Machine.execUplinkRetrain
  try dsimp only
  repeat' first
    | with_reducible assumption | exact rfl | with_reducible apply Keeps.setB | with_reducible apply Keeps.addF
    | with_reducible apply Keeps.bump | with_reducible apply Keeps.vector0 | with_reducible apply Keeps.setUplink
    | with_reducible apply Keeps.alert | with_reducible apply Keeps.nextEpoch | with_reducible apply Keeps.leaveUp
    | with_reducible apply Keeps.next | with_reducible refine Keeps.fst (by assumption) ?_ | split
    | with_reducible refine Keeps.upd ?_

theorem Keeps.execRetrainEnd {μ : Nat} {s t : State} (h : Keeps μ s t) (uplink : Nat) (hm : Sub
    0x40000000000000000000000000000000000000000000000000000000000000000020 μ := by rfl) : KeepsO μ s
    (Sys2Proof.Machine.execRetrainEnd uplink t) := by
  refine Keeps.startO h hm fun s h => ?_
  unfold Sys2Proof.Machine.execRetrainEnd
  repeat' first
    | with_reducible assumption | exact rfl | with_reducible apply Keeps.wrF | with_reducible apply Keeps.runTo
    | with_reducible apply Keeps.next | split

theorem Keeps.dropFrame {μ : Nat} {s t : State} (h : Keeps μ s t) (u : Nat) (h' : RxHead) (hm : Sub
    0xc00000000000000000000000000000000000000000000000000000000000000000000 μ := by rfl) : Keeps μ s (State.dropFrame
    t u h') := by
  refine Keeps.start h hm fun s h => ?_
  unfold State.dropFrame
  repeat' first | with_reducible assumption | exact rfl | with_reducible apply Keeps.bump | split

theorem Keeps.execFrameDrop {μ : Nat} {s t : State} (h : Keeps μ s t) (uplink : Nat) (f : RxFrame) (hm : Sub
    0xc00000000000000000000000000000000000000000000000000000000000000000000 μ := by rfl) : KeepsO μ s
    (Sys2Proof.Machine.execFrameDrop uplink f t) := by
  refine Keeps.startO h hm fun s h => ?_
  unfold Sys2Proof.Machine.execFrameDrop
  repeat' first
    | with_reducible assumption | exact rfl | with_reducible apply Keeps.dropFrame | with_reducible apply Keeps.next
    | split

theorem Keeps.execFrameTxEnd {μ : Nat} {s t : State} (h : Keeps μ s t) (uplink : Nat) (hm : Sub
    0x44c0000000004000000000000000000000000000000000000000000000000000080c0000a0 μ := by rfl) : KeepsO μ s
    (Sys2Proof.Machine.execFrameTxEnd uplink t) := by
  refine Keeps.startO h hm fun s h => ?_
  unfold Sys2Proof.Machine.execFrameTxEnd
  try dsimp only
  repeat' first
    | with_reducible assumption | exact rfl | with_reducible apply Keeps.runTo | with_reducible apply Keeps.setUplink
    | with_reducible apply Keeps.startTx | with_reducible apply Keeps.next | split
    | with_reducible refine Keeps.upd ?_

theorem Keeps.modCmd {μ : Nat} {s t : State} (h : Keeps μ s t) (u w : Nat) (hm : Sub
    0x140000000000000000000000000000000000000000000000000000000000000000000000 μ := by rfl) : Keeps μ s (State.modCmd
    t u w) := by
  refine Keeps.start h hm fun s h => ?_
  unfold State.modCmd
  repeat' first
    | with_reducible assumption | exact rfl | with_reducible apply Keeps.wr | with_reducible apply Keeps.setB | split

theorem Keeps.modEnd {μ : Nat} {s t : State} (h : Keeps μ s t) (u : Nat) (r : CciResult) (data : Byte) (hm : Sub
    0x180000000000000000000000000000000000000000000000000000000000000800000000 μ := by rfl) : Keeps μ s (State.modEnd
    t u r data) := by
  refine Keeps.start h hm fun s h => ?_
  unfold State.modEnd
  try dsimp only
  repeat' first
    | with_reducible assumption | exact rfl | with_reducible apply Keeps.wr | with_reducible apply Keeps.setB
    | with_reducible apply Keeps.clrB | with_reducible apply Keeps.emit | split

theorem Keeps.execModuleRead {μ : Nat} {s t : State} (h : Keeps μ s t) (p : Path) (uplink : Nat) (v : Word) (r :
    CciResult) (data : Byte) (hm : Sub 0x1c0000000000000000000000000000000000000000000000000000000000000800000000 μ :=
    by rfl) : KeepsO μ s (Sys2Proof.Machine.execModuleRead p uplink v r data t) := by
  refine Keeps.startO h hm fun s h => ?_
  unfold Sys2Proof.Machine.execModuleRead
  repeat' first
    | with_reducible assumption | exact rfl | with_reducible apply Keeps.modCmd | with_reducible apply Keeps.modEnd
    | with_reducible apply Keeps.next | split

theorem Keeps.execModuleWrite {μ : Nat} {s t : State} (h : Keeps μ s t) (p : Path) (uplink : Nat) (v : Word) (r :
    CciResult) (hm : Sub 0x1c0000000000000000000000000000000000000000000000000000000000000800000000 μ := by rfl) :
    KeepsO μ s (Sys2Proof.Machine.execModuleWrite p uplink v r t) := by
  refine Keeps.startO h hm fun s h => ?_
  unfold Sys2Proof.Machine.execModuleWrite
  repeat' first
    | with_reducible assumption | exact rfl | with_reducible apply Keeps.modCmd | with_reducible apply Keeps.modEnd
    | with_reducible apply Keeps.next | split

theorem Keeps.installKey {μ : Nat} {s t : State} (h : Keeps μ s t) (v : Nat) (key : List Byte) (owned : Bool) (hm :
    Sub 0x8000000 μ := by rfl) : Keeps μ s (State.installKey t v key owned) := by
  refine Keeps.start h hm fun s h => ?_
  unfold State.installKey
  repeat' first | with_reducible assumption | exact rfl | with_reducible refine Keeps.upd ?_

theorem Keeps.giveKey {μ : Nat} {s t : State} (h : Keeps μ s t) (v : Nat) (key : List Byte) (hm : Sub 0x8000000 μ :=
    by rfl) : Keeps μ s (State.giveKey t v key) := by
  refine Keeps.start h hm fun s h => ?_
  unfold State.giveKey
  repeat' first
    | with_reducible assumption | exact rfl | with_reducible apply Keeps.installKey
    | with_reducible refine Keeps.fst (by assumption) ?_ | split | with_reducible refine Keeps.upd ?_

theorem Keeps.keyData {μ : Nat} {s t : State} (h : Keeps μ s t) (k w : Nat) (hm : Sub
    0x10000000000000000000000000000000000000000000000000000000000000000008000000 μ := by rfl) : Keeps μ s
    (State.keyData t k w) := by
  refine Keeps.start h hm fun s h => ?_
  unfold State.keyData
  try dsimp only
  repeat' first
    | with_reducible assumption | exact rfl | with_reducible apply Keeps.wr | with_reducible apply Keeps.giveKey
    | split

theorem Keeps.execKeyInstall {μ : Nat} {s t : State} (h : Keeps μ s t) (p : Path) (v : Word) (hm : Sub
    0x10000000000000000000000000000000000000000000000000000000000000000008000000 μ := by rfl) : KeepsO μ s
    (Sys2Proof.Machine.execKeyInstall p v t) := by
  refine Keeps.startO h hm fun s h => ?_
  unfold Sys2Proof.Machine.execKeyInstall
  repeat' first
    | with_reducible assumption | exact rfl | with_reducible apply Keeps.keyData | with_reducible apply Keeps.next
    | split

theorem Keeps.takeSeq {μ : Nat} {s t : State} (h : Keeps μ s t) (v seq : Nat) (hm : Sub 0x8000000 μ := by rfl) : Keeps
    μ s (State.takeSeq t v seq) := by
  refine Keeps.start h hm fun s h => ?_
  unfold State.takeSeq
  repeat' first
    | with_reducible assumption | exact rfl | with_reducible refine Keeps.fst (by assumption) ?_ | split
    | with_reducible refine Keeps.upd ?_

theorem Keeps.requestToken {μ : Nat} {s t : State} (h : Keeps μ s t) (v : Nat) (hm : Sub 0x400000 μ := by rfl) : Keeps
    μ s (State.requestToken t v).1 := by
  refine Keeps.start h hm fun s h => ?_
  unfold State.requestToken
  try dsimp only
  repeat' first
    | with_reducible assumption | exact rfl | with_reducible refine Keeps.fst (by assumption) ?_ | split
    | with_reducible refine Keeps.upd ?_

theorem Keeps.ysfAccept {μ : Nat} {s t : State} (h : Keeps μ s t) (u typ : Nat) (m : ControlMsg) (hm : Sub
    0x1c00000000000000800000000000000000000000000000000000000000000008400000 μ := by rfl) : Keeps μ s (State.ysfAccept
    t u typ m).1 := by
  refine Keeps.start h hm fun s h => ?_
  unfold State.ysfAccept
  try dsimp only
  repeat' first
    | with_reducible assumption | exact rfl | with_reducible apply Keeps.bump | with_reducible apply Keeps.dropFrame
    | with_reducible apply Keeps.takeSeq | with_reducible apply Keeps.requestToken
    | with_reducible refine Keeps.fst (by assumption) ?_ | split

theorem Keeps.controlReply {μ : Nat} {s t : State} (h : Keeps μ s t) (u : Nat) (m : ControlMsg) (v : Nat) (data : List
    Byte) (hm : Sub 0x44c0000000004000000000000000000000000000000000000000000000000000080c000080 μ := by rfl) : Keeps
    μ s (State.controlReply t u m v data) := by
  refine Keeps.start h hm fun s h => ?_
  unfold State.controlReply
  try dsimp only
  repeat' first | with_reducible assumption | exact rfl | with_reducible apply Keeps.enqueue

theorem Keeps.imageReply {μ : Nat} {s t : State} (h : Keeps μ s t) (r : Request) (status : Nat) (data : List Byte) (hm
    : Sub 0x44c0000000004000000000000000000000000000000000000000000000000000080c000080 μ := by rfl) : Keeps μ s
    (State.imageReply t r status data) := by
  refine Keeps.start h hm fun s h => ?_
  unfold State.imageReply
  try dsimp only
  repeat' first
    | with_reducible assumption | exact rfl | with_reducible apply Keeps.enqueue
    | with_reducible refine Keeps.foldl ?_ (fun _ _ _ => ?_)
    | with_reducible refine Keeps.foldl_fst ?_ (fun _ _ _ => ?_)

theorem Keeps.setRequests {μ : Nat} {s t : State} (h : Keeps μ s t) (l : List Request) (hm : Sub
    0x2000000000000000000000000000000000000000000000000400000 μ := by rfl) : Keeps μ s (State.setRequests t l) := by
  refine Keeps.start h hm fun s h => ?_
  unfold State.setRequests
  repeat' first
    | with_reducible assumption | exact rfl | with_reducible apply Keeps.wrF | with_reducible refine Keeps.upd ?_

theorem Keeps.execImageRequest {μ : Nat} {s t : State} (h : Keeps μ s t) (uplink : Nat) (m : ControlMsg) (hm : Sub
    0x1c00000000000003c00000000000000000000000000000000000000000000008400000 μ := by rfl) : KeepsO μ s
    (Sys2Proof.Machine.execImageRequest uplink m t) := by
  refine Keeps.startO h hm fun s h => ?_
  unfold Sys2Proof.Machine.execImageRequest
  try dsimp only
  repeat' first
    | with_reducible assumption | exact rfl | with_reducible apply Keeps.bump | with_reducible apply Keeps.ysfAccept
    | with_reducible apply Keeps.setRequests | with_reducible apply Keeps.next
    | with_reducible refine Keeps.fst (by assumption) ?_ | split | with_reducible refine Keeps.upd ?_

theorem Keeps.endRequest {μ : Nat} {s t : State} (h : Keeps μ s t) (r : Request) (hm : Sub
    0x2000000000000000000000000000000000000000000000000400000 μ := by rfl) : Keeps μ s (State.endRequest t r) := by
  refine Keeps.start h hm fun s h => ?_
  unfold State.endRequest
  repeat' first | with_reducible assumption | exact rfl | with_reducible apply Keeps.setRequests

theorem Keeps.mapRequest {μ : Nat} {s t : State} (h : Keeps μ s t) (r : Request) (f : Request → Request) (hm : Sub
    0x2000000000000000000000000000000000000000000000000400000 μ := by rfl) : Keeps μ s (State.mapRequest t r f) := by
  refine Keeps.start h hm fun s h => ?_
  unfold State.mapRequest
  repeat' first | with_reducible assumption | exact rfl | with_reducible apply Keeps.setRequests | split

theorem Keeps.serveRead {μ : Nat} {s t : State} (h : Keeps μ s t) (r : Request) (e w : Elem) (m : MemAnswers) (hm :
    Sub 0x38000042000000000000044c02000000040000006200000000000000008000061c00000be000000000000481c40388c μ := by rfl)
    : Keeps μ s (State.serveRead t r e w m) := by
  refine Keeps.start h hm fun s h => ?_
  unfold State.serveRead
  try dsimp only
  repeat' first
    | with_reducible assumption | exact rfl | with_reducible apply Keeps.bump
    | with_reducible apply Keeps.enterFermata | with_reducible apply Keeps.svcRead
    | with_reducible apply Keeps.imageReply | with_reducible apply Keeps.endRequest
    | with_reducible apply Keeps.mapRequest | with_reducible refine Keeps.fst (by assumption) ?_ | split
    | with_reducible refine Keeps.upd ?_

theorem Keeps.serveTiles {μ : Nat} {s t : State} (h : Keeps μ s t) (r : Request) (k cost : Nat) (lent : Bool) (hm :
    Sub 0x200c000000000000000000000000000000000000000000000400020 μ := by rfl) : Keeps μ s (State.serveTiles t r k
    cost lent) := by
  refine Keeps.start h hm fun s h => ?_
  unfold State.serveTiles
  extract_lets s1 a b s2
  have k1 : Keeps 0x200c000000000000000000000000000000000000000000000400020 s s1 := (h.runTo _).addF _ _ _ _ _
  have k2 : Keeps 0x200c000000000000000000000000000000000000000000000400020 s s2 := by
    unfold s2 b a
    cases lent
    · exact k1.upd
    · exact (k1.addF .ENG_LENT 6 31 0 k).upd
  exact k2.mapRequest _ _

theorem Keeps.serveHeld {μ : Nat} {s t : State} (h : Keeps μ s t) (r : Request) (e w : Elem) (n cost : Nat) (lent :
    Bool) (m : MemAnswers) (hm : Sub
    0x38000042000000000000044c0200000004000000620c000000000000008000061c00000be000000000000481c4038ac μ := by rfl) :
    Keeps μ s (State.serveHeld t r e w n cost lent m) := by
  refine Keeps.start h hm fun s h => ?_
  unfold State.serveHeld
  try dsimp only
  repeat' first
    | with_reducible assumption | exact rfl | with_reducible apply Keeps.bump | with_reducible apply Keeps.imageReply
    | with_reducible apply Keeps.endRequest | with_reducible apply Keeps.serveRead
    | with_reducible apply Keeps.serveTiles | with_reducible refine Keeps.fst (by assumption) ?_ | split
    | with_reducible refine Keeps.upd ?_

theorem Keeps.serveViolation {μ : Nat} {s t : State} (h : Keeps μ s t) (r : Request) (elem : Nat) (hm : Sub
    0x8000040000000000000044c00000000040000002000000000000000000000000000000be000000000000680c400080 μ := by rfl) :
    Keeps μ s (State.serveViolation t r elem) := by
  refine Keeps.start h hm fun s h => ?_
  unfold State.serveViolation
  try dsimp only
  repeat' first
    | with_reducible assumption | exact rfl | with_reducible apply Keeps.freeUse | with_reducible apply Keeps.violate
    | with_reducible apply Keeps.imageReply | with_reducible apply Keeps.endRequest
    | with_reducible refine Keeps.fst (by assumption) ?_ | with_reducible refine Keeps.snd (by assumption) ?_ | split

theorem Keeps.execServerRequestServe {μ : Nat} {s t : State} (h : Keeps μ s t) (voice : Nat) (m : MemAnswers) (hm :
    Sub 0x38000042000000000000044c0200000004000000620c000000000000008000061c00000be000000000000681c4038ac μ := by rfl)
    : KeepsO μ s (Sys2Proof.Machine.execServerRequestServe voice m t) := by
  refine Keeps.startO h hm fun s h => ?_
  unfold Sys2Proof.Machine.execServerRequestServe
  repeat' first
    | with_reducible assumption | exact rfl | with_reducible apply Keeps.serveHeld
    | with_reducible apply Keeps.serveViolation | with_reducible apply Keeps.next
    | with_reducible refine Keeps.fst (by assumption) ?_ | split | with_reducible refine Keeps.upd ?_

theorem Keeps.hwAnswer {μ : Nat} {s t : State} (h : Keeps μ s t) (u : Nat) (h' : RxHead) (b : NetBody) (hm : Sub
    0x44c0000000004000000000000000000000000000000000000000000000000000080c000080 μ := by rfl) : Keeps μ s
    (State.hwAnswer t u h' b) := by
  refine Keeps.start h hm fun s h => ?_
  unfold State.hwAnswer
  repeat' first | with_reducible assumption | exact rfl | with_reducible apply Keeps.enqueue

theorem Keeps.execArpRequest {μ : Nat} {s t : State} (h : Keeps μ s t) (uplink : Nat) (h' : RxHead) (ip target : Nat)
    (hm : Sub 0x44c00c0000004000000800000000000000000000000000000000000000000000080c000080 μ := by rfl) : KeepsO μ s
    (Sys2Proof.Machine.execArpRequest uplink h' ip target t) := by
  refine Keeps.startO h hm fun s h => ?_
  unfold Sys2Proof.Machine.execArpRequest
  repeat' first
    | with_reducible assumption | exact rfl | with_reducible apply Keeps.bump | with_reducible apply Keeps.dropFrame
    | with_reducible apply Keeps.hwAnswer | with_reducible apply Keeps.next
    | with_reducible refine Keeps.fst (by assumption) ?_ | split | with_reducible refine Keeps.upd ?_

theorem Keeps.execIcmpEchoRequest {μ : Nat} {s t : State} (h : Keeps μ s t) (uplink : Nat) (h' : RxHead) (ip ident
    seqNum : Nat) (data : List Byte) (hm : Sub
    0x44c00c0000004000003000000000000000000000000000000000000000000000080c400080 μ := by rfl) : KeepsO μ s
    (Sys2Proof.Machine.execIcmpEchoRequest uplink h' ip ident seqNum data t) := by
  refine Keeps.startO h hm fun s h => ?_
  unfold Sys2Proof.Machine.execIcmpEchoRequest
  try dsimp only
  repeat' first
    | with_reducible assumption | exact rfl | with_reducible apply Keeps.bump | with_reducible apply Keeps.dropFrame
    | with_reducible apply Keeps.hwAnswer | with_reducible apply Keeps.next
    | with_reducible refine Keeps.fst (by assumption) ?_ | split | with_reducible refine Keeps.upd ?_

theorem Keeps.sendDatagram {μ : Nat} {s t : State} (h : Keeps μ s t) (f : Nat) (i : FlowItem) (g : Elem) (hm : Sub
    0x44c0000000004000000000000000000000000000000000000000000000000000080c000080 μ := by rfl) : Keeps μ s
    (State.sendDatagram t f i g) := by
  refine Keeps.start h hm fun s h => ?_
  unfold State.sendDatagram
  try dsimp only
  repeat' first
    | with_reducible assumption | exact rfl | with_reducible apply Keeps.setFlow | with_reducible apply Keeps.mapItems
    | with_reducible apply Keeps.flowSent | with_reducible apply Keeps.enqueue | with_reducible apply Keeps.tieSend
    | with_reducible refine Keeps.fst (by assumption) ?_ | split | with_reducible refine Keeps.upd ?_

theorem Keeps.execFlowFrameReady {μ : Nat} {s t : State} (h : Keeps μ s t) (flow : Nat) (hm : Sub
    0x40044c0000000004000000000000000000000000000000000000000000000000000080c000080 μ := by rfl) : KeepsO μ s
    (Sys2Proof.Machine.execFlowFrameReady flow t) := by
  refine Keeps.startO h hm fun s h => ?_
  unfold Sys2Proof.Machine.execFlowFrameReady
  repeat' first
    | with_reducible assumption | exact rfl | with_reducible apply Keeps.bump | with_reducible apply Keeps.mapItems
    | with_reducible apply Keeps.startTx | with_reducible apply Keeps.sendDatagram | with_reducible apply Keeps.next
    | with_reducible refine Keeps.fst (by assumption) ?_ | split | with_reducible refine Keeps.upd ?_

theorem Keeps.flowDue {μ : Nat} {s t : State} (h : Keeps μ s t) (e : Elem) (l : List Item) (hm : Sub
    0x40000000000000000000000000000000000000000000000000000000000000000000008000000 μ := by rfl) : Keeps μ s
    (State.flowDue t e l) := by
  refine Keeps.start h hm fun s h => ?_
  unfold State.flowDue
  try dsimp only
  repeat' first
    | with_reducible assumption | exact rfl | with_reducible apply Keeps.mapItems
    | with_reducible apply Keeps.dropForwards | split

theorem Keeps.flowDeadline {μ : Nat} {s t : State} (h : Keeps μ s t) (beat : Nat) (hm : Sub
    0x80000000000000000000000000000000000000000000000000000000000000000008000000 μ := by rfl) : Keeps μ s
    (State.flowDeadline t beat).1 := by
  refine Keeps.start h hm fun s h => ?_
  unfold State.flowDeadline
  try dsimp only
  repeat' first
    | with_reducible assumption | exact rfl | with_reducible apply Keeps.addF | with_reducible apply Keeps.setFlow
    | with_reducible refine Keeps.foldl ?_ (fun _ _ _ => ?_)
    | with_reducible refine Keeps.foldl_fst ?_ (fun _ _ _ => ?_) | with_reducible refine Keeps.fst (by assumption) ?_
    | split | with_reducible refine Keeps.upd ?_

theorem Keeps.flowQuota {μ : Nat} {s t : State} (h : Keeps μ s t) (hm : Sub 0x8000000 μ := by rfl) : Keeps μ s
    (State.flowQuota t) := by
  refine Keeps.start h hm fun s h => ?_
  unfold State.flowQuota
  try dsimp only
  repeat' first | with_reducible assumption | exact rfl | with_reducible refine Keeps.upd ?_

theorem Keeps.haltFlows {μ : Nat} {s t : State} (h : Keeps μ s t) (v : Nat) (hm : Sub 0x8000000 μ := by rfl) : Keeps μ
    s (State.haltFlows t v) := by
  refine Keeps.start h hm fun s h => ?_
  unfold State.haltFlows
  try dsimp only
  repeat' first
    | with_reducible assumption | exact rfl | with_reducible apply Keeps.setFlow
    | with_reducible refine Keeps.foldl ?_ (fun _ _ _ => ?_)
    | with_reducible refine Keeps.foldl_fst ?_ (fun _ _ _ => ?_) | split | with_reducible refine Keeps.upd ?_

theorem Keeps.alertRaise {μ : Nat} {s t : State} (h : Keeps μ s t) (w : Nat) (hm : Sub
    0x44c0200000004000000000000000000000000000000000000000000000000000081c000080 μ := by rfl) : Keeps μ s
    (State.alertRaise t w) := by
  refine Keeps.start h hm fun s h => ?_
  unfold State.alertRaise
  repeat' first | with_reducible assumption | exact rfl | with_reducible apply Keeps.alert | split

theorem Keeps.execAlertRaise {μ : Nat} {s t : State} (h : Keeps μ s t) (p : Path) (v : Word) (hm : Sub
    0x44c0200000004000000000000000000000000000000000000000000000000000081c000080 μ := by rfl) : KeepsO μ s
    (Sys2Proof.Machine.execAlertRaise p v t) := by
  refine Keeps.startO h hm fun s h => ?_
  unfold Sys2Proof.Machine.execAlertRaise
  repeat' first
    | with_reducible assumption | exact rfl | with_reducible apply Keeps.alertRaise | with_reducible apply Keeps.next
    | split

theorem Keeps.alertClear {μ : Nat} {s t : State} (h : Keeps μ s t) (w : Nat) (hm : Sub
    0x400000000000000000000000000000000000000000000000000000000000000000000000 μ := by rfl) : Keeps μ s
    (State.alertClear t w) := by
  refine Keeps.start h hm fun s h => ?_
  unfold State.alertClear
  repeat' first | with_reducible assumption | exact rfl | with_reducible apply Keeps.clrB | split

theorem Keeps.execAlertClr {μ : Nat} {s t : State} (h : Keeps μ s t) (p : Path) (v : Word) (hm : Sub
    0x400000000000000000000000000000000000000000000000000000000000000000000000 μ := by rfl) : KeepsO μ s
    (Sys2Proof.Machine.execAlertClr p v t) := by
  refine Keeps.startO h hm fun s h => ?_
  unfold Sys2Proof.Machine.execAlertClr
  repeat' first
    | with_reducible assumption | exact rfl | with_reducible apply Keeps.alertClear | with_reducible apply Keeps.next
    | split

theorem Keeps.heartbeat {μ : Nat} {s t : State} (h : Keeps μ s t) (u : Nat) (hm : Sub
    0x44c0000000004000000000000000000000000000000000000000000000000000080c000080 μ := by rfl) : Keeps μ s
    (State.heartbeat t u) := by
  refine Keeps.start h hm fun s h => ?_
  unfold State.heartbeat
  try dsimp only
  repeat' first
    | with_reducible assumption | exact rfl | with_reducible apply Keeps.setUplink
    | with_reducible apply Keeps.enqueue | split | with_reducible refine Keeps.upd ?_

theorem Keeps.execNsRollover {μ : Nat} {s t : State} (h : Keeps μ s t) (hm : Sub
    0x44c0008000004000000000000000000000000000000000000000000000000000080c0000a0 μ := by rfl) : KeepsO μ s
    (Sys2Proof.Machine.execNsRollover t) := by
  refine Keeps.startO h hm fun s h => ?_
  unfold Sys2Proof.Machine.execNsRollover
  try dsimp only
  repeat' first
    | with_reducible assumption | exact rfl | with_reducible apply Keeps.wr | with_reducible apply Keeps.runToClock
    | with_reducible apply Keeps.heartbeat | with_reducible apply Keeps.next | split

theorem Keeps.tieAck {μ : Nat} {s t : State} (h : Keeps μ s t) (tack : Nat) (hm : Sub
    0x44c0200000004000000000000000000000000000000000000000000000000000081c000080 μ := by rfl) : Keeps μ s
    (State.tieAck t tack) := by
  refine Keeps.start h hm fun s h => ?_
  unfold State.tieAck
  try dsimp only
  repeat' first
    | with_reducible assumption | exact rfl | with_reducible apply Keeps.alertRoom
    | with_reducible apply Keeps.alertPump | with_reducible refine Keeps.fst (by assumption) ?_ | split
    | with_reducible refine Keeps.upd ?_

theorem Keeps.tieIn {μ : Nat} {s t : State} (h : Keeps μ s t) (h' : TieHdr) (hm : Sub
    0x4044c0200000004000000000000000000000000000000000000000000000000000081c000080 μ := by rfl) : Keeps μ s
    (State.tieIn t h').1 := by
  refine Keeps.start h hm fun s h => ?_
  unfold State.tieIn
  repeat' first
    | with_reducible assumption | exact rfl | with_reducible apply Keeps.bump | with_reducible apply Keeps.tieAck
    | split

theorem Keeps.tieTake {μ : Nat} {s t : State} (h : Keeps μ s t) (h' : TieHdr) (act : State → State) (k : ∀ x, Keeps μ
    s x → Keeps μ s (act x)) (hm : Sub 0x4044c0200000004000000000000000000000000000000000000000000000000000081c000080
    μ := by rfl) : Keeps μ s (State.tieTake t h' act) := by
  unfold State.tieTake
  split
  · next e => exact k _ (Keeps.fst e (h.tieIn _ (Sub.trans (by rfl) hm)))
  · next e => exact Keeps.fst e (h.tieIn _ (Sub.trans (by rfl) hm))

theorem Keeps.tieTakeReliable {μ : Nat} {s t : State} (h : Keeps μ s t) (h' : TieHdr) (act : State → State) (k : ∀ x,
    Keeps μ s x → Keeps μ s (act x)) (hm : Sub
    0x4044c0200000004000000000000000000000000000000000000000000000000000081c000080 μ := by rfl) : Keeps μ s
    (State.tieTakeReliable t h' act) := by
  unfold State.tieTakeReliable
  refine h.tieTake _ _ (fun x k' => ?_) (Sub.trans (by rfl) hm)
  dsimp only
  split
  · refine Keeps.tieSend (k _ ?_) _ _ (Sub.trans (by rfl) hm)
    refine k'.start hm fun s h => h.upd
  · exact k'.tieSend _ _ (Sub.trans (by rfl) hm)

theorem Keeps.execTieAckRx {μ : Nat} {s t : State} (h : Keeps μ s t) (h' : TieHdr) (hm : Sub
    0x4044c0200000004000000000000000000000000000000000000000000000000000081c000080 μ := by rfl) : KeepsO μ s
    (Sys2Proof.Machine.execTieAckRx h' t) := by
  refine Keeps.startO h hm fun s h => ?_
  unfold Sys2Proof.Machine.execTieAckRx
  exact (h.tieTake _ _ (fun _ k => k)).next

theorem Keeps.execTieResend {μ : Nat} {s t : State} (h : Keeps μ s t) (hm : Sub
    0x8000000000000000000000000000000000000000000000000000000000000000000810000020 μ := by rfl) : KeepsO μ s
    (Sys2Proof.Machine.execTieResend t) := by
  refine Keeps.startO h hm fun s h => ?_
  unfold Sys2Proof.Machine.execTieResend
  try dsimp only
  repeat' first
    | with_reducible assumption | exact rfl | with_reducible apply Keeps.bump | with_reducible apply Keeps.runTo
    | with_reducible apply Keeps.emit | with_reducible apply Keeps.next
    | with_reducible refine Keeps.foldl ?_ (fun _ _ _ => ?_) | with_reducible refine Keeps.fst (by assumption) ?_
    | split | with_reducible refine Keeps.upd ?_

theorem Keeps.sendConfig {μ : Nat} {s t : State} (h : Keeps μ s t) (hm : Sub 0x810000000 μ := by rfl) : Keeps μ s
    (State.sendConfig t) := by
  refine Keeps.start h hm fun s h => ?_
  unfold State.sendConfig
  repeat' first | with_reducible assumption | exact rfl | with_reducible apply Keeps.tieReliable | split

theorem Keeps.judgeMembers {μ : Nat} {s t : State} (h : Keeps μ s t) (c : TieConfig) (hm : Sub
    0x244c0200000004000000000000000000000000000000000000000000000000000081c000080 μ := by rfl) : Keeps μ s
    (State.judgeMembers t c) := by
  refine Keeps.start h hm fun s h => ?_
  unfold State.judgeMembers
  try dsimp only
  repeat' first
    | with_reducible assumption | exact rfl | with_reducible apply Keeps.setB | with_reducible apply Keeps.alert
    | with_reducible refine Keeps.foldl ?_ (fun _ _ _ => ?_)
    | with_reducible refine Keeps.foldl_fst ?_ (fun _ _ _ => ?_) | split | with_reducible refine Keeps.upd ?_

theorem Keeps.setTie {μ : Nat} {s t : State} (h : Keeps μ s t) (code : Nat) (hm : Sub
    0x40244c0200000004000000000000000000000000000000000000000000000000000081c000080 μ := by rfl) : Keeps μ s
    (State.setTie t code) := by
  refine Keeps.start h hm fun s h => ?_
  unfold State.setTie
  repeat' first
    | with_reducible assumption | exact rfl | with_reducible apply Keeps.wrF | with_reducible apply Keeps.alertPump
    | with_reducible apply Keeps.dropForwards

theorem Keeps.tieAdvance {μ : Nat} {s t : State} (h : Keeps μ s t) (hm : Sub
    0x40244c0200000004000000000000000000000000000000000000000000000000000081c000080 μ := by rfl) : Keeps μ s
    (State.tieAdvance t) := by
  refine Keeps.start h hm fun s h => ?_
  unfold State.tieAdvance
  repeat' first
    | with_reducible assumption | exact rfl | with_reducible apply Keeps.setTie | split
    | with_reducible refine Keeps.upd ?_

theorem Keeps.takeConfig {μ : Nat} {s t : State} (h : Keeps μ s t) (c : TieConfig) (hm : Sub
    0x244c0200000004000000000000000000000000000000000000000000000000000081c000080 μ := by rfl) : Keeps μ s
    (State.takeConfig t c) := by
  refine Keeps.start h hm fun s h => ?_
  unfold State.takeConfig
  try dsimp only
  repeat' first
    | with_reducible assumption | exact rfl | with_reducible apply Keeps.judgeMembers
    | with_reducible refine Keeps.upd ?_

theorem Keeps.execTieConfigRx {μ : Nat} {s t : State} (h : Keeps μ s t) (h' : TieHdr) (c : TieConfig) (hm : Sub
    0x44244c0200000004000000000000000000000000000000000000000000000000000081c000080 μ := by rfl) : KeepsO μ s
    (Sys2Proof.Machine.execTieConfigRx h' c t) := by
  refine Keeps.startO h hm fun s h => ?_
  unfold Sys2Proof.Machine.execTieConfigRx
  try dsimp only
  repeat' first
    | with_reducible assumption | exact rfl | with_reducible apply Keeps.tieTakeReliable
    | with_reducible apply Keeps.sendConfig | with_reducible apply Keeps.tieAdvance
    | with_reducible apply Keeps.takeConfig | with_reducible apply Keeps.next
    | with_reducible refine Keeps.fst (by assumption) ?_ | (intro (_ : State) (_ : Keeps _ _ _); try dsimp only)
    | split | with_reducible refine Keeps.upd ?_

theorem Keeps.unmirror {μ : Nat} {s t : State} (h : Keeps μ s t) (hm : Sub 0x18000000 μ := by rfl) : Keeps μ s
    (State.unmirror t) := by
  refine Keeps.start h hm fun s h => ?_
  unfold State.unmirror
  repeat' first | with_reducible assumption | exact rfl | with_reducible refine Keeps.upd ?_

theorem Keeps.startTempo {μ : Nat} {s t : State} (h : Keeps μ s t) (origin : Nat) (hm : Sub 0x200 μ := by rfl) : Keeps
    μ s (State.startTempo t origin) := by
  refine Keeps.start h hm fun s h => ?_
  unfold State.startTempo
  repeat' first | with_reducible assumption | exact rfl | with_reducible refine Keeps.upd ?_

theorem Keeps.island {μ : Nat} {s t : State} (h : Keeps μ s t) (hm : Sub
    0x40244c0200000004064020000000000000000000000000000000000000000000000081e000280 μ := by rfl) : Keeps μ s
    (State.island t) := by
  refine Keeps.start h hm fun s h => ?_
  unfold State.island
  try dsimp only
  repeat' first
    | with_reducible assumption | exact rfl | with_reducible apply Keeps.loseRef | with_reducible apply Keeps.setTie
    | with_reducible apply Keeps.startTempo | split

theorem Keeps.split {μ : Nat} {s t : State} (h : Keeps μ s t) (hm : Sub
    0x8000040000000000042a44c0200000004064020000000000000000000000000000000000000000000000081e000280 μ := by rfl) :
    Keeps μ s (State.split t) := by
  refine Keeps.start h hm fun s h => ?_
  unfold State.split
  try dsimp only
  repeat' first
    | with_reducible assumption | exact rfl | with_reducible apply Keeps.wr | with_reducible apply Keeps.setB
    | with_reducible apply Keeps.bump | with_reducible apply Keeps.vector0 | with_reducible apply Keeps.alert
    | with_reducible apply Keeps.island

theorem Keeps.tieFails {μ : Nat} {s t : State} (h : Keeps μ s t) (hm : Sub
    0x8000040000000000042a44c0200000004064020000000000000000000000000000000000000000000000081e000280 μ := by rfl) :
    Keeps μ s (State.tieFails t) := by
  refine Keeps.start h hm fun s h => ?_
  unfold State.tieFails
  repeat' first
    | with_reducible assumption | exact rfl | with_reducible apply Keeps.setTie | with_reducible apply Keeps.split
    | split

theorem Keeps.execTieLaneLock {μ : Nat} {s t : State} (h : Keeps μ s t) (hm : Sub
    0x200000000000000000000000000000000000000000000000000000000000000000810000000 μ := by rfl) : KeepsO μ s
    (Sys2Proof.Machine.execTieLaneLock t) := by
  refine Keeps.startO h hm fun s h => ?_
  unfold Sys2Proof.Machine.execTieLaneLock
  try dsimp only
  repeat' first
    | with_reducible assumption | exact rfl | with_reducible apply Keeps.setB | with_reducible apply Keeps.sendConfig
    | with_reducible apply Keeps.next | split | with_reducible refine Keeps.upd ?_

theorem Keeps.laneLoss {μ : Nat} {s t : State} (h : Keeps μ s t) (hm : Sub
    0x8000040000000000042a44c0200000004064020000000000000000000000000000000040000000000000081e000280 μ := by rfl) :
    Keeps μ s (State.laneLoss t) := by
  refine Keeps.start h hm fun s h => ?_
  unfold State.laneLoss
  try dsimp only
  repeat' first
    | with_reducible assumption | exact rfl | with_reducible apply Keeps.clrB | with_reducible apply Keeps.nextEpoch
    | with_reducible apply Keeps.unmirror | with_reducible apply Keeps.tieFails | split
    | with_reducible refine Keeps.upd ?_

theorem Keeps.execTieLaneLockLoss {μ : Nat} {s t : State} (h : Keeps μ s t) (hm : Sub
    0x8000040000000000042a44c0200000004064020000000000000000000000000000000040000000000000081e000280 μ := by rfl) :
    KeepsO μ s (Sys2Proof.Machine.execTieLaneLockLoss t) := by
  refine Keeps.startO h hm fun s h => ?_
  unfold Sys2Proof.Machine.execTieLaneLockLoss
  repeat' first
    | with_reducible assumption | exact rfl | with_reducible apply Keeps.laneLoss | with_reducible apply Keeps.next

theorem Keeps.execTieFormingTimeout {μ : Nat} {s t : State} (h : Keeps μ s t) (hm : Sub
    0x40244c0200000004064020000000000000000000000000000000000000000000000081e0002a0 μ := by rfl) : KeepsO μ s
    (Sys2Proof.Machine.execTieFormingTimeout t) := by
  refine Keeps.startO h hm fun s h => ?_
  unfold Sys2Proof.Machine.execTieFormingTimeout
  repeat' first
    | with_reducible assumption | exact rfl | with_reducible apply Keeps.runTo | with_reducible apply Keeps.island
    | with_reducible apply Keeps.next | split

theorem Keeps.execTieHeartbeatTx {μ : Nat} {s t : State} (h : Keeps μ s t) (hm : Sub 0x810000020 μ := by rfl) : KeepsO
    μ s (Sys2Proof.Machine.execTieHeartbeatTx t) := by
  refine Keeps.startO h hm fun s h => ?_
  unfold Sys2Proof.Machine.execTieHeartbeatTx
  try dsimp only
  repeat' first
    | with_reducible assumption | exact rfl | with_reducible apply Keeps.runTo | with_reducible apply Keeps.tieSend
    | with_reducible apply Keeps.next | split | with_reducible refine Keeps.upd ?_

theorem Keeps.execTieHeartbeatRx {μ : Nat} {s t : State} (h : Keeps μ s t) (h' : TieHdr) (b : TieHeartbeat) (hm : Sub
    0x44244c0200000004000000000000000000000000000000000000000000000000000081c000080 μ := by rfl) : KeepsO μ s
    (Sys2Proof.Machine.execTieHeartbeatRx h' b t) := by
  refine Keeps.startO h hm fun s h => ?_
  unfold Sys2Proof.Machine.execTieHeartbeatRx
  try dsimp only
  repeat' first
    | with_reducible assumption | exact rfl | with_reducible apply Keeps.wrF | with_reducible apply Keeps.tieTake
    | with_reducible apply Keeps.tieAdvance | with_reducible apply Keeps.next
    | (intro (_ : State) (_ : Keeps _ _ _); try dsimp only) | with_reducible refine Keeps.upd ?_

theorem Keeps.execTieHeartbeatMiss {μ : Nat} {s t : State} (h : Keeps μ s t) (hm : Sub
    0x8000040000000000052a44c0200000004064020000000000000000000000000000000000000000000000081e0002a0 μ := by rfl) :
    KeepsO μ s (Sys2Proof.Machine.execTieHeartbeatMiss t) := by
  refine Keeps.startO h hm fun s h => ?_
  unfold Sys2Proof.Machine.execTieHeartbeatMiss
  try dsimp only
  repeat' first
    | with_reducible assumption | exact rfl | with_reducible apply Keeps.bump | with_reducible apply Keeps.runTo
    | with_reducible apply Keeps.tieFails | with_reducible apply Keeps.next | split
    | with_reducible refine Keeps.upd ?_

theorem Keeps.execTieTimeSyncTx {μ : Nat} {s t : State} (h : Keeps μ s t) (hm : Sub
    0xc0000000000000000000000000000000000000000000000000000814000020 μ := by rfl) : KeepsO μ s
    (Sys2Proof.Machine.execTieTimeSyncTx t) := by
  refine Keeps.startO h hm fun s h => ?_
  unfold Sys2Proof.Machine.execTieTimeSyncTx
  try dsimp only
  repeat' first
    | with_reducible assumption | exact rfl | with_reducible apply Keeps.runTo
    | with_reducible apply Keeps.tieEventDue | with_reducible apply Keeps.next | split
    | with_reducible refine Keeps.upd ?_

theorem Keeps.execTieTimeSyncRx {μ : Nat} {s t : State} (h : Keeps μ s t) (h' : TieHdr) (hm : Sub
    0x4044c0200000004000000000000000000000000000000000000000000000000000081c000080 μ := by rfl) : KeepsO μ s
    (Sys2Proof.Machine.execTieTimeSyncRx h' t) := by
  refine Keeps.startO h hm fun s h => ?_
  unfold Sys2Proof.Machine.execTieTimeSyncRx
  repeat' first
    | with_reducible assumption | exact rfl | with_reducible apply Keeps.tieTake | with_reducible apply Keeps.next
    | (intro (_ : State) (_ : Keeps _ _ _); try dsimp only) | with_reducible refine Keeps.upd ?_

theorem Keeps.execTieTimeFupRx {μ : Nat} {s t : State} (h : Keeps μ s t) (h' : TieHdr) (t1 : Stamp) (hm : Sub
    0x4044c020000000c000000000000000000000000000000000000000000000000000081c000080 μ := by rfl) : KeepsO μ s
    (Sys2Proof.Machine.execTieTimeFupRx h' t1 t) := by
  refine Keeps.startO h hm fun s h => ?_
  unfold Sys2Proof.Machine.execTieTimeFupRx
  repeat' first
    | with_reducible assumption | exact rfl | with_reducible apply Keeps.tieEventDue
    | with_reducible apply Keeps.tieTake | with_reducible apply Keeps.next
    | (intro (_ : State) (_ : Keeps _ _ _); try dsimp only) | with_reducible refine Keeps.upd ?_

theorem Keeps.execTieTimeDreqRx {μ : Nat} {s t : State} (h : Keeps μ s t) (h' : TieHdr) (hm : Sub
    0x4044c0200000004000000000000000000000000000000000000000000000000000081c000080 μ := by rfl) : KeepsO μ s
    (Sys2Proof.Machine.execTieTimeDreqRx h' t) := by
  refine Keeps.startO h hm fun s h => ?_
  unfold Sys2Proof.Machine.execTieTimeDreqRx
  repeat' first
    | with_reducible assumption | exact rfl | with_reducible apply Keeps.tieSend | with_reducible apply Keeps.tieTake
    | with_reducible apply Keeps.next | (intro (_ : State) (_ : Keeps _ _ _); try dsimp only)

theorem Keeps.execTieTimeDrespRx {μ : Nat} {s t : State} (h : Keeps μ s t) (h' : TieHdr) (t4 : Stamp) (hm : Sub
    0x5044c020002700423c020000000000000000000000000000000000000000000000281e8000a0 μ := by rfl) : KeepsO μ s
    (Sys2Proof.Machine.execTieTimeDrespRx h' t4 t) := by
  refine Keeps.startO h hm fun s h => ?_
  unfold Sys2Proof.Machine.execTieTimeDrespRx
  try dsimp only
  repeat' first
    | with_reducible assumption | exact rfl | with_reducible apply Keeps.wr | with_reducible apply Keeps.setTxq
    | with_reducible apply Keeps.servoSample | with_reducible apply Keeps.addDelay
    | with_reducible apply Keeps.agedTie | with_reducible apply Keeps.tieTake | with_reducible apply Keeps.next
    | with_reducible refine Keeps.foldl ?_ (fun _ _ _ => ?_) | with_reducible refine Keeps.fst (by assumption) ?_
    | (intro (_ : State) (_ : Keeps _ _ _); try dsimp only) | split | with_reducible refine Keeps.upd ?_

theorem Keeps.markMember {μ : Nat} {s t : State} (h : Keeps μ s t) (x : Source) (m r0 h' : Nat) (ovr epoch : Bool) (hm
    : Sub 0x80000 μ := by rfl) : Keeps μ s (State.markMember t x m r0 h' ovr epoch) := by
  refine Keeps.start h hm fun s h => ?_
  unfold State.markMember
  try dsimp only
  repeat' first
    | with_reducible assumption | exact rfl | with_reducible apply Keeps.setRow
    | with_reducible refine Keeps.foldl ?_ (fun _ _ _ => ?_) | split | with_reducible refine Keeps.upd ?_

theorem Keeps.tiePlace {μ : Nat} {s t : State} (h : Keeps μ s t) (g : Elem) (m : Nat) (x : Source) (row : Nat) (l :
    TieLine) (hm : Sub 0x1008008c μ := by rfl) : Keeps μ s (State.tiePlace t g m x row l) := by
  refine Keeps.start h hm fun s h => ?_
  unfold State.tiePlace
  try dsimp only
  repeat' first
    | with_reducible assumption | exact rfl | with_reducible apply Keeps.writePhys | with_reducible apply Keeps.charge
    | with_reducible apply Keeps.placeSeg | with_reducible apply Keeps.markMember | split
    | with_reducible refine Keeps.upd ?_

theorem Keeps.lateLine {μ : Nat} {s t : State} (h : Keeps μ s t) (l : TieLine) (hm : Sub
    0x20000000000000000000000000000000000000000000000000000000000000000000010000000 μ := by rfl) : Keeps μ s
    (State.lateLine t l) := by
  refine Keeps.start h hm fun s h => ?_
  unfold State.lateLine
  try dsimp only
  repeat' first
    | with_reducible assumption | exact rfl | with_reducible apply Keeps.bump | split
    | with_reducible refine Keeps.upd ?_

theorem Keeps.tieLineTo {μ : Nat} {s t : State} (h : Keeps μ s t) (l : TieLine) (g : Elem) (m : Nat) (hm : Sub
    0x2000000000000000000000000000000000000000000000000000000000000000000001008008c μ := by rfl) : Keeps μ s
    (State.tieLineTo t l g m) := by
  refine Keeps.start h hm fun s h => ?_
  unfold State.tieLineTo
  try dsimp only
  repeat' first
    | with_reducible assumption | exact rfl | with_reducible apply Keeps.tiePlace
    | with_reducible apply Keeps.lateLine | with_reducible refine Keeps.fst (by assumption) ?_ | split
    | with_reducible refine Keeps.upd ?_

theorem Keeps.tieLineIn {μ : Nat} {s t : State} (h : Keeps μ s t) (l : TieLine) (hm : Sub
    0x2000000000000000000000000000000000000000000000000000000000000000000001008008c μ := by rfl) : Keeps μ s
    (State.tieLineIn t l) := by
  refine Keeps.start h hm fun s h => ?_
  unfold State.tieLineIn
  try dsimp only
  repeat' first
    | with_reducible assumption | exact rfl | with_reducible apply Keeps.tieLineTo
    | with_reducible refine Keeps.foldl ?_ (fun _ _ _ => ?_)
    | with_reducible refine Keeps.foldl_fst ?_ (fun _ _ _ => ?_)

theorem Keeps.execTieLinesRx {μ : Nat} {s t : State} (h : Keeps μ s t) (h' : TieHdr) (l : TieLine) (hm : Sub
    0x24044c0200000004000000000000000000000000000000000000000000000000000081c08008c μ := by rfl) : KeepsO μ s
    (Sys2Proof.Machine.execTieLinesRx h' l t) := by
  refine Keeps.startO h hm fun s h => ?_
  unfold Sys2Proof.Machine.execTieLinesRx
  repeat' first
    | with_reducible assumption | exact rfl | with_reducible apply Keeps.tieTake
    | with_reducible apply Keeps.tieLineIn | with_reducible apply Keeps.next
    | (intro (_ : State) (_ : Keeps _ _ _); try dsimp only)

theorem Keeps.forward {μ : Nat} {s t : State} (h : Keeps μ s t) (u : Nat) (b : List Byte) (hm : Sub
    0x44c0200000004000000000000000000000000000000000000000000000000000080c000080 μ := by rfl) : Keeps μ s
    (State.forward t u b) := by
  refine Keeps.start h hm fun s h => ?_
  unfold State.forward
  try dsimp only
  repeat' first
    | with_reducible assumption | exact rfl | with_reducible apply Keeps.bump | with_reducible apply Keeps.enqueue
    | with_reducible refine Keeps.fst (by assumption) ?_ | split | with_reducible refine Keeps.upd ?_

theorem Keeps.execTieFwdRx {μ : Nat} {s t : State} (h : Keeps μ s t) (h' : TieHdr) (uplink : Nat) (bytes : List Byte)
    (hm : Sub 0x4044c0200000004000000000000000000000000000000000000000000000000000081c000080 μ := by rfl) : KeepsO μ s
    (Sys2Proof.Machine.execTieFwdRx h' uplink bytes t) := by
  refine Keeps.startO h hm fun s h => ?_
  unfold Sys2Proof.Machine.execTieFwdRx
  repeat' first
    | with_reducible assumption | exact rfl | with_reducible apply Keeps.tieTake | with_reducible apply Keeps.forward
    | with_reducible apply Keeps.next | (intro (_ : State) (_ : Keeps _ _ _); try dsimp only) | split

theorem Keeps.execTieAlertRx {μ : Nat} {s t : State} (h : Keeps μ s t) (h' : TieHdr) (bytes : List Byte) (hm : Sub
    0x4044c0200000004000000000000000000000000000000000000000000000000000081c000080 μ := by rfl) : KeepsO μ s
    (Sys2Proof.Machine.execTieAlertRx h' bytes t) := by
  refine Keeps.startO h hm fun s h => ?_
  unfold Sys2Proof.Machine.execTieAlertRx
  repeat' first
    | with_reducible assumption | exact rfl | with_reducible apply Keeps.queueAlert
    | with_reducible apply Keeps.alertPump | with_reducible apply Keeps.tieTakeReliable
    | with_reducible apply Keeps.next | (intro (_ : State) (_ : Keeps _ _ _); try dsimp only)

theorem Keeps.setProc {μ : Nat} {s t : State} (h : Keeps μ s t) (c : Nat) (x : ProcCh) (hm : Sub 0x20000000 μ := by
    rfl) : Keeps μ s (State.setProc t c x) := by
  refine Keeps.start h hm fun s h => ?_
  unfold State.setProc
  repeat' first | with_reducible assumption | exact rfl | with_reducible refine Keeps.upd ?_

theorem Keeps.startRamp {μ : Nat} {s t : State} (h : Keeps μ s t) (j : Nat) (hm : Sub 0x20000000 μ := by rfl) : Keeps
    μ s (State.startRamp t j) := by
  refine Keeps.start h hm fun s h => ?_
  unfold State.startRamp
  repeat' first | with_reducible assumption | exact rfl | with_reducible refine Keeps.upd ?_

theorem Keeps.discardOut {μ : Nat} {s t : State} (h : Keeps μ s t) (j : Nat) (hm : Sub 0x20000000 μ := by rfl) : Keeps
    μ s (State.discardOut t j) := by
  refine Keeps.start h hm fun s h => ?_
  unfold State.discardOut
  repeat' first
    | with_reducible assumption | exact rfl | with_reducible apply Keeps.discard | with_reducible apply Keeps.setProc
    | with_reducible refine Keeps.foldl ?_ (fun _ _ _ => ?_) | with_reducible refine Keeps.upd ?_

theorem Keeps.excFault {μ : Nat} {s t : State} (h : Keeps μ s t) (j : Nat) (oc low : Bool) (hm : Sub
    0x8000040000000000800000000000000000000000000000000000000000000000000000000000000000000800000000 μ := by rfl) :
    Keeps μ s (State.excFault t j oc low) := by
  refine Keeps.start h hm fun s h => ?_
  unfold State.excFault
  repeat' first
    | with_reducible assumption | exact rfl | with_reducible apply Keeps.wrF | with_reducible apply Keeps.setB
    | with_reducible apply Keeps.vector0 | split

theorem Keeps.execExcFault {μ : Nat} {s t : State} (h : Keeps μ s t) (out : Nat) (overCurrent senseLow : Bool) (hm :
    Sub 0x8000040000000000800000000000000000000000000000000000000000000000000000000000000000000800000000 μ := by rfl)
    : KeepsO μ s (Sys2Proof.Machine.execExcFault out overCurrent senseLow t) := by
  refine Keeps.startO h hm fun s h => ?_
  unfold Sys2Proof.Machine.execExcFault
  repeat' first
    | with_reducible assumption | exact rfl | with_reducible apply Keeps.excFault | with_reducible apply Keeps.next
    | split

theorem Keeps.excClear {μ : Nat} {s t : State} (h : Keeps μ s t) (j : Nat) (hm : Sub
    0x800000000000000000000000000000000000000000000000000000000000000000000020000000 μ := by rfl) : Keeps μ s
    (State.excClear t j) := by
  refine Keeps.start h hm fun s h => ?_
  unfold State.excClear
  repeat' first
    | with_reducible assumption | exact rfl | with_reducible apply Keeps.wrF | with_reducible apply Keeps.startRamp
    | with_reducible apply Keeps.discardOut | split

theorem Keeps.execExcFaultClear {μ : Nat} {s t : State} (h : Keeps μ s t) (out : Nat) (hm : Sub
    0x800000000000000000000000000000000000000000000000000000000000000000000020000000 μ := by rfl) : KeepsO μ s
    (Sys2Proof.Machine.execExcFaultClear out t) := by
  refine Keeps.startO h hm fun s h => ?_
  unfold Sys2Proof.Machine.execExcFaultClear
  repeat' first
    | with_reducible assumption | exact rfl | with_reducible apply Keeps.excClear | with_reducible apply Keeps.next
    | split

theorem Keeps.settleOut {μ : Nat} {s t : State} (h : Keeps μ s t) (out : Nat) (hm : Sub
    0x800000000000000000000000000000000000000000000000000000000000000000002000000000 μ := by rfl) : Keeps μ s
    (State.settleOut t out) := by
  refine Keeps.start h hm fun s h => ?_
  unfold State.settleOut
  try dsimp only
  repeat' first
    | with_reducible assumption | exact rfl | with_reducible apply Keeps.wrF | with_reducible apply Keeps.freeUse
    | with_reducible refine Keeps.fst (by assumption) ?_ | with_reducible refine Keeps.snd (by assumption) ?_ | split
    | with_reducible refine Keeps.upd ?_

theorem Keeps.execExcRampEnd {μ : Nat} {s t : State} (h : Keeps μ s t) (out : Nat) (hm : Sub
    0x800000000000000000000000000000000000000000000000000000000000000000002020000020 μ := by rfl) : KeepsO μ s
    (Sys2Proof.Machine.execExcRampEnd out t) := by
  refine Keeps.startO h hm fun s h => ?_
  unfold Sys2Proof.Machine.execExcRampEnd
  try dsimp only
  repeat' first
    | with_reducible assumption | exact rfl | with_reducible apply Keeps.runTo | with_reducible apply Keeps.discardOut
    | with_reducible apply Keeps.settleOut | with_reducible apply Keeps.next
    | with_reducible refine Keeps.fst (by assumption) ?_ | split | with_reducible refine Keeps.upd ?_

theorem Keeps.execProcSupplyLoss {μ : Nat} {s t : State} (h : Keeps μ s t) (hm : Sub
    0x8000040000000000800000000000000000000000000000000000000000000000000000000000080000000900000000 μ := by rfl) :
    KeepsO μ s (Sys2Proof.Machine.execProcSupplyLoss t) := by
  refine Keeps.startO h hm fun s h => ?_
  unfold Sys2Proof.Machine.execProcSupplyLoss
  try dsimp only
  repeat' first
    | with_reducible assumption | exact rfl | with_reducible apply Keeps.clrB | with_reducible apply Keeps.excFault
    | with_reducible apply Keeps.next | with_reducible refine Keeps.foldl ?_ (fun _ _ _ => ?_) | split
    | with_reducible refine Keeps.upd ?_

theorem Keeps.execProcSupplyReturn {μ : Nat} {s t : State} (h : Keeps μ s t) (hm : Sub
    0x800000000000000000000000000000000000000000000000000000000000080000000120000000 μ := by rfl) : KeepsO μ s
    (Sys2Proof.Machine.execProcSupplyReturn t) := by
  refine Keeps.startO h hm fun s h => ?_
  unfold Sys2Proof.Machine.execProcSupplyReturn
  try dsimp only
  repeat' first
    | with_reducible assumption | exact rfl | with_reducible apply Keeps.setB | with_reducible apply Keeps.excClear
    | with_reducible apply Keeps.next | with_reducible refine Keeps.foldl ?_ (fun _ _ _ => ?_) | split
    | with_reducible refine Keeps.upd ?_

theorem Keeps.execRefMonitor {μ : Nat} {s t : State} (h : Keeps μ s t) (deviation : Word) (hm : Sub
    0x8000040000000000180000000000000000000000000000000000000000000000000000000000000000000820000020 μ := by rfl) :
    KeepsO μ s (Sys2Proof.Machine.execRefMonitor deviation t) := by
  refine Keeps.startO h hm fun s h => ?_
  unfold Sys2Proof.Machine.execRefMonitor
  try dsimp only
  repeat' first
    | with_reducible assumption | exact rfl | with_reducible apply Keeps.wr | with_reducible apply Keeps.wrF
    | with_reducible apply Keeps.setB | with_reducible apply Keeps.runTo | with_reducible apply Keeps.vector0
    | with_reducible apply Keeps.next | split | with_reducible refine Keeps.upd ?_

theorem Keeps.setOpen {μ : Nat} {s t : State} (h : Keeps μ s t) (c : Nat) (x : ProcCh) (now : Bool) (hm : Sub
    0x80000400000000c0000000000000000000000000000000000000000000000000000000000000000000000820000000 μ := by rfl) :
    Keeps μ s (State.setOpen t c x now) := by
  refine Keeps.start h hm fun s h => ?_
  unfold State.setOpen
  try dsimp only
  repeat' first
    | with_reducible assumption | exact rfl | with_reducible apply Keeps.setB | with_reducible apply Keeps.bump
    | with_reducible apply Keeps.vector0 | with_reducible apply Keeps.setProc | split
    | with_reducible refine Keeps.upd ?_

theorem Keeps.checkSample {μ : Nat} {s t : State} (h : Keeps μ s t) (c : Nat) (x : ProcCh) (code : Int) (hm : Sub
    0x80000400000000c0000000000000000000000000000000000000000000000000000000000000000000000820000000 μ := by rfl) :
    Keeps μ s (State.checkSample t c x code) := by
  refine Keeps.start h hm fun s h => ?_
  unfold State.checkSample
  repeat' first
    | with_reducible assumption | exact rfl | with_reducible apply Keeps.discard | with_reducible apply Keeps.setProc
    | with_reducible apply Keeps.setOpen | split | with_reducible refine Keeps.upd ?_

theorem Keeps.watchOpen {μ : Nat} {s t : State} (h : Keeps μ s t) (c : Nat) (e : Elem) (code : Int) (hm : Sub
    0x80000400000000c0000000000000000000000000000000000000000000000000000000000000000000000820000000 μ := by rfl) :
    Keeps μ s (State.watchOpen t c e code) := by
  refine Keeps.start h hm fun s h => ?_
  unfold State.watchOpen
  try dsimp only
  repeat' first
    | with_reducible assumption | exact rfl | with_reducible apply Keeps.setProc | with_reducible apply Keeps.setOpen
    | split | with_reducible refine Keeps.upd ?_

theorem Keeps.keepSample {μ : Nat} {s t : State} (h : Keeps μ s t) (c : Nat) (e : Elem) (code : Int) (hm : Sub
    0x20000000 μ := by rfl) : Keeps μ s (State.keepSample t c e code) := by
  refine Keeps.start h hm fun s h => ?_
  unfold State.keepSample
  try dsimp only
  repeat' first
    | with_reducible assumption | exact rfl | with_reducible apply Keeps.setProc | split
    | with_reducible refine Keeps.upd ?_

theorem Keeps.execProcSample {μ : Nat} {s t : State} (h : Keeps μ s t) (ch : Nat) (code : Word) (hm : Sub
    0x80000400000000c2000000000000000000000000000000000000000000000000000000000000000000000820000000 μ := by rfl) :
    KeepsO μ s (Sys2Proof.Machine.execProcSample ch code t) := by
  refine Keeps.startO h hm fun s h => ?_
  unfold Sys2Proof.Machine.execProcSample
  try dsimp only
  repeat' first
    | with_reducible assumption | exact rfl | with_reducible apply Keeps.wr | with_reducible apply Keeps.discard
    | with_reducible apply Keeps.setProc | with_reducible apply Keeps.checkSample
    | with_reducible apply Keeps.watchOpen | with_reducible apply Keeps.keepSample | with_reducible apply Keeps.next
    | with_reducible refine Keeps.fst (by assumption) ?_ | split | with_reducible refine Keeps.upd ?_

theorem Keeps.writeSlot {μ : Nat} {s t : State} (h : Keeps μ s t) (v : Nat) (b : BeatRec) (period : Nat) (hm : Sub
    0x40000000000000000000000000000000000000000000000000000000000000000000200000000c μ := by rfl) : Keeps μ s
    (State.writeSlot t v b period) := by
  refine Keeps.start h hm fun s h => ?_
  unfold State.writeSlot
  try dsimp only
  repeat' first
    | with_reducible assumption | exact rfl | with_reducible apply Keeps.writePhys | with_reducible apply Keeps.bump
    | with_reducible apply Keeps.freeUse | with_reducible refine Keeps.fst (by assumption) ?_
    | with_reducible refine Keeps.snd (by assumption) ?_ | split | with_reducible refine Keeps.upd ?_

theorem Keeps.closeChannel {μ : Nat} {s t : State} (h : Keeps μ s t) (e : Elem) (hm : Sub
    0x7c000000000000000000000000000000000000000000000000000000000000000000000020000000 μ := by rfl) : Keeps μ s
    (State.closeChannel t e) := by
  refine Keeps.start h hm fun s h => ?_
  unfold State.closeChannel
  try dsimp only
  repeat' first
    | with_reducible assumption | exact rfl | with_reducible apply Keeps.wr | with_reducible apply Keeps.wrF
    | with_reducible apply Keeps.setProc | with_reducible refine Keeps.fst (by assumption) ?_ | split
    | with_reducible refine Keeps.upd ?_

theorem Keeps.closeAggregates {μ : Nat} {s t : State} (h : Keeps μ s t) (b : BeatRec) (period : Nat) (hm : Sub
    0x7c60000000000000000000000000000000000000000000000000000000000000000000202000000c μ := by rfl) : Keeps μ s
    (State.closeAggregates t b period).1 := by
  refine Keeps.start h hm fun s h => ?_
  unfold State.closeAggregates
  try dsimp only
  repeat' first
    | with_reducible assumption | exact rfl | with_reducible apply Keeps.wr | with_reducible apply Keeps.writeSlot
    | with_reducible apply Keeps.closeChannel | with_reducible refine Keeps.foldl ?_ (fun _ _ _ => ?_)
    | with_reducible refine Keeps.foldl_fst ?_ (fun _ _ _ => ?_) | split

theorem Keeps.startChecks {μ : Nat} {s t : State} (h : Keeps μ s t) (n : Nat) (hm : Sub 0x20000000 μ := by rfl) :
    Keeps μ s (State.startChecks t n) := by
  refine Keeps.start h hm fun s h => ?_
  unfold State.startChecks
  repeat' first
    | with_reducible assumption | exact rfl | with_reducible apply Keeps.setProc
    | with_reducible refine Keeps.foldl ?_ (fun _ _ _ => ?_) | split | with_reducible refine Keeps.upd ?_

theorem Keeps.procStart {μ : Nat} {s t : State} (h : Keeps μ s t) (e : Elem) (hm : Sub
    0x1000000000000000000000000000000000000000000000000000000000000000000000020000000 μ := by rfl) : Keeps μ s
    (State.procStart t e) := by
  refine Keeps.start h hm fun s h => ?_
  unfold State.procStart
  repeat' first
    | with_reducible assumption | exact rfl | with_reducible apply Keeps.wr | with_reducible apply Keeps.discard
    | with_reducible apply Keeps.setProc

theorem Keeps.procStop {μ : Nat} {s t : State} (h : Keeps μ s t) (c : Nat) (hm : Sub
    0x1000000000000000000000000000000000000000000000000000000000000000000000020000000 μ := by rfl) : Keeps μ s
    (State.procStop t c) := by
  refine Keeps.start h hm fun s h => ?_
  unfold State.procStop
  repeat' first
    | with_reducible assumption | exact rfl | with_reducible apply Keeps.wr | with_reducible apply Keeps.setProc

theorem Keeps.excFollow {μ : Nat} {s t : State} (h : Keeps μ s t) (was : List (Nat × Nat × Nat)) (hm : Sub
    0x8000040000000000800000000000000000000000000000000000000000000000000000000000000000002820000000 μ := by rfl) :
    Keeps μ s (State.excFollow t was) := by
  refine Keeps.start h hm fun s h => ?_
  unfold State.excFollow
  try dsimp only
  repeat' first
    | with_reducible assumption | exact rfl | with_reducible apply Keeps.wrF | with_reducible apply Keeps.setB
    | with_reducible apply Keeps.startRamp | with_reducible apply Keeps.excFault
    | with_reducible apply Keeps.settleOut | with_reducible refine Keeps.foldl ?_ (fun _ _ _ => ?_)
    | with_reducible refine Keeps.foldl_fst ?_ (fun _ _ _ => ?_) | split | with_reducible refine Keeps.upd ?_

theorem Keeps.execPllModUnlock {μ : Nat} {s t : State} (h : Keeps μ s t) (hm : Sub
    0x8000040000000000000000000000000000000000000000000000000000000000000000000000100000000800000000 μ := by rfl) :
    KeepsO μ s (Sys2Proof.Machine.execPllModUnlock t) := by
  refine Keeps.startO h hm fun s h => ?_
  unfold Sys2Proof.Machine.execPllModUnlock
  repeat' first
    | with_reducible assumption | exact rfl | with_reducible apply Keeps.setB | with_reducible apply Keeps.clrB
    | with_reducible apply Keeps.vector0 | with_reducible apply Keeps.next | split

theorem Keeps.execPllModRelock {μ : Nat} {s t : State} (h : Keeps μ s t) (hm : Sub 0x100000000020000000 μ := by rfl) :
    KeepsO μ s (Sys2Proof.Machine.execPllModRelock t) := by
  refine Keeps.startO h hm fun s h => ?_
  unfold Sys2Proof.Machine.execPllModRelock
  try dsimp only
  repeat' first
    | with_reducible assumption | exact rfl | with_reducible apply Keeps.setB | with_reducible apply Keeps.discard
    | with_reducible apply Keeps.setProc | with_reducible apply Keeps.next
    | with_reducible refine Keeps.foldl ?_ (fun _ _ _ => ?_) | split | with_reducible refine Keeps.upd ?_

theorem Keeps.encCount {μ : Nat} {s t : State} (h : Keeps μ s t) (k : Nat) (a b : Bool) (hm : Sub
    0x1100000000000000000000000000000000000000000000000000000000000000000000000020000000 μ := by rfl) : Keeps μ s
    (State.encCount t k a b) := by
  refine Keeps.start h hm fun s h => ?_
  unfold State.encCount
  try dsimp only
  repeat' first
    | with_reducible assumption | exact rfl | with_reducible apply Keeps.wr | with_reducible apply Keeps.bump | split
    | with_reducible refine Keeps.upd ?_

theorem Keeps.execEncoderIndex {μ : Nat} {s t : State} (h : Keeps μ s t) (z : IndexLevel) (hm : Sub
    0xc00000000000000000000000000000000000000000000000000000000000000000000000000000000 μ := by rfl) : KeepsO μ s
    (Sys2Proof.Machine.execEncoderIndex z t) := by
  refine Keeps.startO h hm fun s h => ?_
  unfold Sys2Proof.Machine.execEncoderIndex
  repeat' first
    | with_reducible assumption | exact rfl | with_reducible apply Keeps.wr | with_reducible apply Keeps.bump
    | with_reducible apply Keeps.next | split

theorem Keeps.execEncCfgWrite {μ : Nat} {s t : State} (h : Keeps μ s t) (p : Path) (k : Nat) (v : Word) (hm : Sub
    0x200000000000000000000000000000000000000000000000000000000000000000000000000000000 μ := by rfl) : KeepsO μ s
    (Sys2Proof.Machine.execEncCfgWrite p k v t) := by
  refine Keeps.startO h hm fun s h => ?_
  unfold Sys2Proof.Machine.execEncCfgWrite
  repeat' first
    | with_reducible assumption | exact rfl | with_reducible apply Keeps.fieldWrite | with_reducible apply Keeps.next
    | split

theorem Keeps.putSer {μ : Nat} {s t : State} (h : Keeps μ s t) (p : Nat) (x : SerPort) (hm : Sub 0x40000000 μ := by
    rfl) : Keeps μ s (State.putSer t p x) := by
  refine Keeps.start h hm fun s h => ?_
  unfold State.putSer
  repeat' first | with_reducible assumption | exact rfl | with_reducible refine Keeps.upd ?_

theorem Keeps.serWrite {μ : Nat} {s t : State} (h : Keeps μ s t) (p ofs : Nat) (b : List Byte) (hm : Sub
    0x1000000000000000000000000000000000000000000000000000000000000000000000000000000000000c μ := by rfl) : Keeps μ s
    (State.serWrite t p ofs b) := by
  refine Keeps.start h hm fun s h => ?_
  unfold State.serWrite
  repeat' first
    | with_reducible assumption | exact rfl | with_reducible apply Keeps.writePhys | with_reducible apply Keeps.bump
    | split

theorem Keeps.setSer {μ : Nat} {s t : State} (h : Keeps μ s t) (p : Nat) (x : SerPort) (hm : Sub
    0x1000800000000000000000000000000000000000000000000000000000000000000000000000004000000c μ := by rfl) : Keeps μ s
    (State.setSer t p x) := by
  refine Keeps.start h hm fun s h => ?_
  unfold State.setSer
  try dsimp only
  repeat' first
    | with_reducible assumption | exact rfl | with_reducible apply Keeps.wr | with_reducible apply Keeps.putSer
    | with_reducible apply Keeps.serWrite | split

theorem Keeps.serEvent {μ : Nat} {s t : State} (h : Keeps μ s t) (p bits : Nat) (hm : Sub
    0x1000800000000000000000000000000000000000000000000000000000000000000000000000004000000c μ := by rfl) : Keeps μ s
    (State.serEvent t p bits) := by
  refine Keeps.start h hm fun s h => ?_
  unfold State.serEvent
  try dsimp only
  repeat' first
    | with_reducible assumption | exact rfl | with_reducible apply Keeps.setSer | with_reducible refine Keeps.upd ?_

theorem Keeps.serFill {μ : Nat} {s t : State} (h : Keeps μ s t) (p : Nat) (a0 : Nat) (hm : Sub 0x40000000 μ := by rfl)
    : Keeps μ s (State.serFill t p a0) := by
  refine Keeps.start h hm ?_
  clear h hm s
  intro s h
  induction a0 generalizing t with
  | zero => exact h
  | succ n ih =>
    unfold State.serFill
    dsimp only
    repeat' first | with_reducible assumption | exact rfl | exact rfl | with_reducible assumption | with_reducible apply ih | with_reducible apply Keeps.putSer | split | with_reducible refine Keeps.upd ?_

theorem Keeps.serAckSeq {μ : Nat} {s t : State} (h : Keeps μ s t) (p seq result ev : Nat) (hm : Sub
    0x1000800000000000000000000000000000000000000000000000000000000000000000000000004000000c μ := by rfl) : Keeps μ s
    (State.serAckSeq t p seq result ev) := by
  refine Keeps.start h hm fun s h => ?_
  unfold State.serAckSeq
  try dsimp only
  repeat' first
    | with_reducible assumption | exact rfl | with_reducible apply Keeps.serWrite | with_reducible apply Keeps.setSer
    | with_reducible refine Keeps.upd ?_

theorem Keeps.serAck {μ : Nat} {s t : State} (h : Keeps μ s t) (p result ev : Nat) (hm : Sub
    0x1000800000000000000000000000000000000000000000000000000000000000000000000000004000000c μ := by rfl) : Keeps μ s
    (State.serAck t p result ev) := by
  refine Keeps.start h hm fun s h => ?_
  unfold State.serAck
  repeat' first | with_reducible assumption | exact rfl | with_reducible apply Keeps.serAckSeq

theorem Keeps.serRefuse {μ : Nat} {s t : State} (h : Keeps μ s t) (p : Nat) (hm : Sub
    0x1000800000000000000000000000000000000000000000000000000000000000000000000000004000000c μ := by rfl) : Keeps μ s
    (State.serRefuse t p) := by
  refine Keeps.start h hm fun s h => ?_
  unfold State.serRefuse
  repeat' first | with_reducible assumption | exact rfl | with_reducible apply Keeps.serAck | split

theorem Keeps.serRead {μ : Nat} {s t : State} (h : Keeps μ s t) (p : Nat) (hm : Sub
    0x1000800000000000000000000000000000000000000000000000000000000000000000000000004000000c μ := by rfl) : Keeps μ s
    (State.serRead t p) := by
  refine Keeps.start h hm fun s h => ?_
  unfold State.serRead
  try dsimp only
  repeat' first
    | with_reducible assumption | exact rfl | with_reducible apply Keeps.setSer | with_reducible apply Keeps.serFill
    | with_reducible apply Keeps.serRefuse | split | with_reducible refine Keeps.upd ?_

theorem Keeps.serWake {μ : Nat} {s t : State} (h : Keeps μ s t) (p cause : Nat) (hm : Sub
    0x1000800000000000000000000000000000000000000000000000000000000000000000000000004000000c μ := by rfl) : Keeps μ s
    (State.serWake t p cause) := by
  refine Keeps.start h hm fun s h => ?_
  unfold State.serWake
  try dsimp only
  repeat' first
    | with_reducible assumption | exact rfl | with_reducible apply Keeps.setSer | with_reducible refine Keeps.upd ?_

theorem Keeps.serDoorbell {μ : Nat} {s t : State} (h : Keeps μ s t) (v q : Nat) (hm : Sub
    0x1000800000000000000000000000000000000000000000000000000000000000000000000000004000000c μ := by rfl) : Keeps μ s
    (State.serDoorbell t v q) := by
  refine Keeps.start h hm fun s h => ?_
  unfold State.serDoorbell
  try dsimp only
  repeat' first
    | with_reducible assumption | exact rfl | with_reducible apply Keeps.serRead | with_reducible apply Keeps.serWake
    | with_reducible refine Keeps.foldl ?_ (fun _ _ _ => ?_) | split

theorem Keeps.execSerialAreaPoll {μ : Nat} {s t : State} (h : Keeps μ s t) (port : Nat) (hm : Sub
    0x1000800000000000000000000000000000000000000000000000000000000000000000000000004000002c μ := by rfl) : KeepsO μ s
    (Sys2Proof.Machine.execSerialAreaPoll port t) := by
  refine Keeps.startO h hm fun s h => ?_
  unfold Sys2Proof.Machine.execSerialAreaPoll
  try dsimp only
  repeat' first
    | with_reducible assumption | exact rfl | with_reducible apply Keeps.runTo | with_reducible apply Keeps.putSer
    | with_reducible apply Keeps.serRead | with_reducible apply Keeps.next
    | with_reducible refine Keeps.fst (by assumption) ?_ | split | with_reducible refine Keeps.upd ?_

theorem Keeps.execSerialNotifyPost {μ : Nat} {s t : State} (h : Keeps μ s t) (port : Nat) (hm : Sub
    0x38000042010008000000044c02000000040000000000000000000000008000061c00000be000000000000485c0038ac μ := by rfl) :
    KeepsO μ s (Sys2Proof.Machine.execSerialNotifyPost port t) := by
  refine Keeps.startO h hm fun s h => ?_
  unfold Sys2Proof.Machine.execSerialNotifyPost
  try dsimp only
  repeat' first
    | with_reducible assumption | exact rfl | with_reducible apply Keeps.runTo | with_reducible apply Keeps.post
    | with_reducible apply Keeps.setSer | with_reducible apply Keeps.next
    | with_reducible refine Keeps.fst (by assumption) ?_ | split | with_reducible refine Keeps.upd ?_

theorem Keeps.execSerialSleep {μ : Nat} {s t : State} (h : Keeps μ s t) (port : Nat) (hm : Sub
    0x1000800000000000000000000000000000000000000000000000000000000000000000000000004000000c μ := by rfl) : KeepsO μ s
    (Sys2Proof.Machine.execSerialSleep port t) := by
  refine Keeps.startO h hm fun s h => ?_
  unfold Sys2Proof.Machine.execSerialSleep
  try dsimp only
  repeat' first
    | with_reducible assumption | exact rfl | with_reducible apply Keeps.setSer | with_reducible apply Keeps.serAck
    | with_reducible apply Keeps.next | with_reducible refine Keeps.fst (by assumption) ?_ | split
    | with_reducible refine Keeps.upd ?_

theorem Keeps.execSerialSleepEnter {μ : Nat} {s t : State} (h : Keeps μ s t) (port : Nat) (hm : Sub
    0x1000800000000000000000000000000000000000000000000000000000000000000000000000004000000c μ := by rfl) : KeepsO μ s
    (Sys2Proof.Machine.execSerialSleepEnter port t) := by
  refine Keeps.startO h hm fun s h => ?_
  unfold Sys2Proof.Machine.execSerialSleepEnter
  try dsimp only
  repeat' first
    | with_reducible assumption | exact rfl | with_reducible apply Keeps.setSer | with_reducible apply Keeps.serAck
    | with_reducible apply Keeps.next | with_reducible refine Keeps.fst (by assumption) ?_ | split
    | with_reducible refine Keeps.upd ?_

theorem Keeps.rxEntry {μ : Nat} {s t : State} (h : Keeps μ s t) (p w : Nat) (now : Bool) (hm : Sub
    0x1080800000000000000000000000000000000000000000000000000000000000000000000000004000000c μ := by rfl) : Keeps μ s
    (State.rxEntry t p w now) := by
  refine Keeps.start h hm fun s h => ?_
  unfold State.rxEntry
  try dsimp only
  repeat' first
    | with_reducible assumption | exact rfl | with_reducible apply Keeps.bump | with_reducible apply Keeps.serWrite
    | with_reducible apply Keeps.setSer | with_reducible apply Keeps.serEvent
    | with_reducible refine Keeps.fst (by assumption) ?_ | split | with_reducible refine Keeps.upd ?_

theorem Keeps.execSerialRxIdle {μ : Nat} {s t : State} (h : Keeps μ s t) (port : Nat) (hm : Sub
    0x1000800000000000000000000000000000000000000000000000000000000000000000000000004000002c μ := by rfl) : KeepsO μ s
    (Sys2Proof.Machine.execSerialRxIdle port t) := by
  refine Keeps.startO h hm fun s h => ?_
  unfold Sys2Proof.Machine.execSerialRxIdle
  try dsimp only
  repeat' first
    | with_reducible assumption | exact rfl | with_reducible apply Keeps.runTo | with_reducible apply Keeps.setSer
    | with_reducible apply Keeps.next | with_reducible refine Keeps.fst (by assumption) ?_ | split
    | with_reducible refine Keeps.upd ?_

theorem Keeps.execSerialStartEdge {μ : Nat} {s t : State} (h : Keeps μ s t) (v : StartEdge) (hm : Sub
    0x1000800000000000000000000000000000000000000000000000000000000000000000000000004000000c μ := by rfl) : KeepsO μ s
    (Sys2Proof.Machine.execSerialStartEdge v t) := by
  refine Keeps.startO h hm fun s h => ?_
  unfold Sys2Proof.Machine.execSerialStartEdge
  try dsimp only
  repeat' first
    | with_reducible assumption | exact rfl | with_reducible apply Keeps.setSer | with_reducible apply Keeps.next
    | with_reducible refine Keeps.fst (by assumption) ?_ | split | with_reducible refine Keeps.upd ?_

theorem Keeps.rxCount {μ : Nat} {s t : State} (h : Keeps μ s t) (p fl : Nat) (hm : Sub
    0x40380000000000000000000000000000000000000000000000000000000000000000000000000000000000 μ := by rfl) : Keeps μ s
    (State.rxCount t p fl) := by
  refine Keeps.start h hm fun s h => ?_
  unfold State.rxCount
  try dsimp only
  repeat' first
    | with_reducible assumption | exact rfl | with_reducible apply Keeps.bump | with_reducible apply Keeps.addWrap
    | split

theorem Keeps.rollCount {μ : Nat} {s t : State} (h : Keeps μ s t) (p : Nat) (e : Elem) (answer : List RollChar) (hm : Sub
    0x40780000000000000000000000000000000000000000000000000000000000000000000000000000000000 μ := by rfl) : Keeps μ s
    (State.rollCount t p e answer) := by
  refine Keeps.start h hm fun s h => ?_
  unfold State.rollCount
  try dsimp only
  repeat' first
    | with_reducible assumption | exact rfl | with_reducible apply Keeps.bump | with_reducible apply Keeps.rxCount
    | split | with_reducible refine Keeps.foldl ?_ (fun _ _ _ => ?_)

theorem Keeps.linEnd {μ : Nat} {s t : State} (h : Keeps μ s t) (p : Nat) (f : LinFrame) (hm : Sub
    0x3280800000000000000000000000000000000000000000000000000000000000000000000000004000000c μ := by rfl) : Keeps μ s
    (State.linEnd t p f) := by
  refine Keeps.start h hm fun s h => ?_
  unfold State.linEnd
  try dsimp only
  repeat' first
    | with_reducible assumption | exact rfl | with_reducible apply Keeps.addF | with_reducible apply Keeps.addWrap
    | with_reducible apply Keeps.serWrite | with_reducible apply Keeps.setSer | with_reducible apply Keeps.rxEntry
    | with_reducible refine Keeps.fst (by assumption) ?_ | split | with_reducible refine Keeps.upd ?_

theorem Keeps.execLinFrameDeadline {μ : Nat} {s t : State} (h : Keeps μ s t) (port : Nat) (hm : Sub
    0x3280800000000000000000000000000000000000000000000000000000000000000000000000004000002c μ := by rfl) : KeepsO μ s
    (Sys2Proof.Machine.execLinFrameDeadline port t) := by
  refine Keeps.startO h hm fun s h => ?_
  unfold Sys2Proof.Machine.execLinFrameDeadline
  repeat' first
    | with_reducible assumption | exact rfl | with_reducible apply Keeps.runTo | with_reducible apply Keeps.linEnd
    | with_reducible apply Keeps.next | with_reducible refine Keeps.fst (by assumption) ?_ | split
    | with_reducible refine Keeps.upd ?_

theorem Keeps.execLinBreakDetect {μ : Nat} {s t : State} (h : Keeps μ s t) (port : Nat) (b : LinBreak) (hm : Sub
    0x3281800000000000000000000000000000000000000000000000000000000000000000000000004000000c μ := by rfl) : KeepsO μ s
    (Sys2Proof.Machine.execLinBreakDetect port b t) := by
  refine Keeps.startO h hm fun s h => ?_
  unfold Sys2Proof.Machine.execLinBreakDetect
  try dsimp only
  repeat' first
    | with_reducible assumption | exact rfl | with_reducible apply Keeps.wr | with_reducible apply Keeps.setSer
    | with_reducible apply Keeps.linEnd | with_reducible apply Keeps.next
    | with_reducible refine Keeps.fst (by assumption) ?_ | split | with_reducible refine Keeps.upd ?_

theorem Keeps.linSend {μ : Nat} {s t : State} (h : Keeps μ s t) (p : Nat) (f : LinFrame) (hm : Sub
    0x1000800000000000000000000000000000000000000000000000000000000000000000000000084000000c μ := by rfl) : Keeps μ s
    (State.linSend t p f) := by
  refine Keeps.start h hm fun s h => ?_
  unfold State.linSend
  try dsimp only
  repeat' first
    | with_reducible assumption | exact rfl | with_reducible apply Keeps.emit | with_reducible apply Keeps.setSer
    | with_reducible refine Keeps.fst (by assumption) ?_ | split | with_reducible refine Keeps.upd ?_

theorem Keeps.linPidIn {μ : Nat} {s t : State} (h : Keeps μ s t) (p : Nat) (f : LinFrame) (b : Nat) (hm :
    Sub 0x3280800000000000000000000000000000000000000000000000000000000000000000000000084000000c μ := by rfl) : Keeps
    μ s (State.linPidIn t p f b) := by
  refine Keeps.start h hm fun s h => ?_
  unfold State.linPidIn
  try dsimp only
  repeat' first
    | with_reducible assumption | exact rfl | with_reducible apply Keeps.putSer | with_reducible apply Keeps.setSer
    | with_reducible apply Keeps.linEnd | with_reducible apply Keeps.linSend | split
    | with_reducible refine Keeps.upd ?_

theorem Keeps.linByte {μ : Nat} {s t : State} (h : Keeps μ s t) (p : Nat) (e : Elem) (f : LinFrame) (c : RxChar) (hm :
    Sub 0x3280800000000000000000000000000000000000000000000000000000000000000000000000084000000c μ := by rfl) : Keeps
    μ s (State.linByte t p e f c) := by
  refine Keeps.start h hm fun s h => ?_
  unfold State.linByte
  try dsimp only
  repeat' first
    | with_reducible assumption | exact rfl | with_reducible apply Keeps.setSer | with_reducible apply Keeps.rxEntry
    | with_reducible apply Keeps.linEnd | with_reducible apply Keeps.linPidIn
    | with_reducible refine Keeps.fst (by assumption) ?_ | split | with_reducible refine Keeps.upd ?_

theorem Keeps.execSerialRxCharEnd {μ : Nat} {s t : State} (h : Keeps μ s t) (port : Nat) (w : RxWave) (hm : Sub
    0x72f8800000000000000000000000000000000000000000000000000000000000000000000000084000002c μ := by rfl) : KeepsO μ s
    (Sys2Proof.Machine.execSerialRxCharEnd port w t) := by
  refine Keeps.startO h hm fun s h => ?_
  unfold Sys2Proof.Machine.execSerialRxCharEnd
  try dsimp only
  repeat' first
    | with_reducible assumption | exact rfl | with_reducible apply Keeps.bump | with_reducible apply Keeps.runTo
    | with_reducible apply Keeps.setSer | with_reducible apply Keeps.rxEntry | with_reducible apply Keeps.rxCount
    | with_reducible apply Keeps.linByte | with_reducible apply Keeps.next
    | with_reducible refine Keeps.fst (by assumption) ?_ | split | with_reducible refine Keeps.upd ?_

theorem Keeps.execSerialWakeEdge {μ : Nat} {s t : State} (h : Keeps μ s t) (port : Nat) (hm : Sub
    0x1100800000000000000000000000000000000000000000000000000000000000000000000000004000000c μ := by rfl) : KeepsO μ s
    (Sys2Proof.Machine.execSerialWakeEdge port t) := by
  refine Keeps.startO h hm fun s h => ?_
  unfold Sys2Proof.Machine.execSerialWakeEdge
  try dsimp only
  repeat' first
    | with_reducible assumption | exact rfl | with_reducible apply Keeps.bump | with_reducible apply Keeps.setSer
    | with_reducible apply Keeps.serWake | with_reducible apply Keeps.next
    | with_reducible refine Keeps.fst (by assumption) ?_ | split | with_reducible refine Keeps.upd ?_

theorem Keeps.execSerialAddressMatch {μ : Nat} {s t : State} (h : Keeps μ s t) (port : Nat) (w : RxWave) (hm : Sub
    0x50f8800000000000000000000000000000000000000000000000000000000000000000000000004000000c μ := by rfl) : KeepsO μ s
    (Sys2Proof.Machine.execSerialAddressMatch port w t) := by
  refine Keeps.startO h hm fun s h => ?_
  unfold Sys2Proof.Machine.execSerialAddressMatch
  try dsimp only
  repeat' first
    | with_reducible assumption | exact rfl | with_reducible apply Keeps.bump | with_reducible apply Keeps.setSer
    | with_reducible apply Keeps.serWake | with_reducible apply Keeps.rxEntry
    | with_reducible apply Keeps.rxCount | with_reducible apply Keeps.next
    | with_reducible refine Keeps.fst (by assumption) ?_ | split | with_reducible refine Keeps.upd ?_

theorem Keeps.skipTx {μ : Nat} {s t : State} (h : Keeps μ s t) (p n bad : Nat) (hm : Sub
    0x1800800000000000000000000000000000000000000000000000000000000000000000000000004000000c μ := by rfl) : Keeps μ s
    (State.skipTx t p n bad) := by
  refine Keeps.start h hm fun s h => ?_
  unfold State.skipTx
  try dsimp only
  repeat' first
    | with_reducible assumption | exact rfl | with_reducible apply Keeps.addF | with_reducible apply Keeps.serWrite
    | with_reducible apply Keeps.setSer | with_reducible apply Keeps.serFill | with_reducible refine Keeps.upd ?_

theorem Keeps.skipBad {μ : Nat} {s t : State} (h : Keeps μ s t) (p : Nat) (e : Elem) (a0 : Nat) (hm : Sub
    0x1800800000000000000000000000000000000000000000000000000000000000000000000000004000000c μ := by rfl) : Keeps μ s
    (State.skipBad t p e a0) := by
  refine Keeps.start h hm ?_
  clear h hm s
  intro s h
  induction a0 generalizing t with
  | zero => exact h
  | succ n ih =>
    unfold State.skipBad
    dsimp only
    repeat' first | with_reducible assumption | exact rfl | exact rfl | with_reducible assumption | with_reducible apply ih | with_reducible apply Keeps.skipTx | split | with_reducible refine Keeps.upd ?_

theorem Keeps.txBegin {μ : Nat} {s t : State} (h : Keeps μ s t) (p : Nat) (e : Elem) (ts b : Nat) (hm : Sub
    0x1000800000000000000000000000000000000000000000000000000000000000000000000000084000000c μ := by rfl) : Keeps μ s
    (State.txBegin t p e ts b) := by
  refine Keeps.start h hm fun s h => ?_
  unfold State.txBegin
  try dsimp only
  repeat' first
    | with_reducible assumption | exact rfl | with_reducible apply Keeps.emit | with_reducible apply Keeps.setSer
    | with_reducible refine Keeps.fst (by assumption) ?_ | split | with_reducible refine Keeps.upd ?_

theorem Keeps.execSerialTxStart {μ : Nat} {s t : State} (h : Keeps μ s t) (port : Nat) (hm : Sub
    0x1800800000000000000000000000000000000000000000000000000000000000000000000000084000000c μ := by rfl) : KeepsO μ s
    (Sys2Proof.Machine.execSerialTxStart port t) := by
  refine Keeps.startO h hm fun s h => ?_
  unfold Sys2Proof.Machine.execSerialTxStart
  try dsimp only
  repeat' first
    | with_reducible assumption | exact rfl | with_reducible apply Keeps.setSer | with_reducible apply Keeps.skipBad
    | with_reducible apply Keeps.txBegin | with_reducible apply Keeps.next
    | with_reducible refine Keeps.fst (by assumption) ?_ | split | with_reducible refine Keeps.upd ?_

theorem Keeps.txIdle {μ : Nat} {s t : State} (h : Keeps μ s t) (p : Nat) (e : Elem) (hm : Sub
    0x1000800000000000000000000000000000000000000000000000000000000000000000000000004000000c μ := by rfl) : Keeps μ s
    (State.txIdle t p e) := by
  refine Keeps.start h hm fun s h => ?_
  unfold State.txIdle
  try dsimp only
  repeat' first
    | with_reducible assumption | exact rfl | with_reducible apply Keeps.setSer | split
    | with_reducible refine Keeps.upd ?_

theorem Keeps.txFollow {μ : Nat} {s t : State} (h : Keeps μ s t) (p : Nat) (e : Elem) (t' : SerTx) (hm : Sub
    0x3a80800000000000000000000000000000000000000000000000000000000000000000000000084000000c μ := by rfl) : Keeps μ s
    (State.txFollow t p e t') := by
  refine Keeps.start h hm fun s h => ?_
  unfold State.txFollow
  try dsimp only
  repeat' first
    | with_reducible assumption | exact rfl | with_reducible apply Keeps.emit | with_reducible apply Keeps.setSer
    | with_reducible apply Keeps.linEnd | with_reducible apply Keeps.linSend | with_reducible apply Keeps.skipBad
    | with_reducible apply Keeps.txBegin | with_reducible apply Keeps.txIdle
    | with_reducible refine Keeps.fst (by assumption) ?_ | split | with_reducible refine Keeps.upd ?_

theorem Keeps.execSerialTxCharEnd {μ : Nat} {s t : State} (h : Keeps μ s t) (port : Nat) (hm : Sub
    0x3a80800000000000000000000000000000000000000000000000000000000000000000000000084000002c μ := by rfl) : KeepsO μ s
    (Sys2Proof.Machine.execSerialTxCharEnd port t) := by
  refine Keeps.startO h hm fun s h => ?_
  unfold Sys2Proof.Machine.execSerialTxCharEnd
  try dsimp only
  repeat' first
    | with_reducible assumption | exact rfl | with_reducible apply Keeps.addWrap | with_reducible apply Keeps.runTo
    | with_reducible apply Keeps.serWrite | with_reducible apply Keeps.setSer | with_reducible apply Keeps.serFill
    | with_reducible apply Keeps.txFollow | with_reducible apply Keeps.next
    | with_reducible refine Keeps.fst (by assumption) ?_ | split | with_reducible refine Keeps.upd ?_

theorem Keeps.execSerialDeTailEnd {μ : Nat} {s t : State} (h : Keeps μ s t) (port : Nat) (hm : Sub
    0x1000800000000000000000000000000000000000000000000000000000000000000000000000004000002c μ := by rfl) : KeepsO μ s
    (Sys2Proof.Machine.execSerialDeTailEnd port t) := by
  refine Keeps.startO h hm fun s h => ?_
  unfold Sys2Proof.Machine.execSerialDeTailEnd
  try dsimp only
  repeat' first
    | with_reducible assumption | exact rfl | with_reducible apply Keeps.runTo | with_reducible apply Keeps.setSer
    | with_reducible apply Keeps.next | with_reducible refine Keeps.fst (by assumption) ?_ | split
    | with_reducible refine Keeps.upd ?_

theorem Keeps.rollSlot {μ : Nat} {s t : State} (h : Keeps μ s t) (p : Nat) (e : Elem) (q : Search) (frame : List Byte)
    (bits : Nat) (hm : Sub 0x3000800000000000000000000000000000000000000000000000000000000000000000000000084000000c μ
    := by rfl) : Keeps μ s (State.rollSlot t p e q frame bits) := by
  refine Keeps.start h hm fun s h => ?_
  unfold State.rollSlot
  try dsimp only
  repeat' first
    | with_reducible assumption | exact rfl | with_reducible apply Keeps.addWrap | with_reducible apply Keeps.emit
    | with_reducible apply Keeps.setSer | with_reducible refine Keeps.foldl ?_ (fun _ _ _ => ?_)
    | with_reducible refine Keeps.upd ?_

theorem Keeps.rollEnd {μ : Nat} {s t : State} (h : Keeps μ s t) (p : Nat) (q : Search) (result : Nat)
    (hm : Sub 0x1000800000000000000000000000000000000000000000000000000000000000000000000000004000000c μ := by rfl) :
    Keeps μ s (State.rollEnd t p q result) := by
  refine Keeps.start h hm fun s h => ?_
  unfold State.rollEnd
  try dsimp only
  repeat' first
    | with_reducible assumption | exact rfl | with_reducible apply Keeps.serWrite | with_reducible apply Keeps.setSer
    | with_reducible apply Keeps.serAckSeq | with_reducible apply Keeps.serAck
    | with_reducible refine Keeps.fst (by assumption) ?_ | split | with_reducible refine Keeps.upd ?_

theorem Keeps.rollSearch {μ : Nat} {s t : State} (h : Keeps μ s t) (p : Nat) (e : Elem) (q : Search) (hm : Sub
    0x3400800000000000000000000000000000000000000000000000000000000000000000000000084000000c μ := by rfl) : Keeps μ s
    (State.rollSearch t p e q) := by
  refine Keeps.start h hm fun s h => ?_
  unfold State.rollSearch
  try dsimp only
  repeat' first
    | with_reducible assumption | exact rfl | with_reducible apply Keeps.bump | with_reducible apply Keeps.probe
    | with_reducible apply Keeps.rollSlot | with_reducible refine Keeps.upd ?_

theorem Keeps.rollConfirm {μ : Nat} {s t : State} (h : Keeps μ s t) (p : Nat) (e : Elem) (q : Search) (hm : Sub
    0x3400800000000000000000000000000000000000000000000000000000000000000000000000084000000c μ := by rfl) : Keeps μ s
    (State.rollConfirm t p e q) := by
  refine Keeps.start h hm fun s h => ?_
  unfold State.rollConfirm
  try dsimp only
  repeat' first
    | with_reducible assumption | exact rfl | with_reducible apply Keeps.rollEnd
    | with_reducible apply Keeps.rollSearch | split | with_reducible refine Keeps.upd ?_

theorem Keeps.rollNext {μ : Nat} {s t : State} (h : Keeps μ s t) (p : Nat) (e : Elem) (q : Search) (hm : Sub
    0x3400800000000000000000000000000000000000000000000000000000000000000000000000084000000c μ := by rfl) : Keeps μ s
    (State.rollNext t p e q) := by
  refine Keeps.start h hm fun s h => ?_
  unfold State.rollNext
  repeat' first
    | with_reducible assumption | exact rfl | with_reducible apply Keeps.rollSlot | with_reducible apply Keeps.rollEnd
    | with_reducible apply Keeps.rollConfirm | with_reducible refine Keeps.fst (by assumption) ?_ | split
    | with_reducible refine Keeps.upd ?_

theorem Keeps.probeJudge {μ : Nat} {s t : State} (h : Keeps μ s t) (p : Nat) (e : Elem) (q : Search) (pre lvl : Nat)
    (answered : Bool) (hm : Sub
    0x3400800000000000000000000000000000000000000000000000000000000000000000000000084000000c μ := by rfl) : Keeps μ s
    (State.probeJudge t p e q pre lvl answered) := by
  refine Keeps.start h hm fun s h => ?_
  unfold State.probeJudge
  try dsimp only
  repeat' first
    | with_reducible assumption | exact rfl | with_reducible apply Keeps.rollEnd | with_reducible apply Keeps.rollNext
    | split | with_reducible refine Keeps.upd ?_

theorem Keeps.pingJudge {μ : Nat} {s t : State} (h : Keeps μ s t) (p : Nat) (e : Elem) (q : Search) (a : Nat) (t' :
    List Nat) (again ok : Bool) (hm : Sub
    0x3400800000000000000000000000000000000000000000000000000000000000000000000000084000000c μ := by rfl) : Keeps μ s
    (State.pingJudge t p e q a t' again ok) := by
  refine Keeps.start h hm fun s h => ?_
  unfold State.pingJudge
  repeat' first
    | with_reducible assumption | exact rfl | with_reducible apply Keeps.rollNext | split
    | with_reducible refine Keeps.upd ?_

theorem Keeps.execRollcallSlotEnd {μ : Nat} {s t : State} (h : Keeps μ s t) (port : Nat) (answer : List RollChar) (hm :
    Sub 0x7478800000000000000000000000000000000000000000000000000000000000000000000000084000002c μ := by rfl) : KeepsO
    μ s (Sys2Proof.Machine.execRollcallSlotEnd port answer t) := by
  refine Keeps.startO h hm fun s h => ?_
  unfold Sys2Proof.Machine.execRollcallSlotEnd
  try dsimp only
  repeat' first
    | with_reducible assumption | exact rfl | with_reducible apply Keeps.rollCount | with_reducible apply Keeps.setSer
    | with_reducible apply Keeps.runTo | with_reducible apply Keeps.rollNext | with_reducible apply Keeps.probeJudge
    | with_reducible apply Keeps.pingJudge | with_reducible apply Keeps.next
    | with_reducible refine Keeps.fst (by assumption) ?_ | split | with_reducible refine Keeps.upd ?_

theorem Keeps.execSerialRollcall {μ : Nat} {s t : State} (h : Keeps μ s t) (port : Nat) (hm : Sub
    0x3400800000000000000000000000000000000000000000000000000000000000000000000000084000000c μ := by rfl) : KeepsO μ s
    (Sys2Proof.Machine.execSerialRollcall port t) := by
  refine Keeps.startO h hm fun s h => ?_
  unfold Sys2Proof.Machine.execSerialRollcall
  try dsimp only
  repeat' first
    | with_reducible assumption | exact rfl | with_reducible apply Keeps.serWrite | with_reducible apply Keeps.serAck
    | with_reducible apply Keeps.rollSearch | with_reducible apply Keeps.next
    | with_reducible refine Keeps.fst (by assumption) ?_ | split | with_reducible refine Keeps.upd ?_

theorem Keeps.execSerialCancel {μ : Nat} {s t : State} (h : Keeps μ s t) (port : Nat) (hm : Sub
    0x1000800000000000000000000000000000000000000000000000000000000000000000000000004000000c μ := by rfl) : KeepsO μ s
    (Sys2Proof.Machine.execSerialCancel port t) := by
  refine Keeps.startO h hm fun s h => ?_
  unfold Sys2Proof.Machine.execSerialCancel
  try dsimp only
  repeat' first
    | with_reducible assumption | exact rfl | with_reducible apply Keeps.setSer | with_reducible apply Keeps.serAck
    | with_reducible apply Keeps.next | with_reducible refine Keeps.fst (by assumption) ?_ | split
    | with_reducible refine Keeps.upd ?_

theorem Keeps.rollAbort {μ : Nat} {s t : State} (h : Keeps μ s t) (p : Nat) (hm : Sub
    0x1000800000000000000000000000000000000000000000000000000000000000000000000000004000000c μ := by rfl) : Keeps μ s
    (State.rollAbort t p) := by
  refine Keeps.start h hm fun s h => ?_
  unfold State.rollAbort
  repeat' first
    | with_reducible assumption | exact rfl | with_reducible apply Keeps.rollEnd
    | with_reducible refine Keeps.fst (by assumption) ?_ | split | with_reducible refine Keeps.upd ?_

theorem Keeps.rollHalt {μ : Nat} {s t : State} (h : Keeps μ s t) (p : Nat) (hm : Sub
    0x40000000 μ := by rfl) : Keeps μ s (State.rollHalt t p) := by
  refine Keeps.start h hm fun s h => ?_
  unfold State.rollHalt
  repeat' first
    | with_reducible assumption | exact rfl | with_reducible apply Keeps.putSer | split

theorem Keeps.serInit {μ : Nat} {s t : State} (h : Keeps μ s t) (p v : Nat) (hm : Sub
    0x1000800000000000000000000000000000000000000000000000000000000000000000000000004000000c μ := by rfl) : Keeps μ s
    (State.serInit t p v) := by
  refine Keeps.start h hm fun s h => ?_
  unfold State.serInit
  try dsimp only
  repeat' first
    | with_reducible assumption | exact rfl | with_reducible apply Keeps.serWrite | with_reducible apply Keeps.setSer
    | with_reducible refine Keeps.upd ?_

theorem Keeps.serRegs {μ : Nat} {s t : State} (h : Keeps μ s t) (e : Elem) (base : Nat) (hm : Sub
    0x66000000000000000000000000000000000000000000000000000000000000000000000000000000000 μ := by rfl) : Keeps μ s
    (State.serRegs t e base) := by
  refine Keeps.start h hm fun s h => ?_
  unfold State.serRegs
  repeat' first | with_reducible assumption | exact rfl | with_reducible apply Keeps.wr

theorem Keeps.serStart {μ : Nat} {s t : State} (h : Keeps μ s t) (e : Elem) (hm : Sub
    0x1006e00000000000000000000000000000000000000000000000000000000000000000000000004000000c μ := by rfl) : Keeps μ s
    (State.serStart t e) := by
  refine Keeps.start h hm fun s h => ?_
  unfold State.serStart
  try dsimp only
  repeat' first
    | with_reducible assumption | exact rfl | with_reducible apply Keeps.rollAbort
    | with_reducible apply Keeps.serInit | with_reducible apply Keeps.serRegs
    | with_reducible refine Keeps.fst (by assumption) ?_ | split | with_reducible refine Keeps.upd ?_

theorem Keeps.serStop {μ : Nat} {s t : State} (h : Keeps μ s t) (p : Nat) (hm : Sub
    0x1000a00000000000000000000000000000000000000000000000000000000000000000000000004000000c μ := by rfl) : Keeps μ s
    (State.serStop t p) := by
  refine Keeps.start h hm fun s h => ?_
  unfold State.serStop
  try dsimp only
  repeat' first
    | with_reducible assumption | exact rfl | with_reducible apply Keeps.wr | with_reducible apply Keeps.putSer
    | with_reducible apply Keeps.rollAbort | with_reducible refine Keeps.upd ?_

theorem Keeps.serHalt {μ : Nat} {s t : State} (h : Keeps μ s t) (v : Nat) (hm : Sub
    0x1000800000000000000000000000000000000000000000000000000000000000000000000000004000000c μ := by rfl) : Keeps μ s
    (State.serHalt t v) := by
  refine Keeps.start h hm fun s h => ?_
  unfold State.serHalt
  try dsimp only
  repeat' first
    | with_reducible assumption | exact rfl | with_reducible apply Keeps.serWrite | with_reducible apply Keeps.setSer
    | with_reducible apply Keeps.rollHalt | with_reducible refine Keeps.foldl ?_ (fun _ _ _ => ?_)

theorem Keeps.chkViolate {μ : Nat} {s t : State} (h : Keeps μ s t) (v ofs : Nat) (write : Bool) (hm : Sub
    0x8000040000000000000000000000000000000000000000000000000000000000000000be0000000000004800000000 μ := by rfl) :
    Keeps μ s (State.chkViolate t v ofs write) := by
  refine Keeps.start h hm fun s h => ?_
  unfold State.chkViolate
  repeat' first | with_reducible assumption | exact rfl | with_reducible apply Keeps.violate

theorem Keeps.setChk {μ : Nat} {s t : State} (h : Keeps μ s t) (c v n : Nat) (hm : Sub
    0x100000000000000000000000000000000000000000000000000000000000000000000000000000080000000 μ := by rfl) : Keeps μ s
    (State.setChk t c v n) := by
  refine Keeps.start h hm fun s h => ?_
  unfold State.setChk
  repeat' first
    | with_reducible assumption | exact rfl | with_reducible apply Keeps.wr | with_reducible refine Keeps.upd ?_

theorem Keeps.chkInit {μ : Nat} {s t : State} (h : Keeps μ s t) (e : Elem) (hm : Sub
    0x100000000000000000000000000000000000000000000000000000000000000000000000000000080000000 μ := by rfl) : Keeps μ s
    (State.chkInit t e) := by
  refine Keeps.start h hm fun s h => ?_
  unfold State.chkInit
  repeat' first | with_reducible assumption | exact rfl | with_reducible apply Keeps.setChk

theorem Keeps.chkFeed {μ : Nat} {s t : State} (h : Keeps μ s t) (v w : Nat) (hm : Sub
    0x8000040100000000000000000000000000000000000000000000000000000000000000be0000000000004880000000 μ := by rfl) :
    Keeps μ s (State.chkFeed t v w) := by
  refine Keeps.start h hm fun s h => ?_
  unfold State.chkFeed
  try dsimp only
  repeat' first
    | with_reducible assumption | exact rfl | with_reducible apply Keeps.chkViolate
    | with_reducible apply Keeps.setChk | with_reducible refine Keeps.fst (by assumption) ?_ | split
    | with_reducible refine Keeps.upd ?_

theorem Keeps.chkRead {μ : Nat} {s t : State} (h : Keeps μ s t) (v : Nat) (hm : Sub
    0x8000040000000000000000000000000000000000000000000000000000000000000000be0000000000004800000000 μ := by rfl) :
    Keeps μ s (State.chkRead t v).1 := by
  refine Keeps.start h hm fun s h => ?_
  unfold State.chkRead
  repeat' first
    | with_reducible assumption | exact rfl | with_reducible apply Keeps.chkViolate
    | with_reducible refine Keeps.fst (by assumption) ?_ | split | with_reducible refine Keeps.upd ?_

theorem Keeps.chkCtrl {μ : Nat} {s t : State} (h : Keeps μ s t) (v w : Nat) (hm : Sub
    0x10008000040100000000000000000000000000000000000000000000000000000000000000be0000000000004880000000 μ := by rfl)
    : Keeps μ s (State.chkCtrl t v w) := by
  refine Keeps.start h hm fun s h => ?_
  unfold State.chkCtrl
  try dsimp only
  repeat' first
    | with_reducible assumption | exact rfl | with_reducible apply Keeps.fieldWrite
    | with_reducible apply Keeps.chkViolate | with_reducible apply Keeps.chkInit
    | with_reducible refine Keeps.fst (by assumption) ?_ | split | with_reducible refine Keeps.upd ?_

theorem Keeps.execCheckFeed {μ : Nat} {s t : State} (h : Keeps μ s t) (p : Path) (voice : Nat) (v : Word) (hm : Sub
    0x8000040100000000000000000000000000000000000000000000000000000000000000be0000000000004880000000 μ := by rfl) :
    KeepsO μ s (Sys2Proof.Machine.execCheckFeed p voice v t) := by
  refine Keeps.startO h hm fun s h => ?_
  unfold Sys2Proof.Machine.execCheckFeed
  repeat' first
    | with_reducible assumption | exact rfl | with_reducible apply Keeps.pageWrite
    | with_reducible apply Keeps.chkFeed | with_reducible apply Keeps.next
    | (intro (_ : State) (_ : Keeps _ _ _); try dsimp only)

theorem Keeps.execCheckRestart {μ : Nat} {s t : State} (h : Keeps μ s t) (p : Path) (voice : Nat) (v : Word) (hm : Sub
    0x10008000040100000000000000000000000000000000000000000000000000000000000000be0000000000004880000000 μ := by rfl)
    : KeepsO μ s (Sys2Proof.Machine.execCheckRestart p voice v t) := by
  refine Keeps.startO h hm fun s h => ?_
  unfold Sys2Proof.Machine.execCheckRestart
  repeat' first
    | with_reducible assumption | exact rfl | with_reducible apply Keeps.pageWrite
    | with_reducible apply Keeps.chkCtrl | with_reducible apply Keeps.next
    | (intro (_ : State) (_ : Keeps _ _ _); try dsimp only)

theorem Keeps.epochLost {μ : Nat} {s t : State} (h : Keeps μ s t) (c : Nat) (d : Desc) (hm : Sub
    0x38000046000000000000044c020000000400000000000000000000000080c0061c00000be000000000000481c00788c μ := by rfl) :
    Keeps μ s (State.epochLost t c d) := by
  refine Keeps.start h hm fun s h => ?_
  unfold State.epochLost
  try dsimp only
  repeat' first
    | with_reducible assumption | exact rfl | with_reducible apply Keeps.addF | with_reducible apply Keeps.dropFermata
    | with_reducible apply Keeps.setChan | with_reducible apply Keeps.completeChain
    | with_reducible apply Keeps.endDesc | with_reducible apply Keeps.dropWaiter
    | with_reducible refine Keeps.fst (by assumption) ?_ | split | with_reducible refine Keeps.upd ?_

theorem Keeps.landOutbound {μ : Nat} {s t : State} (h : Keeps μ s t) (c : Nat) (hm : Sub
    0x4000000000000000000000000000000400c μ := by rfl) : Keeps μ s (State.landOutbound t c) := by
  refine Keeps.start h hm fun s h => ?_
  unfold State.landOutbound
  try dsimp only
  repeat' first
    | with_reducible assumption | exact rfl | with_reducible apply Keeps.setChan | with_reducible apply Keeps.landAll
    | split | with_reducible refine Keeps.upd ?_

theorem Keeps.endOutbound {μ : Nat} {s t : State} (h : Keeps μ s t) (hm : Sub
    0x38000046000000000000044c020000000400000000000000000000000080c0061c00000be000000000000481c00788c μ := by rfl) :
    Keeps μ s (State.endOutbound t) := by
  refine Keeps.start h hm fun s h => ?_
  unfold State.endOutbound
  try dsimp only
  repeat' first
    | with_reducible assumption | exact rfl | with_reducible apply Keeps.epochLost
    | with_reducible apply Keeps.landOutbound | with_reducible refine Keeps.foldl ?_ (fun _ _ _ => ?_)
    | with_reducible refine Keeps.foldl_fst ?_ (fun _ _ _ => ?_)

theorem Keeps.hostReset {μ : Nat} {s t : State} (h : Keeps μ s t) (down : Bool) (hm : Sub
    0x380000ff200000000000044c020000000400000000000000000000000080c0061c00000fe000000000000481c00788f μ := by rfl) :
    Keeps μ s (State.hostReset t down) := by
  refine Keeps.start h hm fun s h => ?_
  unfold State.hostReset
  dsimp only
  refine Keeps.endOutbound ?_
  have k := Keeps.resetBlock (h.nextEpoch 51) hostRegs fun _ _ => false
  split
  · exact k.bump _ _
  · exact k

theorem Keeps.execHostReset {μ : Nat} {s t : State} (h : Keeps μ s t) (k : HostResetKind) (hm : Sub
    0x380000ff200000000000044c020000000400000000000000000000000080c0061c00000fe000000000000481c00788f μ := by rfl) :
    KeepsO μ s (Sys2Proof.Machine.execHostReset k t) := by
  refine Keeps.startO h hm fun s h => ?_
  unfold Sys2Proof.Machine.execHostReset
  repeat' first
    | with_reducible assumption | exact rfl | with_reducible apply Keeps.hostReset | with_reducible apply Keeps.next
    | split

theorem Keeps.execHostLinkUp {μ : Nat} {s t : State} (h : Keeps μ s t) (speed width : Nat) (msixEnable extTag : Bool)
    (hm : Sub 0x200000000000000000000000000000000000000000000000000000000000000000000000000000000000000 μ := by rfl) :
    KeepsO μ s (Sys2Proof.Machine.execHostLinkUp speed width msixEnable extTag t) := by
  refine Keeps.startO h hm fun s h => ?_
  unfold Sys2Proof.Machine.execHostLinkUp
  repeat' first
    | with_reducible assumption | exact rfl | with_reducible apply Keeps.wrF | with_reducible apply Keeps.next | split

theorem Keeps.execInboundUnsupportedAccess {μ : Nat} {s t : State} (h : Keeps μ s t) (q : InboundReq) (hm : Sub
    0x1000000000000000000000000000000000000000000000000000000000000000000000000000001000000000 μ := by rfl) : KeepsO μ
    s (Sys2Proof.Machine.execInboundUnsupportedAccess q t) := by
  refine Keeps.startO h hm fun s h => ?_
  unfold Sys2Proof.Machine.execInboundUnsupportedAccess
  try dsimp only
  repeat' first
    | with_reducible assumption | exact rfl | with_reducible apply Keeps.bump | with_reducible apply Keeps.next
    | split | with_reducible refine Keeps.upd ?_

theorem Keeps.unmaskVector {μ : Nat} {s t : State} (h : Keeps μ s t) (vec : Nat) (hm : Sub
    0xc0000000000000000000000000000000000000000000000000000000000000000000000000000000800000000 μ := by rfl) : Keeps μ
    s (State.unmaskVector t vec) := by
  refine Keeps.start h hm fun s h => ?_
  unfold State.unmaskVector
  try dsimp only
  repeat' first
    | with_reducible assumption | exact rfl | with_reducible apply Keeps.clrB | with_reducible apply Keeps.msix
    | split

theorem Keeps.execMsixUnmask {μ : Nat} {s t : State} (h : Keeps μ s t) (vec : Nat) (hm : Sub
    0xc0000000000000000000000000000000000000000000000000000000000000000000000000000000800000000 μ := by rfl) : KeepsO
    μ s (Sys2Proof.Machine.execMsixUnmask vec t) := by
  refine Keeps.startO h hm fun s h => ?_
  unfold Sys2Proof.Machine.execMsixUnmask
  repeat' first
    | with_reducible assumption | exact rfl | with_reducible apply Keeps.unmaskVector
    | with_reducible apply Keeps.next | split

theorem Keeps.execAerError {μ : Nat} {s t : State} (h : Keeps μ s t) (k : AerKind) (hm : Sub 0x800000000 μ := by rfl)
    : KeepsO μ s (Sys2Proof.Machine.execAerError k t) := by
  refine Keeps.startO h hm fun s h => ?_
  unfold Sys2Proof.Machine.execAerError
  repeat' first
    | with_reducible assumption | exact rfl | with_reducible apply Keeps.emit | with_reducible apply Keeps.next
    | split

end Sys2Proof.Machine
end

