-- ==== Sys2Proof/Laws/KeepsScore.lean ====
section
/-!
SUPPORT. What the parts of a command keep: scores, power, the life cycle, barlines and the register bus.
-/

namespace Sys2Proof.Machine

set_option Elab.async false

theorem Keeps.eventLines {μ : Nat} {s t : State} (h : Keeps μ s t) (kept : List Elem) (hm : Sub
    0x8000000000000000000000000000000000000 μ := by rfl) : Keeps μ s (State.eventLines t kept) := by
  refine Keeps.start h hm fun s h => ?_
  unfold State.eventLines
  repeat' first
    | with_reducible assumption | exact rfl | with_reducible apply Keeps.wr
    | with_reducible refine Keeps.foldl ?_ (fun _ _ _ => ?_) | with_reducible refine Keeps.fst (by assumption) ?_
    | split | with_reducible refine Keeps.upd ?_

theorem Keeps.startQueue {μ : Nat} {s t : State} (h : Keeps μ s t) (e : Elem) (hm : Sub 0x800 μ := by rfl) : Keeps μ s
    (State.startQueue t e) := by
  refine Keeps.start h hm fun s h => ?_
  unfold State.startQueue
  repeat' first
    | with_reducible assumption | exact rfl | with_reducible apply Keeps.msix | with_reducible apply Keeps.setRing

theorem Keeps.startPort {μ : Nat} {s t : State} (h : Keeps μ s t) (e : Elem) (hm : Sub
    0x30000000000000000000000000000000000000 μ := by rfl) : Keeps μ s (State.startPort t e) := by
  refine Keeps.start h hm fun s h => ?_
  unfold State.startPort
  repeat' first
    | with_reducible assumption | exact rfl | with_reducible apply Keeps.wr | with_reducible apply Keeps.wrF
    | with_reducible apply Keeps.setLink | with_reducible refine Keeps.foldl ?_ (fun _ _ _ => ?_)

theorem Keeps.startGroup {μ : Nat} {s t : State} (h : Keeps μ s t) (e : Elem) (hm : Sub
    0x78000000000000000000000000000000000000000000000000 μ := by rfl) : Keeps μ s (State.startGroup t e) := by
  refine Keeps.start h hm fun s h => ?_
  unfold State.startGroup
  try dsimp only
  repeat' first
    | with_reducible assumption | exact rfl | with_reducible apply Keeps.wr | with_reducible apply Keeps.wrF
    | with_reducible refine Keeps.fst (by assumption) ?_ | split | with_reducible refine Keeps.upd ?_

theorem Keeps.startNet {μ : Nat} {s t : State} (h : Keeps μ s t) (e : Elem) (hm : Sub
    0x40044c0206000004000000000000000000000000000000000000000000000000000081c000080 μ := by rfl) : Keeps μ s
    (State.startNet t e) := by
  refine Keeps.start h hm fun s h => ?_
  unfold State.startNet
  repeat' first
    | with_reducible assumption | exact rfl | with_reducible apply Keeps.wr | with_reducible apply Keeps.leaveUp

theorem Keeps.startElem {μ : Nat} {s t : State} (h : Keeps μ s t) (bar target : Nat) (e : Elem) (hm : Sub
    0x19006e001040044c020603f80400000000108782000100000300028000000000000000000000008fc82088f μ := by rfl) : Keeps μ s
    (State.startElem t bar target e) := by
  refine Keeps.start h hm fun s h => ?_
  unfold State.startElem
  repeat' first
    | with_reducible assumption | exact rfl | with_reducible apply Keeps.wr | with_reducible apply Keeps.addDue
    | with_reducible apply Keeps.declareCue | with_reducible apply Keeps.procStart
    | with_reducible apply Keeps.serStart | with_reducible apply Keeps.chkInit | with_reducible apply Keeps.startQueue
    | with_reducible apply Keeps.startPort | with_reducible apply Keeps.startGroup
    | with_reducible apply Keeps.startNet | with_reducible refine Keeps.fst (by assumption) ?_ | split
    | with_reducible refine Keeps.upd ?_

theorem Keeps.stopQueue {μ : Nat} {s t : State} (h : Keeps μ s t) (v q : Nat) (hm : Sub 0x3800 μ := by rfl) : Keeps μ
    s (State.stopQueue t v q) := by
  refine Keeps.start h hm fun s h => ?_
  unfold State.stopQueue
  try dsimp only
  repeat' first
    | with_reducible assumption | exact rfl | with_reducible apply Keeps.setRing
    | with_reducible apply Keeps.dropFermata | with_reducible refine Keeps.upd ?_

theorem Keeps.stopBundle {μ : Nat} {s t : State} (h : Keeps μ s t) (e : Elem) (hm : Sub
    0x38000042000000000000044c02000000040000000000000000000000008000061c00000be000000000000681c02388c μ := by rfl) :
    Keeps μ s (State.stopBundle t e) := by
  refine Keeps.start h hm fun s h => ?_
  unfold State.stopBundle
  try dsimp only
  repeat' first
    | with_reducible assumption | exact rfl | with_reducible apply Keeps.freeUse | with_reducible apply Keeps.setPort
    | with_reducible apply Keeps.postBundle | with_reducible refine Keeps.foldl ?_ (fun _ _ _ => ?_)
    | with_reducible refine Keeps.foldl_fst ?_ (fun _ _ _ => ?_) | with_reducible refine Keeps.snd (by assumption) ?_
    | with_reducible refine Keeps.upd ?_

theorem Keeps.stopChan {μ : Nat} {s t : State} (h : Keeps μ s t) (c : Nat) (hm : Sub
    0x38000042000000000000044c020000000400000000000000000000000080c0061c00000be000000000000481c00788c μ := by rfl) :
    Keeps μ s (State.stopChan t c) := by
  refine Keeps.start h hm fun s h => ?_
  unfold State.stopChan
  repeat' first
    | with_reducible assumption | exact rfl | with_reducible apply Keeps.abortChan
    | with_reducible apply Keeps.removeChan

theorem Keeps.stopService {μ : Nat} {s t : State} (h : Keeps μ s t) (i : Nat) (hm : Sub 0x400000 μ := by rfl) : Keeps
    μ s (State.stopService t i) := by
  refine Keeps.start h hm fun s h => ?_
  unfold State.stopService
  try dsimp only
  repeat' first | with_reducible assumption | exact rfl | with_reducible refine Keeps.upd ?_

theorem Keeps.stopFlow {μ : Nat} {s t : State} (h : Keeps μ s t) (f : Nat) (hm : Sub 0x8000000 μ := by rfl) : Keeps μ
    s (State.stopFlow t f) := by
  refine Keeps.start h hm fun s h => ?_
  unfold State.stopFlow
  try dsimp only
  repeat' first
    | with_reducible assumption | exact rfl | with_reducible apply Keeps.setFlow | with_reducible refine Keeps.upd ?_

theorem Keeps.stopVoice {μ : Nat} {s t : State} (h : Keeps μ s t) (v : Nat) (hm : Sub
    0x1f0ffb00000000000000000000000000000000000000000000000000000000000000000000000000000000000008402043 μ := by rfl)
    : Keeps μ s (State.stopVoice t v) := by
  refine Keeps.start h hm fun s h => ?_
  unfold State.stopVoice
  dsimp only
  exact Keeps.upd (Keeps.resetRegs (h.dropFermata _) _ (entries_mask v))

theorem Keeps.stopElem {μ : Nat} {s t : State} (h : Keeps μ s t) (e : Elem) (hm : Sub
    0x380000421ffffe0ff0000c4dfffe03f80400000003f1f7ffffffffffff87fe861c00000be00000000000068fcc2788f μ := by rfl) :
    Keeps μ s (State.stopElem t e) := by
  refine Keeps.start h hm fun s h => ?_
  unfold State.stopElem
  dsimp only
  refine Keeps.resetRegs ?_ _ (elemRegs_mask e)
  split
  · exact h.stopQueue _ _
  · exact h.stopService _
  · exact h.stopChan _
  · exact h.stopFlow _
  · exact h.removeCue _
  · exact h.procStop _
  · exact h.serStop _
  · exact h.setChk _ _ _
  · exact h.stopBundle _
  · exact h

theorem Keeps.setLoad {μ : Nat} {s t : State} (h : Keeps μ s t) (l : Load) (hm : Sub 0x2080000000000000000040 μ := by
    rfl) : Keeps μ s (State.setLoad t l) := by
  refine Keeps.start h hm fun s h => ?_
  unfold State.setLoad
  repeat' first
    | with_reducible assumption | exact rfl | with_reducible apply Keeps.wr | with_reducible apply Keeps.wrF
    | with_reducible refine Keeps.fst (by assumption) ?_ | split | with_reducible refine Keeps.upd ?_

theorem Keeps.setReady {μ : Nat} {s t : State} (h : Keeps μ s t) (b : Bool) (hm : Sub 0x80000000400000000 μ := by rfl)
    : Keeps μ s (State.setReady t b) := by
  refine Keeps.start h hm fun s h => ?_
  unfold State.setReady
  repeat' first
    | with_reducible assumption | exact rfl | with_reducible apply Keeps.wrF | with_reducible refine Keeps.upd ?_

theorem Keeps.haltWork {μ : Nat} {s t : State} (h : Keeps μ s t) (v : Nat) (hm : Sub
    0x3a000042010008000000044c020000000400000000000000000000000080c0061c00000be000000000000485c4878cc μ := by rfl) :
    Keeps μ s (State.haltWork t v) := by
  refine Keeps.start h hm fun s h => ?_
  unfold State.haltWork
  try dsimp only
  repeat' first
    | with_reducible assumption | exact rfl | with_reducible apply Keeps.voiceEvent
    | with_reducible apply Keeps.dropFermata | with_reducible apply Keeps.haltChan
    | with_reducible apply Keeps.haltServices | with_reducible apply Keeps.haltFlows
    | with_reducible apply Keeps.serHalt | with_reducible refine Keeps.foldl ?_ (fun _ _ _ => ?_) | split
    | with_reducible refine Keeps.upd ?_

theorem Keeps.haltVoice {μ : Nat} {s t : State} (h : Keeps μ s t) (v : Nat) (hm : Sub
    0x3a000042010008000000044c020000000400000000000000000000000080c0061c00000be000000000000485c4878cc μ := by rfl) :
    Keeps μ s (State.haltVoice t v) := by
  refine Keeps.start h hm fun s h => ?_
  unfold State.haltVoice
  repeat' first
    | with_reducible assumption | exact rfl | with_reducible apply Keeps.oneCycle
    | with_reducible apply Keeps.haltWork | (intro _ _ _; try dsimp only)

theorem Keeps.execVoiceHalt {μ : Nat} {s t : State} (h : Keeps μ s t) (p : Path) (v : Word) (hm : Sub
    0x3a000042010008000000044c020000000400000000000000000000000080c0061c00000be000000000000485c4878cc μ := by rfl) :
    KeepsO μ s (Sys2Proof.Machine.execVoiceHalt p v t) := by
  refine Keeps.startO h hm fun s h => ?_
  unfold Sys2Proof.Machine.execVoiceHalt
  repeat' first
    | with_reducible assumption | exact rfl | with_reducible apply Keeps.haltVoice | with_reducible apply Keeps.next
    | split

theorem Keeps.releaseHalts {μ : Nat} {s t : State} (h : Keeps μ s t) (l : List Nat) (hm : Sub
    0xa000040000000000000000000000000000000000000000000000000000000000000000000000000000000800004040 μ := by rfl) :
    Keeps μ s (State.releaseHalts t l) := by
  refine Keeps.start h hm fun s h => ?_
  unfold State.releaseHalts
  try dsimp only
  repeat' first
    | with_reducible assumption | exact rfl | with_reducible apply Keeps.voiceEvent
    | with_reducible apply Keeps.setChan | with_reducible refine Keeps.foldl ?_ (fun _ _ _ => ?_) | split
    | with_reducible refine Keeps.upd ?_

theorem Keeps.discardPend {μ : Nat} {s t : State} (h : Keeps μ s t) (hm : Sub
    0xa000040000000000000000000000000000000000000000000000000000000000000000002080000000000800000040 μ := by rfl) :
    Keeps μ s (State.discardPend t) := by
  refine Keeps.start h hm fun s h => ?_
  unfold State.discardPend
  repeat' first
    | with_reducible assumption | exact rfl | with_reducible apply Keeps.voiceEvent
    | with_reducible apply Keeps.setLoad | with_reducible refine Keeps.foldl ?_ (fun _ _ _ => ?_)
    | with_reducible refine Keeps.fst (by assumption) ?_ | split | with_reducible refine Keeps.upd ?_

theorem Keeps.startLoad {μ : Nat} {s t : State} (h : Keeps μ s t) (x : Staged) (hm : Sub 0x2080000000000100000040 μ :=
    by rfl) : Keeps μ s (State.startLoad t x) := by
  refine Keeps.start h hm fun s h => ?_
  unfold State.startLoad
  try dsimp only
  repeat' first
    | with_reducible assumption | exact rfl | with_reducible apply Keeps.setLoad | split
    | with_reducible refine Keeps.upd ?_

theorem Keeps.loadGo {μ : Nat} {s t : State} (h : Keeps μ s t) (hm : Sub 0x2080000000000100000040 μ := by rfl) : Keeps
    μ s (State.loadGo t) := by
  refine Keeps.start h hm fun s h => ?_
  unfold State.loadGo
  repeat' first
    | with_reducible assumption | exact rfl | with_reducible apply Keeps.setB | with_reducible apply Keeps.startLoad
    | split

theorem Keeps.loadCtrl {μ : Nat} {s t : State} (h : Keeps μ s t) (w : Nat) (hm : Sub
    0xa0000400000000000000000000000000000000000000000000000000000000000000000020c0000000000900000040 μ := by rfl) :
    Keeps μ s (State.loadCtrl t w) := by
  refine Keeps.start h hm fun s h => ?_
  unfold State.loadCtrl
  try dsimp only
  repeat' first
    | with_reducible assumption | exact rfl | with_reducible apply Keeps.fieldWrite
    | with_reducible apply Keeps.discardPend | with_reducible apply Keeps.loadGo | split

theorem Keeps.execLoadGo {μ : Nat} {s t : State} (h : Keeps μ s t) (p : Path) (v : Word) (hm : Sub
    0xa0000400000000000000000000000000000000000000000000000000000000000000000020c0000000000900000040 μ := by rfl) :
    KeepsO μ s (Sys2Proof.Machine.execLoadGo p v t) := by
  refine Keeps.startO h hm fun s h => ?_
  unfold Sys2Proof.Machine.execLoadGo
  repeat' first
    | with_reducible assumption | exact rfl | with_reducible apply Keeps.loadCtrl | with_reducible apply Keeps.next
    | split

theorem Keeps.execLoadCancel {μ : Nat} {s t : State} (h : Keeps μ s t) (p : Path) (v : Word) (hm : Sub
    0xa0000400000000000000000000000000000000000000000000000000000000000000000020c0000000000900000040 μ := by rfl) :
    KeepsO μ s (Sys2Proof.Machine.execLoadCancel p v t) := by
  refine Keeps.startO h hm fun s h => ?_
  unfold Sys2Proof.Machine.execLoadCancel
  repeat' first
    | with_reducible assumption | exact rfl | with_reducible apply Keeps.loadCtrl | with_reducible apply Keeps.next
    | split

theorem Keeps.stopTempo {μ : Nat} {s t : State} (h : Keeps μ s t) (hm : Sub 0x401000000000000000000000500 μ := by rfl)
    : Keeps μ s (State.stopTempo t) := by
  refine Keeps.start h hm fun s h => ?_
  unfold State.stopTempo
  repeat' first
    | with_reducible assumption | exact rfl | with_reducible apply Keeps.wrF | with_reducible apply Keeps.clrB
    | with_reducible refine Keeps.upd ?_

theorem Keeps.openShadow {μ : Nat} {s t : State} (h : Keeps μ s t) (c : Score) (hm : Sub
    0x3a000042010008000000044c020000000400000000000000000000000080c0061c00401be2080080000004c5c487dcc μ := by rfl) :
    Keeps μ s (State.openShadow t c) := by
  refine Keeps.start h hm fun s h => ?_
  unfold State.openShadow
  try dsimp only
  repeat' first
    | with_reducible assumption | exact rfl | with_reducible apply Keeps.setLoad | with_reducible apply Keeps.setReady
    | with_reducible apply Keeps.haltVoice | with_reducible apply Keeps.discardPend
    | with_reducible apply Keeps.stopTempo | with_reducible refine Keeps.foldl ?_ (fun _ _ _ => ?_) | split
    | with_reducible refine Keeps.upd ?_

theorem Keeps.bootNext {μ : Nat} {s t : State} (h : Keeps μ s t) (hm : Sub 0x2080000000000100000040 μ := by rfl) :
    Keeps μ s (State.bootNext t) := by
  refine Keeps.start h hm fun s h => ?_
  unfold State.bootNext
  repeat' first
    | with_reducible assumption | exact rfl | with_reducible apply Keeps.startLoad
    | with_reducible refine Keeps.fst (by assumption) ?_ | split | with_reducible refine Keeps.upd ?_

theorem Keeps.bootCode {μ : Nat} {s t : State} (h : Keeps μ s t) (x : Staged) (code : Nat) (hm : Sub
    0x400000000000000000 μ := by rfl) : Keeps μ s (State.bootCode t x code) := by
  refine Keeps.start h hm fun s h => ?_
  unfold State.bootCode
  repeat' first | with_reducible assumption | exact rfl | with_reducible apply Keeps.wrF | split

theorem Keeps.loadResult {μ : Nat} {s t : State} (h : Keeps μ s t) (f : Fail) (hm : Sub 0x380000000000000000000 μ :=
    by rfl) : Keeps μ s (State.loadResult t f) := by
  refine Keeps.start h hm fun s h => ?_
  unfold State.loadResult
  repeat' first
    | with_reducible assumption | exact rfl | with_reducible apply Keeps.wr | with_reducible apply Keeps.wrF

theorem Keeps.pendSegue {μ : Nat} {s t : State} (h : Keeps μ s t) (c : Score) (hm : Sub
    0xa000040000000000000000000000000000000000000000000000000000000000000000002080000000000800000040 μ := by rfl) :
    Keeps μ s (State.pendSegue t c) := by
  refine Keeps.start h hm fun s h => ?_
  unfold State.pendSegue
  try dsimp only
  repeat' first
    | with_reducible assumption | exact rfl | with_reducible apply Keeps.voiceEvent
    | with_reducible apply Keeps.setLoad | with_reducible refine Keeps.foldl ?_ (fun _ _ _ => ?_)
    | with_reducible refine Keeps.fst (by assumption) ?_ | split | with_reducible refine Keeps.upd ?_

theorem Keeps.takeScore {μ : Nat} {s t : State} (h : Keeps μ s t) (c : Score) (hm : Sub
    0x3a000042010008000000044c020000000400000000000000000000000080c0061c00401be2080080000004c5c487dcc μ := by rfl) :
    Keeps μ s (State.takeScore t c) := by
  refine Keeps.start h hm fun s h => ?_
  unfold State.takeScore
  repeat' first
    | with_reducible assumption | exact rfl | with_reducible apply Keeps.setLoad
    | with_reducible apply Keeps.openShadow | with_reducible apply Keeps.pendSegue | split
    | with_reducible refine Keeps.upd ?_

theorem Keeps.execAdmissionEnd {μ : Nat} {s t : State} (h : Keeps μ s t) (hm : Sub
    0x3a000042010008000000044c020000000400000000000000000000000080c0061c00401be2380480000004d5c487dcc μ := by rfl) :
    KeepsO μ s (Sys2Proof.Machine.execAdmissionEnd t) := by
  refine Keeps.startO h hm fun s h => ?_
  unfold Sys2Proof.Machine.execAdmissionEnd
  try dsimp only
  repeat' first
    | with_reducible assumption | exact rfl | with_reducible apply Keeps.setB | with_reducible apply Keeps.vector0
    | with_reducible apply Keeps.setLoad | with_reducible apply Keeps.bootNext | with_reducible apply Keeps.bootCode
    | with_reducible apply Keeps.loadResult | with_reducible apply Keeps.takeScore | with_reducible apply Keeps.next
    | with_reducible refine Keeps.fst (by assumption) ?_ | split | with_reducible refine Keeps.upd ?_

theorem Keeps.mapRead {μ : Nat} {s t : State} (h : Keeps μ s t) (p : Nat) (a0 : List (Nat × Nat)) (hm : Sub
    0x8000042000000000000044c02000000040000000000000000000000000000061c00000be000000000000681c002080 μ := by rfl) :
    Keeps μ s (State.mapRead t p a0).1 := by
  refine Keeps.start h hm ?_
  clear h hm s
  intro s h
  induction a0 generalizing t with
  | nil => exact h
  | cons a l ih =>
    unfold State.mapRead
    split <;> first
      | exact Keeps.fst (by assumption) (h.translate _ _ _ _)
      | (dsimp only; exact ih (Keeps.violate (Keeps.freeUse (Keeps.fst (by assumption) (h.translate _ _ _ _))) _ _ _ _ _ _))
      | skip
    next e =>
      have k := Keeps.fst e (h.translate _ _ _ _)
      split
      · exact k
      · exact ih k

theorem Keeps.loadGains {μ : Nat} {s t : State} (h : Keeps μ s t) (recs : List Elem) (e : Elem) (hm : Sub
    0x8000042000000000000044c02000000040000000000000000020000000000061c00000be000000000000681c042080 μ := by rfl) :
    Keeps μ s (State.loadGains t recs e) := by
  refine Keeps.start h hm fun s h => ?_
  unfold State.loadGains
  try dsimp only
  repeat' first
    | with_reducible assumption | exact rfl | with_reducible apply Keeps.setB | with_reducible apply Keeps.clrB
    | with_reducible apply Keeps.setPipe | with_reducible apply Keeps.mapRead
    | with_reducible refine Keeps.fst (by assumption) ?_ | split | with_reducible refine Keeps.upd ?_

theorem Keeps.applyMemory {μ : Nat} {s t : State} (h : Keeps μ s t) (e : Elem) (hm : Sub
    0x80000000001000000000000000004 μ := by rfl) : Keeps μ s (State.applyMemory t e) := by
  refine Keeps.start h hm fun s h => ?_
  unfold State.applyMemory
  dsimp only
  refine Keeps.wr (Keeps.wr ?_ _ _ _) _ _ _
  split
  · exact h
  · exact h.setMem (Tab.wf_filter _ _)

theorem Keeps.execFullLoadApply {μ : Nat} {s t : State} (h : Keeps μ s t) (hm : Sub
    0x8000042000000000000044c02000000040000000000000000020000000000061c80000be000100000000681c0420c4 μ := by rfl) :
    KeepsO μ s (Sys2Proof.Machine.execFullLoadApply t) := by
  refine Keeps.startO h hm fun s h => ?_
  unfold Sys2Proof.Machine.execFullLoadApply
  try dsimp only
  repeat' first
    | with_reducible assumption | exact rfl | with_reducible apply Keeps.loadGains
    | with_reducible apply Keeps.applyMemory | with_reducible apply Keeps.next
    | with_reducible refine Keeps.foldl ?_ (fun _ _ _ => ?_) | with_reducible refine Keeps.fst (by assumption) ?_
    | split | with_reducible refine Keeps.upd ?_

theorem Keeps.applyTempo {μ : Nat} {s t : State} (h : Keeps μ s t) (e : Elem) (hm : Sub 0x3f000000000000000000000000 μ
    := by rfl) : Keeps μ s (State.applyTempo t e) := by
  refine Keeps.start h hm fun s h => ?_
  unfold State.applyTempo
  try dsimp only
  repeat' first | with_reducible assumption | exact rfl | with_reducible apply Keeps.wr

theorem Keeps.clearBlocks {μ : Nat} {s t : State} (h : Keeps μ s t) (old new : List Elem) (areas : List Area) (hm :
    Sub 0x1ffffe0ff0000c01fffe03f80000000003f1f7ffffffffffff07fe8000000000000000000000000087f7803 μ := by rfl) : Keeps
    μ s (State.clearBlocks t old new areas) := by
  refine Keeps.start h hm fun s h => ?_
  unfold State.clearBlocks
  dsimp only
  refine Keeps.upd (Keeps.foldl (Keeps.resetRegs (Keeps.resetRegs h _ ?_) _ ?_) fun _ _ k => k.setB _ _ _)
  · intro x hx
    obtain ⟨e, -, hx⟩ := List.mem_flatMap.mp hx
    exact elemRegs_mask e (by rfl) x hx
  · intro x hx
    obtain ⟨e, -, rfl⟩ := List.mem_map.mp hx
    exact (by rfl : hasBit 0x1ffffe0ff0000c01fffe03f80000000003f1f7ffffffffffff07fe8000000000000000000000000087f7803 (regBit .STR_SEQ) = true)

theorem Keeps.endOld {μ : Nat} {s t : State} (h : Keeps μ s t) (new : List Elem) (hm : Sub
    0x1f0ffb0000011000a001040044c020403f80400000000000000000000000000000000000000000000000000008fcc020cf μ := by rfl)
    : Keeps μ s (State.endOld t new) := by
  refine Keeps.start h hm fun s h => ?_
  unfold State.endOld
  try dsimp only
  repeat' first
    | with_reducible assumption | exact rfl | with_reducible apply Keeps.removeCue
    | with_reducible apply Keeps.leaveUp | with_reducible apply Keeps.procStop | with_reducible apply Keeps.serStop
    | with_reducible apply Keeps.setChk | with_reducible apply Keeps.stopVoice
    | with_reducible refine Keeps.foldl ?_ (fun _ _ _ => ?_) | with_reducible refine Keeps.fst (by assumption) ?_
    | split | with_reducible refine Keeps.upd ?_

theorem Keeps.tieCommit {μ : Nat} {s t : State} (h : Keeps μ s t) (hm : Sub
    0x40344c0200000004000000000000000000000000000000000000000000000000000081c000080 μ := by rfl) : Keeps μ s
    (State.tieCommit t) := by
  refine Keeps.start h hm fun s h => ?_
  unfold State.tieCommit
  try dsimp only
  repeat' first
    | with_reducible assumption | exact rfl | with_reducible apply Keeps.wr | with_reducible apply Keeps.sendConfig
    | with_reducible apply Keeps.setTie | with_reducible apply Keeps.takeConfig | with_reducible apply Keeps.unmirror
    | with_reducible refine Keeps.fst (by assumption) ?_ | split | with_reducible refine Keeps.upd ?_

theorem Keeps.takeCtlKey {μ : Nat} {s t : State} (h : Keeps μ s t) (hm : Sub 0x8000000 μ := by rfl) : Keeps μ s
    (State.takeCtlKey t) := by
  refine Keeps.start h hm fun s h => ?_
  unfold State.takeCtlKey
  repeat' first
    | with_reducible assumption | exact rfl | with_reducible apply Keeps.giveKey
    | with_reducible refine Keeps.fst (by assumption) ?_ | split | with_reducible refine Keeps.upd ?_

theorem Keeps.commitNumbers {μ : Nat} {s t : State} (h : Keeps μ s t) (hm : Sub
    0x200000000000000000000000000000000000000000000000000040001c00000000002000000000 μ := by rfl) : Keeps μ s
    (State.commitNumbers t) := by
  refine Keeps.start h hm fun s h => ?_
  unfold State.commitNumbers
  try dsimp only
  repeat' first
    | with_reducible assumption | exact rfl | with_reducible apply Keeps.wr | with_reducible apply Keeps.addWrap
    | with_reducible apply Keeps.freeUse | with_reducible refine Keeps.fst (by assumption) ?_
    | with_reducible refine Keeps.snd (by assumption) ?_ | split | with_reducible refine Keeps.upd ?_

theorem Keeps.commitTempo {μ : Nat} {s t : State} (h : Keeps μ s t) (hm : Sub 0x43f000000000000000000000780 μ := by
    rfl) : Keeps μ s (State.commitTempo t) := by
  refine Keeps.start h hm fun s h => ?_
  unfold State.commitTempo
  try dsimp only
  repeat' first
    | with_reducible assumption | exact rfl | with_reducible apply Keeps.wrF | with_reducible apply Keeps.startTempo
    | with_reducible apply Keeps.applyTempo | with_reducible refine Keeps.fst (by assumption) ?_ | split
    | with_reducible refine Keeps.upd ?_

theorem Keeps.bootDone {μ : Nat} {s t : State} (h : Keeps μ s t) (c : Score) (hm : Sub 0x200000000000000000 μ := by
    rfl) : Keeps μ s (State.bootDone t c) := by
  refine Keeps.start h hm fun s h => ?_
  unfold State.bootDone
  repeat' first
    | with_reducible assumption | exact rfl | with_reducible apply Keeps.wrF | with_reducible apply Keeps.setB | split

theorem Keeps.endOffs {μ : Nat} {s t : State} (h : Keeps μ s t) (hm : Sub 0x400000000000000000000000 μ := by rfl) :
    Keeps μ s (State.endOffs t) := by
  refine Keeps.start h hm fun s h => ?_
  unfold State.endOffs
  repeat' first
    | with_reducible assumption | exact rfl | with_reducible apply Keeps.clrB
    | with_reducible refine Keeps.foldl ?_ (fun _ _ _ => ?_) | split

theorem Keeps.powerDown {μ : Nat} {s t : State} (h : Keeps μ s t) (hm : Sub
    0x7fffffffffffffffffe000000000003ffffffffffffffffff0000000000000000000000000000060000003 μ := by rfl) : Keeps μ s
    (State.powerDown t) := by
  refine Keeps.start h hm fun s h => ?_
  unfold State.powerDown
  exact Keeps.resetBlock h.upd _ _

theorem Keeps.commitFull {μ : Nat} {s t : State} (h : Keeps μ s t) (c : Score) (hm : Sub
    0x1f0ffb000401ffffffffffffffffffe03f804024023ffffffffffffffffff87fe80000047f403c80280000002cfeff7fcf μ := by rfl)
    : Keeps μ s (State.commitFull t c) := by
  refine Keeps.start h hm fun s h => ?_
  unfold State.commitFull
  try dsimp only
  repeat' first
    | with_reducible assumption | exact rfl | with_reducible apply Keeps.setB | with_reducible apply Keeps.voiceEvent
    | with_reducible apply Keeps.waitCues | with_reducible apply Keeps.servoCommit
    | with_reducible apply Keeps.excFollow | with_reducible apply Keeps.eventLines
    | with_reducible apply Keeps.startElem | with_reducible apply Keeps.setLoad | with_reducible apply Keeps.setReady
    | with_reducible apply Keeps.clearBlocks | with_reducible apply Keeps.endOld
    | with_reducible apply Keeps.tieCommit | with_reducible apply Keeps.takeCtlKey
    | with_reducible apply Keeps.commitNumbers | with_reducible apply Keeps.commitTempo
    | with_reducible apply Keeps.bootDone | with_reducible apply Keeps.endOffs | with_reducible apply Keeps.powerDown
    | with_reducible refine Keeps.foldl ?_ (fun _ _ _ => ?_) | split | with_reducible refine Keeps.upd ?_

theorem Keeps.execFullLoadCommit {μ : Nat} {s t : State} (h : Keeps μ s t) (hm : Sub
    0x1f0ffb000401ffffffffffffffffffe03f804024023ffffffffffffffffff87fe80000047f403c80280000002cfeff7fcf μ := by rfl)
    : KeepsO μ s (Sys2Proof.Machine.execFullLoadCommit t) := by
  refine Keeps.startO h hm fun s h => ?_
  unfold Sys2Proof.Machine.execFullLoadCommit
  repeat' first
    | with_reducible assumption | exact rfl | with_reducible apply Keeps.vector0
    | with_reducible apply Keeps.commitFull | with_reducible apply Keeps.next
    | with_reducible refine Keeps.fst (by assumption) ?_ | split | with_reducible refine Keeps.upd ?_

theorem Keeps.handOver {μ : Nat} {s t : State} (h : Keeps μ s t) (voices : List Nat) (keep : Elem → Bool) (types :
    List Nat) (bar target : Nat) (hm : Sub
    0x380000421ffffe0ff0400c4dfffe03f80400000003f1f7ffffffffffff87fe861c00000be00000000000068fcc278cf μ := by rfl) :
    Keeps μ s (State.handOver t voices keep types bar target) := by
  refine Keeps.start h hm fun s h => ?_
  unfold State.handOver
  try dsimp only
  repeat' first
    | with_reducible assumption | exact rfl | with_reducible apply Keeps.startElem
    | with_reducible apply Keeps.stopElem | with_reducible refine Keeps.foldl ?_ (fun _ _ _ => ?_)
    | with_reducible refine Keeps.upd ?_

theorem Keeps.commitSegue {μ : Nat} {s t : State} (h : Keeps μ s t) (c : Score) (bar ord : Nat) (hm : Sub
    0x3a0000421ffffe0ff8400c4dfffe03f80400000003f1f7ffffffffffff87fe861c00000be34800000000068fcca78cf μ := by rfl) :
    Keeps μ s (State.commitSegue t c bar ord) := by
  refine Keeps.start h hm fun s h => ?_
  unfold State.commitSegue
  try dsimp only
  repeat' first
    | with_reducible assumption | exact rfl | with_reducible apply Keeps.wr | with_reducible apply Keeps.setB
    | with_reducible apply Keeps.addWrap | with_reducible apply Keeps.vector0 | with_reducible apply Keeps.voiceEvent
    | with_reducible apply Keeps.setChan | with_reducible apply Keeps.sendConfig
    | with_reducible apply Keeps.excFollow | with_reducible apply Keeps.serStart | with_reducible apply Keeps.setLoad
    | with_reducible apply Keeps.releaseHalts | with_reducible apply Keeps.handOver
    | with_reducible refine Keeps.foldl ?_ (fun _ _ _ => ?_)
    | with_reducible refine Keeps.foldl_fst ?_ (fun _ _ _ => ?_) | with_reducible refine Keeps.upd ?_

theorem Keeps.segueSecond {μ : Nat} {s t : State} (h : Keeps μ s t) (o : Overlap) (bar : Nat) (hm : Sub
    0x380000421ffffe0ff0400c4dfffe03f80400000003f1f7ffffffffffff87fe861c00000be00000000000068fcca78cf μ := by rfl) :
    Keeps μ s (State.segueSecond t o bar) := by
  refine Keeps.start h hm fun s h => ?_
  unfold State.segueSecond
  try dsimp only
  repeat' first
    | with_reducible assumption | exact rfl | with_reducible apply Keeps.handOver | with_reducible refine Keeps.upd ?_

theorem Keeps.segueThird {μ : Nat} {s t : State} (h : Keeps μ s t) (o : Overlap) (bar : Nat) (hm : Sub
    0x1f0ffb000421ffffffffffffffffffe03f804000003ffffffffffffffffff87fe861c00000be00000000000068fcca78cf μ := by rfl)
    : Keeps μ s (State.segueThird t o bar) := by
  refine Keeps.start h hm fun s h => ?_
  unfold State.segueThird
  try dsimp only
  repeat' first
    | with_reducible assumption | exact rfl | with_reducible apply Keeps.voiceEvent
    | with_reducible apply Keeps.eventLines | with_reducible apply Keeps.stopVoice
    | with_reducible apply Keeps.powerDown | with_reducible apply Keeps.handOver
    | with_reducible refine Keeps.foldl ?_ (fun _ _ _ => ?_) | with_reducible refine Keeps.upd ?_

theorem Keeps.segueStep {μ : Nat} {s t : State} (h : Keeps μ s t) (bar ord : Nat) (hm : Sub
    0x1f0ffb000421ffffffffffffffffffe03f804000003ffffffffffffffffff87fe861c00000be00000000000068fcca78cf μ := by rfl)
    : Keeps μ s (State.segueStep t bar ord) := by
  refine Keeps.start h hm fun s h => ?_
  unfold State.segueStep
  repeat' first
    | with_reducible assumption | exact rfl | with_reducible apply Keeps.segueSecond
    | with_reducible apply Keeps.segueThird | with_reducible refine Keeps.fst (by assumption) ?_ | split
    | with_reducible refine Keeps.upd ?_

theorem Keeps.clearDomains {μ : Nat} {s t : State} (h : Keeps μ s t) (time lpddr : Bool) (hm : Sub
    0xffffffffffffffffffffffffffffffffffffffffffffffffffffffffffffffffffffffffffffffffffffffffffffffffffff μ := by
    rfl) : Keeps μ s (State.clearDomains t time lpddr) := by
  refine Keeps.start h hm fun s h => ?_
  unfold State.clearDomains
  dsimp only
  apply Keeps.wrF
  apply Keeps.foldl
  refine Keeps.renew h rfl rfl ?_ ?_ rfl fun _ => rfl
  · rintro ⟨a, b, c⟩
    refine ⟨?_, b, c⟩
    split
    · exact Tab.wf_filter _ _ a
    · rfl
  · intro k
    show _ < _ ∧ _ < _ ∧ _ < _
    dsimp only
    split
    · exact k
    · decide
  · exact fun _ _ k => k.resetReg _ _
  · rfl

theorem Keeps.boot {μ : Nat} {s t : State} (h : Keeps μ s t) (hm : Sub 0x100000000 μ := by rfl) : Keeps μ s
    (State.boot t) := by
  refine Keeps.start h hm fun s h => ?_
  unfold State.boot
  try dsimp only
  repeat' first | with_reducible assumption | exact rfl | with_reducible refine Keeps.upd ?_

theorem Keeps.execSfdpReadEnd {μ : Nat} {s t : State} (h : Keeps μ s t) (r : Sfdp) (hm : Sub 0x2080a00000000100000040
    μ := by rfl) : KeepsO μ s (Sys2Proof.Machine.execSfdpReadEnd r t) := by
  refine Keeps.startO h hm fun s h => ?_
  unfold Sys2Proof.Machine.execSfdpReadEnd
  try dsimp only
  repeat' first
    | with_reducible assumption | exact rfl | with_reducible apply Keeps.wr | with_reducible apply Keeps.wrF
    | with_reducible apply Keeps.bootNext | with_reducible apply Keeps.next | split
    | with_reducible refine Keeps.upd ?_

theorem Keeps.porReset {μ : Nat} {s t : State} (h : Keeps μ s t) (straps cause : Nat) (supply : Bool) (hm : Sub
    0xffffffffffffffffffffffffffffffffffffffffffffffffffffffffffffffffffffffffffffffffffffffffffffffffffff μ := by
    rfl) : Keeps μ s (State.porReset t straps cause supply) := by
  refine Keeps.start h hm fun s h => ?_
  unfold State.porReset
  dsimp only
  refine Keeps.boot ?_
  apply Keeps.wrF (hm := by rfl)
  apply Keeps.wr (hm := by rfl)
  apply Keeps.wr (hm := by rfl)
  apply Keeps.wrF (hm := by rfl)
  refine Keeps.renew h rfl rfl ?_ ?_ rfl fun _ => rfl
  · rintro ⟨a, b, c⟩; exact ⟨rfl, b, c⟩
  · intro _; show (0 : Nat) < 18446744073709551616 ∧ (0 : Nat) < 1000000000 ∧ (0 : Nat) < 4294967296; decide

theorem Keeps.execPowerOnReset {μ : Nat} {s t : State} (h : Keeps μ s t) (b : BootIn) (hm : Sub
    0xffffffffffffffffffffffffffffffffffffffffffffffffffffffffffffffffffffffffffffffffffffffffffffffffffff μ := by
    rfl) : KeepsO μ s (Sys2Proof.Machine.execPowerOnReset b t) := by
  refine Keeps.startO h hm fun s h => ?_
  unfold Sys2Proof.Machine.execPowerOnReset
  repeat' first
    | with_reducible assumption | exact rfl | with_reducible apply regs_all | with_reducible apply Keeps.porReset
    | with_reducible apply Keeps.next

theorem Keeps.execBrownout {μ : Nat} {s t : State} (h : Keeps μ s t) (hm : Sub
    0xffffffffffffffffffffffffffffffffffffffffffffffffffffffffffffffffffffffffffffffffffffffffffffffffffff μ := by
    rfl) : KeepsO μ s (Sys2Proof.Machine.execBrownout t) := by
  refine Keeps.startO h hm fun s h => ?_
  unfold Sys2Proof.Machine.execBrownout
  repeat' first
    | with_reducible assumption | exact rfl | with_reducible apply regs_all | with_reducible apply Keeps.porReset
    | with_reducible apply Keeps.next

theorem Keeps.clockReset {μ : Nat} {s t : State} (h : Keeps μ s t) (cause : Nat) (hm : Sub
    0xffffffffffffffffffffffffffffffffffffffffffffffffffffffffffffffffffffffffffffffffffffffffffffffffffff μ := by
    rfl) : Keeps μ s (State.clockReset t cause) := by
  refine Keeps.start h hm fun s h => ?_
  unfold State.clockReset
  try dsimp only
  repeat' first
    | with_reducible assumption | exact rfl | with_reducible apply regs_all | with_reducible apply Keeps.setB
    | with_reducible apply Keeps.clrB | with_reducible apply Keeps.clearDomains | with_reducible refine Keeps.upd ?_

theorem Keeps.execRefclkLost {μ : Nat} {s t : State} (h : Keeps μ s t) (hm : Sub
    0xffffffffffffffffffffffffffffffffffffffffffffffffffffffffffffffffffffffffffffffffffffffffffffffffffff μ := by
    rfl) : KeepsO μ s (Sys2Proof.Machine.execRefclkLost t) := by
  refine Keeps.startO h hm fun s h => ?_
  unfold Sys2Proof.Machine.execRefclkLost
  repeat' first
    | with_reducible assumption | exact rfl | with_reducible apply regs_all | with_reducible apply Keeps.clockReset
    | with_reducible apply Keeps.next

theorem Keeps.execPllUnlock {μ : Nat} {s t : State} (h : Keeps μ s t) (pll : Nat) (hm : Sub
    0xffffffffffffffffffffffffffffffffffffffffffffffffffffffffffffffffffffffffffffffffffffffffffffffffffff μ := by
    rfl) : KeepsO μ s (Sys2Proof.Machine.execPllUnlock pll t) := by
  refine Keeps.startO h hm fun s h => ?_
  unfold Sys2Proof.Machine.execPllUnlock
  repeat' first
    | with_reducible assumption | exact rfl | with_reducible apply regs_all | with_reducible apply Keeps.clockReset
    | with_reducible apply Keeps.next | split

theorem Keeps.execClockResetRelease {μ : Nat} {s t : State} (h : Keeps μ s t) (hm : Sub 0x100000000 μ := by rfl) :
    KeepsO μ s (Sys2Proof.Machine.execClockResetRelease t) := by
  refine Keeps.startO h hm fun s h => ?_
  unfold Sys2Proof.Machine.execClockResetRelease
  repeat' first
    | with_reducible assumption | exact rfl | with_reducible apply Keeps.boot | with_reducible apply Keeps.next
    | split | with_reducible refine Keeps.upd ?_

theorem Keeps.warm {μ : Nat} {s t : State} (h : Keeps μ s t) (time : Bool) (cause : Nat) (hm : Sub
    0xffffffffffffffffffffffffffffffffffffffffffffffffffffffffffffffffffffffffffffffffffffffffffffffffffff μ := by
    rfl) : Keeps μ s (State.warm t time cause) := by
  refine Keeps.start h hm fun s h => ?_
  unfold State.warm
  try dsimp only
  repeat' first
    | with_reducible assumption | exact rfl | with_reducible apply regs_all | with_reducible apply Keeps.setB
    | with_reducible apply Keeps.clearDomains | with_reducible apply Keeps.boot | split

theorem Keeps.execResetPin {μ : Nat} {s t : State} (h : Keeps μ s t) (hm : Sub
    0xffffffffffffffffffffffffffffffffffffffffffffffffffffffffffffffffffffffffffffffffffffffffffffffffffff μ := by
    rfl) : KeepsO μ s (Sys2Proof.Machine.execResetPin t) := by
  refine Keeps.startO h hm fun s h => ?_
  unfold Sys2Proof.Machine.execResetPin
  repeat' first
    | with_reducible assumption | exact rfl | with_reducible apply regs_all | with_reducible apply Keeps.warm
    | with_reducible apply Keeps.next | split

theorem Keeps.rstCtrl {μ : Nat} {s t : State} (h : Keeps μ s t) (w : Nat) (hm : Sub
    0xffffffffffffffffffffffffffffffffffffffffffffffffffffffffffffffffffffffffffffffffffffffffffffffffffff μ := by
    rfl) : Keeps μ s (State.rstCtrl t w) := by
  refine Keeps.start h hm fun s h => ?_
  unfold State.rstCtrl
  repeat' first
    | with_reducible assumption | exact rfl | with_reducible apply regs_all | with_reducible apply Keeps.warm | split

theorem Keeps.execWarmReset {μ : Nat} {s t : State} (h : Keeps μ s t) (p : Path) (v : Word) (hm : Sub
    0xffffffffffffffffffffffffffffffffffffffffffffffffffffffffffffffffffffffffffffffffffffffffffffffffffff μ := by
    rfl) : KeepsO μ s (Sys2Proof.Machine.execWarmReset p v t) := by
  refine Keeps.startO h hm fun s h => ?_
  unfold Sys2Proof.Machine.execWarmReset
  repeat' first
    | with_reducible assumption | exact rfl | with_reducible apply regs_all | with_reducible apply Keeps.rstCtrl
    | with_reducible apply Keeps.next | split

theorem Keeps.standbyServo {μ : Nat} {s t : State} (h : Keeps μ s t) (hm : Sub
    0x640200000000000000000000000000000000000000000000000002000000 μ := by rfl) : Keeps μ s (State.standbyServo t) :=
    by
  refine Keeps.start h hm fun s h => ?_
  unfold State.standbyServo
  repeat' first
    | with_reducible assumption | exact rfl | with_reducible apply Keeps.setB | with_reducible apply Keeps.hold
    | split

theorem Keeps.enterStandby {μ : Nat} {s t : State} (h : Keeps μ s t) (hm : Sub
    0xffffffffffffffffffffffffffffffffffffffffffffffffffffffffffffffffffffffffffffffffffffffffffffffffffff μ := by
    rfl) : Keeps μ s (State.enterStandby t) := by
  refine Keeps.start h hm fun s h => ?_
  unfold State.enterStandby
  try dsimp only
  repeat' first
    | with_reducible assumption | exact rfl | with_reducible apply regs_all | with_reducible apply Keeps.setLoad
    | with_reducible apply Keeps.setReady | with_reducible apply Keeps.haltVoice
    | with_reducible apply Keeps.discardPend | with_reducible apply Keeps.clearDomains
    | with_reducible apply Keeps.standbyServo | with_reducible refine Keeps.foldl ?_ (fun _ _ _ => ?_)
    | with_reducible refine Keeps.upd ?_

theorem Keeps.pwrCtrl {μ : Nat} {s t : State} (h : Keeps μ s t) (w : Nat) (hm : Sub
    0xffffffffffffffffffffffffffffffffffffffffffffffffffffffffffffffffffffffffffffffffffffffffffffffffffff μ := by
    rfl) : Keeps μ s (State.pwrCtrl t w) := by
  refine Keeps.start h hm fun s h => ?_
  unfold State.pwrCtrl
  repeat' first
    | with_reducible assumption | exact rfl | with_reducible apply regs_all | with_reducible apply Keeps.enterStandby
    | split | with_reducible refine Keeps.upd ?_

theorem Keeps.execStandby {μ : Nat} {s t : State} (h : Keeps μ s t) (p : Path) (v : Word) (hm : Sub
    0xffffffffffffffffffffffffffffffffffffffffffffffffffffffffffffffffffffffffffffffffffffffffffffffffffff μ := by
    rfl) : KeepsO μ s (Sys2Proof.Machine.execStandby p v t) := by
  refine Keeps.startO h hm fun s h => ?_
  unfold Sys2Proof.Machine.execStandby
  repeat' first
    | with_reducible assumption | exact rfl | with_reducible apply regs_all | with_reducible apply Keeps.pwrCtrl
    | with_reducible apply Keeps.next | split

theorem Keeps.execWakePin {μ : Nat} {s t : State} (h : Keeps μ s t) (hm : Sub
    0xffffffffffffffffffffffffffffffffffffffffffffffffffffffffffffffffffffffffffffffffffffffffffffffffffff μ := by
    rfl) : KeepsO μ s (Sys2Proof.Machine.execWakePin t) := by
  refine Keeps.startO h hm fun s h => ?_
  unfold Sys2Proof.Machine.execWakePin
  try dsimp only
  repeat' first
    | with_reducible assumption | exact rfl | with_reducible apply regs_all | with_reducible apply Keeps.warm
    | with_reducible apply Keeps.enterStandby | with_reducible apply Keeps.next | split

theorem Keeps.portReset {μ : Nat} {s t : State} (h : Keeps μ s t) (p : Nat) (hm : Sub
    0x38000042000000000000044c0200000004000000000000000000ffffff8000061c00000fe000000000000481c0b388f μ := by rfl) :
    Keeps μ s (State.portReset t p) := by
  refine Keeps.start h hm fun s h => ?_
  unfold State.portReset
  dsimp only
  have k := Keeps.resetRegs (h.nextEpoch p) _ (entries_mask (rs := portRegs) p)
  refine Keeps.foldl (Keeps.foldl (Keeps.resetPort ?_ _) fun _ _ k => k.cutFrame _ _) fun _ _ k => (k.cutFrame _ _).markMissing _ _
  split
  · exact k.wr _ _ _
  · exact k

theorem Keeps.netReset {μ : Nat} {s t : State} (h : Keeps μ s t) (u : Nat) (hm : Sub
    0x1ffffe0ff0400c4dfffe03f80400000003f1f7ffffffffffff07fe80000000040000000000000081c000083 μ := by rfl) : Keeps μ s
    (State.netReset t u) := by
  refine Keeps.start h hm fun s h => ?_
  unfold State.netReset
  dsimp only
  have k := (Keeps.resetRegs (h.nextEpoch (48 + u)) _ (elemRegs_mask ⟨0, 0x18, u, 0, []⟩)).leaveUp u 1
  split
  · exact k.wr _ _ _
  · exact k

theorem Keeps.tieReset {μ : Nat} {s t : State} (h : Keeps μ s t) (hm : Sub
    0x8000040000000000042a44c0200000004064020000000000000000000000000000000040000000000000081e000280 μ := by rfl) :
    Keeps μ s (State.tieReset t) := by
  refine Keeps.start h hm fun s h => ?_
  unfold State.tieReset
  repeat' first
    | with_reducible assumption | exact rfl | with_reducible apply Keeps.nextEpoch
    | with_reducible apply Keeps.laneLoss | split

theorem Keeps.resetOne {μ : Nat} {s t : State} (h : Keeps μ s t) (k : Nat) (hm : Sub
    0x380000ff3ffffe0ff042ac4dfffe03f80406402003f1f7ffffffffffff87fe861c00000fe000000000000481e0f7a8f μ := by rfl) :
    Keeps μ s (State.resetOne t k) := by
  refine Keeps.start h hm fun s h => ?_
  unfold State.resetOne
  repeat' first
    | with_reducible assumption | exact rfl | with_reducible apply Keeps.resetPipe
    | with_reducible apply Keeps.nextEpoch | with_reducible apply Keeps.hostReset
    | with_reducible apply Keeps.portReset | with_reducible apply Keeps.netReset | with_reducible apply Keeps.tieReset
    | split

theorem Keeps.offOne {μ : Nat} {s t : State} (h : Keeps μ s t) (k : Nat) (hm : Sub
    0x8000040000000000042a44c0204000004064020000000000000000000000000000000040000000000000081e020280 μ := by rfl) :
    Keeps μ s (State.offOne t k) := by
  refine Keeps.start h hm fun s h => ?_
  unfold State.offOne
  try dsimp only
  repeat' first
    | with_reducible assumption | exact rfl | with_reducible apply Keeps.setB | with_reducible apply Keeps.setPort
    | with_reducible apply Keeps.leaveUp | with_reducible apply Keeps.laneLoss | split
    | with_reducible refine Keeps.upd ?_

theorem Keeps.onOne {μ : Nat} {s t : State} (h : Keeps μ s t) (k : Nat) (hm : Sub
    0x38000042000000000000044c0200000004000000000000000000ffffff8000061c00000fe000000000000481c0b388f μ := by rfl) :
    Keeps μ s (State.onOne t k) := by
  refine Keeps.start h hm fun s h => ?_
  unfold State.onOne
  try dsimp only
  repeat' first
    | with_reducible assumption | exact rfl | with_reducible apply Keeps.clrB | with_reducible apply Keeps.nextEpoch
    | with_reducible apply Keeps.portReset | split

theorem Keeps.blkCtrl {μ : Nat} {s t : State} (h : Keeps μ s t) (w : Nat) (hm : Sub
    0x380000ff3ffffe0ff042ac4dfffe03f80406402003f1f7ffffffffffff87fe861c00000fe000400000000491e0f7a8f μ := by rfl) :
    Keeps μ s (State.blkCtrl t w) := by
  refine Keeps.start h hm fun s h => ?_
  unfold State.blkCtrl
  try dsimp only
  repeat' first
    | with_reducible assumption | exact rfl | with_reducible apply Keeps.setB | with_reducible apply Keeps.resetOne
    | with_reducible apply Keeps.offOne | with_reducible apply Keeps.onOne | split
    | with_reducible refine Keeps.upd ?_

theorem Keeps.execBlockReset {μ : Nat} {s t : State} (h : Keeps μ s t) (p : Path) (v : Word) (hm : Sub
    0x380000ff3ffffe0ff042ac4dfffe03f80406402003f1f7ffffffffffff87fe861c00000fe000400000000491e0f7a8f μ := by rfl) :
    KeepsO μ s (Sys2Proof.Machine.execBlockReset p v t) := by
  refine Keeps.startO h hm fun s h => ?_
  unfold Sys2Proof.Machine.execBlockReset
  repeat' first
    | with_reducible assumption | exact rfl | with_reducible apply Keeps.blkCtrl | with_reducible apply Keeps.next
    | split

theorem Keeps.execBlockOff {μ : Nat} {s t : State} (h : Keeps μ s t) (p : Path) (v : Word) (hm : Sub
    0x380000ff3ffffe0ff042ac4dfffe03f80406402003f1f7ffffffffffff87fe861c00000fe000400000000491e0f7a8f μ := by rfl) :
    KeepsO μ s (Sys2Proof.Machine.execBlockOff p v t) := by
  refine Keeps.startO h hm fun s h => ?_
  unfold Sys2Proof.Machine.execBlockOff
  repeat' first
    | with_reducible assumption | exact rfl | with_reducible apply Keeps.blkCtrl | with_reducible apply Keeps.next
    | split

theorem Keeps.execBlockOn {μ : Nat} {s t : State} (h : Keeps μ s t) (p : Path) (v : Word) (hm : Sub
    0x380000ff3ffffe0ff042ac4dfffe03f80406402003f1f7ffffffffffff87fe861c00000fe000400000000491e0f7a8f μ := by rfl) :
    KeepsO μ s (Sys2Proof.Machine.execBlockOn p v t) := by
  refine Keeps.startO h hm fun s h => ?_
  unfold Sys2Proof.Machine.execBlockOn
  repeat' first
    | with_reducible assumption | exact rfl | with_reducible apply Keeps.blkCtrl | with_reducible apply Keeps.next
    | split

theorem Keeps.execBlockResetDone {μ : Nat} {s t : State} (h : Keeps μ s t) (hm : Sub 0x400004000000000100000000 μ :=
    by rfl) : KeepsO μ s (Sys2Proof.Machine.execBlockResetDone t) := by
  refine Keeps.startO h hm fun s h => ?_
  unfold Sys2Proof.Machine.execBlockResetDone
  try dsimp only
  repeat' first
    | with_reducible assumption | exact rfl | with_reducible apply Keeps.setB | with_reducible apply Keeps.clrB
    | with_reducible apply Keeps.next | with_reducible refine Keeps.fst (by assumption) ?_ | split
    | with_reducible refine Keeps.upd ?_

theorem Keeps.execStaleReplyDiscard {μ : Nat} {s t : State} (h : Keeps μ s t) (epochIndex : Nat) (hm : Sub
    0x400000000000000000000000 μ := by rfl) : KeepsO μ s (Sys2Proof.Machine.execStaleReplyDiscard epochIndex t) := by
  refine Keeps.startO h hm fun s h => ?_
  unfold Sys2Proof.Machine.execStaleReplyDiscard
  repeat' first
    | with_reducible assumption | exact rfl | with_reducible apply Keeps.addF | with_reducible apply Keeps.next
    | split

theorem Keeps.lcProgram {μ : Nat} {s t : State} (h : Keeps μ s t) (target : Nat) (hm : Sub
    0xffffffffffffffffffffffffffffffffffffffffffffffffffffffffffffffffffffffffffffffffffffffffffffffffffff μ := by
    rfl) : Keeps μ s (State.lcProgram t target) := by
  refine Keeps.start h hm fun s h => ?_
  unfold State.lcProgram
  dsimp only
  exact Keeps.porReset (Keeps.wr (Keeps.upd h.freeUse.freeUse) _ _ _) _ _ _

theorem Keeps.lcTransition {μ : Nat} {s t : State} (h : Keeps μ s t) (target : Nat) (hm : Sub
    0xffffffffffffffffffffffffffffffffffffffffffffffffffffffffffffffffffffffffffffffffffffffffffffffffffff μ := by
    rfl) : Keeps μ s (State.lcTransition t target) := by
  refine Keeps.start h hm fun s h => ?_
  unfold State.lcTransition
  try dsimp only
  repeat' first
    | with_reducible assumption | exact rfl | with_reducible apply regs_all | with_reducible apply Keeps.haltVoice
    | with_reducible apply Keeps.lcProgram | with_reducible refine Keeps.foldl ?_ (fun _ _ _ => ?_) | split
    | with_reducible refine Keeps.upd ?_

theorem Keeps.execLcEraseEnd {μ : Nat} {s t : State} (h : Keeps μ s t) (hm : Sub
    0xffffffffffffffffffffffffffffffffffffffffffffffffffffffffffffffffffffffffffffffffffffffffffffffffffff μ := by
    rfl) : KeepsO μ s (Sys2Proof.Machine.execLcEraseEnd t) := by
  refine Keeps.startO h hm fun s h => ?_
  unfold Sys2Proof.Machine.execLcEraseEnd
  repeat' first
    | with_reducible assumption | exact rfl | with_reducible apply regs_all | with_reducible apply Keeps.lcProgram
    | with_reducible apply Keeps.next | with_reducible refine Keeps.fst (by assumption) ?_ | split
    | with_reducible refine Keeps.upd ?_

theorem Keeps.lcReport {μ : Nat} {s t : State} (h : Keeps μ s t) (code : Nat) (hm : Sub 0x200000000 μ := by rfl) :
    Keeps μ s (State.lcReport t code) := by
  refine Keeps.start h hm fun s h => ?_
  unfold State.lcReport
  repeat' first | with_reducible assumption | exact rfl | with_reducible refine Keeps.upd ?_

theorem Keeps.lcRun {μ : Nat} {s t : State} (h : Keeps μ s t) (act : State → State) (k : ∀ x, Keeps μ s x → Keeps μ s
    (act x)) (hm : Sub 0x400000000000000000000000000000000000000000000000000000000000000000000000000000000000000000 μ
    := by rfl) : Keeps μ s (State.lcRun t act) := by
  unfold State.lcRun
  split
  · exact h.start hm fun s h => h.wrF _ _ _ _ _
  · exact k _ (h.start hm fun s h => h.setB _ _ _)

theorem Keeps.execLcCommandDone {μ : Nat} {s t : State} (h : Keeps μ s t) (hm : Sub
    0x8000440000000000000000000000000000000000000000000000000000000000000000000000000000000a00000000 μ := by rfl) :
    KeepsO μ s (Sys2Proof.Machine.execLcCommandDone t) := by
  refine Keeps.startO h hm fun s h => ?_
  unfold Sys2Proof.Machine.execLcCommandDone
  try dsimp only
  repeat' first
    | with_reducible assumption | exact rfl | with_reducible apply Keeps.wrF | with_reducible apply Keeps.setB
    | with_reducible apply Keeps.clrB | with_reducible apply Keeps.vector0 | with_reducible apply Keeps.next
    | with_reducible refine Keeps.fst (by assumption) ?_ | split | with_reducible refine Keeps.upd ?_

theorem Keeps.endChallenge {μ : Nat} {s t : State} (h : Keeps μ s t) (hm : Sub
    0x2000000000000000000000000000000000000000000000000000000000000000000000000000000000200000000 μ := by rfl) : Keeps
    μ s (State.endChallenge t) := by
  refine Keeps.start h hm fun s h => ?_
  unfold State.endChallenge
  repeat' first
    | with_reducible assumption | exact rfl | with_reducible apply Keeps.wr
    | with_reducible refine Keeps.foldl ?_ (fun _ _ _ => ?_) | with_reducible refine Keeps.upd ?_

theorem Keeps.lcGetchal {μ : Nat} {s t : State} (h : Keeps μ s t) (hm : Sub
    0x2000000000000000000000000000000000000000000000000000000000000000000000000000000002200000000 μ := by rfl) : Keeps
    μ s (State.lcGetchal t) := by
  refine Keeps.start h hm fun s h => ?_
  unfold State.lcGetchal
  refine Keeps.lcReport (Keeps.foldl (Keeps.upd h.freeUse) fun _ _ k => k.wr _ _ _) _

theorem Keeps.lcProgkey {μ : Nat} {s t : State} (h : Keeps μ s t) (k usage : Nat) (hm : Sub 0x2200000000 μ := by rfl) :
    Keeps μ s (State.lcProgkey t k usage) := by
  refine Keeps.start h hm fun s h => ?_
  unfold State.lcProgkey
  dsimp only
  split
  · exact h.lcReport _
  · split
    · exact h.lcReport _
    · next e =>
      refine (h.freeUse.setSlot ?_).lcReport _
      intro p
      exact absurd p e

theorem Keeps.revokeSlot {μ : Nat} {s t : State} (h : Keeps μ s t) (k : Nat) (hm : Sub
    0xa000040000000000000000000000000000000000000000000000000000000000000000002080000000000a00000040 μ := by rfl) :
    Keeps μ s (State.revokeSlot t k) := by
  refine Keeps.start h hm fun s h => ?_
  unfold State.revokeSlot
  dsimp only
  have k1 : Keeps _ s (t.setSlot k { t.keySlot k with revoked := true }) := h.setSlot fun p => ⟨p, rfl, rfl, fun _ => rfl⟩
  repeat' first | with_reducible assumption | exact rfl | with_reducible apply Keeps.setLoad | with_reducible apply Keeps.discardPend | split

theorem Keeps.revokeReport {μ : Nat} {s t : State} (h : Keeps μ s t) (k : Nat) (hm : Sub
    0xa000040000000000000000000000000000000000000000000000000000000000000000002080000000002a00000040 μ := by rfl) :
    Keeps μ s (State.revokeReport t k) :=
  h.start hm fun _ h => (h.freeUse.revokeSlot k).lcReport _

theorem Keeps.lcRevoke {μ : Nat} {s t : State} (h : Keeps μ s t) (k : Nat) (hm : Sub
    0xa000040000000000000000000000000000000000000000000000000000000000000000002080000000002a00000040 μ := by rfl) :
    Keeps μ s (State.lcRevoke t k) := by
  refine Keeps.start h hm fun s h => ?_
  unfold State.lcRevoke
  repeat' first
    | with_reducible assumption | exact rfl | with_reducible apply Keeps.lcReport
    | with_reducible apply Keeps.revokeReport | split

theorem Keeps.lcAdvance {μ : Nat} {s t : State} (h : Keeps μ s t) (target : Nat) (hm : Sub
    0xffffffffffffffffffffffffffffffffffffffffffffffffffffffffffffffffffffffffffffffffffffffffffffffffffff μ := by
    rfl) : Keeps μ s (State.lcAdvance t target) := by
  refine Keeps.start h hm fun s h => ?_
  unfold State.lcAdvance
  repeat' first
    | with_reducible assumption | exact rfl | with_reducible apply regs_all | with_reducible apply Keeps.lcTransition
    | with_reducible apply Keeps.lcReport | split

theorem Keeps.lcRelock {μ : Nat} {s t : State} (h : Keeps μ s t) (hm : Sub 0x200000000 μ := by rfl) : Keeps μ s
    (State.lcRelock t) := by
  refine Keeps.start h hm fun s h => ?_
  unfold State.lcRelock
  repeat' first
    | with_reducible assumption | exact rfl | with_reducible apply Keeps.lcReport | with_reducible refine Keeps.upd ?_

theorem Keeps.tokenFail {μ : Nat} {s t : State} (h : Keeps μ s t) (hm : Sub
    0x400000000000000000000000000000000000000000000000000000000000000000000000000000000000000000 μ := by rfl) : Keeps
    μ s (State.tokenFail t) := by
  refine Keeps.start h hm fun s h => ?_
  unfold State.tokenFail
  try dsimp only
  repeat' first
    | with_reducible assumption | exact rfl | with_reducible apply Keeps.wrF | with_reducible apply Keeps.setB | split

theorem Keeps.tokenAct {μ : Nat} {s t : State} (h : Keeps μ s t) (kind arg : Nat) (hm : Sub
    0xffffffffffffffffffffffffffffffffffffffffffffffffffffffffffffffffffffffffffffffffffffffffffffffffffff μ := by
    rfl) : Keeps μ s (State.tokenAct t kind arg) := by
  refine Keeps.start h hm fun s h => ?_
  unfold State.tokenAct
  repeat' first
    | with_reducible assumption | exact rfl | with_reducible apply regs_all | with_reducible apply Keeps.lcTransition
    | with_reducible apply Keeps.lcReport | with_reducible apply Keeps.revokeReport
    | with_reducible refine Keeps.fst (by assumption) ?_ | split | with_reducible refine Keeps.upd ?_

theorem Keeps.lcToken {μ : Nat} {s t : State} (h : Keeps μ s t) (t' : List Byte) (hm : Sub
    0xffffffffffffffffffffffffffffffffffffffffffffffffffffffffffffffffffffffffffffffffffffffffffffffffffff μ := by
    rfl) : Keeps μ s (State.lcToken t t') := by
  refine Keeps.start h hm fun s h => ?_
  unfold State.lcToken
  repeat' first
    | with_reducible assumption | exact rfl | with_reducible apply regs_all | with_reducible apply Keeps.lcReport
    | with_reducible apply Keeps.endChallenge | with_reducible apply Keeps.tokenFail
    | with_reducible apply Keeps.tokenAct | with_reducible refine Keeps.fst (by assumption) ?_ | split
    | with_reducible refine Keeps.upd ?_

theorem Keeps.lcCmd {μ : Nat} {s t : State} (h : Keeps μ s t) (w : Nat) (hm : Sub
    0xffffffffffffffffffffffffffffffffffffffffffffffffffffffffffffffffffffffffffffffffffffffffffffffffffff μ := by
    rfl) : Keeps μ s (State.lcCmd t w) := by
  refine Keeps.start h hm fun s h => ?_
  unfold State.lcCmd
  try dsimp only
  repeat' first
    | with_reducible assumption | exact rfl | with_reducible apply regs_all | with_reducible apply Keeps.lcRun
    | with_reducible apply Keeps.lcGetchal | with_reducible apply Keeps.lcProgkey
    | with_reducible apply Keeps.lcRevoke | with_reducible apply Keeps.lcAdvance | with_reducible apply Keeps.lcRelock
    | with_reducible apply Keeps.lcToken | with_reducible refine Keeps.fst (by assumption) ?_
    | (intro _ _; try dsimp only) | split | with_reducible refine Keeps.upd ?_

theorem Keeps.lcWrite {μ : Nat} {s t : State} (h : Keeps μ s t) (p : Path) (w : Nat) (hm : Sub
    0xffffffffffffffffffffffffffffffffffffffffffffffffffffffffffffffffffffffffffffffffffffffffffffffffffff μ := by
    rfl) : Keeps μ s (State.lcWrite t p w) := by
  refine Keeps.start h hm fun s h => ?_
  unfold State.lcWrite
  repeat' first
    | with_reducible assumption | exact rfl | with_reducible apply regs_all | with_reducible apply Keeps.lcCmd | split

theorem Keeps.execLcGetchal {μ : Nat} {s t : State} (h : Keeps μ s t) (p : Path) (hm : Sub
    0xffffffffffffffffffffffffffffffffffffffffffffffffffffffffffffffffffffffffffffffffffffffffffffffffffff μ := by
    rfl) : KeepsO μ s (Sys2Proof.Machine.execLcGetchal p t) := by
  refine Keeps.startO h hm fun s h => ?_
  unfold Sys2Proof.Machine.execLcGetchal
  repeat' first
    | with_reducible assumption | exact rfl | with_reducible apply regs_all | with_reducible apply Keeps.lcWrite
    | with_reducible apply Keeps.next

theorem Keeps.execLcToken {μ : Nat} {s t : State} (h : Keeps μ s t) (p : Path) (hm : Sub
    0xffffffffffffffffffffffffffffffffffffffffffffffffffffffffffffffffffffffffffffffffffffffffffffffffffff μ := by
    rfl) : KeepsO μ s (Sys2Proof.Machine.execLcToken p t) := by
  refine Keeps.startO h hm fun s h => ?_
  unfold Sys2Proof.Machine.execLcToken
  repeat' first
    | with_reducible assumption | exact rfl | with_reducible apply regs_all | with_reducible apply Keeps.lcWrite
    | with_reducible apply Keeps.next

theorem Keeps.execLcProgkey {μ : Nat} {s t : State} (h : Keeps μ s t) (p : Path) (v : Word) (hm : Sub
    0xffffffffffffffffffffffffffffffffffffffffffffffffffffffffffffffffffffffffffffffffffffffffffffffffffff μ := by
    rfl) : KeepsO μ s (Sys2Proof.Machine.execLcProgkey p v t) := by
  refine Keeps.startO h hm fun s h => ?_
  unfold Sys2Proof.Machine.execLcProgkey
  repeat' first
    | with_reducible assumption | exact rfl | with_reducible apply regs_all | with_reducible apply Keeps.lcWrite
    | with_reducible apply Keeps.next

theorem Keeps.execLcRevoke {μ : Nat} {s t : State} (h : Keeps μ s t) (p : Path) (v : Word) (hm : Sub
    0xffffffffffffffffffffffffffffffffffffffffffffffffffffffffffffffffffffffffffffffffffffffffffffffffffff μ := by
    rfl) : KeepsO μ s (Sys2Proof.Machine.execLcRevoke p v t) := by
  refine Keeps.startO h hm fun s h => ?_
  unfold Sys2Proof.Machine.execLcRevoke
  repeat' first
    | with_reducible assumption | exact rfl | with_reducible apply regs_all | with_reducible apply Keeps.lcWrite
    | with_reducible apply Keeps.next

theorem Keeps.execLcAdvance {μ : Nat} {s t : State} (h : Keeps μ s t) (p : Path) (v : Word) (hm : Sub
    0xffffffffffffffffffffffffffffffffffffffffffffffffffffffffffffffffffffffffffffffffffffffffffffffffffff μ := by
    rfl) : KeepsO μ s (Sys2Proof.Machine.execLcAdvance p v t) := by
  refine Keeps.startO h hm fun s h => ?_
  unfold Sys2Proof.Machine.execLcAdvance
  repeat' first
    | with_reducible assumption | exact rfl | with_reducible apply regs_all | with_reducible apply Keeps.lcWrite
    | with_reducible apply Keeps.next

theorem Keeps.execLcRelock {μ : Nat} {s t : State} (h : Keeps μ s t) (p : Path) (hm : Sub
    0xffffffffffffffffffffffffffffffffffffffffffffffffffffffffffffffffffffffffffffffffffffffffffffffffffff μ := by
    rfl) : KeepsO μ s (Sys2Proof.Machine.execLcRelock p t) := by
  refine Keeps.startO h hm fun s h => ?_
  unfold Sys2Proof.Machine.execLcRelock
  repeat' first
    | with_reducible assumption | exact rfl | with_reducible apply regs_all | with_reducible apply Keeps.lcWrite
    | with_reducible apply Keeps.next

theorem Keeps.tapSelect {μ : Nat} {s t : State} (h : Keeps μ s t) (i : TapInstr) (hm : Sub
    0xffffffffffffffffffffffffffffffffffffffffffffffffffffffffffffffffffffffffffffffffffffffffffffffffffff μ := by
    rfl) : Keeps μ s (State.tapSelect t i) := by
  refine Keeps.start h hm fun s h => ?_
  unfold State.tapSelect
  try dsimp only
  repeat' first
    | with_reducible assumption | exact rfl | with_reducible apply regs_all | with_reducible apply Keeps.warm | split
    | with_reducible refine Keeps.upd ?_

theorem Keeps.setDr {μ : Nat} {s t : State} (h : Keeps μ s t) (n : Nat) (hm : Sub 0x1200000000 μ := by rfl) : Keeps μ
    s (State.setDr t n) := by
  refine Keeps.start h hm fun s h => ?_
  unfold State.setDr
  repeat' first | with_reducible assumption | exact rfl | with_reducible refine Keeps.upd ?_

theorem Keeps.execTapReset {μ : Nat} {s t : State} (h : Keeps μ s t) (hm : Sub
    0xffffffffffffffffffffffffffffffffffffffffffffffffffffffffffffffffffffffffffffffffffffffffffffffffffff μ := by
    rfl) : KeepsO μ s (Sys2Proof.Machine.execTapReset t) := by
  refine Keeps.startO h hm fun s h => ?_
  unfold Sys2Proof.Machine.execTapReset
  repeat' first
    | with_reducible assumption | exact rfl | with_reducible apply regs_all | with_reducible apply Keeps.tapSelect
    | with_reducible apply Keeps.next

theorem Keeps.execIdcode {μ : Nat} {s t : State} (h : Keeps μ s t) (hm : Sub
    0xffffffffffffffffffffffffffffffffffffffffffffffffffffffffffffffffffffffffffffffffffffffffffffffffffff μ := by
    rfl) : KeepsO μ s (Sys2Proof.Machine.execIdcode t) := by
  refine Keeps.startO h hm fun s h => ?_
  unfold Sys2Proof.Machine.execIdcode
  repeat' first
    | with_reducible assumption | exact rfl | with_reducible apply regs_all | with_reducible apply Keeps.tapSelect
    | with_reducible apply Keeps.setDr | with_reducible apply Keeps.next

theorem Keeps.execBypass {μ : Nat} {s t : State} (h : Keeps μ s t) (hm : Sub
    0xffffffffffffffffffffffffffffffffffffffffffffffffffffffffffffffffffffffffffffffffffffffffffffffffffff μ := by
    rfl) : KeepsO μ s (Sys2Proof.Machine.execBypass t) := by
  refine Keeps.startO h hm fun s h => ?_
  unfold Sys2Proof.Machine.execBypass
  repeat' first
    | with_reducible assumption | exact rfl | with_reducible apply regs_all | with_reducible apply Keeps.tapSelect
    | with_reducible apply Keeps.setDr | with_reducible apply Keeps.next

theorem Keeps.execExtest {μ : Nat} {s t : State} (h : Keeps μ s t) (bits : List Bool) (hm : Sub
    0xffffffffffffffffffffffffffffffffffffffffffffffffffffffffffffffffffffffffffffffffffffffffffffffffffff μ := by
    rfl) : KeepsO μ s (Sys2Proof.Machine.execExtest bits t) := by
  refine Keeps.startO h hm fun s h => ?_
  unfold Sys2Proof.Machine.execExtest
  try dsimp only
  repeat' first
    | with_reducible assumption | exact rfl | with_reducible apply regs_all | with_reducible apply Keeps.tapSelect
    | with_reducible apply Keeps.next | split | with_reducible refine Keeps.upd ?_

theorem Keeps.execExtestExit {μ : Nat} {s t : State} (h : Keeps μ s t) (code : Nat) (hm : Sub
    0xffffffffffffffffffffffffffffffffffffffffffffffffffffffffffffffffffffffffffffffffffffffffffffffffffff μ := by
    rfl) : KeepsO μ s (Sys2Proof.Machine.execExtestExit code t) := by
  refine Keeps.startO h hm fun s h => ?_
  unfold Sys2Proof.Machine.execExtestExit
  repeat' first
    | with_reducible assumption | exact rfl | with_reducible apply regs_all | with_reducible apply Keeps.tapSelect
    | with_reducible apply Keeps.next | split

theorem Keeps.execSamplePreload {μ : Nat} {s t : State} (h : Keeps μ s t) (sampled preload : List Bool) (hm : Sub
    0xffffffffffffffffffffffffffffffffffffffffffffffffffffffffffffffffffffffffffffffffffffffffffffffffffff μ := by
    rfl) : KeepsO μ s (Sys2Proof.Machine.execSamplePreload sampled preload t) := by
  refine Keeps.startO h hm fun s h => ?_
  unfold Sys2Proof.Machine.execSamplePreload
  try dsimp only
  repeat' first
    | with_reducible assumption | exact rfl | with_reducible apply regs_all | with_reducible apply Keeps.tapSelect
    | with_reducible apply Keeps.next | split | with_reducible refine Keeps.upd ?_

theorem Keeps.execDbgChal {μ : Nat} {s t : State} (h : Keeps μ s t) (hm : Sub
    0xffffffffffffffffffffffffffffffffffffffffffffffffffffffffffffffffffffffffffffffffffffffffffffffffffff μ := by
    rfl) : KeepsO μ s (Sys2Proof.Machine.execDbgChal t) := by
  refine Keeps.startO h hm fun s h => ?_
  unfold Sys2Proof.Machine.execDbgChal
  try dsimp only
  repeat' first
    | with_reducible assumption | exact rfl | with_reducible apply regs_all | with_reducible apply Keeps.tapSelect
    | with_reducible apply Keeps.setDr | with_reducible apply Keeps.next | split

theorem Keeps.execDbgToken {μ : Nat} {s t : State} (h : Keeps μ s t) (bytes : List Byte) (hm : Sub
    0xffffffffffffffffffffffffffffffffffffffffffffffffffffffffffffffffffffffffffffffffffffffffffffffffffff μ := by
    rfl) : KeepsO μ s (Sys2Proof.Machine.execDbgToken bytes t) := by
  refine Keeps.startO h hm fun s h => ?_
  unfold Sys2Proof.Machine.execDbgToken
  try dsimp only
  repeat' first
    | with_reducible assumption | exact rfl | with_reducible apply regs_all | with_reducible apply Keeps.lcRun
    | with_reducible apply Keeps.lcToken | with_reducible apply Keeps.tapSelect | with_reducible apply Keeps.next
    | (intro (_ : State) (_ : Keeps _ _ _); try dsimp only) | split

theorem Keeps.captureEnd {μ : Nat} {s t : State} (h : Keeps μ s t) (b : BeatRec) (hm : Sub
    0x12f0000000000000000000000000000000000001d0000 μ := by rfl) : Keeps μ s (State.captureEnd t b) := by
  refine Keeps.start h hm fun s h => ?_
  unfold State.captureEnd
  try dsimp only
  repeat' first
    | with_reducible assumption | exact rfl | with_reducible apply Keeps.captureDeadline
    | with_reducible apply Keeps.markRows | with_reducible apply Keeps.bindStats
    | with_reducible apply Keeps.settleMerges | with_reducible refine Keeps.foldl ?_ (fun _ _ _ => ?_)
    | with_reducible refine Keeps.foldl_fst ?_ (fun _ _ _ => ?_) | split

theorem Keeps.processEnd {μ : Nat} {s t : State} (h : Keeps μ s t) (n : Nat) (hm : Sub
    0x161713c0000000000000000000000000000000000000200078208c μ := by rfl) : Keeps μ s (State.processEnd t n).1 := by
  refine Keeps.start h hm fun s h => ?_
  unfold State.processEnd
  try dsimp only
  repeat' first
    | with_reducible assumption | exact rfl | with_reducible apply Keeps.finishProducts
    | with_reducible apply Keeps.finishStats | with_reducible apply Keeps.finishServices
    | with_reducible refine Keeps.fst (by assumption) ?_ | split | with_reducible refine Keeps.upd ?_

theorem Keeps.abandonDesc {μ : Nat} {s t : State} (h : Keeps μ s t) (c : Nat) (d : Desc) (hm : Sub
    0x38000042000000000000044c020000000400000000000000000000000080c0061c00000be000000000000481c00788c μ := by rfl) :
    Keeps μ s (State.abandonDesc t c d) := by
  refine Keeps.start h hm fun s h => ?_
  unfold State.abandonDesc
  try dsimp only
  repeat' first
    | with_reducible assumption | exact rfl | with_reducible apply Keeps.wr | with_reducible apply Keeps.dropFermata
    | with_reducible apply Keeps.setChan | with_reducible apply Keeps.endDesc | with_reducible apply Keeps.dropWaiter
    | with_reducible refine Keeps.upd ?_

theorem Keeps.abandonDue {μ : Nat} {s t : State} (h : Keeps μ s t) (c n : Nat) (hm : Sub
    0x200000000000000000000000000000006000 μ := by rfl) : Keeps μ s (State.abandonDue t c n).1 := by
  refine Keeps.start h hm fun s h => ?_
  unfold State.abandonDue
  try dsimp only
  repeat' first
    | with_reducible assumption | exact rfl | with_reducible apply Keeps.addF | with_reducible apply Keeps.dropFermata
    | with_reducible apply Keeps.setChan | with_reducible refine Keeps.fst (by assumption) ?_ | split
    | with_reducible refine Keeps.upd ?_

theorem Keeps.abandonChan {μ : Nat} {s t : State} (h : Keeps μ s t) (c n : Nat) (hm : Sub
    0x38000042000000000000044c020000000400000000000000000000000082c0061c00000be000000000000481c00788c μ := by rfl) :
    Keeps μ s (State.abandonChan t c n).1 := by
  refine Keeps.start h hm fun s h => ?_
  unfold State.abandonChan
  try dsimp only
  repeat' first
    | with_reducible assumption | exact rfl | with_reducible apply Keeps.abandonDesc
    | with_reducible apply Keeps.abandonDue | with_reducible refine Keeps.foldl ?_ (fun _ _ _ => ?_)
    | with_reducible refine Keeps.foldl_fst ?_ (fun _ _ _ => ?_) | with_reducible refine Keeps.fst (by assumption) ?_
    | split | with_reducible refine Keeps.upd ?_

theorem Keeps.deliverEnd {μ : Nat} {s t : State} (h : Keeps μ s t) (n : Nat) (hm : Sub
    0x380000420000000000000c4c020000000400000000000040000000000082c0061c00000be000000000000481c40788c μ := by rfl) :
    Keeps μ s (State.deliverEnd t n).1 := by
  refine Keeps.start h hm fun s h => ?_
  unfold State.deliverEnd
  try dsimp only
  repeat' first
    | with_reducible assumption | exact rfl | with_reducible apply Keeps.bump | with_reducible apply Keeps.dropPosts
    | with_reducible apply Keeps.dropFaulted | with_reducible apply Keeps.flowDeadline
    | with_reducible apply Keeps.abandonChan | with_reducible refine Keeps.foldl ?_ (fun _ _ _ => ?_)
    | with_reducible refine Keeps.foldl_fst ?_ (fun _ _ _ => ?_) | with_reducible refine Keeps.fst (by assumption) ?_
    | split | with_reducible refine Keeps.upd ?_

theorem Keeps.countOvrs {μ : Nat} {s t : State} (h : Keeps μ s t) (l : List Nat) (hm : Sub
    0x800000000000000000000000000000000000000000000000000000000000000060000000000000000000000000000 μ := by rfl) :
    Keeps μ s (State.countOvrs t l) := by
  refine Keeps.start h hm fun s h => ?_
  unfold State.countOvrs
  repeat' first
    | with_reducible assumption | exact rfl | with_reducible apply Keeps.addF | with_reducible apply Keeps.countOvr
    | with_reducible refine Keeps.foldl ?_ (fun _ _ _ => ?_)

theorem Keeps.deadlines {μ : Nat} {s t : State} (h : Keeps μ s t) (hm : Sub
    0x388000420000000000000c4c02000000040000000161717c0012f0000082c0061c60000be000000000000681c7d788c μ := by rfl) :
    Keeps μ s (State.deadlines t) := by
  refine Keeps.start h hm fun s h => ?_
  unfold State.deadlines
  try dsimp only
  repeat' first
    | with_reducible assumption | exact rfl | with_reducible apply Keeps.captureEnd
    | with_reducible apply Keeps.processEnd | with_reducible apply Keeps.deliverEnd
    | with_reducible apply Keeps.countOvrs | with_reducible refine Keeps.fst (by assumption) ?_ | split
    | with_reducible refine Keeps.upd ?_

theorem Keeps.barRegs {μ : Nat} {s t : State} (h : Keeps μ s t) (x : BarIn) (hm : Sub 0x1e5c0000000000000000000000000
    μ := by rfl) : Keeps μ s (State.barRegs t x) := by
  refine Keeps.start h hm fun s h => ?_
  unfold State.barRegs
  try dsimp only
  repeat' first
    | with_reducible assumption | exact rfl | with_reducible apply Keeps.wr | with_reducible apply Keeps.wrF
    | with_reducible apply Keeps.setB | with_reducible apply Keeps.bump | split

theorem Keeps.endAggregates {μ : Nat} {s t : State} (h : Keeps μ s t) (period : Nat) (hm : Sub
    0x7c60000000000000000000000000000000000000000000000000000000000000000000202000010c μ := by rfl) : Keeps μ s
    (State.endAggregates t period) := by
  refine Keeps.start h hm fun s h => ?_
  unfold State.endAggregates
  try dsimp only
  repeat' first
    | with_reducible assumption | exact rfl | with_reducible apply Keeps.closeAggregates
    | with_reducible refine Keeps.fst (by assumption) ?_ | split | with_reducible refine Keeps.upd ?_

theorem Keeps.resetQuotas {μ : Nat} {s t : State} (h : Keeps μ s t) (hm : Sub 0x4000000000000000000000000008004080 μ
    := by rfl) : Keeps μ s (State.resetQuotas t) := by
  refine Keeps.start h hm fun s h => ?_
  unfold State.resetQuotas
  try dsimp only
  repeat' first
    | with_reducible assumption | exact rfl | with_reducible apply Keeps.wr | with_reducible apply Keeps.flowQuota
    | with_reducible refine Keeps.foldl ?_ (fun _ _ _ => ?_)
    | with_reducible refine Keeps.foldl_fst ?_ (fun _ _ _ => ?_) | split | with_reducible refine Keeps.upd ?_

theorem Keeps.segueDue {μ : Nat} {s t : State} (h : Keeps μ s t) (bar ord : Nat) (hm : Sub
    0x3a0000421ffffe0ff8400c4dfffe03f80400000003f1f7ffffffffffff87fe861c00000be34800000000068fcca78cf μ := by rfl) :
    Keeps μ s (State.segueDue t bar ord) := by
  refine Keeps.start h hm fun s h => ?_
  unfold State.segueDue
  repeat' first
    | with_reducible assumption | exact rfl | with_reducible apply Keeps.commitSegue
    | with_reducible refine Keeps.fst (by assumption) ?_ | split | with_reducible refine Keeps.upd ?_

theorem Keeps.sendBarline {μ : Nat} {s t : State} (h : Keeps μ s t) (x : BarIn) (hm : Sub 0x800000000 μ := by rfl) :
    Keeps μ s (State.sendBarline t x) := by
  refine Keeps.start h hm fun s h => ?_
  unfold State.sendBarline
  repeat' first | with_reducible assumption | exact rfl | with_reducible apply Keeps.tieSend | split

theorem Keeps.openBeat {μ : Nat} {s t : State} (h : Keeps μ s t) (x : BarIn) (bar ord : Nat) (hm : Sub
    0x44c0000007004000000000001000004020000000400000000000000000000000083eee4580 μ := by rfl) : Keeps μ s
    (State.openBeat t x bar ord) := by
  refine Keeps.start h hm fun s h => ?_
  unfold State.openBeat
  try dsimp only
  repeat' first
    | with_reducible assumption | exact rfl | with_reducible apply Keeps.startTx
    | with_reducible apply Keeps.openWindows | with_reducible apply Keeps.portBarline
    | with_reducible apply Keeps.advanceRows | with_reducible apply Keeps.clearBeat
    | with_reducible apply Keeps.pipeBarline | with_reducible apply Keeps.anchorCues
    | with_reducible apply Keeps.barCues | with_reducible apply Keeps.lockCues
    | with_reducible apply Keeps.startChecks | with_reducible apply Keeps.resetQuotas
    | with_reducible apply Keeps.sendBarline | with_reducible refine Keeps.foldl ?_ (fun _ _ _ => ?_)
    | with_reducible refine Keeps.foldl_fst ?_ (fun _ _ _ => ?_) | with_reducible refine Keeps.fst (by assumption) ?_
    | split | with_reducible refine Keeps.upd ?_

theorem Keeps.playTable {μ : Nat} {s t : State} (h : Keeps μ s t) (hm : Sub
    0x40000000000000000000000000000000000000000000000000000000000000000000008004400 μ := by rfl) : Keeps μ s
    (State.playTable t) := by
  refine Keeps.start h hm fun s h => ?_
  unfold State.playTable
  try dsimp only
  repeat' first
    | with_reducible assumption | exact rfl | with_reducible apply Keeps.setChan | with_reducible apply Keeps.flowDue
    | with_reducible refine Keeps.foldl ?_ (fun _ _ _ => ?_) | with_reducible refine Keeps.fst (by assumption) ?_
    | split | with_reducible refine Keeps.upd ?_

theorem Keeps.closeAll {μ : Nat} {s t : State} (h : Keeps μ s t) (hm : Sub
    0x200000000000000000000000000000000000020000 μ := by rfl) : Keeps μ s (State.closeAll t) := by
  refine Keeps.start h hm fun s h => ?_
  unfold State.closeAll
  repeat' first
    | with_reducible assumption | exact rfl | with_reducible apply Keeps.closeWindows
    | with_reducible refine Keeps.foldl ?_ (fun _ _ _ => ?_)

theorem Keeps.leadJoins {μ : Nat} {s t : State} (h : Keeps μ s t) (hm : Sub
    0x40244c0200000004000000000000000000000000000000000000000000000000000081c000080 μ := by rfl) : Keeps μ s
    (State.leadJoins t) := by
  refine Keeps.start h hm fun s h => ?_
  unfold State.leadJoins
  repeat' first | with_reducible assumption | exact rfl | with_reducible apply Keeps.setTie | split

theorem Keeps.turnBeat {μ : Nat} {s t : State} (h : Keeps μ s t) (x : BarIn) (hm : Sub
    0x1f0ffb000421ffffffffffffffffffe03f804000003ffffffffffffffffff87fe861c00000be34800000000068feee7dcf μ := by rfl)
    : Keeps μ s (State.turnBeat t x) := by
  refine Keeps.start h hm fun s h => ?_
  unfold State.turnBeat
  try dsimp only
  repeat' first
    | with_reducible assumption | exact rfl | with_reducible apply Keeps.segueStep
    | with_reducible apply Keeps.segueDue | with_reducible apply Keeps.openBeat
    | with_reducible refine Keeps.fst (by assumption) ?_ | split | with_reducible refine Keeps.upd ?_

theorem Keeps.barSteps {μ : Nat} {s t : State} (h : Keeps μ s t) (x : BarIn) (hm : Sub
    0xffffffffffffffffffffffffffffffffffffffffffffffffffffffffffffffffffffffffffffffffffffffffffffffffffff μ := by
    rfl) : Keeps μ s (State.barSteps t x) := by
  refine Keeps.start h hm fun s h => ?_
  unfold State.barSteps
  try dsimp only
  repeat' first
    | with_reducible assumption | exact rfl | with_reducible apply regs_all | with_reducible apply Keeps.openShadow
    | with_reducible apply Keeps.enterStandby | with_reducible apply Keeps.deadlines
    | with_reducible apply Keeps.barRegs | with_reducible apply Keeps.endAggregates
    | with_reducible apply Keeps.playTable | with_reducible apply Keeps.closeAll
    | with_reducible apply Keeps.leadJoins | with_reducible apply Keeps.turnBeat
    | with_reducible refine Keeps.fst (by assumption) ?_ | split | with_reducible refine Keeps.upd ?_

theorem Keeps.barline {μ : Nat} {s t : State} (h : Keeps μ s t) (x : BarIn) (hm : Sub
    0xffffffffffffffffffffffffffffffffffffffffffffffffffffffffffffffffffffffffffffffffffffffffffffffffffff μ := by
    rfl) : Keeps μ s (State.barline t x) := by
  refine Keeps.start h hm fun s h => ?_
  unfold State.barline
  repeat' first
    | with_reducible assumption | exact rfl | with_reducible apply regs_all | with_reducible apply Keeps.oneCycle
    | with_reducible apply Keeps.barSteps | (intro _ _ _; try dsimp only)

theorem Keeps.setHeld {μ : Nat} {s t : State} (h : Keeps μ s t) (l : List Nat) (hm : Sub 0x400000000000000000000000400
    μ := by rfl) : Keeps μ s (State.setHeld t l) := by
  refine Keeps.start h hm fun s h => ?_
  unfold State.setHeld
  repeat' first
    | with_reducible assumption | exact rfl | with_reducible apply Keeps.wrF | with_reducible refine Keeps.upd ?_

theorem Keeps.releaseHeld {μ : Nat} {s t : State} (h : Keeps μ s t) (hm : Sub
    0xffffffffffffffffffffffffffffffffffffffffffffffffffffffffffffffffffffffffffffffffffffffffffffffffffff μ := by
    rfl) : Keeps μ s (State.releaseHeld t) := by
  refine Keeps.start h hm fun s h => ?_
  unfold State.releaseHeld
  repeat' first
    | with_reducible assumption | exact rfl | with_reducible apply regs_all | with_reducible apply Keeps.setB
    | with_reducible apply Keeps.bump | with_reducible apply Keeps.barline | with_reducible apply Keeps.setHeld
    | with_reducible refine Keeps.fst (by assumption) ?_ | split | with_reducible refine Keeps.upd ?_

theorem Keeps.deferEvent {μ : Nat} {s t : State} (h : Keeps μ s t) (target : Nat) (hm : Sub
    0x1400000000000000000000080400 μ := by rfl) : Keeps μ s (State.deferEvent t target) := by
  refine Keeps.start h hm fun s h => ?_
  unfold State.deferEvent
  repeat' first
    | with_reducible assumption | exact rfl | with_reducible apply Keeps.setB | with_reducible apply Keeps.bump
    | with_reducible apply Keeps.dropRows | with_reducible apply Keeps.setHeld | split

theorem Keeps.tempoEvent {μ : Nat} {s t : State} (h : Keeps μ s t) (target : Nat) (hm : Sub
    0xffffffffffffffffffffffffffffffffffffffffffffffffffffffffffffffffffffffffffffffffffffffffffffffffffff μ := by
    rfl) : Keeps μ s (State.tempoEvent t target) := by
  refine Keeps.start h hm fun s h => ?_
  unfold State.tempoEvent
  try dsimp only
  repeat' first
    | with_reducible assumption | exact rfl | with_reducible apply regs_all | with_reducible apply Keeps.barline
    | with_reducible apply Keeps.releaseHeld | with_reducible apply Keeps.deferEvent | split

theorem Keeps.played {μ : Nat} {s t : State} (h : Keeps μ s t) (x : State) : KeepsO μ s (State.played x t) := by
  unfold State.played
  split
  · exact Keeps.fault _ _ _
  · exact h.next

theorem Keeps.execTimerPeriodExpiry {μ : Nat} {s t : State} (h : Keeps μ s t) (hm : Sub
    0xffffffffffffffffffffffffffffffffffffffffffffffffffffffffffffffffffffffffffffffffffffffffffffffffffff μ := by
    rfl) : KeepsO μ s (Sys2Proof.Machine.execTimerPeriodExpiry t) := by
  refine Keeps.startO h hm fun s h => ?_
  unfold Sys2Proof.Machine.execTimerPeriodExpiry
  try dsimp only
  repeat' first
    | with_reducible assumption | exact rfl | with_reducible apply regs_all | with_reducible apply Keeps.runTo
    | with_reducible apply Keeps.tempoEvent | with_reducible apply Keeps.played | with_reducible apply Keeps.next
    | split | with_reducible refine Keeps.upd ?_

theorem Keeps.execBeatinEdge {μ : Nat} {s t : State} (h : Keeps μ s t) (v : Level) (hm : Sub
    0xffffffffffffffffffffffffffffffffffffffffffffffffffffffffffffffffffffffffffffffffffffffffffffffffffff μ := by
    rfl) : KeepsO μ s (Sys2Proof.Machine.execBeatinEdge v t) := by
  refine Keeps.startO h hm fun s h => ?_
  unfold Sys2Proof.Machine.execBeatinEdge
  repeat' first
    | with_reducible assumption | exact rfl | with_reducible apply regs_all | with_reducible apply Keeps.tempoEvent
    | with_reducible apply Keeps.played | with_reducible apply Keeps.next | split

theorem Keeps.execDeferredBarlineRelease {μ : Nat} {s t : State} (h : Keeps μ s t) (hm : Sub
    0xffffffffffffffffffffffffffffffffffffffffffffffffffffffffffffffffffffffffffffffffffffffffffffffffffff μ := by
    rfl) : KeepsO μ s (Sys2Proof.Machine.execDeferredBarlineRelease t) := by
  refine Keeps.startO h hm fun s h => ?_
  unfold Sys2Proof.Machine.execDeferredBarlineRelease
  repeat' first
    | with_reducible assumption | exact rfl | with_reducible apply regs_all | with_reducible apply Keeps.runTo
    | with_reducible apply Keeps.releaseHeld | with_reducible apply Keeps.played | with_reducible apply Keeps.next
    | split

theorem Keeps.execIdleBarline {μ : Nat} {s t : State} (h : Keeps μ s t) (hm : Sub
    0xffffffffffffffffffffffffffffffffffffffffffffffffffffffffffffffffffffffffffffffffffffffffffffffffffff μ := by
    rfl) : KeepsO μ s (Sys2Proof.Machine.execIdleBarline t) := by
  refine Keeps.startO h hm fun s h => ?_
  unfold Sys2Proof.Machine.execIdleBarline
  try dsimp only
  repeat' first
    | with_reducible assumption | exact rfl | with_reducible apply regs_all | with_reducible apply Keeps.runTo
    | with_reducible apply Keeps.barline | with_reducible apply Keeps.played | with_reducible apply Keeps.next | split

theorem Keeps.encTargets {μ : Nat} {s t : State} (h : Keeps μ s t) (a0 : Nat) (hm : Sub
    0xffffffffffffffffffffffffffffffffffffffffffffffffffffffffffffffffffffffffffffffffffffffffffffffffffff μ := by
    rfl) : Keeps μ s (State.encTargets t a0) := by
  refine Keeps.start h hm ?_
  clear h hm s
  intro s h
  induction a0 generalizing t with
  | zero => exact h
  | succ n ih =>
    unfold State.encTargets
    dsimp only
    repeat' first | with_reducible assumption | exact rfl | exact rfl | with_reducible assumption | with_reducible apply ih | with_reducible apply Keeps.tempoEvent | split | with_reducible refine Keeps.upd ?_

theorem Keeps.execEncoderCount {μ : Nat} {s t : State} (h : Keeps μ s t) (k : Nat) (v : LevelsAB) (held : Nat) (hm :
    Sub 0xffffffffffffffffffffffffffffffffffffffffffffffffffffffffffffffffffffffffffffffffffffffffffffffffffff μ :=
    by rfl) : KeepsO μ s (Sys2Proof.Machine.execEncoderCount k v held t) := by
  refine Keeps.startO h hm fun s h => ?_
  unfold Sys2Proof.Machine.execEncoderCount
  try dsimp only
  repeat' first
    | with_reducible assumption | exact rfl | with_reducible apply regs_all | with_reducible apply Keeps.encCount
    | with_reducible apply Keeps.played | with_reducible apply Keeps.encTargets | with_reducible apply Keeps.next
    | split

theorem Keeps.execCueLeadingEdge {μ : Nat} {s t : State} (h : Keeps μ s t) (cue : Nat) (hm : Sub
    0xffffffffffffffffffffffffffffffffffffffffffffffffffffffffffffffffffffffffffffffffffffffffffffffffffff μ := by
    rfl) : KeepsO μ s (Sys2Proof.Machine.execCueLeadingEdge cue t) := by
  refine Keeps.startO h hm fun s h => ?_
  unfold Sys2Proof.Machine.execCueLeadingEdge
  try dsimp only
  repeat' first
    | with_reducible assumption | exact rfl | with_reducible apply regs_all | with_reducible apply Keeps.runToClock
    | with_reducible apply Keeps.cueLead | with_reducible apply Keeps.tempoEvent | with_reducible apply Keeps.played
    | with_reducible apply Keeps.next | with_reducible refine Keeps.fst (by assumption) ?_ | split
    | with_reducible refine Keeps.upd ?_

theorem Keeps.adopt {μ : Nat} {s t : State} (h : Keeps μ s t) (b : TieBarline) (hm : Sub
    0x8000040000000000040644c0200000004000000000000000000000000000000000040000000000000000081c000480 μ := by rfl) :
    Keeps μ s (State.adopt t b) := by
  refine Keeps.start h hm fun s h => ?_
  unfold State.adopt
  try dsimp only
  repeat' first
    | with_reducible assumption | exact rfl | with_reducible apply Keeps.wr | with_reducible apply Keeps.setB
    | with_reducible apply Keeps.vector0 | with_reducible apply Keeps.alert | with_reducible apply Keeps.setTie
    | with_reducible apply Keeps.setHeld | with_reducible refine Keeps.upd ?_

theorem Keeps.execTieBarlineRx {μ : Nat} {s t : State} (h : Keeps μ s t) (h' : TieHdr) (b : TieBarline) (hm : Sub
    0xffffffffffffffffffffffffffffffffffffffffffffffffffffffffffffffffffffffffffffffffffffffffffffffffffff μ := by
    rfl) : KeepsO μ s (Sys2Proof.Machine.execTieBarlineRx h' b t) := by
  refine Keeps.startO h hm fun s h => ?_
  unfold Sys2Proof.Machine.execTieBarlineRx
  try dsimp only
  repeat' first
    | with_reducible assumption | exact rfl | with_reducible apply regs_all | with_reducible apply Keeps.tieIn
    | with_reducible apply Keeps.setTie | with_reducible apply Keeps.barline | with_reducible apply Keeps.played
    | with_reducible apply Keeps.adopt | with_reducible apply Keeps.next
    | with_reducible refine Keeps.fst (by assumption) ?_ | split | with_reducible refine Keeps.upd ?_

theorem Keeps.execSlotTableStart {μ : Nat} {s t : State} (h : Keeps μ s t) (hm : Sub
    0x40000000000000000000000000000000000000000000000000000000000000000000008004420 μ := by rfl) : KeepsO μ s
    (Sys2Proof.Machine.execSlotTableStart t) := by
  refine Keeps.startO h hm fun s h => ?_
  unfold Sys2Proof.Machine.execSlotTableStart
  repeat' first
    | with_reducible assumption | exact rfl | with_reducible apply Keeps.runTo | with_reducible apply Keeps.playTable
    | with_reducible apply Keeps.next | split

theorem Keeps.rungChan {μ : Nat} {s t : State} (h : Keeps μ s t) (v q : Nat) (e : Elem) (hm : Sub 0x4000 μ := by rfl)
    : Keeps μ s (State.rungChan t v q e) := by
  refine Keeps.start h hm fun s h => ?_
  unfold State.rungChan
  try dsimp only
  repeat' first
    | with_reducible assumption | exact rfl | with_reducible apply Keeps.setChan
    | with_reducible refine Keeps.fst (by assumption) ?_ | split | with_reducible refine Keeps.upd ?_

theorem Keeps.doorbell {μ : Nat} {s t : State} (h : Keeps μ s t) (p : Path) (v q w : Nat) (hm : Sub
    0x38000042010008000000044c02000000040000000000000000000000008000061c00000be000000000000485c00788c μ := by rfl) :
    Keeps μ s (State.doorbell t p v q w) := by
  refine Keeps.start h hm fun s h => ?_
  unfold State.doorbell
  try dsimp only
  repeat' first
    | with_reducible assumption | exact rfl | with_reducible apply Keeps.setB | with_reducible apply Keeps.violate
    | with_reducible apply Keeps.setRing | with_reducible apply Keeps.releasePost
    | with_reducible apply Keeps.serDoorbell | with_reducible apply Keeps.rungChan
    | with_reducible refine Keeps.foldl ?_ (fun _ _ _ => ?_) | split

theorem Keeps.execDoorbellWrite {μ : Nat} {s t : State} (h : Keeps μ s t) (p : Path) (voice queue : Nat) (v : Word)
    (hm : Sub 0x38000042010008000000044c02000000040000000000000000000000008000061c00000be000000000000485c00788c μ :=
    by rfl) : KeepsO μ s (Sys2Proof.Machine.execDoorbellWrite p voice queue v t) := by
  refine Keeps.startO h hm fun s h => ?_
  unfold Sys2Proof.Machine.execDoorbellWrite
  repeat' first
    | with_reducible assumption | exact rfl | with_reducible apply Keeps.pageWrite
    | with_reducible apply Keeps.doorbell | with_reducible apply Keeps.next
    | (intro (_ : State) (_ : Keeps _ _ _); try dsimp only) | split

theorem Keeps.regRead {μ : Nat} {s t : State} (h : Keeps μ s t) (r : RegId) (i : Nat) (high : Bool) (hm : Sub
    0x7fffffffffffffffffffffffffffffffffffffffffffffffffffffffffffffffffffffffffffffffff0000004804000001 μ := by rfl)
    : Keeps μ s (State.regRead t r i high).1 := by
  refine Keeps.start h hm fun s h => ?_
  unfold State.regRead
  repeat' first
    | with_reducible assumption | exact rfl | with_reducible apply regs_all | with_reducible apply Keeps.wordRead
    | with_reducible apply Keeps.readClkNs | with_reducible apply Keeps.chkRead
    | with_reducible refine Keeps.fst (by assumption) ?_ | split | with_reducible refine Keeps.upd ?_

theorem Keeps.conductorRead {μ : Nat} {s t : State} (h : Keeps μ s t) (p : Path) (o : Nat) (hm : Sub
    0x7fffffffffffffffffffffffffffffffffffffffffffffffffffffffffffffffffffffffffffffffff0000004804000001 μ := by rfl)
    : Keeps μ s (State.conductorRead t p o).1 := by
  refine Keeps.start h hm fun s h => ?_
  unfold State.conductorRead
  try dsimp only
  repeat' first
    | with_reducible assumption | exact rfl | with_reducible apply regs_all | with_reducible apply Keeps.regRead
    | with_reducible refine Keeps.fst (by assumption) ?_ | split | with_reducible refine Keeps.upd ?_

theorem Keeps.pageRead {μ : Nat} {s t : State} (h : Keeps μ s t) (p : Path) (v o : Nat) (hm : Sub
    0x7fffffffffffffffffffffffffffffffffffffffffffffffffffffffffffffffffffffffffffffffff0000004804000001 μ := by rfl)
    : Keeps μ s (State.pageRead t p v o).1 := by
  refine Keeps.start h hm fun s h => ?_
  unfold State.pageRead
  repeat' first
    | with_reducible assumption | exact rfl | with_reducible apply regs_all | with_reducible apply Keeps.violate
    | with_reducible apply Keeps.regRead | with_reducible refine Keeps.fst (by assumption) ?_ | split
    | with_reducible refine Keeps.upd ?_

theorem Keeps.busRead {μ : Nat} {s t : State} (h : Keeps μ s t) (p : Path) (sp : Space) (o : Nat) (hm : Sub
    0x7fffffffffffffffffffffffffffffffffffffffffffffffffffffffffffffffffffffffffffffffff0000004804000001 μ := by rfl)
    : Keeps μ s (State.busRead t p sp o).1 := by
  refine Keeps.start h hm fun s h => ?_
  unfold State.busRead
  repeat' first
    | with_reducible assumption | exact rfl | with_reducible apply regs_all | with_reducible apply Keeps.conductorRead
    | with_reducible apply Keeps.pageRead | with_reducible refine Keeps.fst (by assumption) ?_ | split
    | with_reducible refine Keeps.upd ?_

theorem Keeps.conductorStore {μ : Nat} {s t : State} (h : Keeps μ s t) (r : RegId) (i : Nat) (high : Bool) (w : Nat)
    (hm : Sub 0xffffffffffffffffffffffffffffffffffffffffffffffffffffffffffffffffffffffffffffffffffffffffffffffffffff μ
    := by rfl) : Keeps μ s (State.conductorStore t r i high w) := by
  refine Keeps.start h hm fun s h => ?_
  unfold State.conductorStore
  try dsimp only
  repeat' first
    | with_reducible assumption | exact rfl | with_reducible apply regs_all | with_reducible apply Keeps.fieldWrite
    | with_reducible apply Keeps.wordWrite | with_reducible apply Keeps.alertPump | with_reducible apply Keeps.cciCmd
    | with_reducible apply Keeps.violClear | with_reducible apply Keeps.armCue | with_reducible apply Keeps.stepClock
    | with_reducible apply Keeps.setClock | with_reducible apply Keeps.popCap | with_reducible apply Keeps.incrBase
    | with_reducible apply Keeps.modCmd | with_reducible apply Keeps.keyData | with_reducible apply Keeps.alertRaise
    | with_reducible apply Keeps.alertClear | with_reducible apply Keeps.unmaskVector
    | with_reducible apply Keeps.haltVoice | with_reducible apply Keeps.loadCtrl | with_reducible apply Keeps.rstCtrl
    | with_reducible apply Keeps.pwrCtrl | with_reducible apply Keeps.blkCtrl | with_reducible apply Keeps.lcCmd
    | with_reducible refine Keeps.fst (by assumption) ?_ | split | with_reducible refine Keeps.upd ?_

theorem Keeps.conductorWrite {μ : Nat} {s t : State} (h : Keeps μ s t) (p : Path) (o w : Nat) (hm : Sub
    0xffffffffffffffffffffffffffffffffffffffffffffffffffffffffffffffffffffffffffffffffffffffffffffffffffff μ := by
    rfl) : Keeps μ s (State.conductorWrite t p o w) := by
  refine Keeps.start h hm fun s h => ?_
  unfold State.conductorWrite
  repeat' first
    | with_reducible assumption | exact rfl | with_reducible apply regs_all
    | with_reducible apply Keeps.conductorStore | with_reducible refine Keeps.fst (by assumption) ?_ | split
    | with_reducible refine Keeps.upd ?_

theorem Keeps.pageRegWrite {μ : Nat} {s t : State} (h : Keeps μ s t) (p : Path) (v : Nat) (r : RegId) (i : Nat) (high
    : Bool) (w : Nat) (hm : Sub
    0x7fffffffffffffffffffffffffffffffffffffffffffffffffffffffffffffffffffffffffffffffff00000068dc40788e μ := by rfl)
    : Keeps μ s (State.pageRegWrite t p v r i high w) := by
  refine Keeps.start h hm fun s h => ?_
  unfold State.pageRegWrite
  repeat' first
    | with_reducible assumption | exact rfl | with_reducible apply regs_all | with_reducible apply Keeps.wordWrite
    | with_reducible apply Keeps.maskWrite | with_reducible apply Keeps.faultDecision
    | with_reducible apply Keeps.tlbInv | with_reducible apply Keeps.ptroot | with_reducible apply Keeps.chkFeed
    | with_reducible apply Keeps.chkCtrl | with_reducible apply Keeps.doorbell
    | with_reducible refine Keeps.fst (by assumption) ?_ | split | with_reducible refine Keeps.upd ?_

theorem Keeps.pageStore {μ : Nat} {s t : State} (h : Keeps μ s t) (p : Path) (v o w : Nat) (hm : Sub
    0x7fffffffffffffffffffffffffffffffffffffffffffffffffffffffffffffffffffffffffffffffff00000068dc40788e μ := by rfl)
    : Keeps μ s (State.pageStore t p v o w) := by
  refine Keeps.start h hm fun s h => ?_
  unfold State.pageStore
  repeat' first
    | with_reducible assumption | exact rfl | with_reducible apply regs_all | with_reducible apply Keeps.violate
    | with_reducible apply Keeps.pageWrite | with_reducible apply Keeps.pageRegWrite
    | with_reducible refine Keeps.fst (by assumption) ?_ | (intro _ _; try dsimp only) | split
    | with_reducible refine Keeps.upd ?_

theorem Keeps.busWrite {μ : Nat} {s t : State} (h : Keeps μ s t) (p : Path) (sp : Space) (o w : Nat) (hm : Sub
    0xffffffffffffffffffffffffffffffffffffffffffffffffffffffffffffffffffffffffffffffffffffffffffffffffffff μ := by
    rfl) : Keeps μ s (State.busWrite t p sp o w) := by
  refine Keeps.start h hm fun s h => ?_
  unfold State.busWrite
  repeat' first
    | with_reducible assumption | exact rfl | with_reducible apply regs_all
    | with_reducible apply Keeps.conductorWrite | with_reducible apply Keeps.pageStore
    | with_reducible refine Keeps.fst (by assumption) ?_ | split | with_reducible refine Keeps.upd ?_

theorem Keeps.execRegisterWrite {μ : Nat} {s t : State} (h : Keeps μ s t) (p : Path) (sp : Space) (ofs : Nat) (v :
    Word) (hm : Sub
    0xffffffffffffffffffffffffffffffffffffffffffffffffffffffffffffffffffffffffffffffffffffffffffffffffffff μ := by
    rfl) : KeepsO μ s (Sys2Proof.Machine.execRegisterWrite p sp ofs v t) := by
  refine Keeps.startO h hm fun s h => ?_
  unfold Sys2Proof.Machine.execRegisterWrite
  repeat' first
    | with_reducible assumption | exact rfl | with_reducible apply regs_all | with_reducible apply Keeps.busWrite
    | with_reducible apply Keeps.next

theorem Keeps.readBy {μ : Nat} {s t : State} (h : Keeps μ s t) (p : Path) (sp : Space) (o : Nat) (hm : Sub
    0x7fffffffffffffffffffffffffffffffffffffffffffffffffffffffffffffffffffffffffffffffff0000005804000001 μ := by rfl)
    : Keeps μ s (State.readBy t p sp o) := by
  refine Keeps.start h hm fun s h => ?_
  unfold State.readBy
  try dsimp only
  repeat' first
    | with_reducible assumption | exact rfl | with_reducible apply regs_all | with_reducible apply Keeps.busRead
    | with_reducible refine Keeps.fst (by assumption) ?_ | split | with_reducible refine Keeps.upd ?_

theorem Keeps.execRegisterReadClear {μ : Nat} {s t : State} (h : Keeps μ s t) (p : Path) (sp : Space) (ofs : Nat) (hm
    : Sub 0x7fffffffffffffffffffffffffffffffffffffffffffffffffffffffffffffffffffffffffffffffff0000005804000001 μ := by
    rfl) : KeepsO μ s (Sys2Proof.Machine.execRegisterReadClear p sp ofs t) := by
  refine Keeps.startO h hm fun s h => ?_
  unfold Sys2Proof.Machine.execRegisterReadClear
  repeat' first
    | with_reducible assumption | exact rfl | with_reducible apply regs_all | with_reducible apply Keeps.readBy
    | with_reducible apply Keeps.next

theorem Keeps.execWideRegisterLowRead {μ : Nat} {s t : State} (h : Keeps μ s t) (p : Path) (sp : Space) (ofs : Nat)
    (hm : Sub 0x7fffffffffffffffffffffffffffffffffffffffffffffffffffffffffffffffffffffffffffffffff0000005804000001 μ
    := by rfl) : KeepsO μ s (Sys2Proof.Machine.execWideRegisterLowRead p sp ofs t) := by
  refine Keeps.startO h hm fun s h => ?_
  unfold Sys2Proof.Machine.execWideRegisterLowRead
  repeat' first
    | with_reducible assumption | exact rfl | with_reducible apply regs_all | with_reducible apply Keeps.readBy
    | with_reducible apply Keeps.next

theorem Keeps.regsEntry {μ : Nat} {s t : State} (h : Keeps μ s t) (v a d : Nat) (hm : Sub
    0xffffffffffffffffffffffffffffffffffffffffffffffffffffffffffffffffffffffffffffffffffffffffffffffffffff μ := by
    rfl) : Keeps μ s (State.regsEntry t v a d).1 := by
  refine Keeps.start h hm fun s h => ?_
  unfold State.regsEntry
  try dsimp only
  repeat' first
    | with_reducible assumption | exact rfl | with_reducible apply regs_all | with_reducible apply Keeps.violate
    | with_reducible apply Keeps.busRead | with_reducible apply Keeps.busWrite | split

theorem Keeps.regsRun {μ : Nat} {s t : State} (h : Keeps μ s t) (v : Nat) (b : List Byte) (a0 : Nat) (hm : Sub
    0xffffffffffffffffffffffffffffffffffffffffffffffffffffffffffffffffffffffffffffffffffffffffffffffffffff μ := by
    rfl) : Keeps μ s (State.regsRun t v b a0).1 := by
  refine Keeps.start h hm ?_
  clear h hm s
  intro s h
  induction a0 generalizing t b with
  | zero => exact h
  | succ n ih =>
    unfold State.regsRun
    exact ih _ (h.regsEntry _ _ _)

theorem Keeps.flowViolation {μ : Nat} {s t : State} (h : Keeps μ s t) (v : Nat) (write : Bool) (b : List Byte) (hm :
    Sub 0x8000040000000000000000000000000000000000000000000000000000000000000000be0000000000006800000000 μ := by rfl)
    : Keeps μ s (State.flowViolation t v write b) := by
  refine Keeps.start h hm fun s h => ?_
  unfold State.flowViolation
  try dsimp only
  repeat' first
    | with_reducible assumption | exact rfl | with_reducible apply Keeps.freeUse | with_reducible apply Keeps.violate
    | with_reducible refine Keeps.fst (by assumption) ?_ | with_reducible refine Keeps.snd (by assumption) ?_ | split

theorem Keeps.control {μ : Nat} {s t : State} (h : Keeps μ s t) (u : Nat) (m : ControlMsg) (hm : Sub
    0xffffffffffffffffffffffffffffffffffffffffffffffffffffffffffffffffffffffffffffffffffffffffffffffffffff μ := by
    rfl) : Keeps μ s (State.control t u m) := by
  refine Keeps.start h hm fun s h => ?_
  unfold State.control
  try dsimp only
  repeat' first
    | with_reducible assumption | exact rfl | with_reducible apply regs_all | with_reducible apply Keeps.bump
    | with_reducible apply Keeps.installKey | with_reducible apply Keeps.ysfAccept
    | with_reducible apply Keeps.controlReply | with_reducible apply Keeps.regsRun
    | with_reducible apply Keeps.flowViolation | with_reducible refine Keeps.fst (by assumption) ?_ | split
    | with_reducible refine Keeps.upd ?_

theorem Keeps.execControlRegs {μ : Nat} {s t : State} (h : Keeps μ s t) (uplink : Nat) (m : ControlMsg) (hm : Sub
    0xffffffffffffffffffffffffffffffffffffffffffffffffffffffffffffffffffffffffffffffffffffffffffffffffffff μ := by
    rfl) : KeepsO μ s (Sys2Proof.Machine.execControlRegs uplink m t) := by
  refine Keeps.startO h hm fun s h => ?_
  unfold Sys2Proof.Machine.execControlRegs
  repeat' first
    | with_reducible assumption | exact rfl | with_reducible apply regs_all | with_reducible apply Keeps.control
    | with_reducible apply Keeps.next

theorem Keeps.execControlSetkey {μ : Nat} {s t : State} (h : Keeps μ s t) (uplink : Nat) (m : ControlMsg) (hm : Sub
    0xffffffffffffffffffffffffffffffffffffffffffffffffffffffffffffffffffffffffffffffffffffffffffffffffffff μ := by
    rfl) : KeepsO μ s (Sys2Proof.Machine.execControlSetkey uplink m t) := by
  refine Keeps.startO h hm fun s h => ?_
  unfold Sys2Proof.Machine.execControlSetkey
  repeat' first
    | with_reducible assumption | exact rfl | with_reducible apply regs_all | with_reducible apply Keeps.control
    | with_reducible apply Keeps.next

theorem Keeps.dbgMemory {μ : Nat} {s t : State} (h : Keeps μ s t) (a : Nat) (write : Bool) (d : Nat) (hm : Sub
    0x8000042000000000000044c02000000040000000000000000000000000000001c0000000000000000000281c00008c μ := by rfl) :
    Keeps μ s (State.dbgMemory t a write d).1 := by
  refine Keeps.start h hm fun s h => ?_
  unfold State.dbgMemory
  try dsimp only
  repeat' first
    | with_reducible assumption | exact rfl | with_reducible apply Keeps.writePhys
    | with_reducible apply Keeps.freeUse | with_reducible apply Keeps.eccResult
    | with_reducible refine Keeps.snd (by assumption) ?_ | split

theorem Keeps.dbgRegister {μ : Nat} {s t : State} (h : Keeps μ s t) (o : Nat) (write : Bool) (d : Nat) (hm : Sub
    0xffffffffffffffffffffffffffffffffffffffffffffffffffffffffffffffffffffffffffffffffffffffffffffffffffff μ := by
    rfl) : Keeps μ s (State.dbgRegister t o write d).1 := by
  refine Keeps.start h hm fun s h => ?_
  unfold State.dbgRegister
  split
  · dsimp only; exact h.busWrite _ _ _ _
  · exact h.busRead _ _ _

theorem Keeps.dbgAccess {μ : Nat} {s t : State} (h : Keeps μ s t) (a : Nat) (write : Bool) (d : Nat) (hm : Sub
    0xffffffffffffffffffffffffffffffffffffffffffffffffffffffffffffffffffffffffffffffffffffffffffffffffffff μ := by
    rfl) : Keeps μ s (State.dbgAccess t a write d).1 := by
  refine Keeps.start h hm fun s h => ?_
  unfold State.dbgAccess
  split
  · exact h.dbgRegister _ _ _
  · split
    · exact h.dbgMemory _ _ _
    · exact h

theorem Keeps.execDbgAccess {μ : Nat} {s t : State} (h : Keeps μ s t) (addr : Nat) (write : Bool) (data : Word) (hm :
    Sub 0xffffffffffffffffffffffffffffffffffffffffffffffffffffffffffffffffffffffffffffffffffffffffffffffffffff μ := by
    rfl) : KeepsO μ s (Sys2Proof.Machine.execDbgAccess addr write data t) := by
  refine Keeps.startO h hm fun s h => ?_
  unfold Sys2Proof.Machine.execDbgAccess
  try dsimp only
  repeat' first
    | with_reducible assumption | exact rfl | with_reducible apply regs_all | with_reducible apply Keeps.tapSelect
    | with_reducible apply Keeps.setDr | with_reducible apply Keeps.dbgAccess | with_reducible apply Keeps.next
    | with_reducible refine Keeps.fst (by assumption) ?_ | split

end Sys2Proof.Machine
end

