-- ==== Sys2Proof/Laws/Exec.lean ====
section
/-!
SUPPORT. What each command may change, as a mask (Keeps), and that its meaning changes no more.
-/

namespace Sys2Proof.Machine

set_option Elab.async false

theorem Sub.refl (m : Nat) : Sub m m := Nat.and_self m

/-- The registers of a list as a mask, without the shift to bit 64. -/
def regMask : List RegId → Nat
  | [] => 0
  | r :: l => Nat.lor (2 ^ r.ctorIdx) (regMask l)

/-- The parts of a list as a mask. -/
def partMask : List StatePart → Nat
  | [] => 0
  | p :: l => Nat.lor (2 ^ p.ctorIdx) (partMask l)

theorem regMask_mem {r : RegId} : ∀ {l : List RegId}, (regMask l).testBit r.ctorIdx = true → r ∈ l
  | [], h => by simp [regMask] at h
  | q :: l, h => by
    have h' : (2 ^ q.ctorIdx ||| regMask l).testBit r.ctorIdx = true := h
    rw [Nat.testBit_or, Bool.or_eq_true, Nat.testBit_two_pow] at h'
    rcases h' with e | e
    · have : q.code = r.code := of_decide_eq_true e
      rw [RegId.code_inj this]
      exact List.mem_cons_self
    · exact List.mem_cons_of_mem _ (regMask_mem e)

theorem StatePart.ctorIdx_inj {p q : StatePart} (h : p.ctorIdx = q.ctorIdx) : p = q := by
  have : StatePart.ofNat p.ctorIdx = StatePart.ofNat q.ctorIdx := congrArg StatePart.ofNat h
  rwa [StatePart.ofNat_ctorIdx, StatePart.ofNat_ctorIdx] at this

theorem partMask_mem {p : StatePart} : ∀ {l : List StatePart}, (partMask l).testBit p.ctorIdx = true → p ∈ l
  | [], h => by simp [partMask] at h
  | q :: l, h => by
    have h' : (2 ^ q.ctorIdx ||| partMask l).testBit p.ctorIdx = true := h
    rw [Nat.testBit_or, Bool.or_eq_true, Nat.testBit_two_pow] at h'
    rcases h' with e | e
    · rw [StatePart.ctorIdx_inj (of_decide_eq_true e)]
      exact List.mem_cons_self
    · exact List.mem_cons_of_mem _ (partMask_mem e)

/-- No register outside a list that holds the mask's registers differs. -/
theorem Keeps.named {m : Nat} {s t : State} (h : Keeps m s t) {l : List RegId}
    (k : Nat.land (Nat.shiftRight m 64) (regMask l) = Nat.shiftRight m 64 := by rfl) : s.onlyNamed t l := by
  intro r i hr
  apply h.regs
  cases c : hasBit m (regBit r)
  · rfl
  · exfalso
    apply hr
    apply regMask_mem
    rw [hasBit_eq] at c
    have c1 : (m >>> 64).testBit r.ctorIdx = true := by rw [Nat.testBit_shiftRight]; exact c
    have k' : (m >>> 64) &&& regMask l = m >>> 64 := k
    rw [← k', Nat.testBit_and, Bool.and_eq_true] at c1
    exact c1.2

/-- No part outside a list that holds the mask's parts differs. -/
theorem Keeps.changed {m : Nat} {s t : State} (h : Keeps m s t) {l : List StatePart}
    (k : Nat.land (Nat.mod m (2 ^ 64)) (partMask l) = Nat.mod m (2 ^ 64) := by rfl) : s.onlyParts t l := by
  intro p hp
  apply h.parts
  cases c : hasBit m (partBit p)
  · rfl
  · exfalso
    apply hp
    apply partMask_mem
    rw [hasBit_eq] at c
    have b : p.ctorIdx < 64 := by cases p <;> decide
    have c1 : (m % 2 ^ 64).testBit p.ctorIdx = true := by
      rw [Nat.testBit_mod_two_pow, decide_eq_true b, Bool.true_and]; exact c
    have k' : (m % 2 ^ 64) &&& partMask l = m % 2 ^ 64 := k
    rw [← k', Nat.testBit_and, Bool.and_eq_true] at c1
    exact c1.2

/-- What a command may change: bit k < 64 part k of StatePart, bit 64 + k the register of code k. -/
def commandMask : Instr → Nat
  | .registerWrite _ _ _ _ => 0xffffffffffffffffffffffffffffffffffffffffffffffffffffffffffffffffffffffffffffffffffffffffffffffffffff
  | .registerReadClear _ _ _ => 0x7fffffffffffffffffffffffffffffffffffffffffffffffffffffffffffffffffffffffffffffffff0000005804000001
  | .wideRegisterLowRead _ _ _ => 0x7fffffffffffffffffffffffffffffffffffffffffffffffffffffffffffffffffffffffffffffffff0000005804000001
  | .timerPeriodExpiry => 0xffffffffffffffffffffffffffffffffffffffffffffffffffffffffffffffffffffffffffffffffffffffffffffffffffff
  | .beatinEdge _ => 0xffffffffffffffffffffffffffffffffffffffffffffffffffffffffffffffffffffffffffffffffffffffffffffffffffff
  | .deferredBarlineRelease => 0xffffffffffffffffffffffffffffffffffffffffffffffffffffffffffffffffffffffffffffffffffffffffffffffffffff
  | .idleBarline => 0xffffffffffffffffffffffffffffffffffffffffffffffffffffffffffffffffffffffffffffffffffffffffffffffffffff
  | .slotTableStart => 0x40000000000000000000000000000000000000000000000000000000000000000000008004420
  | .slotStart _ _ => 0x400020
  | .shortfallCheck _ _ _ => 0x10000000000000044c0200000004000000000000000000000000000000e00000000000000000000081c0004a0
  | .loadGo _ _ => 0xa0000400000000000000000000000000000000000000000000000000000000000000000020c0000000000900000040
  | .loadCancel _ _ => 0xa0000400000000000000000000000000000000000000000000000000000000000000000020c0000000000900000040
  | .admissionEnd => 0x3a000042010008000000044c020000000400000000000000000000000080c0061c00401be2380480000004d5c487dcc
  | .fullLoadApply => 0x8000042000000000000044c02000000040000000000000000020000000000061c80000be000100000000681c0420c4
  | .fullLoadCommit => 0x1f0ffb000401ffffffffffffffffffe03f804024023ffffffffffffffffff87fe80000047f403c80280000002cfeff7fcf
  | .voiceHalt _ _ => 0x3a000042010008000000044c020000000400000000000000000000000080c0061c00000be000000000000485c4878cc
  | .controlRegs _ _ => 0xffffffffffffffffffffffffffffffffffffffffffffffffffffffffffffffffffffffffffffffffffffffffffffffffffff
  | .controlSetkey _ _ => 0xffffffffffffffffffffffffffffffffffffffffffffffffffffffffffffffffffffffffffffffffffffffffffffffffffff
  | .doorbellWrite _ _ _ _ => 0x38000042010008000000044c02000000040000000000000000000000008000061c00000be000000000000485c00788c
  | .queuePostRelease _ _ => 0x38000042000000000000044c02000000040000000000000000000000008000061c00000be000000000000481c00388c
  | .vwIrqMaskWrite _ _ _ => 0xc000040000000000000000000000000000000000000000000000000000000000000000be0000000000004800000000
  | .violInfoClear _ _ => 0x1e0000000000000000000000
  | .walkStart => 0x2000
  | .walkComplete _ _ => 0x38000042000000000000044c020000000400000000000000000000000084f8061c00000be000000000000481c00788c
  | .faultSlotTake _ => 0x38000042000000000000044c02000000040000000000000000000000008000061c00000be000000000000481c00388c
  | .faultRetry _ _ _ _ => 0x38000042000000000000044c020000000400000003e00000000000000080c0061c00000be000000000000681c40788c
  | .faultSkip _ _ _ _ => 0x38000042000000000000044c020000000400000003e00000000000000080c0061c00000be000000000000681c40788c
  | .faultAbort _ _ _ _ => 0x38000042000000000000044c020000000400000003e00000000000000080c0061c00000be000000000000681c40788c
  | .tlbInvalidate _ _ _ => 0x6008000040000000000000000000000000000000000000000000000000000000000000000be0000000000004800002000
  | .invalidationComplete _ => 0x4038000042000000000000044c02000000040000000000000000000000008000061c00000be000000000000481c00788c
  | .ptrootWrite _ _ _ => 0x5008000040000000000000000000000000000000000000000000000000000000000000000be0000000000004800002000
  | .scrubPass _ _ _ => 0x8000042000000000000044c02000000040000000000000000000000000000001c0000000000000000000081c000080
  | .refmultPoll _ _ => 0x100000000000000000000000000000
  | .descriptorFetchReturn _ _ => 0x38000042000000000000044c020000000400000000000000000000000084f8061c00000be000000000000481c00788c
  | .readBurstIssue _ _ => 0x3800004a000000000000044c0200000004000000000000000000000000f5f8061c00000be000000000000481c00788c
  | .readBurstReturn _ _ => 0x38000042000000000000044c020000000400000000000000000000000084f8061c00000be000000000000481c00788c
  | .writeBurstIssue _ _ => 0x3800004a000000000000044c0200000004000000000000000000000000f5fc061c00000be000000000000681c00788c
  | .writeBurstAck _ _ => 0x38000042000000000000044c020000000400000000000000000000000084f8061c00000be000000000000481c00788c
  | .eventLineWaitEnd _ => 0x8000040000000000000000000000000000000000000000000000000008000000000000be0000000000004800004000
  | .dmaCmdResume _ => 0x4000
  | .dmaCmdAbort _ => 0x38000042000000000000044c020000000400000000000000000000000080c0061c00000be000000000000481c00788c
  | .outboundCompletionTimeout _ => 0x38000042000000000000044c020000000400000000000000000000000084f8061c00000be000000000000481c00788c
  | .staleReplyDiscard _ => 0x400000000000000000000000
  | .frameStart _ _ _ _ => 0x12f201060000000000000000000000000000000170000
  | .frameEnd _ _ _ _ => 0x12f000040000000000000000000000000000000170000
  | .longPacketReceive _ => 0x7800000000000000000000003fc00000000000000000000000000000000b808c
  | .linkLost _ _ => 0x8000040000000000000044c0200000004000000000000000000000002000000000000000000000000000081c000080
  | .cciWriteEnd _ _ => 0x38000042000000000000044c02000000040000000000000000001f00008000061c00000be000000000000481c03388c
  | .cciStretchTimeout _ => 0x38000042000000000000044c02000000040000000000000000001fc0008000061c00000be000000000000481c03388c
  | .cciDirectWrite _ _ _ => 0x80000000000000000000000000000000000020000
  | .cciDirectRead _ _ _ => 0x80000000000000000000000000000000000020000
  | .cciDirectStart _ => 0x1c0000000000000000000000000000000800020000
  | .cciDirectEnd _ _ _ => 0x3c0000000000000000000000000000000800020000
  | .pipeLineTake _ => 0x1a8000000000000000000000000000000000000170000
  | .pipeLineEmit _ => 0x1fe6000000000000000000000000000000000008000c008c
  | .windowCut _ => 0x171000000000000000000000000000000000000000000008008c
  | .statsRecordCompute _ => 0x3c00000000000000000000000000000000000002000700000
  | .tileStageEnd _ _ _ => 0x38000042000000000000044c02000000040000000360710000000000008000061c00000be000000000000681c48388c
  | .tileStart _ => 0x400000
  | .tileEnd _ => 0x38000042000000000000044c0200000004000000036c000000000000008000061c00000be000000000000681c4038ac
  | .imageRequest _ _ => 0x1c00000000000003c00000000000000000000000000000000000000000000008400000
  | .serverRequestServe _ _ => 0x38000042000000000000044c0200000004000000620c000000000000008000061c00000be000000000000681c4038ac
  | .arpRequest _ _ _ _ => 0x44c00c0000004000000800000000000000000000000000000000000000000000080c000080
  | .icmpEchoRequest _ _ _ _ _ _ => 0x44c00c0000004000003000000000000000000000000000000000000000000000080c400080
  | .frameDrop _ _ => 0xc00000000000000000000000000000000000000000000000000000000000000000000
  | .clkNsRead _ => 0x180000000000000000000000000000000000000000000001000000000
  | .incrBaseWrite _ _ => 0x600000000000000000000000000000000000000000000000002000000
  | .clockSet _ _ => 0x270002040000000000000000000000000000000000000000000000000002800020
  | .clockStep _ _ => 0x270002040000000000000000000000000000000000000000000000000002800020
  | .nsRollover => 0x44c0008000004000000000000000000000000000000000000000000000000000080c0000a0
  | .ptpSyncRx _ => 0x2700022c0200000000000000000000000000000000000000000000002002800020
  | .ptpFollowUpRx _ => 0x2700022c0200000000000000000000000000000000000000000000002002800020
  | .ptpDelayReqTx _ => 0x44c000000000c000000000000000000000000000000000000000000000000000080c000080
  | .ptpDelayRespRx _ => 0x40100000000000000000000000000000000000000000000000000006000000
  | .delayReqTimeout _ => 0x140000000000000000000000000000000000000000000000000000004000020
  | .ptpSyncTx _ => 0x44c000000000c000000000000000000000000000000000000000000000000000080c000080
  | .ptpAnnounceTx _ => 0x44c0000000004000000000000000000000000000000000000000000000000000080c000080
  | .ptpAnnounceRx _ _ => 0x200000000000000000000000000000000000000000000000000000002000000
  | .ptpDelayReqRx _ => 0x44c0000000004000000000000000000000000000000000000000000000000000080c000080
  | .ptpHeldMessageSend _ => 0x44c0000000004000000000000000000000000000000000000000000000000000080c000080
  | .servoSyncTimeout => 0x44c0200000004064020000000000000000000000000000000000000000000000081e0000a0
  | .ptpAnnounceTimeout => 0x44c0200000004064020000000000000000000000000000000000000000000000081e0000a0
  | .servoBlockEnd => 0x8000040000000000000044c02000000045e4020000000000000000000000000000000000000000000000081e0000a0
  | .cueLeadingEdge _ => 0xffffffffffffffffffffffffffffffffffffffffffffffffffffffffffffffffffffffffffffffffffffffffffffffffffff
  | .cueTrailingEdge _ => 0x270000000000000000000000000000000000000000000000000000000000820020
  | .cueArm _ _ _ => 0x2f0000000000000000000000000000000000000000000000000000000000800000
  | .captureEdge _ _ => 0x8000040000000000000000000010800000000000000000000000000000000000000000000000000000000801000000
  | .capturePop _ _ _ => 0x800000000000000000000000000000000000000000000000000000000001000000
  | .uplinkUp _ => 0x44c0204000004000000000000000000000000000000000000000000000000000081c000080
  | .uplinkDown _ _ _ _ => 0x40044c0204000004000000000000000000000000000000000000000000000000000081c000080
  | .uplinkRetrain _ _ => 0x8000040000000000040044c023c000004000000000000000000000000000000000000040000000000000081c000080
  | .retrainEnd _ => 0x40000000000000000000000000000000000000000000000000000000000000000020
  | .keyInstall _ _ => 0x10000000000000000000000000000000000000000000000000000000000000000008000000
  | .moduleRead _ _ _ _ _ => 0x1c0000000000000000000000000000000000000000000000000000000000000800000000
  | .moduleWrite _ _ _ _ => 0x1c0000000000000000000000000000000000000000000000000000000000000800000000
  | .flowFrameReady _ => 0x40044c0000000004000000000000000000000000000000000000000000000000000080c000080
  | .frameTxEnd _ => 0x44c0000000004000000000000000000000000000000000000000000000000000080c0000a0
  | .alertRaise _ _ => 0x44c0200000004000000000000000000000000000000000000000000000000000081c000080
  | .alertClr _ _ => 0x400000000000000000000000000000000000000000000000000000000000000000000000
  | .tieConfigRx _ _ => 0x44244c0200000004000000000000000000000000000000000000000000000000000081c000080
  | .tieBarlineRx _ _ => 0xffffffffffffffffffffffffffffffffffffffffffffffffffffffffffffffffffffffffffffffffffffffffffffffffffff
  | .tieHeartbeatRx _ _ => 0x44244c0200000004000000000000000000000000000000000000000000000000000081c000080
  | .tieHeartbeatTx => 0x810000020
  | .tieHeartbeatMiss => 0x8000040000000000052a44c0200000004064020000000000000000000000000000000000000000000000081e0002a0
  | .tieLaneLock => 0x200000000000000000000000000000000000000000000000000000000000000000810000000
  | .tieLaneLockLoss => 0x8000040000000000042a44c0200000004064020000000000000000000000000000000040000000000000081e000280
  | .tieFormingTimeout => 0x40244c0200000004064020000000000000000000000000000000000000000000000081e0002a0
  | .tieTimeSyncTx => 0xc0000000000000000000000000000000000000000000000000000814000020
  | .tieTimeFupRx _ _ => 0x4044c020000000c000000000000000000000000000000000000000000000000000081c000080
  | .tieTimeDreqRx _ => 0x4044c0200000004000000000000000000000000000000000000000000000000000081c000080
  | .tieTimeDrespRx _ _ => 0x5044c020002700423c020000000000000000000000000000000000000000000000281e8000a0
  | .tieTimeSyncRx _ => 0x4044c0200000004000000000000000000000000000000000000000000000000000081c000080
  | .tieLinesRx _ _ => 0x24044c0200000004000000000000000000000000000000000000000000000000000081c08008c
  | .tieFwdRx _ _ _ => 0x4044c0200000004000000000000000000000000000000000000000000000000000081c000080
  | .tieAlertRx _ _ => 0x4044c0200000004000000000000000000000000000000000000000000000000000081c000080
  | .tieAckRx _ => 0x4044c0200000004000000000000000000000000000000000000000000000000000081c000080
  | .tieResend => 0x8000000000000000000000000000000000000000000000000000000000000000000810000020
  | .procSample _ _ => 0x80000400000000c2000000000000000000000000000000000000000000000000000000000000000000000820000000
  | .excFault _ _ _ => 0x8000040000000000800000000000000000000000000000000000000000000000000000000000000000000800000000
  | .excRampEnd _ => 0x800000000000000000000000000000000000000000000000000000000000000000002020000020
  | .refMonitor _ => 0x8000040000000000180000000000000000000000000000000000000000000000000000000000000000000820000020
  | .encoderCount _ _ _ => 0xffffffffffffffffffffffffffffffffffffffffffffffffffffffffffffffffffffffffffffffffffffffffffffffffffff
  | .encoderIndex _ => 0xc00000000000000000000000000000000000000000000000000000000000000000000000000000000
  | .encCfgWrite _ _ _ => 0x200000000000000000000000000000000000000000000000000000000000000000000000000000000
  | .serialAreaPoll _ => 0x1000800000000000000000000000000000000000000000000000000000000000000000000000004000002c
  | .serialNotifyPost _ => 0x38000042010008000000044c02000000040000000000000000000000008000061c00000be000000000000485c0038ac
  | .serialTxStart _ => 0x1800800000000000000000000000000000000000000000000000000000000000000000000000084000000c
  | .serialTxCharEnd _ => 0x3a80800000000000000000000000000000000000000000000000000000000000000000000000084000002c
  | .serialDeTailEnd _ => 0x1000800000000000000000000000000000000000000000000000000000000000000000000000004000002c
  | .serialStartEdge _ => 0x1000800000000000000000000000000000000000000000000000000000000000000000000000004000000c
  | .serialRxCharEnd _ _ => 0x72f8800000000000000000000000000000000000000000000000000000000000000000000000084000002c
  | .serialRxIdle _ => 0x1000800000000000000000000000000000000000000000000000000000000000000000000000004000002c
  | .serialSleep _ => 0x1000800000000000000000000000000000000000000000000000000000000000000000000000004000000c
  | .serialSleepEnter _ => 0x1000800000000000000000000000000000000000000000000000000000000000000000000000004000000c
  | .serialWakeEdge _ => 0x1100800000000000000000000000000000000000000000000000000000000000000000000000004000000c
  | .serialAddressMatch _ _ => 0x50f8800000000000000000000000000000000000000000000000000000000000000000000000004000000c
  | .serialRollcall _ => 0x3400800000000000000000000000000000000000000000000000000000000000000000000000084000000c
  | .serialCancel _ => 0x1000800000000000000000000000000000000000000000000000000000000000000000000000004000000c
  | .rollcallSlotEnd _ _ => 0x7478800000000000000000000000000000000000000000000000000000000000000000000000084000002c
  | .linFrameDeadline _ => 0x3280800000000000000000000000000000000000000000000000000000000000000000000000004000002c
  | .linBreakDetect _ _ => 0x3281800000000000000000000000000000000000000000000000000000000000000000000000004000000c
  | .checkFeed _ _ _ => 0x8000040100000000000000000000000000000000000000000000000000000000000000be0000000000004880000000
  | .checkRestart _ _ _ => 0x10008000040100000000000000000000000000000000000000000000000000000000000000be0000000000004880000000
  | .inboundUnsupportedAccess _ => 0x1000000000000000000000000000000000000000000000000000000000000000000000000000001000000000
  | .hostReset _ => 0x380000ff200000000000044c020000000400000000000000000000000080c0061c00000fe000000000000481c00788f
  | .msixUnmask _ => 0xc0000000000000000000000000000000000000000000000000000000000000000000000000000000800000000
  | .powerOnReset _ => 0xffffffffffffffffffffffffffffffffffffffffffffffffffffffffffffffffffffffffffffffffffffffffffffffffffff
  | .brownout => 0xffffffffffffffffffffffffffffffffffffffffffffffffffffffffffffffffffffffffffffffffffffffffffffffffffff
  | .refclkLost => 0xffffffffffffffffffffffffffffffffffffffffffffffffffffffffffffffffffffffffffffffffffffffffffffffffffff
  | .pllUnlock _ => 0xffffffffffffffffffffffffffffffffffffffffffffffffffffffffffffffffffffffffffffffffffffffffffffffffffff
  | .pllModUnlock => 0x8000040000000000000000000000000000000000000000000000000000000000000000000000100000000800000000
  | .resetPin => 0xffffffffffffffffffffffffffffffffffffffffffffffffffffffffffffffffffffffffffffffffffffffffffffffffffff
  | .warmReset _ _ => 0xffffffffffffffffffffffffffffffffffffffffffffffffffffffffffffffffffffffffffffffffffffffffffffffffffff
  | .standby _ _ => 0xffffffffffffffffffffffffffffffffffffffffffffffffffffffffffffffffffffffffffffffffffffffffffffffffffff
  | .wakePin => 0xffffffffffffffffffffffffffffffffffffffffffffffffffffffffffffffffffffffffffffffffffffffffffffffffffff
  | .blockReset _ _ => 0x380000ff3ffffe0ff042ac4dfffe03f80406402003f1f7ffffffffffff87fe861c00000fe000400000000491e0f7a8f
  | .blockOff _ _ => 0x380000ff3ffffe0ff042ac4dfffe03f80406402003f1f7ffffffffffff87fe861c00000fe000400000000491e0f7a8f
  | .blockOn _ _ => 0x380000ff3ffffe0ff042ac4dfffe03f80406402003f1f7ffffffffffff87fe861c00000fe000400000000491e0f7a8f
  | .blockResetDone => 0x400004000000000100000000
  | .sfdpReadEnd _ => 0x2080a00000000100000040
  | .lcGetchal _ => 0xffffffffffffffffffffffffffffffffffffffffffffffffffffffffffffffffffffffffffffffffffffffffffffffffffff
  | .lcToken _ => 0xffffffffffffffffffffffffffffffffffffffffffffffffffffffffffffffffffffffffffffffffffffffffffffffffffff
  | .lcProgkey _ _ => 0xffffffffffffffffffffffffffffffffffffffffffffffffffffffffffffffffffffffffffffffffffffffffffffffffffff
  | .lcRevoke _ _ => 0xffffffffffffffffffffffffffffffffffffffffffffffffffffffffffffffffffffffffffffffffffffffffffffffffffff
  | .lcAdvance _ _ => 0xffffffffffffffffffffffffffffffffffffffffffffffffffffffffffffffffffffffffffffffffffffffffffffffffffff
  | .lcRelock _ => 0xffffffffffffffffffffffffffffffffffffffffffffffffffffffffffffffffffffffffffffffffffffffffffffffffffff
  | .lcCommandDone => 0x8000440000000000000000000000000000000000000000000000000000000000000000000000000000000a00000000
  | .lcEraseEnd => 0xffffffffffffffffffffffffffffffffffffffffffffffffffffffffffffffffffffffffffffffffffffffffffffffffffff
  | .tapReset => 0xffffffffffffffffffffffffffffffffffffffffffffffffffffffffffffffffffffffffffffffffffffffffffffffffffff
  | .idcode => 0xffffffffffffffffffffffffffffffffffffffffffffffffffffffffffffffffffffffffffffffffffffffffffffffffffff
  | .extest _ => 0xffffffffffffffffffffffffffffffffffffffffffffffffffffffffffffffffffffffffffffffffffffffffffffffffffff
  | .extestExit _ => 0xffffffffffffffffffffffffffffffffffffffffffffffffffffffffffffffffffffffffffffffffffffffffffffffffffff
  | .samplePreload _ _ => 0xffffffffffffffffffffffffffffffffffffffffffffffffffffffffffffffffffffffffffffffffffffffffffffffffffff
  | .dbgChal => 0xffffffffffffffffffffffffffffffffffffffffffffffffffffffffffffffffffffffffffffffffffffffffffffffffffff
  | .dbgToken _ => 0xffffffffffffffffffffffffffffffffffffffffffffffffffffffffffffffffffffffffffffffffffffffffffffffffffff
  | .dbgAccess _ _ _ => 0xffffffffffffffffffffffffffffffffffffffffffffffffffffffffffffffffffffffffffffffffffffffffffffffffffff
  | .bypass => 0xffffffffffffffffffffffffffffffffffffffffffffffffffffffffffffffffffffffffffffffffffffffffffffffffffff
  | .hostLinkUp _ _ _ _ => 0x200000000000000000000000000000000000000000000000000000000000000000000000000000000000000
  | .laneError _ => 0x8000000000000000000000000000000000000000
  | .excFaultClear _ => 0x800000000000000000000000000000000000000000000000000000000000000000000020000000
  | .procSupplyLoss => 0x8000040000000000800000000000000000000000000000000000000000000000000000000000080000000900000000
  | .procSupplyReturn => 0x800000000000000000000000000000000000000000000000000000000000080000000120000000
  | .pllModRelock => 0x100000000020000000
  | .clockResetRelease => 0x100000000
  | .aerError _ => 0x800000000

/-- Every command keeps what all commands keep, and changes no more than its mask says. -/
theorem exec_keeps {μ : Nat} (c : Instr) (s : State) (hm : Sub (commandMask c) μ) : KeepsO μ s (exec c s) := by
  cases c with
  | registerWrite p sp ofs v => exact Keeps.execRegisterWrite (Keeps.refl μ s) _ _ _ _ hm
  | registerReadClear p sp ofs => exact Keeps.execRegisterReadClear (Keeps.refl μ s) _ _ _ hm
  | wideRegisterLowRead p sp ofs => exact Keeps.execWideRegisterLowRead (Keeps.refl μ s) _ _ _ hm
  | timerPeriodExpiry => exact Keeps.execTimerPeriodExpiry (Keeps.refl μ s) hm
  | beatinEdge v => exact Keeps.execBeatinEdge (Keeps.refl μ s) _ hm
  | deferredBarlineRelease => exact Keeps.execDeferredBarlineRelease (Keeps.refl μ s) hm
  | idleBarline => exact Keeps.execIdleBarline (Keeps.refl μ s) hm
  | slotTableStart => exact Keeps.execSlotTableStart (Keeps.refl μ s) hm
  | slotStart engine voice => exact Keeps.execSlotStart (Keeps.refl μ s) _ _ hm
  | shortfallCheck unserved served hostUnserved => exact Keeps.execShortfallCheck (Keeps.refl μ s) _ _ _ hm
  | loadGo p v => exact Keeps.execLoadGo (Keeps.refl μ s) _ _ hm
  | loadCancel p v => exact Keeps.execLoadCancel (Keeps.refl μ s) _ _ hm
  | admissionEnd => exact Keeps.execAdmissionEnd (Keeps.refl μ s) hm
  | fullLoadApply => exact Keeps.execFullLoadApply (Keeps.refl μ s) hm
  | fullLoadCommit => exact Keeps.execFullLoadCommit (Keeps.refl μ s) hm
  | voiceHalt p v => exact Keeps.execVoiceHalt (Keeps.refl μ s) _ _ hm
  | controlRegs uplink m => exact Keeps.execControlRegs (Keeps.refl μ s) _ _ hm
  | controlSetkey uplink m => exact Keeps.execControlSetkey (Keeps.refl μ s) _ _ hm
  | doorbellWrite p voice queue v => exact Keeps.execDoorbellWrite (Keeps.refl μ s) _ _ _ _ hm
  | queuePostRelease q m => exact Keeps.execQueuePostRelease (Keeps.refl μ s) _ _ hm
  | vwIrqMaskWrite p voice v => exact Keeps.execVwIrqMaskWrite (Keeps.refl μ s) _ _ _ hm
  | violInfoClear p v => exact Keeps.execViolInfoClear (Keeps.refl μ s) _ _ hm
  | walkStart => exact Keeps.execWalkStart (Keeps.refl μ s) hm
  | walkComplete k r => exact Keeps.execWalkComplete (Keeps.refl μ s) _ _ hm
  | faultSlotTake voice => exact Keeps.execFaultSlotTake (Keeps.refl μ s) _ hm
  | faultRetry p voice slot tag => exact Keeps.execFaultRetry (Keeps.refl μ s) _ _ _ _ hm
  | faultSkip p voice slot tag => exact Keeps.execFaultSkip (Keeps.refl μ s) _ _ _ _ hm
  | faultAbort p voice slot tag => exact Keeps.execFaultAbort (Keeps.refl μ s) _ _ _ _ hm
  | tlbInvalidate p voice v => exact Keeps.execTlbInvalidate (Keeps.refl μ s) _ _ _ hm
  | invalidationComplete voice => exact Keeps.execInvalidationComplete (Keeps.refl μ s) _ hm
  | ptrootWrite p voice v => exact Keeps.execPtrootWrite (Keeps.refl μ s) _ _ _ hm
  | scrubPass lpddr corrected uncorrectable => exact Keeps.execScrubPass (Keeps.refl μ s) _ _ _ hm
  | refmultPoll mult derated => exact Keeps.execRefmultPoll (Keeps.refl μ s) _ _ hm
  | descriptorFetchReturn ch m => exact Keeps.execDescriptorFetchReturn (Keeps.refl μ s) _ _ hm
  | readBurstIssue ch rest => exact Keeps.execReadBurstIssue (Keeps.refl μ s) _ _ hm
  | readBurstReturn ch r => exact Keeps.execReadBurstReturn (Keeps.refl μ s) _ _ hm
  | writeBurstIssue ch rest => exact Keeps.execWriteBurstIssue (Keeps.refl μ s) _ _ hm
  | writeBurstAck ch r => exact Keeps.execWriteBurstAck (Keeps.refl μ s) _ _ hm
  | eventLineWaitEnd ch => exact Keeps.execEventLineWaitEnd (Keeps.refl μ s) _ hm
  | dmaCmdResume ch => exact Keeps.execDmaCmdResume (Keeps.refl μ s) _ hm
  | dmaCmdAbort ch => exact Keeps.execDmaCmdAbort (Keeps.refl μ s) _ hm
  | outboundCompletionTimeout ch => exact Keeps.execOutboundCompletionTimeout (Keeps.refl μ s) _ hm
  | staleReplyDiscard epochIndex => exact Keeps.execStaleReplyDiscard (Keeps.refl μ s) _ hm
  | frameStart port link vc p => exact Keeps.execFrameStart (Keeps.refl μ s) _ _ _ _ hm
  | frameEnd port link vc p => exact Keeps.execFrameEnd (Keeps.refl μ s) _ _ _ _ hm
  | longPacketReceive k => exact Keeps.execLongPacketReceive (Keeps.refl μ s) _ hm
  | linkLost port link => exact Keeps.execLinkLost (Keeps.refl μ s) _ _ hm
  | cciWriteEnd port r => exact Keeps.execCciWriteEnd (Keeps.refl μ s) _ _ hm
  | cciStretchTimeout port => exact Keeps.execCciStretchTimeout (Keeps.refl μ s) _ hm
  | cciDirectWrite p port v => exact Keeps.execCciDirectWrite (Keeps.refl μ s) _ _ _ hm
  | cciDirectRead p port v => exact Keeps.execCciDirectRead (Keeps.refl μ s) _ _ _ hm
  | cciDirectStart port => exact Keeps.execCciDirectStart (Keeps.refl μ s) _ hm
  | cciDirectEnd port r data => exact Keeps.execCciDirectEnd (Keeps.refl μ s) _ _ _ hm
  | pipeLineTake pipe => exact Keeps.execPipeLineTake (Keeps.refl μ s) _ hm
  | pipeLineEmit stream => exact Keeps.execPipeLineEmit (Keeps.refl μ s) _ hm
  | windowCut window => exact Keeps.execWindowCut (Keeps.refl μ s) _ hm
  | statsRecordCompute stream => exact Keeps.execStatsRecordCompute (Keeps.refl μ s) _ hm
  | tileStageEnd inst tile m => exact Keeps.execTileStageEnd (Keeps.refl μ s) _ _ _ hm
  | tileStart engine => exact Keeps.execTileStart (Keeps.refl μ s) _ hm
  | tileEnd engine => exact Keeps.execTileEnd (Keeps.refl μ s) _ hm
  | imageRequest uplink m => exact Keeps.execImageRequest (Keeps.refl μ s) _ _ hm
  | serverRequestServe voice m => exact Keeps.execServerRequestServe (Keeps.refl μ s) _ _ hm
  | arpRequest uplink h ip target => exact Keeps.execArpRequest (Keeps.refl μ s) _ _ _ _ hm
  | icmpEchoRequest uplink h ip ident seqNum data => exact Keeps.execIcmpEchoRequest (Keeps.refl μ s) _ _ _ _ _ _ hm
  | frameDrop uplink f => exact Keeps.execFrameDrop (Keeps.refl μ s) _ _ hm
  | clkNsRead p => exact Keeps.execClkNsRead (Keeps.refl μ s) _ hm
  | incrBaseWrite p v => exact Keeps.execIncrBaseWrite (Keeps.refl μ s) _ _ hm
  | clockSet p v => exact Keeps.execClockSet (Keeps.refl μ s) _ _ hm
  | clockStep p v => exact Keeps.execClockStep (Keeps.refl μ s) _ _ hm
  | nsRollover => exact Keeps.execNsRollover (Keeps.refl μ s) hm
  | ptpSyncRx m => exact Keeps.execPtpSyncRx (Keeps.refl μ s) _ hm
  | ptpFollowUpRx m => exact Keeps.execPtpFollowUpRx (Keeps.refl μ s) _ hm
  | ptpDelayReqTx uplink => exact Keeps.execPtpDelayReqTx (Keeps.refl μ s) _ hm
  | ptpDelayRespRx m => exact Keeps.execPtpDelayRespRx (Keeps.refl μ s) _ hm
  | delayReqTimeout uplink => exact Keeps.execDelayReqTimeout (Keeps.refl μ s) _ hm
  | ptpSyncTx uplink => exact Keeps.execPtpSyncTx (Keeps.refl μ s) _ hm
  | ptpAnnounceTx uplink => exact Keeps.execPtpAnnounceTx (Keeps.refl μ s) _ hm
  | ptpAnnounceRx uplink a => exact Keeps.execPtpAnnounceRx (Keeps.refl μ s) _ _ hm
  | ptpDelayReqRx m => exact Keeps.execPtpDelayReqRx (Keeps.refl μ s) _ hm
  | ptpHeldMessageSend queue => exact Keeps.execPtpHeldMessageSend (Keeps.refl μ s) _ hm
  | servoSyncTimeout => exact Keeps.execServoSyncTimeout (Keeps.refl μ s) hm
  | ptpAnnounceTimeout => exact Keeps.execPtpAnnounceTimeout (Keeps.refl μ s) hm
  | servoBlockEnd => exact Keeps.execServoBlockEnd (Keeps.refl μ s) hm
  | cueLeadingEdge cue => exact Keeps.execCueLeadingEdge (Keeps.refl μ s) _ hm
  | cueTrailingEdge cue => exact Keeps.execCueTrailingEdge (Keeps.refl μ s) _ hm
  | cueArm p cue v => exact Keeps.execCueArm (Keeps.refl μ s) _ _ _ hm
  | captureEdge k v => exact Keeps.execCaptureEdge (Keeps.refl μ s) _ _ hm
  | capturePop p k v => exact Keeps.execCapturePop (Keeps.refl μ s) _ _ _ hm
  | uplinkUp uplink => exact Keeps.execUplinkUp (Keeps.refl μ s) _ hm
  | uplinkDown uplink modAbs los txFault => exact Keeps.execUplinkDown (Keeps.refl μ s) _ _ _ _ hm
  | uplinkRetrain uplink errors => exact Keeps.execUplinkRetrain (Keeps.refl μ s) _ _ hm
  | retrainEnd uplink => exact Keeps.execRetrainEnd (Keeps.refl μ s) _ hm
  | keyInstall p v => exact Keeps.execKeyInstall (Keeps.refl μ s) _ _ hm
  | moduleRead p uplink v r data => exact Keeps.execModuleRead (Keeps.refl μ s) _ _ _ _ _ hm
  | moduleWrite p uplink v r => exact Keeps.execModuleWrite (Keeps.refl μ s) _ _ _ _ hm
  | flowFrameReady flow => exact Keeps.execFlowFrameReady (Keeps.refl μ s) _ hm
  | frameTxEnd uplink => exact Keeps.execFrameTxEnd (Keeps.refl μ s) _ hm
  | alertRaise p v => exact Keeps.execAlertRaise (Keeps.refl μ s) _ _ hm
  | alertClr p v => exact Keeps.execAlertClr (Keeps.refl μ s) _ _ hm
  | tieConfigRx h c => exact Keeps.execTieConfigRx (Keeps.refl μ s) _ _ hm
  | tieBarlineRx h b => exact Keeps.execTieBarlineRx (Keeps.refl μ s) _ _ hm
  | tieHeartbeatRx h b => exact Keeps.execTieHeartbeatRx (Keeps.refl μ s) _ _ hm
  | tieHeartbeatTx => exact Keeps.execTieHeartbeatTx (Keeps.refl μ s) hm
  | tieHeartbeatMiss => exact Keeps.execTieHeartbeatMiss (Keeps.refl μ s) hm
  | tieLaneLock => exact Keeps.execTieLaneLock (Keeps.refl μ s) hm
  | tieLaneLockLoss => exact Keeps.execTieLaneLockLoss (Keeps.refl μ s) hm
  | tieFormingTimeout => exact Keeps.execTieFormingTimeout (Keeps.refl μ s) hm
  | tieTimeSyncTx => exact Keeps.execTieTimeSyncTx (Keeps.refl μ s) hm
  | tieTimeFupRx h t1 => exact Keeps.execTieTimeFupRx (Keeps.refl μ s) _ _ hm
  | tieTimeDreqRx h => exact Keeps.execTieTimeDreqRx (Keeps.refl μ s) _ hm
  | tieTimeDrespRx h t4 => exact Keeps.execTieTimeDrespRx (Keeps.refl μ s) _ _ hm
  | tieTimeSyncRx h => exact Keeps.execTieTimeSyncRx (Keeps.refl μ s) _ hm
  | tieLinesRx h l => exact Keeps.execTieLinesRx (Keeps.refl μ s) _ _ hm
  | tieFwdRx h uplink bytes => exact Keeps.execTieFwdRx (Keeps.refl μ s) _ _ _ hm
  | tieAlertRx h bytes => exact Keeps.execTieAlertRx (Keeps.refl μ s) _ _ hm
  | tieAckRx h => exact Keeps.execTieAckRx (Keeps.refl μ s) _ hm
  | tieResend => exact Keeps.execTieResend (Keeps.refl μ s) hm
  | procSample ch code => exact Keeps.execProcSample (Keeps.refl μ s) _ _ hm
  | excFault out overCurrent senseLow => exact Keeps.execExcFault (Keeps.refl μ s) _ _ _ hm
  | excRampEnd out => exact Keeps.execExcRampEnd (Keeps.refl μ s) _ hm
  | refMonitor deviation => exact Keeps.execRefMonitor (Keeps.refl μ s) _ hm
  | encoderCount k v held => exact Keeps.execEncoderCount (Keeps.refl μ s) _ _ _ hm
  | encoderIndex z => exact Keeps.execEncoderIndex (Keeps.refl μ s) _ hm
  | encCfgWrite p k v => exact Keeps.execEncCfgWrite (Keeps.refl μ s) _ _ _ hm
  | serialAreaPoll port => exact Keeps.execSerialAreaPoll (Keeps.refl μ s) _ hm
  | serialNotifyPost port => exact Keeps.execSerialNotifyPost (Keeps.refl μ s) _ hm
  | serialTxStart port => exact Keeps.execSerialTxStart (Keeps.refl μ s) _ hm
  | serialTxCharEnd port => exact Keeps.execSerialTxCharEnd (Keeps.refl μ s) _ hm
  | serialDeTailEnd port => exact Keeps.execSerialDeTailEnd (Keeps.refl μ s) _ hm
  | serialStartEdge port => exact Keeps.execSerialStartEdge (Keeps.refl μ s) _ hm
  | serialRxCharEnd port c => exact Keeps.execSerialRxCharEnd (Keeps.refl μ s) _ _ hm
  | serialRxIdle port => exact Keeps.execSerialRxIdle (Keeps.refl μ s) _ hm
  | serialSleep port => exact Keeps.execSerialSleep (Keeps.refl μ s) _ hm
  | serialSleepEnter port => exact Keeps.execSerialSleepEnter (Keeps.refl μ s) _ hm
  | serialWakeEdge port => exact Keeps.execSerialWakeEdge (Keeps.refl μ s) _ hm
  | serialAddressMatch port c => exact Keeps.execSerialAddressMatch (Keeps.refl μ s) _ _ hm
  | serialRollcall port => exact Keeps.execSerialRollcall (Keeps.refl μ s) _ hm
  | serialCancel port => exact Keeps.execSerialCancel (Keeps.refl μ s) _ hm
  | rollcallSlotEnd port answer => exact Keeps.execRollcallSlotEnd (Keeps.refl μ s) _ _ hm
  | linFrameDeadline port => exact Keeps.execLinFrameDeadline (Keeps.refl μ s) _ hm
  | linBreakDetect port sync => exact Keeps.execLinBreakDetect (Keeps.refl μ s) _ _ hm
  | checkFeed p voice v => exact Keeps.execCheckFeed (Keeps.refl μ s) _ _ _ hm
  | checkRestart p voice v => exact Keeps.execCheckRestart (Keeps.refl μ s) _ _ _ hm
  | inboundUnsupportedAccess write => exact Keeps.execInboundUnsupportedAccess (Keeps.refl μ s) _ hm
  | hostReset k => exact Keeps.execHostReset (Keeps.refl μ s) _ hm
  | msixUnmask vec => exact Keeps.execMsixUnmask (Keeps.refl μ s) _ hm
  | powerOnReset b => exact Keeps.execPowerOnReset (Keeps.refl μ s) _ hm
  | brownout => exact Keeps.execBrownout (Keeps.refl μ s) hm
  | refclkLost => exact Keeps.execRefclkLost (Keeps.refl μ s) hm
  | pllUnlock pll => exact Keeps.execPllUnlock (Keeps.refl μ s) _ hm
  | pllModUnlock => exact Keeps.execPllModUnlock (Keeps.refl μ s) hm
  | resetPin => exact Keeps.execResetPin (Keeps.refl μ s) hm
  | warmReset p v => exact Keeps.execWarmReset (Keeps.refl μ s) _ _ hm
  | standby p v => exact Keeps.execStandby (Keeps.refl μ s) _ _ hm
  | wakePin => exact Keeps.execWakePin (Keeps.refl μ s) hm
  | blockReset p v => exact Keeps.execBlockReset (Keeps.refl μ s) _ _ hm
  | blockOff p v => exact Keeps.execBlockOff (Keeps.refl μ s) _ _ hm
  | blockOn p v => exact Keeps.execBlockOn (Keeps.refl μ s) _ _ hm
  | blockResetDone => exact Keeps.execBlockResetDone (Keeps.refl μ s) hm
  | sfdpReadEnd r => exact Keeps.execSfdpReadEnd (Keeps.refl μ s) _ hm
  | lcGetchal p => exact Keeps.execLcGetchal (Keeps.refl μ s) _ hm
  | lcToken p => exact Keeps.execLcToken (Keeps.refl μ s) _ hm
  | lcProgkey p v => exact Keeps.execLcProgkey (Keeps.refl μ s) _ _ hm
  | lcRevoke p v => exact Keeps.execLcRevoke (Keeps.refl μ s) _ _ hm
  | lcAdvance p v => exact Keeps.execLcAdvance (Keeps.refl μ s) _ _ hm
  | lcRelock p => exact Keeps.execLcRelock (Keeps.refl μ s) _ hm
  | lcCommandDone => exact Keeps.execLcCommandDone (Keeps.refl μ s) hm
  | lcEraseEnd => exact Keeps.execLcEraseEnd (Keeps.refl μ s) hm
  | tapReset => exact Keeps.execTapReset (Keeps.refl μ s) hm
  | idcode => exact Keeps.execIdcode (Keeps.refl μ s) hm
  | extest bits => exact Keeps.execExtest (Keeps.refl μ s) _ hm
  | extestExit next => exact Keeps.execExtestExit (Keeps.refl μ s) _ hm
  | samplePreload sampled preload => exact Keeps.execSamplePreload (Keeps.refl μ s) _ _ hm
  | dbgChal => exact Keeps.execDbgChal (Keeps.refl μ s) hm
  | dbgToken bytes => exact Keeps.execDbgToken (Keeps.refl μ s) _ hm
  | dbgAccess addr write data => exact Keeps.execDbgAccess (Keeps.refl μ s) _ _ _ hm
  | bypass => exact Keeps.execBypass (Keeps.refl μ s) hm
  | hostLinkUp speed width msixEnable extTag => exact Keeps.execHostLinkUp (Keeps.refl μ s) _ _ _ _ hm
  | laneError e => exact Keeps.execLaneError (Keeps.refl μ s) _ hm
  | excFaultClear out => exact Keeps.execExcFaultClear (Keeps.refl μ s) _ hm
  | procSupplyLoss => exact Keeps.execProcSupplyLoss (Keeps.refl μ s) hm
  | procSupplyReturn => exact Keeps.execProcSupplyReturn (Keeps.refl μ s) hm
  | pllModRelock => exact Keeps.execPllModRelock (Keeps.refl μ s) hm
  | clockResetRelease => exact Keeps.execClockResetRelease (Keeps.refl μ s) hm
  | aerError k => exact Keeps.execAerError (Keeps.refl μ s) _ hm

end Sys2Proof.Machine
end

