-- ==== Sys2Proof/Laws/Frame.lean ====
section
/-!
SUPPORT. How a frame (Safety) grows along the operations that write a register entry or replace a part of the machine.
-/

namespace Sys2Proof.Machine

set_option Elab.async false

theorem State.onlyRegs_refl (s : State) (l : List (RegId × Nat)) : s.onlyRegs s l := fun _ _ _ => rfl

theorem State.onlyParts_refl (s : State) (ps : List StatePart) : s.onlyParts s ps := fun p _ => p.same_refl s

theorem State.frame_refl (s : State) (l : List (RegId × Nat)) (ps : List StatePart) : s.frame s l ps :=
  ⟨s.onlyRegs_refl l, s.onlyParts_refl ps, fun _ => rfl, fun _ => rfl, fun _ => rfl⟩

/-- A byte reads the same where the memories and the registers that lay out the address space are the same. -/
theorem State.readByte_congr {s t : State} (hm : t.mem = s.mem) (hh : t.hostMem = s.hostMem)
    (hc : t.rd .MEM_CFG 0 = s.rd .MEM_CFG 0) (ho : t.rd .HOST_OB_BASE 0 = s.rd .HOST_OB_BASE 0) (pa : Nat) :
    t.readByte pa = s.readByte pa := by
  have z : t.lpddrSize = s.lpddrSize := by unfold State.lpddrSize State.rdF State.rdB; rw [hc]
  have e : t.region pa = s.region pa := by unfold State.region; rw [z]
  have a : t.hostAddr pa = s.hostAddr pa := by simp only [State.hostAddr, ho]
  unfold State.readByte
  rw [e, hm, hh, a]

/-- A frame after the write of an entry in its list. -/
theorem State.frame.wr {s t : State} {l : List (RegId × Nat)} {ps : List StatePart} (h : s.frame t l ps) {r : RegId} {i : Nat}
    (hl : (r, i) ∈ l) (n : Nat) (hr : r ≠ .MEM_CFG := by decide) (ho : r ≠ .HOST_OB_BASE := by decide) :
    s.frame (t.wr r i n) l ps := by
  refine ⟨fun q k hq => ?_, fun p hp => ?_, fun pa => ?_, h.2.2.2.1, h.2.2.2.2⟩
  · rw [State.rd_wr_ne _ (by rintro e; exact hq (e ▸ hl)), h.1 q k hq]
  · have := h.2.1 p hp
    cases p <;> exact this
  · rw [← h.2.2.1 pa]
    apply State.readByte_congr (s := t) (t := t.wr r i n) rfl rfl
    · exact State.rd_wr_ne _ (fun e => hr (congrArg Prod.fst e).symm) _
    · exact State.rd_wr_ne _ (fun e => ho (congrArg Prod.fst e).symm) _

/-- Registers and parts unchanged make a frame, where the lists name no memory and no register that lays out the address space. -/
theorem State.frame_of {s t : State} {l : List (RegId × Nat)} {ps : List StatePart} (hr : s.onlyRegs t l) (hp : s.onlyParts t ps)
    (h1 : (RegId.MEM_CFG, 0) ∉ l) (h2 : (RegId.HOST_OB_BASE, 0) ∉ l) (h3 : StatePart.mem ∉ ps) (h4 : StatePart.hostMem ∉ ps)
    (h5 : StatePart.flash ∉ ps) : s.frame t l ps := by
  have a : t.hostMem = s.hostMem := hp .hostMem h4
  have b : t.flash = s.flash := hp .flash h5
  exact ⟨hr, hp, State.readByte_congr (hp .mem h3) a (hr _ _ h1) (hr _ _ h2), fun x => by rw [a], fun x => by rw [b]⟩

/-- A frame after a change that leaves registers and memories as they are and touches only parts in its list. -/
theorem State.frame.part {s t u : State} {l : List (RegId × Nat)} {ps : List StatePart} (h : s.frame t l ps)
    (hp : ∀ p, p ∉ ps → p.same t u) (hr : u.regs = t.regs := by rfl) (hm : u.mem = t.mem := by rfl)
    (hh : u.hostMem = t.hostMem := by rfl) (hf : u.flash = t.flash := by rfl) : s.frame u l ps := by
  have e : ∀ q k, u.rd q k = t.rd q k := fun q k => by simp only [State.rd, hr]
  refine ⟨fun q k hq => by rw [e, h.1 q k hq], fun p hq => StatePart.same_trans (h.2.1 p hq) (hp p hq), fun pa => ?_,
    fun a => by rw [hh]; exact h.2.2.2.1 a, fun a => by rw [hf]; exact h.2.2.2.2 a⟩
  rw [State.readByte_congr hm hh (e _ _) (e _ _), h.2.2.1]

end Sys2Proof.Machine
end

