-- ==== Sys2Proof/Tests/Slice0.lean ====
section
/-!
SUPPORT. Tests: commands that WellFormed refuses, what the manual's worked cases and check values say, and for each obligation with
hypotheses states and operands that meet them. Every expected value is the manual's or that of the standard it names.
-/

namespace Sys2Proof.Tests

open Sys2Proof.Machine

set_option Elab.async false

/-! ### Small states -/

def el (v typ id n : Nat) (fs : List (Nat × Nat × Nat)) : Elem :=
  ⟨v, typ, id, 0, fs.foldl (fun b x => b.take x.1 ++ toLe x.2.1 x.2.2 ++ b.drop (x.1 + x.2.1)) (List.replicate n 0)⟩
def wrs (s : State) (l : List (RegId × Nat × Nat)) : State := l.foldl (fun s x => s.wr x.1 x.2.1 x.2.2) s
def sc (l : List Elem) (r : List (RegId × Nat × Nat) := []) : State :=
  wrs { State.reset with load := { State.reset.load with live := l, eff := l } } r
def r0 (r : List (RegId × Nat × Nat)) : State := wrs State.reset r
def closed : State := { State.reset with power := { State.reset.power with standby := true } }

/-! ### Commands that no sender may send -/

/-- A message of addresses that fit. -/
def okHead : RxHead := ⟨0, 0, [], 64, true, false, true, 0, 0, 0, 0⟩
def okMsg : ControlMsg := ⟨okHead, []⟩
def okPtp : PtpMsg := ⟨0, 0, 0, 0, 0, 0, ⟨0, 0⟩, true⟩
def okWave : RxWave := ⟨[868]⟩
def okHdr : TieHdr := ⟨0, 0, true⟩

/-- Every check of a voice number, a page, an offset or a queue refuses the first value beyond its range. -/
theorem test_ill_formed_voice_commands : ([.registerWrite .pcie (.page 1024) 0 0, .registerWrite .pcie .conductor 2 0,
    .registerReadClear .pcie (.page 1024) 0, .registerReadClear .pcie .conductor 1, .wideRegisterLowRead .pcie (.page 1024) 0,
    .wideRegisterLowRead .pcie .conductor 3, .slotStart 7 0, .slotStart 0 1024, .shortfallCheck [0, 1024] 0 0,
    .doorbellWrite .pcie 1024 0 0, .doorbellWrite .pcie 0 16 0, .queuePostRelease ⟨1024, 0⟩ {}, .queuePostRelease ⟨0, 16⟩ {},
    .vwIrqMaskWrite .pcie 1024 0, .walkComplete 32 [], .walkComplete 0 [.uncorrectable 512],
    .walkComplete 0 [.ok, .ok, .ok, .ok], .faultSlotTake 1024,
    .faultRetry .pcie 1024 0 0, .faultRetry .pcie 0 16 0, .faultRetry .pcie 0 0 16, .faultSkip .pcie 1024 0 0,
    .faultSkip .pcie 0 16 0, .faultSkip .pcie 0 0 16, .faultAbort .pcie 1024 0 0, .faultAbort .pcie 0 16 0,
    .faultAbort .pcie 0 0 16, .tlbInvalidate .pcie 1024 0, .invalidationComplete 1024, .ptrootWrite .pcie 1024 0,
    .serverRequestServe 1024 {}, .serverRequestServe 0 { data := .uncorrectable 512 }, .checkFeed .pcie 1024 0,
    .checkRestart .pcie 1024 0] : List Instr).all (fun c => !c.wf) = true := by decide +kernel

/-- So do the checks of the DMA engine, the memory and the sensor side. -/
theorem test_ill_formed_sensor_commands : ([.scrubPass true 0 [2 ^ 40], .refmultPoll 8 false, .descriptorFetchReturn 128 {},
    .descriptorFetchReturn 0 { walk := [.uncorrectable 512] }, .readBurstIssue 128 true, .readBurstReturn 128 .ok,
    .readBurstReturn 0 (.uncorrectable 512), .writeBurstIssue 128 true, .writeBurstAck 128 .ok,
    .writeBurstAck 0 (.uncorrectable 512), .eventLineWaitEnd 128, .dmaCmdResume 128, .dmaCmdAbort 128,
    .outboundCompletionTimeout 128, .staleReplyDiscard 64, .frameStart 32 0 0 ⟨true, true⟩, .frameStart 0 4 0 ⟨true, true⟩, .frameStart 0 0 16 ⟨true, true⟩,
    .frameEnd 32 0 0 ⟨true, true⟩, .frameEnd 0 4 0 ⟨true, true⟩, .frameEnd 0 0 16 ⟨true, true⟩, .longPacketReceive ⟨32, 0, 0, 0, 0, true, [], true⟩,
    .longPacketReceive ⟨0, 4, 0, 0, 0, true, [], true⟩, .longPacketReceive ⟨0, 0, 16, 0, 0, true, [], true⟩,
    .longPacketReceive ⟨0, 0, 0, 64, 0, true, [], true⟩, .longPacketReceive ⟨0, 0, 0, 0, 3, true, [], true⟩, .linkLost 32 0, .linkLost 0 4,
    .cciWriteEnd 32 .ack, .cciStretchTimeout 32, .cciDirectWrite .pcie 32 0, .cciDirectRead .pcie 32 0, .cciDirectStart 32,
    .cciDirectEnd 32 .ack 0, .pipeLineTake 16, .pipeLineEmit 256, .windowCut 1024, .statsRecordCompute 256,
    .tileStageEnd 256 0 {}, .tileStageEnd 0 65536 {}, .tileStageEnd 0 0 { walk := [.ok, .ok, .ok, .ok] }, .tileStart 7, .tileEnd 7,
    .laneError ⟨32, 0, true⟩, .laneError ⟨0, 8, true⟩] : List Instr).all (fun c => !c.wf) = true := by decide +kernel

/-- So do the checks of the uplinks, the time, the partner, the process inputs and the serial ports. -/
theorem test_ill_formed_link_commands : ([.controlRegs 2 okMsg, .controlRegs 0 ⟨{ okHead with src := 2 ^ 48 }, []⟩,
    .controlRegs 0 ⟨{ okHead with ip := 2 ^ 128 }, []⟩, .controlRegs 0 ⟨{ okHead with port := 65536 }, []⟩, .controlSetkey 2 okMsg,
    .controlSetkey 0 ⟨{ okHead with src := 2 ^ 48 }, []⟩, .imageRequest 2 okMsg, .imageRequest 0 ⟨{ okHead with dport := 65536 }, []⟩,
    .arpRequest 2 okHead 0 0, .arpRequest 0 { okHead with dst := 2 ^ 48 } 0 0, .arpRequest 0 okHead (2 ^ 32) 0,
    .arpRequest 0 okHead 0 (2 ^ 32), .icmpEchoRequest 2 okHead 0 0 0 [], .icmpEchoRequest 0 { okHead with tags := [65536] } 0 0 0 [],
    .icmpEchoRequest 0 { okHead with dip := 2 ^ 128 } 0 0 0 [], .icmpEchoRequest 0 okHead (2 ^ 32) 0 0 [], .icmpEchoRequest 0 okHead 0 65536 0 [],
    .icmpEchoRequest 0 okHead 0 0 65536 [], .frameDrop 2 ⟨okHead, true⟩, .frameDrop 0 ⟨{ okHead with src := 2 ^ 48 }, true⟩, .ptpSyncRx { okPtp with uplink := 2 },
    .ptpFollowUpRx { okPtp with seq := 65536 }, .ptpDelayRespRx { okPtp with stamp := ⟨0, 1000000000⟩ },
    .ptpDelayReqRx { okPtp with uplink := 2 }, .ptpDelayReqTx 2, .delayReqTimeout 2, .ptpSyncTx 2, .ptpAnnounceTx 2,
    .ptpHeldMessageSend 3, .cueLeadingEdge 32, .cueTrailingEdge 32, .cueArm .pcie 32 0, .captureEdge 8 ⟨true, 0⟩,
    .capturePop .pcie 8 0, .uplinkUp 2, .uplinkRetrain 2 0, .retrainEnd 2, .flowFrameReady 2048, .frameTxEnd 2,
    .tieTimeFupRx okHdr ⟨0, 1000000000⟩, .tieTimeDrespRx okHdr ⟨0, 1000000000⟩, .procSample 16 0, .excFault 4 true true,
    .excFaultClear 4, .excRampEnd 4, .encoderCount 4 ⟨true, true⟩ 0, .encoderIndex ⟨4, 0⟩, .encCfgWrite .pcie 4 0, .serialAreaPoll 8,
    .serialNotifyPost 8, .serialTxStart 8, .serialTxCharEnd 8, .serialDeTailEnd 8, .serialStartEdge ⟨8, 0⟩,
    .serialRxCharEnd 8 okWave, .serialRxCharEnd 0 ⟨[2]⟩, .serialRxCharEnd 0 ⟨[9, 9]⟩, .serialRxIdle 8, .serialSleep 8,
    .serialSleepEnter 8, .serialWakeEdge 8, .serialAddressMatch 8 okWave, .serialAddressMatch 0 ⟨[5, 4]⟩, .serialRollcall 8, .serialCancel 8,
    .rollcallSlotEnd 8 [], .rollcallSlotEnd 0 [⟨868, ⟨[2]⟩⟩], .linFrameDeadline 8, .linBreakDetect 8 ⟨1, 1, 1⟩,
    .linBreakDetect 0 ⟨0, 1, 1⟩, .linBreakDetect 0 ⟨1, 0, 1⟩, .linBreakDetect 0 ⟨1, 1, 0⟩, .inboundUnsupportedAccess ⟨true, 0, true, 0⟩,
    .inboundUnsupportedAccess ⟨true, 1025, true, 0⟩, .inboundUnsupportedAccess ⟨true, 1, true, 2⟩, .extestExit 256, .msixUnmask 2048,
    .pllUnlock 3, .dbgAccess (2 ^ 44) true 0] : List Instr).all (fun c => !c.wf) = true := by decide +kernel

/-! ### What the manual's worked cases and check values say -/

/-- SER2 of Worked case 15.1. -/
def serial8N1 : Elem := el 0 0x14 2 64 [(8, 4, 115200), (12, 1, 1), (13, 1, 1), (14, 1, 1), (16, 2, 200), (18, 2, 100)]

/-- Worked case 15.1: SER2 at 115,200 bit/s has D = 222,222; boundary 19 of a run is the first 869 UCLK after the one before. -/
theorem test_serial_divider : serDiv serial8N1 = 222222 ∧ 19 * 222222 / 256 - 18 * 222222 / 256 = 869 ∧
    18 * 222222 / 256 - 17 * 222222 / 256 = 868 := by decide +kernel

/-- What RXD does for "A" (0x41) in 8N1 at that divider, its changes at the bit boundaries (R353): start 0, data 1000 0010, stop 1. -/
def waveA : RxWave := ⟨[868, 1736, 6076, 6944, 7812]⟩

/-- It is read in both modes of Table 15.5, the last centre 9.5 bits after the start edge. -/
theorem test_serial_reads : rxRead waveA serial8N1 222222 false = ⟨65, false, true, false, false, 8246⟩ ∧
    (rxRead waveA serial8N1 222222 true).data = 65 := by decide +kernel

/-- A level of two samples is passed over, and a start bit that is 1 at its centre is a false start (R355). -/
theorem test_serial_glitches : rxRead ⟨[430, 432, 868, 1736, 6076, 6944, 7812]⟩ serial8N1 222222 false =
      rxRead waveA serial8N1 222222 false ∧
    (rxRead ⟨[300]⟩ serial8N1 222222 false).falseStart = true := by decide +kernel

/-- Check value of CRC-32C for "123456789" (Table 2.3), and Worked case 16.1: step 6 reads it. -/
theorem test_crc32c : crc32c [0x31, 0x32, 0x33, 0x34, 0x35, 0x36, 0x37, 0x38, 0x39] = 0xE3069283 := by decide +kernel

/-- What a command leaves, looked at through `f`. -/
def after {α : Type} (c : Instr) (s : State) (f : State → α) : Option α :=
  match exec c s with
  | .next t => some (f t)
  | .fault _ | .refused _ => none

/-- Voice 12 with channel 0 on CRC-32C, its register at `c` (Worked case 16.1). -/
def channel0 (c : Nat) : State := { sc [el 12 4 12 16 [], el 12 0x15 0 16 [(8, 1, 1)]] with checks := [(0, c)] }

/-- Worked case 16.1, step 1: the restart names channel 0, four bytes, and the initial value. -/
theorem test_check_restart : after (.checkRestart .pcie 12 0x120) (channel0 5)
    (fun t => (t.rdF .VW_CHK_CTRL 12 3 0, t.rdF .VW_CHK_CTRL 12 5 4, t.chkReg 0)) = some (0, 2, 0xFFFFFFFF) := by decide +kernel

/-- Worked case 16.1, step 6: after "123456789" the read returns 0xE306_9283. -/
theorem test_check_read : after (.registerReadClear .pcie (.page 12) 0x70) (channel0 0x1CF96D7C) (·.lastRead) =
    some 0xE3069283 := by decide +kernel

/-- A signed Q16.16 value of 0xFFFF_8000 is -0.5 (ch. 00). -/
theorem test_signed_fixed_point : sext 32 0xFFFF8000 * 2 = -65536 := by decide

/-- Chapter 08, R209: RATIO1 8.0, L0 57,344 and L1 7,000 merge to 56,672. -/
theorem test_merge : mergeValue (el 0 9 0 128 [(20, 2, 0x4000)]) [57344, 7000] = 56672 := by decide

/-- Worked case 8.1: 23,088 is linearised to 22,974. -/
theorem test_linearise : lutAt (el 0 10 0 96 [(8, 1, 5), (34, 2, 22400), (36, 2, 24500)]) 16 23088 = 22974 := by decide +kernel

/-- Worked case 8.1: the gains 18,000, 18,400, 17,600 and 18,000 about red pixel (1,000, 100) give 18,013, and the value 24,132. -/
theorem test_flat_field : flatField (el 0 9 0 128 [(24, 2, 1024), (64, 2, 33), (66, 2, 3), (68, 1, 7)])
    (some ((List.range 168).map fun k => if k = 28 then 18000 else if k = 32 then 18400 else if k = 160 then 17600 else 18000))
    22974 1000 100 = 24132 := by decide +kernel

/-- Worked case 10.1: I = 0 and Q = 838,835,200 give a quarter turn. -/
theorem test_phase : phaseOf 0 838835200 = 0x4000 := by decide +kernel

/-- Worked case 12.1: 6,010 ppb and 6,020 ppb give INCR 0x0400_0193 and 0x0400_0194. -/
theorem test_incr : ((r0 [(.SERVO_STATUS, 0, 2)]).applyY 6010).rd .INCR 0 = 0x04000193 ∧
    ((r0 [(.SERVO_STATUS, 0, 2)]).applyY 6020).rd .INCR 0 = 0x04000194 := by decide +kernel

/-- Worked case 6.1: the copy of 1,000 bytes from ...1005 to ...2033 takes reads of 507 and 493 bytes and writes of 461, 512 and 27. -/
theorem test_bursts : burstLen 0x3001005 0 0 1000 = 507 ∧ burstLen 0x3001005 0 507 1000 = 493 ∧
    burstLen 0x3002033 0 0 1000 = 461 ∧ burstLen 0x3002033 0 461 1000 = 512 ∧ burstLen 0x3002033 0 973 1000 = 27 := by
  decide +kernel

/-- AES-128-CMAC of RFC 4493, examples 1 and 2. -/
theorem test_cmac : cmac (toBe 16 0x2b7e151628aed2a6abf7158809cf4f3c) [] = toBe 16 0xbb1d6929e95937287fa37d129b756746 ∧
    cmac (toBe 16 0x2b7e151628aed2a6abf7158809cf4f3c) (toBe 16 0x6bc1bee22e409f96e93d7e117393172a) =
      toBe 16 0x070a16b46b4d4144f79bdd9dd04a287c := by decide +kernel

/-- The score of Worked case 2.1, its four CRCs computed as the case says. -/
def score21 (flag class_ : Byte) : List Byte :=
  let sys : List Byte := [1, 0, 32, 0, 0, 0, 1, 0, 8, 0, 0, 0, 0, 0, 0, 0, 0, 0, 0, 0, 1, 0, 0, 0, 0, 0, 0, 0, 0, 0, 0, 0,
    2, 0, 32, 0, 0, 0, 1, 0, 1, 0, 0, 0, 0, 0, 0, 0, 0, 0x0A, 0, 0, 0x40, 0x42, 0x0F, 0, 0, 0x65, 0xCD, 0x1D, 0, 0, 0, 0,
    3, 0, 32, 0, 0x0C, 0, 1, 0, 1, 0, 0, 0, 0, 0, 0, 0, 0, 0, 0, 0, 0x10, 0, 0, 0, 0, 0, 0x10, 0, 0, 0, 0, 0]
  let voice : List Byte := [4, 0, 16, 0, 0x0C, 0, 1, 0, class_, 0, 0, 0, 0, 0, 0, 0, 5, 0, 24, 0, 0x0F, 0, 1, 0, 6, 1, 0, 0,
    0, 0, 0, 0, 0, 0x10, 0, 0, 0, 0, 0, 0, 0x15, 0, 0x0C, 0, 0, 0, 1, 0, 1, 0, 0, 0]
  let dir : List Byte := [1, 0, 0, 0, 0x60, 0, 0, 0, 0x60, 0, 0, 0] ++ toLe 4 (crc32c sys) ++
    [2, 0, 0x0C, 0, 0xC0, 0, 0, 0, 0x34, 0, 0, 0] ++ toLe 4 (crc32c voice)
  let head : List Byte := [0x59, 0x53, 0x43, 0x4F, 0, 1, 0x40, 0, 0xF4, 0, 0, 0, flag, 0, 2, 0, 0x40, 0, 0, 0] ++
    toLe 4 (crc32c dir) ++ zeros 8 ++ [0x40, 0x42, 0x0F, 0] ++ zeros 24
  head ++ toLe 4 (crc32c head) ++ dir ++ sys ++ voice

/-- What admission says of bytes staged in the tile store: the code and LOAD_FAIL_OFS of a score it rejects. -/
def judge (b : List Byte) : Option (Nat × Nat) :=
  let cells : List Host.Cell := ((List.range b.length).zip b).map fun p => (0x1000 + p.1, p.2)
  match { State.reset with mem := cells.filter fun p => p.2 != 0 }.admission ⟨false, 0x1000, b.length, 0, false⟩ with
  | .ok _ => none
  | .error f => some (f.code, f.ofs)

/-- Worked case 2.1: the score is admitted. -/
theorem test_minimal_score : (score21 0 0).length = 244 ∧ judge (score21 0 0) = none := by decide +kernel

/-- Worked case 2.1: CLASS 3, with its CRCs, is rejected as STRUCTURE at the record at 0xC0. -/
theorem test_class_beyond_range : judge (score21 0 3) = some (0x06, 0xC0) := by decide +kernel

/-- Worked case 2.1: either byte changed alone breaks a stored CRC, which gives BAD_CRC. -/
theorem test_changed_byte : ((judge ((score21 0 0).set 0xC8 3)).map (·.1)) = some 0x03 ∧
    ((judge ((score21 0 0).set 0x0C 1)).map (·.1)) = some 0x03 := by decide +kernel

/-! ### The block's ends -/

/-- With no command waiting, a step lets one TCLK of 4 ns pass; none passes during a clock reset. -/
theorem test_idle_step : State.reset.idle.clock = ⟨0, 4, 0, 17179869184⟩ ∧
    { State.reset with power := { State.reset.power with clock := true } }.idle.clock = ⟨0, 0, 0, 0⟩ := by decide +kernel

/-- No row of the table gives bits, so no word spells a command. -/
theorem test_no_word (n w : Nat) : decodeTableWord n w = none := rfl

/-! ### Where the hypotheses of the statements hold -/

namespace W1

def one : State := sc [el 0 0x0004 5 64 []]
def cueSt (m : Nat) (c : Cue) : State := { sc [el 0 0x12 3 64 [(8,1,m),(16,4,1000),(20,4,50)]] [(.CUE_ARM_S,3,0),(.CUE_CNT,3,255)] with cues := [(3,c),(4,{ next := some 9 })], clock := ⟨0, 100, 0, 70⟩ }
def capSt (n : Nat) : State := { r0 [(.CAP_CFG,2,5)] with caps := if n = 0 then [(3,[⟨⟨1,2⟩,true,3⟩])] else [(2,List.replicate n ⟨⟨1,2⟩,true,3⟩),(3,[])], clock := ⟨0, 100, 0, 0⟩ }
def capSt2 (n : Nat) : State := (capSt n).wrF .CAP_STATUS 2 8 0 (256+n)
def po (r : RegId) : Nat := ((List.range 0x40).find? fun k => match pageReg 0 (4*k) with | some (q, i, h) => q == r && !h | none => false).getD 0 * 4


/-- States and operands that meet the hypotheses of QueueAndClockTick, clause 1. -/
theorem test_QueueAndClockTick_1 :
    (∃ (s : State), s.pending = [] ∧ s.clockOk) ∧
    (∃ (s : State), s.pending = [] ∧ s.clockOk) :=
  ⟨⟨State.reset, by decide +kernel⟩,
  ⟨closed, by decide +kernel⟩⟩

/-- States and operands that meet the hypotheses of WritesFollowAccessCodes, clauses 1 to 4. -/
theorem test_WritesFollowAccessCodes_1 :
    (∃ (p : Path) (sp : Space) (o : Nat) (r : RegId) (i : Nat) (w : Word) (s : State), s.reaches p sp o r i false ∧ r ∉ actingRegs ∧
      r.row.wide = false) ∧
    (∃ (p : Path) (sp : Space) (o : Nat) (r : RegId) (i : Nat) (w : Word) (s : State), s.reaches p sp o r i false ∧ r ∉ actingRegs ∧
      r.row.wide = false) ∧
    (∃ (p : Path) (o : Nat) (w : Word) (s : State), (conductorReg p o = none ∨ ∃ r i h, conductorReg p o = some (r, i, h) ∧ s.entryOpen p
      r i = false)) ∧
    (∃ (p : Path) (o : Nat) (w : Word) (s : State), (conductorReg p o = none ∨ ∃ r i h, conductorReg p o = some (r, i, h) ∧ s.entryOpen p
      r i = false)) ∧
    (∃ (p : Path) (v o : Nat) (w : Word) (s : State), s.pageOpen p v ∧ pageReg v o = none) ∧
    (∃ (p : Path) (v o : Nat) (w : Word) (s : State), p ≠ .debug ∧ s.domUp .FABRIC = true ∧ v < 1024 ∧ s.declared v = false) :=
  ⟨⟨.pcie, .conductor, 0x300, .VIOL_CTRL, 0, 0xFFFFFFFF, State.reset, by decide +kernel⟩,
  ⟨.pcie, .conductor, 0x70060, .PTP_CFG, 0, 0xFFFFFFFF, State.reset, by decide +kernel⟩,
  ⟨.pcie, 0xFFFFC, 1, State.reset, Or.inl (by decide +kernel)⟩,
  ⟨.pcie, 0x300, 1, closed, Or.inr ⟨.VIOL_CTRL, 0, false, by decide +kernel, by decide +kernel⟩⟩,
  ⟨.pcie, 5, 0xFFFC, 1, one, by decide +kernel⟩,
  ⟨.netctl, 6, 0x20, 7, one, by decide +kernel⟩⟩

/-- States and operands that meet the hypotheses of ReadsReturnAndClear, clauses 1 to 4. -/
theorem test_ReadsReturnAndClear_1 :
    (∃ (p : Path) (sp : Space) (o : Nat) (r : RegId) (i : Nat) (c : Instr) (s : State), s.reaches p sp o r i false ∧ r.row.wide = false ∧
      r ≠ .CLK_NS ∧ r ≠ .VW_CHK_DATA ∧ r ≠ .SYS_EVT ∧ ((c = .registerReadClear p sp o ∨ c = .wideRegisterLowRead p sp o))) ∧
    (∃ (p : Path) (sp : Space) (o : Nat) (r : RegId) (i : Nat) (c : Instr) (s : State), s.reaches p sp o r i false ∧ r.row.wide = false ∧
      r ≠ .CLK_NS ∧ r ≠ .VW_CHK_DATA ∧ r ≠ .SYS_EVT ∧ ((c = .registerReadClear p sp o ∨ c = .wideRegisterLowRead p sp o))) ∧
    (∃ (p : Path) (o : Nat) (s : State), conductorReg p o = none) ∧
    (∃ (p : Path) (o : Nat) (r : RegId) (i : Nat) (s : State), conductorReg p o = some (r, i, false) ∧ s.gated r i = true) ∧
    (∃ (p : Path) (o : Nat) (r : RegId) (i : Nat) (s : State), conductorReg p o = some (r, i, false) ∧ s.gated r i = true) ∧
    (∃ (p : Path) (v o : Nat) (s : State), p ≠ .debug ∧ s.domUp .FABRIC = true ∧ v < 1024 ∧ s.declared v = false) :=
  ⟨⟨.pcie, .conductor, 0x10, .CLK_STATUS, 0, (.registerReadClear .pcie .conductor 0x10), State.reset, by decide +kernel⟩,
  ⟨.pcie, .conductor, 0xe0100, .LC_TOKEN, 0, (.registerReadClear .pcie .conductor 0xe0100), (r0 [(.LC_TOKEN,0,77)]), by decide +kernel⟩,
  ⟨.pcie, 0xFFFFC, State.reset, by decide +kernel⟩,
  ⟨.pcie, 0x10, .CLK_STATUS, 0, { State.reset with power := { State.reset.power with clock := true } }, by decide +kernel⟩,
  ⟨.pcie, 0x40004, .P_STATUS, 0, (closed.wr .EPOCH_TAB 0 7), by decide +kernel⟩,
  ⟨.pcie, 6, 0x20, one, by decide +kernel⟩⟩

/-- States and operands that meet the hypotheses of WideRegistersAndActingRegisters, clauses 1 to 5. -/
theorem test_WideRegistersAndActingRegisters_1 :
    (∃ (p : Path) (sp : Space) (o : Nat) (r : RegId) (i : Nat) (s : State) (w : Word), r.row.wide = true ∧ s.reaches p sp o r i true ∧ r ≠
      .VW_DOORBELL ∧ (r ∉ actingRegs ∨ r = .VW_PTROOT)) ∧
    (∃ (p : Path) (sp : Space) (o : Nat) (r : RegId) (i : Nat) (s : State) (c : Instr), r.row.wide = true ∧ s.reaches p sp o r i true ∧ r
      ≠ .VW_DOORBELL ∧ ((c = .registerReadClear p sp o ∨ c = .wideRegisterLowRead p sp o))) ∧
    (∃ (p : Path) (sp : Space) (o : Nat) (r : RegId) (i : Nat) (s : State) (w : Word), r.row.wide = true ∧ s.reaches p sp o r i false ∧ r
      ∉ actingRegs) ∧
    (∃ (p : Path) (sp : Space) (o : Nat) (r : RegId) (i : Nat) (s : State) (w : Word), r.row.wide = true ∧ s.reaches p sp o r i false ∧ r
      ∉ actingRegs) ∧
    (∃ (p : Path) (sp : Space) (o : Nat) (r : RegId) (i : Nat) (s : State) (c : Instr), r.row.wide = true ∧ s.reaches p sp o r i false ∧
      ((c = .wideRegisterLowRead p sp o ∨ c = .registerReadClear p sp o))) ∧
    (∃ (p : Path) (o i : Nat) (w : Word) (s : State), s.reaches p .conductor o .RST_CTRL i false) :=
  ⟨⟨.pcie, .conductor, (0xd0008 + 4), .HOST_OB_BASE, 0, State.reset, 7, by decide +kernel⟩,
  ⟨.pcie, .conductor, (0x310 + 4), .VIOL_VA, 0, State.reset, (.registerReadClear .pcie .conductor (0x310 + 4)), by decide +kernel⟩,
  ⟨.pcie, .conductor, 0x310, .VIOL_VA, 0, State.reset, 7, by decide +kernel⟩,
  ⟨.pcie, .conductor, 0xd0008, .HOST_OB_BASE, 0, (State.reset), 0x7777FFFF, by decide +kernel⟩,
  ⟨.pcie, .conductor, 0x310, .VIOL_VA, 0, (r0 [(.VIOL_VA,0,0x123456789A)]), (.wideRegisterLowRead .pcie .conductor 0x310),
    by decide +kernel⟩,
  ⟨.pcie, 0x4, 0, 0x57530001, State.reset, by decide +kernel⟩⟩

/-- States and operands that meet the hypotheses of WideRegistersAndActingRegisters, clauses 5 to 8. -/
theorem test_WideRegistersAndActingRegisters_2 :
    (∃ (p : Path) (o i : Nat) (w : Word) (s : State), s.reaches p .conductor o .RST_CTRL i false) ∧
    (∃ (p : Path) (o i : Nat) (w : Word) (s : State), s.reaches p .conductor o .PWR_CTRL i false) ∧
    (∃ (p : Path) (o i : Nat) (w : Word) (s : State), s.reaches p .conductor o .PWR_CTRL i false) ∧
    (∃ (p : Path) (o i : Nat) (w : Word) (s : State), s.reaches p .conductor o .BLK_CTRL i false) ∧
    (∃ (p : Path) (o i : Nat) (w : Word) (s : State), s.reaches p .conductor o .BLK_CTRL i false) ∧
    (∃ (p : Path) (o i : Nat) (w : Word) (s : State), s.reaches p .conductor o .LOAD_CTRL i false) :=
  ⟨⟨.pcie, 0x4, 0, 0x57530001, one, by decide +kernel⟩,
  ⟨.pcie, 0x8, 0, 1, State.reset, by decide +kernel⟩,
  ⟨.pcie, 0x8, 0, 1, one, by decide +kernel⟩,
  ⟨.pcie, 0x24, 0, 0x80000133, State.reset, by decide +kernel⟩,
  ⟨.pcie, 0x24, 0, 0x80000133, one, by decide +kernel⟩,
  ⟨.pcie, 0x10c, 0, 1, State.reset, by decide +kernel⟩⟩

/-- States and operands that meet the hypotheses of WideRegistersAndActingRegisters, clauses 8 to 11. -/
theorem test_WideRegistersAndActingRegisters_3 :
    (∃ (p : Path) (o i : Nat) (w : Word) (s : State), s.reaches p .conductor o .LOAD_CTRL i false) ∧
    (∃ (p : Path) (o i : Nat) (w : Word) (s : State), s.reaches p .conductor o .VOICE_HALT i false) ∧
    (∃ (p : Path) (o i : Nat) (w : Word) (s : State), s.reaches p .conductor o .VOICE_HALT i false) ∧
    (∃ (p : Path) (o i : Nat) (w : Word) (s : State), s.reaches p .conductor o .VIOL_INFO i false) ∧
    (∃ (p : Path) (o i : Nat) (w : Word) (s : State), s.reaches p .conductor o .VIOL_INFO i false) ∧
    (∃ (p : Path) (o i : Nat) (w : Word) (s : State), s.reaches p .conductor o .LC_CMD i false) :=
  ⟨⟨.pcie, 0x10c, 0, 1, one, by decide +kernel⟩,
  ⟨.pcie, 0x138, 0, 5, State.reset, by decide +kernel⟩,
  ⟨.pcie, 0x138, 0, 5, one, by decide +kernel⟩,
  ⟨.pcie, 0x304, 0, 0x8000, State.reset, by decide +kernel⟩,
  ⟨.pcie, 0x304, 0, 0x8000, one, by decide +kernel⟩,
  ⟨.pcie, 0xe0004, 0, 0x4C430F05, State.reset, by decide +kernel⟩⟩

/-- States and operands that meet the hypotheses of WideRegistersAndActingRegisters, clauses 11 to 14. -/
theorem test_WideRegistersAndActingRegisters_4 :
    (∃ (p : Path) (o i : Nat) (w : Word) (s : State), s.reaches p .conductor o .LC_CMD i false) ∧
    (∃ (p : Path) (o i : Nat) (w : Word) (s : State), s.reaches p .conductor o .STEP_NS i false) ∧
    (∃ (p : Path) (o i : Nat) (w : Word) (s : State), s.reaches p .conductor o .STEP_NS i false) ∧
    (∃ (p : Path) (o i : Nat) (w : Word) (s : State), s.reaches p .conductor o .SET_CTRL i false) ∧
    (∃ (p : Path) (o i : Nat) (w : Word) (s : State), s.reaches p .conductor o .SET_CTRL i false) ∧
    (∃ (p : Path) (o i : Nat) (w : Word) (s : State), s.reaches p .conductor o .INCR_BASE i false) :=
  ⟨⟨.pcie, 0xe0004, 0, 0x4C430F05, one, by decide +kernel⟩,
  ⟨.pcie, 0x70018, 0, 0xFFFFFFF0, State.reset, by decide +kernel⟩,
  ⟨.pcie, 0x70018, 0, 0xFFFFFFF0, one, by decide +kernel⟩,
  ⟨.pcie, 0x7002c, 0, 1, State.reset, by decide +kernel⟩,
  ⟨.pcie, 0x7002c, 0, 1, one, by decide +kernel⟩,
  ⟨.pcie, 0x70014, 0, 0x4000001, State.reset, by decide +kernel⟩⟩

/-- States and operands that meet the hypotheses of WideRegistersAndActingRegisters, clauses 14 to 17. -/
theorem test_WideRegistersAndActingRegisters_5 :
    (∃ (p : Path) (o i : Nat) (w : Word) (s : State), s.reaches p .conductor o .INCR_BASE i false) ∧
    (∃ (p : Path) (o i : Nat) (w : Word) (s : State), s.reaches p .conductor o .ALERT_RAISE i false) ∧
    (∃ (p : Path) (o i : Nat) (w : Word) (s : State), s.reaches p .conductor o .ALERT_RAISE i false) ∧
    (∃ (p : Path) (o i : Nat) (w : Word) (s : State), s.reaches p .conductor o .ALERT_CLR i false) ∧
    (∃ (p : Path) (o i : Nat) (w : Word) (s : State), s.reaches p .conductor o .ALERT_CLR i false) ∧
    (∃ (p : Path) (o i : Nat) (w : Word) (s : State), i < 32 ∧ s.reaches p .conductor o .CUE_ARM_NS i false) :=
  ⟨⟨.pcie, 0x70014, 0, 0x4000001, one, by decide +kernel⟩,
  ⟨.pcie, 0x8080c, 0, 0x80, State.reset, by decide +kernel⟩,
  ⟨.pcie, 0x8080c, 0, 0x80, one, by decide +kernel⟩,
  ⟨.pcie, 0x80810, 0, 1, State.reset, by decide +kernel⟩,
  ⟨.pcie, 0x80810, 0, 1, one, by decide +kernel⟩,
  ⟨.pcie, (0x71014 + 0x20*3), 3, 40, (cueSt 0 {}), by decide +kernel⟩⟩

/-- States and operands that meet the hypotheses of WideRegistersAndActingRegisters, clauses 18 to 23. -/
theorem test_WideRegistersAndActingRegisters_6 :
    (∃ (p : Path) (o i : Nat) (w : Word) (s : State) (v : Nat), s.pageOpen p v) ∧
    (∃ (p : Path) (o i : Nat) (w : Word) (s : State) (v : Nat), s.pageOpen p v) ∧
    (∃ (p : Path) (o i : Nat) (w : Word) (s : State) (v : Nat), s.pageOpen p v) ∧
    (∃ (p : Path) (o i : Nat) (w : Word) (s : State) (v : Nat), s.pageOpen p v) ∧
    (∃ (p : Path) (o i : Nat) (w : Word) (s : State) (v : Nat), s.pageOpen p v) ∧
    (∃ (p : Path) (o i : Nat) (w : Word) (s : State) (v : Nat) (q : Nat), s.pageOpen p v ∧ q < 16) :=
  ⟨⟨.pcie, 0, 0, 1, one, 5, by decide +kernel⟩,
  ⟨.pcie, 0, 0, 0x1801, one, 5, by decide +kernel⟩,
  ⟨.pcie, 0, 0, 1, one, 5, by decide +kernel⟩,
  ⟨.pcie, 0, 0, 9, one, 5, by decide +kernel⟩,
  ⟨.pcie, 0, 0, 0x101, one, 5, by decide +kernel⟩,
  ⟨.pcie, 0, 0, 9, one, 5, 3, by decide +kernel⟩⟩

/-- States and operands that meet the hypotheses of WideRegistersAndActingRegisters, clauses 24 to 26. -/
theorem test_WideRegistersAndActingRegisters_7 :
    (∃ (p : Path) (o i : Nat) (w : Word) (s : State) (v : Nat), s.pageOpen p v ∧ w.toNat / 256 % 4 = 1) ∧
    (∃ (p : Path) (o i : Nat) (w : Word) (s : State) (v : Nat), s.pageOpen p v ∧ w.toNat / 256 % 4 = 2) ∧
    (∃ (p : Path) (o i : Nat) (w : Word) (s : State) (v : Nat), s.pageOpen p v ∧ w.toNat / 256 % 4 = 3) :=
  ⟨⟨.pcie, 0, 0, 0x134, one, 5, by decide +kernel⟩,
  ⟨.pcie, 0, 0, 0x234, one, 5, by decide +kernel⟩,
  ⟨.pcie, 0, 0, 0x334, one, 5, by decide +kernel⟩⟩

/-- States and operands that meet the hypotheses of ClockReadsSetsAndSteps, clauses 1 to 5. -/
theorem test_ClockReadsSetsAndSteps_1 :
    (∃ (p : Path) (s : State), s.regOpen p .TIME = true ∧ s.clockOk) ∧
    (∃ (p : Path) (s : State), s.regOpen p .TIME = false) ∧
    (∃ (p : Path) (v : Word) (s : State), s.regOpen p .TIME = true ∧ v.toNat % 2 = 1) ∧
    (∃ (p : Path) (v : Word) (s : State), s.regOpen p .TIME = true) ∧
    (∃ (p : Path) (v : Word) (s : State), s.regOpen p .TIME = true) ∧
    (∃ (p : Path) (v : Word) (s : State), s.regOpen p .TIME = false ∨ v.toNat % 2 = 0) :=
  ⟨⟨.pcie, { State.reset with clock := ⟨5,999999999,77,8⟩ }, by decide +kernel⟩,
  ⟨.pcie, { State.reset with power := { State.reset.power with clock := true } }, by decide +kernel⟩,
  ⟨.pcie, 1, { r0 [(.SET_S,0,2^64-1),(.SET_NS,0,0xFFFFFFFF),(.STEP_CNT,0,0xFFFFFFFF)] with clock := ⟨5,999999999,77,8⟩ },
    by decide +kernel⟩,
  ⟨.pcie, 0x80000000, { State.reset with clock := ⟨1,5,77,8⟩ }, by decide +kernel⟩,
  ⟨.pcie, 0x7FFFFFFF, { (cueSt 1 { grid := some (10,100), next := some 600 }) with clock := ⟨1,5,77,8⟩ }, by decide +kernel⟩,
  ⟨.pcie, 2, State.reset, by decide +kernel⟩⟩

/-- States and operands that meet the hypotheses of ClockReadsSetsAndSteps, clauses 6 to 8. -/
theorem test_ClockReadsSetsAndSteps_2 :
    (∃ (p : Path) (v : Word) (s : State), s.regOpen p .TIME = false) ∧
    (∃ (p : Path) (v : Word) (s : State), s.regOpen p .TIME = true ∧ 0x03800000 ≤ v.toNat ∧ v.toNat ≤ 0x04800000) ∧
    (∃ (p : Path) (v : Word) (s : State), s.regOpen p .TIME = true ∧ 0x03800000 ≤ v.toNat ∧ v.toNat ≤ 0x04800000) ∧
    (∃ (p : Path) (v : Word) (s : State), s.regOpen p .TIME = false ∨ v.toNat < 0x03800000 ∨ 0x04800000 < v.toNat) ∧
    (∃ (p : Path) (v : Word) (s : State), s.regOpen p .TIME = false ∨ v.toNat < 0x03800000 ∨ 0x04800000 < v.toNat) :=
  ⟨⟨.pcie, 2, { State.reset with power := { State.reset.power with clock := true } }, by decide +kernel⟩,
  ⟨.pcie, 0x03800000, State.reset, by decide +kernel⟩,
  ⟨.pcie, 0x04800000, { (r0 [(.SERVO_STATUS,0,2)]) with servo := { y := 500000000 } }, by decide +kernel⟩,
  ⟨.pcie, 0x037FFFFF, State.reset, by decide +kernel⟩,
  ⟨.pcie, 0x04800001, State.reset, by decide +kernel⟩⟩

/-- States and operands that meet the hypotheses of CuesArmBeginAndEnd, clauses 1 to 6. -/
theorem test_CuesArmBeginAndEnd_1 :
    (∃ (p : Path) (k : Nat) (v : Word) (e : Elem) (s : State), k < 32 ∧ s.regOpen p .TIME = true ∧ v.toNat % 2 ^ 30 < 1000000000 ∧
      s.cueElem k = some e ∧ cueMode e = 0 ∧ (s.cue k).active = false ∧ s.clock.total < s.armTime k v) ∧
    (∃ (p : Path) (k : Nat) (v : Word) (e : Elem) (s : State), k < 32 ∧ s.regOpen p .TIME = true ∧ v.toNat % 2 ^ 30 < 1000000000 ∧
      s.cueElem k = some e ∧ cueMode e = 0 ∧ (s.cue k).active = false ∧ s.armTime k v ≤ s.clock.total) ∧
    (∃ (p : Path) (k : Nat) (v : Word) (e : Elem) (s : State), k < 32 ∧ s.regOpen p .TIME = true ∧ v.toNat % 2 ^ 30 < 1000000000 ∧
      s.cueElem k = some e ∧ cueMode e = 0 ∧ (s.cue k).active = true ∧ s.clock.total < s.armTime k v ∧ s.armTime k v < s.pulseEnd (s.cue
      k) + 8 * 2 ^ 32) ∧
    (∃ (p : Path) (k : Nat) (v : Word) (e : Elem) (s : State), s.cueElem k = some e ∧ cueMode e ≠ 0) ∧
    (∃ (p : Path) (k : Nat) (v : Word) (s : State), s.regOpen p .TIME = false ∨ 1000000000 ≤ v.toNat % 2 ^ 30) ∧
    (∃ (k : Nat) (e : Elem) (t : Nat) (s : State), (s.cue k).next = some t ∧ s.cueElem k = some e ∧ (s.cue k).gone = false ∧ ¬s.cueIsTempo
      k) :=
  ⟨⟨.pcie, 3, 0x1FF, (el 0 0x12 3 64 [(8,1,0),(16,4,1000),(20,4,50)]), (cueSt 0 {}), by decide +kernel⟩,
  ⟨.pcie, 3, 100, (el 0 0x12 3 64 [(8,1,0),(16,4,1000),(20,4,50)]), (cueSt 0 {next := some 3}), by decide +kernel⟩,
  ⟨.pcie, 3, 101, (el 0 0x12 3 64 [(8,1,0),(16,4,1000),(20,4,50)]), (cueSt 0 { active := true, ends := 70+20*2^32 }), by decide +kernel⟩,
  ⟨.pcie, 3, 1, (el 0 0x12 3 64 [(8,1,1),(16,4,1000),(20,4,50)]), (cueSt 1 {}), by decide +kernel⟩,
  ⟨.pcie, 3, 1000000000, (cueSt 0 {}), by decide +kernel⟩,
  ⟨3, (el 0 0x12 3 64 [(8,1,1),(16,4,1000),(20,4,50)]), (200*2^32), (cueSt 1
    { next := some (200*2^32), grid := some (200*2^32, 1000*2^32) }), by decide +kernel⟩⟩

/-- States and operands that meet the hypotheses of CuesArmBeginAndEnd, clauses 6 to 10. -/
theorem test_CuesArmBeginAndEnd_2 :
    (∃ (k : Nat) (e : Elem) (t : Nat) (s : State), (s.cue k).next = some t ∧ s.cueElem k = some e ∧ (s.cue k).gone = false ∧ ¬s.cueIsTempo
      k) ∧
    (∃ (k : Nat) (e : Elem) (s : State), (s.cue k).active = true ∧ (s.cue k).gone = false ∧ s.cueElem k = some e ∧ ((cueMode e = 3 → ∀ n,
      (s.cue k).next = some n → s.pulseEnd (s.cue k) + 8 * 2 ^ 32 ≤ n))) ∧
    (∃ (k n : Nat) (e : Elem) (s : State), (s.cue k).active = true ∧ (s.cue k).gone = false ∧ s.cueElem k = some e ∧ cueMode e = 3 ∧
      (s.cue k).next = some n ∧ n < s.pulseEnd (s.cue k) + 8 * 2 ^ 32) ∧
    (∃ (k : Nat) (s : State), (s.cue k).active = true ∧ (s.cue k).gone = true) ∧
    (∃ (k : Nat) (s : State), (s.cue k).active = false) :=
  ⟨⟨3, (el 0 0x12 3 64 [(8,1,0),(16,4,1000),(20,4,50)]), (20*2^32), (cueSt 0 { next := some (20*2^32) }), by decide +kernel⟩,
  ⟨3, (el 0 0x12 3 64 [(8,1,0),(16,4,1000),(20,4,50)]), (cueSt 0 { active := true, ends := 70+20*2^32 }), by decide +kernel⟩,
  ⟨3, (120*2^32), (el 0 0x12 3 64 [(8,1,3),(16,4,1000),(20,4,50)]), ((cueSt 3
    { active := true, ends := 70+50*2^32, next := some (120*2^32) }).wr .CUE_CNT 3 0xFFFF), by decide +kernel⟩,
  ⟨3, (cueSt 0 { active := true, ends := 70+20*2^32, gone := true }), by decide +kernel⟩,
  ⟨3, (cueSt 0 {}), by decide +kernel⟩⟩

/-- States and operands that meet the hypotheses of CapturesRecordAndPop, clauses 1 to 4. -/
theorem test_CapturesRecordAndPop_1 :
    (∃ (k held : Nat) (rising : Bool) (s : State), k < 8 ∧ 8 < held ∧ s.domUp .TIME = true ∧ s.pinsSeen = true ∧ s.rdB .CAP_CFG k (if
      rising then 0 else 1) = true ∧ (s.capFifo k).length < 16) ∧
    (∃ (k held : Nat) (rising : Bool) (s : State), k < 8 ∧ 8 < held ∧ s.domUp .TIME = true ∧ s.pinsSeen = true ∧ s.rdB .CAP_CFG k (if
      rising then 0 else 1) = true ∧ (s.capFifo k).length < 16) ∧
    (∃ (k held : Nat) (rising : Bool) (s : State), k < 8 ∧ 8 < held ∧ s.domUp .TIME = true ∧ s.pinsSeen = true ∧ s.rdB .CAP_CFG k (if
      rising then 0 else 1) = true ∧ 16 ≤ (s.capFifo k).length) ∧
    (∃ (k held : Nat) (rising : Bool) (s : State), held ≤ 8 ∨ s.pinsSeen = false ∨ s.rdB .CAP_CFG k (if rising then 0 else 1) = false) ∧
    (∃ (k held : Nat) (rising : Bool) (s : State), held ≤ 8 ∨ s.pinsSeen = false ∨ s.rdB .CAP_CFG k (if rising then 0 else 1) = false) ∧
    (∃ (p : Path) (k : Nat) (v : Word) (s : State), s.regOpen p .TIME = true ∧ v.toNat % 2 = 1 ∧ (s.capFifo k).length ≤ 16) :=
  ⟨⟨2, 9, true, (capSt 0), by decide +kernel⟩,
  ⟨2, 99, true, { (capSt 15) with servo := { marks := [(3,5,7)] } }, by decide +kernel⟩,
  ⟨2, 10, true, (capSt 16), by decide +kernel⟩,
  ⟨2, 9, false, (capSt 0), by decide +kernel⟩,
  ⟨2, 8, true, (capSt 0), by decide +kernel⟩,
  ⟨.pcie, 2, 1, (capSt2 16), by decide +kernel⟩⟩

/-- States and operands that meet the hypotheses of CapturesRecordAndPop, clauses 4 to 5. -/
theorem test_CapturesRecordAndPop_2 :
    (∃ (p : Path) (k : Nat) (v : Word) (s : State), s.regOpen p .TIME = true ∧ v.toNat % 2 = 1 ∧ (s.capFifo k).length ≤ 16) ∧
    (∃ (p : Path) (k : Nat) (v : Word) (s : State), s.regOpen p .TIME = false ∨ v.toNat % 2 = 0) :=
  ⟨⟨.pcie, 2, 1, (capSt2 1), by decide +kernel⟩,
  ⟨.pcie, 2, 0, (capSt 1), by decide +kernel⟩⟩

end W1

namespace W2

def fr (n : Nat) : EgFrame := ⟨3, 0, 0, 0xFFFF, ⟨0, 1, none, .arp 0 n⟩, 0, 0⟩
def sys (role port alt tie : Nat) : Elem := el 0 1 0 64 [(8,1,4),(10,1,tie),(11,1,role),(13,1,port),(14,1,alt)]
def net (u : Nat) : Elem := el 0 0x18 u 64 [(12,4,0x44332211)]
def ann (p src : Nat) : Announce := ⟨0, p, 6, 0x21, 5, 128, src, 0, src⟩
def msg (two : Bool) (corr : Int) : PtpMsg := ⟨0, 0, 5, 77, 0, corr, ⟨3, 10⟩, two⟩
def ps (role alt st : Nat) (v : Servo) (r : List (RegId × Nat × Nat) := []) : State :=
  { sc [sys role 0 alt 0, net 0, net 1] ([(.SERVO_STATUS,0,st),(.NET_STATUS,0,2),(.NET_STATUS,1,2),(.ALERT_CTRL,0,3)] ++ r) with servo := v, clock := ⟨2, 999999999, 5, 5000⟩ }
def busy (s : State) : State := { s with net := { s.net with up := [(0, { tx := some (fr 1), egress := [fr 2] }),(1, { tx := some (fr 1), egress := [fr 2] })] } }
def ref1 : RefSt := { master := some (ann 1 77), sync := some (5, 77, 3000000000, 100000), last := some (10, -4), delays := [7,8,9,1,1,1,1,1], count := 3 }
def sv (n f : Nat) (i y : Int) (fresh : Bool) : Servo := { pri := ref1, alt := ref1, near := n, far := f, i := i, y := y, fresh := fresh }
def q16 (n : Nat) (k : Nat) : List TxStamp := (List.range n).map fun j => ⟨k, j, 100 * j, 50, false⟩
def withQ (s : State) (n k : Nat) : State := { s with ptp := { s.ptp with txq := if n = 0 then [] else [(0, q16 n k)], seqs := [(0, 65535),(4, 65535),(16,65535)] } }
def up0 (s : State) (x : Uplink) : State := { s with net := { s.net with up := [(0, x)] } }
def fOf (s : State) (alt : Bool) : Int :=
    let now := (s.runTo (s.servo.blockAt + nsU 16000000000)).clock.elapsed
    (blockFreq (roundDiv (s.servo.yArea + s.servo.y * ((now : Int) - s.servo.ySince)) (max 1 (now - s.servo.blockAt) : Nat)) (s.servo.ref alt)).getD 999
def blk (c : Nat) (e : Int) (r : Nat) : RefSt := { first := some (0, 0), final := some (e, 15000000000 * 2^32), count := c, run := r }


/-- States and operands that meet the hypotheses of PtpSlavesMeasure, clauses 1 to 4. -/
theorem test_PtpSlavesMeasure_1 :
    (∃ (m : PtpMsg) (alt : Bool) (s : State), s.uplinkRef m.uplink = some alt ∧ s.fromMaster alt m = true ∧ m.twoStep = true) ∧
    (∃ (m : PtpMsg) (alt : Bool) (s : State), s.uplinkRef m.uplink = some alt ∧ s.fromMaster alt m = true ∧ m.twoStep = true) ∧
    (∃ (m : PtpMsg) (alt : Bool) (s : State), s.uplinkRef m.uplink = some alt ∧ s.fromMaster alt m = true ∧ m.twoStep = false ∧
      (s.servo.ref alt).delays ≠ []) ∧
    (∃ (m : PtpMsg) (alt : Bool) (s : State), s.uplinkRef m.uplink = some alt ∧ s.fromMaster alt m = true ∧ m.twoStep = false ∧
      (s.servo.ref alt).delays ≠ []) ∧
    (∃ (m : PtpMsg) (alt : Bool) (s : State), s.uplinkRef m.uplink = some alt ∧ s.fromMaster alt m = true ∧ m.twoStep = false ∧
      (s.servo.ref alt).delays = []) ∧
    (∃ (m : PtpMsg) (n src t2 : Nat) (c : Int) (alt : Bool) (s : State), s.uplinkRef m.uplink = some alt ∧ s.fromMaster alt m = true ∧
      (s.servo.ref alt).sync = some (n, src, t2, c) ∧ m.seq = n ∧ m.source = src ∧ (s.servo.ref alt).delays ≠ []) :=
  ⟨⟨(msg true 5), false, (ps 1 0 1 (sv 0 0 0 0 true)), by decide +kernel⟩,
  ⟨{ msg true 5 with uplink := 1 }, true, (ps 1 1 1 (sv 0 0 0 0 true)), by decide +kernel⟩,
  ⟨(msg false 65536000), false, (ps 1 0 0 (sv 0 1 0 5 true)), by decide +kernel⟩,
  ⟨{ msg false 5 with uplink := 1 }, true, (ps 1 1 1 (sv 0 0 0 0 true)), by decide +kernel⟩,
  ⟨(msg false 5), false, (ps 1 0 1 { sv 0 0 0 0 true with pri := { ref1 with delays := [] } }), by decide +kernel⟩,
  ⟨(msg true 5), 5, 77, 3000000000, 100000, false, (ps 1 0 0 (sv 7 0 0 0 true)), by decide +kernel⟩⟩

/-- States and operands that meet the hypotheses of PtpSlavesMeasure, clauses 4 to 9. -/
theorem test_PtpSlavesMeasure_2 :
    (∃ (m : PtpMsg) (n src t2 : Nat) (c : Int) (alt : Bool) (s : State), s.uplinkRef m.uplink = some alt ∧ s.fromMaster alt m = true ∧
      (s.servo.ref alt).sync = some (n, src, t2, c) ∧ m.seq = n ∧ m.source = src ∧ (s.servo.ref alt).delays ≠ []) ∧
    (∃ (m : PtpMsg) (s : State), s.uplinkRef m.uplink = none) ∧
    (∃ (m : PtpMsg) (s : State), s.uplinkRef m.uplink = none) ∧
    (∃ (m : PtpMsg) (alt : Bool) (s : State), s.uplinkRef m.uplink = some alt ∧ s.fromMaster alt m = false) ∧
    (∃ (m : PtpMsg) (alt : Bool) (s : State), s.uplinkRef m.uplink = some alt ∧ s.fromMaster alt m = false) ∧
    (∃ (u : Nat) (s : State), (s.uplinkRef u).isSome = true ∧ (s.txq u).length < 16 ∧ s.netUp u = true ∧ (s.uplink u).tx.isSome = true) :=
  ⟨⟨(msg true 5), 5, 77, 3000000000, 100000, false, (ps 1 0 4 (sv 7 0 0 0 true)), by decide +kernel⟩,
  ⟨(msg true 5), (ps 2 0 1 {}), by decide +kernel⟩,
  ⟨(msg true 5), (ps 2 0 1 {}), by decide +kernel⟩,
  ⟨(msg true 5), false, (ps 1 0 1 {}), by decide +kernel⟩,
  ⟨(msg true 5), false, (ps 1 0 1 {}), by decide +kernel⟩,
  ⟨0, (withQ (busy (ps 1 0 1 (sv 0 0 0 0 true))) 15 0), by decide +kernel⟩⟩

/-- States and operands that meet the hypotheses of PtpSlavesMeasure, clauses 9 to 13. -/
theorem test_PtpSlavesMeasure_3 :
    (∃ (u : Nat) (s : State), (s.uplinkRef u).isSome = true ∧ (s.txq u).length < 16 ∧ s.netUp u = true ∧ (s.uplink u).tx.isSome = true) ∧
    (∃ (u : Nat) (s : State), (s.uplinkRef u).isSome = true ∧ (s.txq u).length < 16 ∧ s.netUp u = true ∧ (s.uplink u).tx = none ∧
      (s.uplink u).egress = [] ∧ s.net.alerts = []) ∧
    (∃ (u : Nat) (s : State), (s.uplinkRef u).isSome = true ∧ (s.txq u).length < 16 ∧ s.netUp u = true ∧ (s.uplink u).tx = none ∧
      (s.uplink u).egress = [] ∧ s.net.alerts = []) ∧
    (∃ (u : Nat) (s : State), (s.uplinkRef u).isSome = true ∧ 16 ≤ (s.txq u).length) ∧
    (∃ (u : Nat) (s : State), s.uplinkRef u = none) ∧
    (∃ (m : PtpMsg) (alt : Bool) (x : TxStamp) (t1 t2 : Int) (s : State), s.uplinkRef m.uplink = some alt ∧ (s.txq m.uplink).find? (fun y
      => y.kind == 1 && y.ident == m.seq && !y.waits) = some x ∧ s.fromMaster alt m = true ∧ m.requester = s.portIdentity m.uplink ∧
      (s.servo.ref alt).last = some (t1, t2) ∧ (s.txq m.uplink).length ≤ 16) :=
  ⟨⟨0, (withQ (busy (ps 1 0 1 (sv 0 0 0 0 true))) 0 0), by decide +kernel⟩,
  ⟨0, (withQ (ps 1 0 1 (sv 0 0 0 0 true)) 15 0), by decide +kernel⟩,
  ⟨0, (withQ (ps 1 0 1 (sv 0 0 0 0 true)) 0 0), by decide +kernel⟩,
  ⟨0, (withQ (ps 1 0 1 (sv 0 0 0 0 true)) 16 1), by decide +kernel⟩,
  ⟨0, (withQ (ps 0 0 1 (sv 0 0 0 0 true)) 16 1), by decide +kernel⟩,
  ⟨{ msg false 99999 with requester := 0x11223344000000000000 |> fun _ => (withQ (ps 1 0 1 (sv 0 0 0 0 true)) 16 1).portIdentity 0 },
    false, ⟨1,5,500,50,false⟩, 10, (-4), (withQ (ps 1 0 1 (sv 0 0 0 0 true)) 16 1), by decide +kernel⟩⟩

/-- States and operands that meet the hypotheses of PtpSlavesMeasure, clause 14. -/
theorem test_PtpSlavesMeasure_4 : ∃ (u : Nat) (x : TxStamp) (s : State), (s.txq u).find? (fun y => y.kind == 1 && !y.waits) = some x ∧
  (s.txq u).length ≤ 16 :=
  ⟨0, ⟨1,0,0,50,false⟩, (withQ (ps 1 0 1 (sv 0 0 0 0 true)) 16 1), by decide +kernel⟩

/-- States and operands that meet the hypotheses of ServoFollowsLosesAndJudges, clauses 1 to 4. -/
theorem test_ServoFollowsLosesAndJudges_1 :
    (∃ (s : State) (e : Int), s.servoState ≠ 0) ∧
    (∃ (s : State) (e : Int), s.servoState ≠ 0) ∧
    (∃ (s : State), s.servoState = 1 ∨ s.servoState = 2 ∨ s.servoState = 3) ∧
    (∃ (s : State), s.servoState = 1 ∨ s.servoState = 2 ∨ s.servoState = 3) ∧
    (∃ (s : State), s.servoState = 0 ∨ s.servoState = 4) ∧
    (∃ (s : State), (s.servoState = 1 ∨ s.servoState = 2 ∨ s.servoState = 3) ∧ s.refIsTie s.servoAlt = false) :=
  ⟨⟨(ps 1 1 1 (sv 0 0 55 7 true)), (100000), by decide +kernel⟩,
  ⟨((ps 1 1 9 (sv 0 2 5 7 false))), 30000, by decide +kernel⟩,
  ⟨(ps 1 0 1 (sv 0 0 99999 5 false)), by decide +kernel⟩,
  ⟨(ps 1 0 9 (sv 0 0 99999 5 false)), by decide +kernel⟩,
  ⟨(ps 1 0 4 {}), by decide +kernel⟩,
  ⟨(ps 1 0 1 (sv 0 0 99999 5 false)), by decide +kernel⟩⟩

/-- States and operands that meet the hypotheses of ServoFollowsLosesAndJudges, clauses 4 to 7. -/
theorem test_ServoFollowsLosesAndJudges_2 :
    (∃ (s : State), (s.servoState = 1 ∨ s.servoState = 2 ∨ s.servoState = 3) ∧ s.refIsTie s.servoAlt = false) ∧
    (∃ (s : State), s.servoState = 0 ∨ s.refIsTie s.servoAlt = true) ∧
    (∃ (s : State), s.servoState = 0 ∨ s.refIsTie s.servoAlt = true) ∧
    (∃ (s : State) (alt : Bool) (f : Int), s.servoState ≠ 0) ∧
    (∃ (s : State) (alt : Bool) (f : Int), s.servoState ≠ 0) ∧
    (∃ (s : State), s.servoState = 0) :=
  ⟨⟨(ps 1 0 9 (sv 0 0 99999 5 false)), by decide +kernel⟩,
  ⟨(ps 1 0 0 {}), by decide +kernel⟩,
  ⟨(ps 1 2 9 {}), by decide +kernel⟩,
  ⟨(ps 1 1 1 { sv 0 0 5 7 false with pri := blk 3 (100) 2, alt := blk 3 (100) 3, waited := 0 }), false, (fOf (ps 1 1 1
    { sv 0 0 5 7 false with pri := blk 3 (100) 2, alt := blk 3 (100) 3, waited := 0 }) false), by decide +kernel⟩,
  ⟨(ps 1 1 12 { sv 0 0 5 7 false with pri := blk 3 (100) 3, alt := blk 3 (3000000) 3, waited := 1 }), true, (fOf (ps 1 1 12
    { sv 0 0 5 7 false with pri := blk 3 (100) 3, alt := blk 3 (3000000) 3, waited := 1 }) true), by decide +kernel⟩,
  ⟨(ps 1 0 0 {}), by decide +kernel⟩⟩

/-- States and operands that meet the hypotheses of PtpMastersSendAndAreChosen, clauses 1 to 4. -/
theorem test_PtpMastersSendAndAreChosen_1 :
    (∃ (u : Nat) (s : State), s.ptpRole = 2 ∧ u = s.ptpPort ∧ (s.txq u).length < 16 ∧ s.netUp u = true ∧ (s.uplink u).tx.isSome = true) ∧
    (∃ (u : Nat) (s : State), s.ptpRole = 2 ∧ u = s.ptpPort ∧ (s.txq u).length < 16 ∧ s.netUp u = true ∧ (s.uplink u).tx.isSome = true) ∧
    (∃ (u : Nat) (s : State), s.ptpRole = 2 ∧ u = s.ptpPort ∧ (s.txq u).length < 16 ∧ s.netUp u = true ∧ (s.uplink u).tx = none ∧
      (s.uplink u).egress = [] ∧ s.net.alerts = []) ∧
    (∃ (u : Nat) (s : State), s.ptpRole = 2 ∧ u = s.ptpPort ∧ (s.txq u).length < 16 ∧ s.netUp u = true ∧ (s.uplink u).tx = none ∧
      (s.uplink u).egress = [] ∧ s.net.alerts = []) ∧
    (∃ (u n time : Nat) (s : State), s.netUp u = true ∧ (s.uplink u).tx.isSome = true ∧ (s.uplink u).egress = [s.ptpFrame u 8 n time 0 0
      none] ∧ s.net.alerts = []) ∧
    (∃ (u : Nat) (s : State), s.ptpRole = 2 ∧ u = s.ptpPort ∧ s.netUp u = true) :=
  ⟨⟨0, (withQ (busy (ps 2 0 1 {})) 15 0), by decide +kernel⟩,
  ⟨0, (withQ (busy (ps 2 0 1 {})) 0 0), by decide +kernel⟩,
  ⟨0, (withQ (ps 2 0 1 {}) 0 0), by decide +kernel⟩,
  ⟨0, (withQ (ps 2 0 1 {}) 15 1), by decide +kernel⟩,
  ⟨0, 9, 55, (up0 (withQ (ps 2 0 1 {}) 15 0) { tx := some (fr 1), egress := [(ps 2 0 1 {}).ptpFrame 0 8 9 55 0 0 none] }),
    by decide +kernel⟩,
  ⟨0, (withQ (ps 2 0 1 {}) 0 0), by decide +kernel⟩⟩

/-- States and operands that meet the hypotheses of PtpMastersSendAndAreChosen, clauses 4 to 8. -/
theorem test_PtpMastersSendAndAreChosen_2 :
    (∃ (u : Nat) (s : State), s.ptpRole = 2 ∧ u = s.ptpPort ∧ s.netUp u = true) ∧
    (∃ (m : PtpMsg) (s : State), s.ptpRole = 2 ∧ m.uplink = s.ptpPort ∧ m.domain = s.ptpDomain ∧ s.netUp m.uplink = true) ∧
    (∃ (m : PtpMsg) (s : State), s.ptpRole = 2 ∧ m.uplink = s.ptpPort ∧ m.domain = s.ptpDomain ∧ s.netUp m.uplink = true) ∧
    (∃ (q : Nat) (rest : List Nat) (s : State), q < 2 ∧ Tab.get [] s.ptp.held q = 0 :: rest ∧ (s.txq q).length < 16 ∧ s.netUp q = true ∧
      (s.uplink q).tx.isSome = true) ∧
    (∃ (q : Nat) (s : State), q ≠ 2 ∧ (Tab.get [] s.ptp.held q = [] ∨ 16 ≤ (s.txq q).length)) ∧
    (∃ (u : Nat) (s : State), s.ptpRole ≠ 2 ∨ u ≠ s.ptpPort) :=
  ⟨⟨0, (withQ (busy (ps 2 0 1 {})) 0 0), by decide +kernel⟩,
  ⟨(msg true 9), (ps 2 0 1 {}), by decide +kernel⟩,
  ⟨(msg true 9), (busy (ps 2 0 1 {})), by decide +kernel⟩,
  ⟨0, [1], { withQ (busy (ps 2 0 1 {})) 15 0 with ptp := { txq := [], held := [(0,[0,1])], seqs := [] } }, by decide +kernel⟩,
  ⟨0, (ps 2 0 1 {}), by decide +kernel⟩,
  ⟨1, (ps 2 0 1 {}), by decide +kernel⟩⟩

/-- States and operands that meet the hypotheses of PtpMastersSendAndAreChosen, clauses 9 to 12. -/
theorem test_PtpMastersSendAndAreChosen_3 :
    (∃ (u : Nat) (s : State), s.ptpRole ≠ 2 ∨ u ≠ s.ptpPort) ∧
    (∃ (m : PtpMsg) (s : State), s.ptpRole ≠ 2 ∨ m.uplink ≠ s.ptpPort ∨ m.domain ≠ s.ptpDomain) ∧
    (∃ (m : PtpMsg) (s : State), s.ptpRole ≠ 2 ∨ m.uplink ≠ s.ptpPort ∨ m.domain ≠ s.ptpDomain) ∧
    (∃ (u : Nat) (a : Announce) (alt : Bool) (s : State), a.domain = s.ptpDomain ∧ s.ptpRole ≠ 2 ∧ s.uplinkRef u = some alt) ∧
    (∃ (u : Nat) (a : Announce) (alt : Bool) (s : State), a.domain = s.ptpDomain ∧ s.ptpRole ≠ 2 ∧ s.uplinkRef u = some alt) ∧
    (∃ (u : Nat) (a : Announce) (s : State), a.domain = s.ptpDomain ∧ s.ptpRole = 2 ∧ u = s.ptpPort) :=
  ⟨⟨0, (ps 1 0 1 {}), by decide +kernel⟩,
  ⟨(msg true 9), (ps 1 0 1 {}), by decide +kernel⟩,
  ⟨{ msg true 9 with domain := 3 }, (ps 2 0 1 {}), by decide +kernel⟩,
  ⟨0, (ann 1 5), false, (ps 1 0 1 {}), by decide +kernel⟩,
  ⟨1, (ann 0 5), true, (ps 1 1 1 (sv 0 0 0 0 true)), by decide +kernel⟩,
  ⟨0, (ann 0 5), (ps 2 0 1 {}), by decide +kernel⟩⟩

/-- States and operands that meet the hypotheses of PtpMastersSendAndAreChosen, clauses 12 to 13. -/
theorem test_PtpMastersSendAndAreChosen_4 :
    (∃ (u : Nat) (a : Announce) (s : State), a.domain = s.ptpDomain ∧ s.ptpRole = 2 ∧ u = s.ptpPort) ∧
    (∃ (u : Nat) (a : Announce) (s : State), a.domain ≠ s.ptpDomain) :=
  ⟨⟨0, (ann 255 5), (ps 2 0 1 {} [(.FOREIGN_CNT,0,0xFFFFFFFF)]), by decide +kernel⟩,
  ⟨0, { ann 0 5 with domain := 1 }, (ps 1 0 1 {}), by decide +kernel⟩⟩

end W2

namespace W3

def beat (n : Nat) (idle : Bool) : BeatRec := ⟨n, ⟨1,5⟩, 3, 4, false, idle, false, false, 1, [], 9, [], 2, 7⟩
def prt (links cue : Nat) : Elem := el 0 6 5 64 [(8,1,links),(14,1,cue),(15,1,2)]
def strmE (i out : Nat) : Elem := el 0 8 i 64 [(8,1,5),(9,1,1),(10,1,2),(11,1,0x2A),(12,2,4),(14,2,3),(16,1,out)]
def pipeE : Elem := el 0 9 2 128 [(9,1,1),(12,2,7)]
def sensE : Elem := el 0 7 21 64 [(8,1,0x36),(9,1,2),(12,1,2),(13,1,2)]
def frm (c : Nat) (o : Bool) : Frame := ⟨9, 3, 4, o, c, c, false, false, false⟩
def ports (idle : Bool) (out : Nat) (x : StreamSt) (y : Port) (r : List (RegId × Nat × Nat) := []) : State :=
  { sc [prt 1 0xFF, strmE 7 out, pipeE, sensE] ([(.ALERT_CTRL,0,3)] ++ r) with
    tempo := { State.reset.tempo with isOpen := true, beats := [beat 10 idle, beat 9 false] }, streams := [(7,x)], ports := [(5,y)], clock := ⟨2, 999, 5, 5000⟩ }
def bun (n : Nat) : DueBundle := ⟨0, 3, 21, 12, false, false, toLe 4 0 ++ toLe 4 0 ++ toLe 2 21 ++ [BitVec.ofNat 8 n, 0] ++ toLe 4 77 ++ (List.range 64).map (BitVec.ofNat 8)⟩
def rb (n d : Nat) (rt st : Bool) : RunBundle := ⟨bun n, d, rt, 9, st, false⟩
def pk (ecc : Nat) (crc : Bool) (n : Nat) : LongPacket := ⟨5, 1, 2, 0x2A, ecc, crc, List.replicate n 7, true⟩
def bl (n : Nat) : BufLine := ⟨0, 7, 9, 0, ⟨0,0⟩, 0, List.replicate n 1⟩
def cmd : Nat := 2^31 + 0x36 + 0x100 + 0x600


/-- States and operands that meet the hypotheses of FramesOpenAndClose, clauses 1 to 3. -/
theorem test_FramesOpenAndClose_1 :
    (∃ (port link vc : Nat) (corrected first : Bool) (e : Elem) (b : BeatRec) (s : State), s.heard port link first ∧ s.vcStreams port link
      vc = [e] ∧ s.beat? = some b ∧ b.idle = false ∧ ((∀ f ∈ (s.strm e.id).frames, f.beat ≠ b.num))) ∧
    (∃ (port link vc : Nat) (corrected first : Bool) (e : Elem) (b : BeatRec) (s : State), s.heard port link first ∧ s.vcStreams port link
      vc = [e] ∧ s.beat? = some b ∧ b.idle = false ∧ ((∀ f ∈ (s.strm e.id).frames, f.beat ≠ b.num))) ∧
    (∃ (port link vc : Nat) (corrected first : Bool) (e : Elem) (s : State), s.heard port link first ∧ s.vcStreams port link vc = [e] ∧
      e.u8 8 = port ∧ ((s.beat? = none ∨ ∃ b, s.beat? = some b ∧ (b.idle = true ∨ ∃ f ∈ (s.strm e.id).frames, f.beat = b.num)))) ∧
    (∃ (port link vc : Nat) (corrected first : Bool) (e : Elem) (s : State), s.heard port link first ∧ s.vcStreams port link vc = [e] ∧
      e.u8 8 = port ∧ ((s.beat? = none ∨ ∃ b, s.beat? = some b ∧ (b.idle = true ∨ ∃ f ∈ (s.strm e.id).frames, f.beat = b.num)))) ∧
    (∃ (port link vc : Nat) (corrected first : Bool) (s : State), s.linkOn port link = false ∨ (first = false ∧ (s.port
      port).skip.contains link = true)) ∧
    (∃ (port link vc : Nat) (corrected first : Bool) (s : State), s.linkOn port link = false ∨ (first = false ∧ (s.port
      port).skip.contains link = true)) :=
  ⟨⟨5, 1, 2, true, true, (strmE 7 2), (beat 10 false), (ports false 2 { seq := 65535, gen := 1, coming := [(0,8),(5,9)] }
    { windows := [1,2], due := [bun 2], run := some (rb 3 1 false false) }), by decide +kernel⟩,
  ⟨5, 1, 2, false, true, (strmE 7 0xFF), (beat 10 false), (ports false 255 { seq := 65535, gen := 1, coming := [(0,8),(5,9)] } {}
    [(.P_STATUS,5,0xF)]), by decide +kernel⟩,
  ⟨5, 1, 2, true, true, (strmE 7 2), (ports true 2 { seq := 65535, gen := 1, coming := [(0,8),(5,9)] }
    { windows := [1,2], due := [bun 2], run := some (rb 3 1 false false) }), by decide +kernel⟩,
  ⟨5, 1, 2, true, true, (strmE 7 2),
    { ports false 2 { seq := 65535, gen := 1, coming := [(0,8),(5,9)] } { windows := [1,2], due := [bun 2], run := some (rb 3 1 false false) } with tempo := State.reset.tempo },
    by decide +kernel⟩,
  ⟨5, 2, 2, true, true, (ports true 2 { seq := 65535, gen := 1, coming := [(0,8),(5,9)] }
    { windows := [1,2], due := [bun 2], run := some (rb 3 1 false false) }), by decide +kernel⟩,
  ⟨5, 1, 2, true, false, (ports true 2 { seq := 65535, gen := 1, coming := [(0,8),(5,9)] } { skip := [1] }), by decide +kernel⟩⟩

/-- States and operands that meet the hypotheses of FramesOpenAndClose, clause 4. -/
theorem test_FramesOpenAndClose_2 :
    (∃ (port link vc : Nat) (corrected first : Bool) (e : Elem) (f : Frame) (s : State), s.heard port link first ∧ s.vcStreams port link
      vc = [e] ∧ (s.strm e.id).openFrame = some f) ∧
    (∃ (port link vc : Nat) (corrected first : Bool) (e : Elem) (f : Frame) (s : State), s.heard port link first ∧ s.vcStreams port link
      vc = [e] ∧ (s.strm e.id).openFrame = some f) :=
  ⟨⟨5, 1, 2, true, true, (strmE 7 2), (frm 2 true), (ports false 2 { mode := .taking, frames := [frm 2 true], seq := 3 }
    { windows := [1,2], due := [bun 2], run := some (rb 3 1 false false) }), by decide +kernel⟩,
  ⟨5, 1, 2, false, true, (strmE 7 2), (frm 4 true), (ports false 2 { mode := .taking, frames := [frm 4 true], seq := 3 }
    { windows := [1,2], due := [bun 2], run := some (rb 3 1 false false) } [(.STR_SHORT,7,0xFFFFFFFF)]), by decide +kernel⟩⟩

/-- States and operands that meet the hypotheses of LongPacketsBecomeLines, clauses 1 to 6. -/
theorem test_LongPacketsBecomeLines_1 :
    (∃ (k : LongPacket) (s : State), s.linkOn k.port k.link = false) ∧
    (∃ (k : LongPacket) (s : State), s.heard k.port k.link k.first ∧ s.bufferPiped k.port ∧ k.ecc = 2) ∧
    (∃ (k : LongPacket) (s : State), s.linkOn k.port k.link = true ∧ k.first = false ∧ (s.port k.port).skip.contains k.link = true ∧
      s.bufferPiped k.port) ∧
    (∃ (k : LongPacket) (s : State), s.heard k.port k.link k.first ∧ s.bufferPiped k.port ∧ k.ecc = 0 ∧ k.crcOk = true ∧ s.packetStream k
      = none) ∧
    (∃ (k : LongPacket) (e : Elem) (f : Frame) (s : State), s.heard k.port k.link k.first ∧ s.bufferPiped k.port ∧ k.ecc = 0 ∧ k.crcOk =
      false ∧ s.packetStream k = some e ∧ (s.strm e.id).mode = .taking ∧ (s.strm e.id).frames = [f] ∧ f.isOpen = true) ∧
    (∃ (k : LongPacket) (e : Elem) (f : Frame) (s : State), s.heard k.port k.link k.first ∧ s.bufferPiped k.port ∧ k.ecc = 0 ∧ k.crcOk =
      true ∧ s.packetStream k = some e ∧ 8 * k.payload.length ≠ streamWidth e * dtBits k.dt ∧ (s.strm e.id).mode = .taking ∧ (s.strm
      e.id).frames = [f] ∧ f.isOpen = true) :=
  ⟨⟨(pk 0 true 4), ((ports false 2 { mode := .taking, frames := [frm 0 true], seq := 3 } {}).setB .EPOCH_TAB 5 9), by decide +kernel⟩,
  ⟨(pk 2 true 4), (ports false 2 { mode := .taking, frames := [frm 0 true], seq := 3 } { buffer := [bl 5] }), by decide +kernel⟩,
  ⟨{ pk 0 true 4 with first := false }, (ports false 2 { mode := .taking, frames := [frm 0 true], seq := 3 }
    { skip := [1], buffer := [bl 5] }), by decide +kernel⟩,
  ⟨{ pk 0 true 4 with dt := 0x2B }, (ports false 2 { mode := .taking, frames := [frm 0 true], seq := 3 } {}), by decide +kernel⟩,
  ⟨(pk 0 false 4), (strmE 7 2), (frm 0 true), (ports false 2 { mode := .taking, frames := [frm 0 true], seq := 3 } {}),
    by decide +kernel⟩,
  ⟨(pk 0 true 5), (strmE 7 2), (frm 0 true), (ports false 2 { mode := .taking, frames := [frm 0 true], seq := 3 } {}), by decide +kernel⟩⟩

/-- States and operands that meet the hypotheses of LongPacketsBecomeLines, clauses 7 to 10. -/
theorem test_LongPacketsBecomeLines_2 :
    (∃ (k : LongPacket) (e : Elem) (f : Frame) (s : State), s.heard k.port k.link k.first ∧ s.bufferPiped k.port ∧ k.ecc = 0 ∧ k.crcOk =
      true ∧ s.packetStream k = some e ∧ 8 * k.payload.length = streamWidth e * dtBits k.dt ∧ (s.pipeOf e.id).isSome = true ∧ e.u8 8 =
      k.port ∧ (s.strm e.id).mode = .taking ∧ (s.strm e.id).frames = [f] ∧ f.isOpen = true ∧ f.count < streamHeight e ∧ (s.port
      k.port).fill + k.payload.length ≤ 65536) ∧
    (∃ (k : LongPacket) (e : Elem) (f : Frame) (s : State), s.heard k.port k.link k.first ∧ s.bufferPiped k.port ∧ k.ecc = 0 ∧ k.crcOk =
      true ∧ s.packetStream k = some e ∧ 8 * k.payload.length = streamWidth e * dtBits k.dt ∧ (s.pipeOf e.id).isSome = true ∧ e.u8 8 =
      k.port ∧ (s.strm e.id).mode = .taking ∧ (s.strm e.id).frames = [f] ∧ f.isOpen = true ∧ f.count < streamHeight e ∧ (s.port
      k.port).fill + k.payload.length ≤ 65536) ∧
    (∃ (k : LongPacket) (e : Elem) (f : Frame) (s : State), s.heard k.port k.link k.first ∧ s.bufferPiped k.port ∧ k.ecc = 0 ∧ k.crcOk =
      true ∧ s.packetStream k = some e ∧ 8 * k.payload.length = streamWidth e * dtBits k.dt ∧ e.u8 16 ≠ 0xFF ∧ e.u8 8 = k.port ∧ (s.strm
      e.id).mode = .taking ∧ (s.strm e.id).frames = [f] ∧ f.isOpen = true ∧ f.count < streamHeight e ∧ 65536 < (s.port k.port).fill +
      k.payload.length) ∧
    (∃ (k : LongPacket) (e : Elem) (s : State), s.heard k.port k.link k.first ∧ s.bufferPiped k.port ∧ k.ecc = 0 ∧ k.crcOk = true ∧
      s.packetStream k = some e ∧ 8 * k.payload.length = streamWidth e * dtBits k.dt ∧ e.u8 8 = k.port ∧ (((s.strm e.id).mode = .idle ∨
      ((s.strm e.id).mode = .taking ∧ ∃ f, (s.strm e.id).openFrame = some f ∧ streamHeight e ≤ f.count)))) ∧
    (∃ (k : LongPacket) (e : Elem) (s : State), s.heard k.port k.link k.first ∧ s.bufferPiped k.port ∧ k.ecc = 0 ∧ k.crcOk = true ∧
      s.packetStream k = some e ∧ 8 * k.payload.length = streamWidth e * dtBits k.dt ∧ e.u8 8 = k.port ∧ (((s.strm e.id).mode = .idle ∨
      ((s.strm e.id).mode = .taking ∧ ∃ f, (s.strm e.id).openFrame = some f ∧ streamHeight e ≤ f.count)))) ∧
    (∃ (k : LongPacket) (e : Elem) (s : State), s.heard k.port k.link k.first ∧ s.bufferPiped k.port ∧ k.ecc = 0 ∧ k.crcOk = true ∧
      s.packetStream k = some e ∧ 8 * k.payload.length = streamWidth e * dtBits k.dt ∧ e.u8 8 = k.port ∧ (s.strm e.id).mode = .late) :=
  ⟨⟨(pk 0 true 4), (strmE 7 2), (frm 2 true), (ports false 2 { mode := .taking, frames := [frm 2 true], seq := 3 }
    { buffer := [bl 65532] }), by decide +kernel⟩,
  ⟨(pk 0 true 4), (strmE 7 2), (frm 2 true), (ports false 2 { mode := .taking, frames := [frm 2 true], seq := 3 } {}
    [(.LS_SEL,0,2^15+7+2*65536)]), by decide +kernel⟩,
  ⟨(pk 0 true 4), (strmE 7 2), (frm 2 true), (ports false 2 { mode := .taking, frames := [frm 2 true], seq := 3 }
    { buffer := [bl 65533] }), by decide +kernel⟩,
  ⟨(pk 0 true 4), (strmE 7 2), (ports false 2 { mode := .taking, frames := [frm 3 true], seq := 3 } {}), by decide +kernel⟩,
  ⟨(pk 0 true 4), (strmE 7 2), (ports false 2 {} {}), by decide +kernel⟩,
  ⟨(pk 0 true 4), (strmE 7 2), (ports false 2 { mode := .late } {}), by decide +kernel⟩⟩

/-- States and operands that meet the hypotheses of LongPacketsBecomeLines, clauses 11 to 14. -/
theorem test_LongPacketsBecomeLines_3 :
    (∃ (port link : Nat) (s : State), link < 4 ∧ s.linkState port link = 2 ∧ 4 ≤ Tab.get 0 (s.port port).missed link) ∧
    (∃ (port link : Nat) (s : State), link < 4 ∧ s.linkState port link = 2 ∧ 4 ≤ Tab.get 0 (s.port port).missed link) ∧
    (∃ (port link : Nat) (s : State), s.linkState port link ≠ 2 ∨ Tab.get 0 (s.port port).missed link < 4) ∧
    (∃ (port lane : Nat) (ulps : Bool) (e : Elem) (s : State), s.elem 0x0006 port = some e ∧ s.linkOn port 0 = true ∧ laneUsed e lane =
      true ∧ (ulps = false ∨ bit 1 (e.u8 11) = false)) ∧
    (∃ (port lane : Nat) (ulps : Bool) (e : Elem) (s : State), s.elem 0x0006 port = some e ∧ s.linkOn port 0 = true ∧ laneUsed e lane =
      true ∧ (ulps = false ∨ bit 1 (e.u8 11) = false)) ∧
    (∃ (port lane : Nat) (e : Elem) (s : State), s.elem 0x0006 port = some e ∧ bit 1 (e.u8 11) = true) :=
  ⟨⟨5, 1, (ports false 2 {} { missed := [(1,4)] } [(.P_STATUS,5,0xF9)]), by decide +kernel⟩,
  ⟨5, 3, (ports false 2 {} { missed := [(3,4)] } [(.P_STATUS,5,0x99)]), by decide +kernel⟩,
  ⟨5, 1, (ports false 2 {} { missed := [(1,3)] } [(.P_STATUS,5,0xF9)]), by decide +kernel⟩,
  ⟨5, 0, true, (prt 1 0xFF), (ports false 2 {} {}), by decide +kernel⟩,
  ⟨5, 0, false, (prt 1 0xFF), (ports false 2 {} {} [(.P_LANE_ERR,5,0xFFFFFFFF)]), by decide +kernel⟩,
  ⟨5, 1, (el 0 6 5 64 [(8,1,1),(11,1,2),(14,1,0xFF)]), (sc [el 0 6 5 64 [(8,1,1),(11,1,2),(14,1,0xFF)]]), by decide +kernel⟩⟩

/-- States and operands that meet the hypotheses of LongPacketsBecomeLines, clause 15. -/
theorem test_LongPacketsBecomeLines_4 : ∃ (port lane : Nat) (ulps : Bool) (s : State), s.linkOn port 0 = false :=
  ⟨32, 0, true, State.reset, by decide +kernel⟩

/-- States and operands that meet the hypotheses of ControlBusTransfersEnd, clauses 1 to 4. -/
theorem test_ControlBusTransfersEnd_1 :
    (∃ (port : Nat) (x : RunBundle) (s : State), (s.port port).run = some x ∧ s.blockOff port = false ∧ x.done + 1 < x.b.count) ∧
    (∃ (port : Nat) (x : RunBundle) (s : State), (s.port port).run = some x ∧ s.blockOff port = false ∧ x.b.count ≤ x.done + 1) ∧
    (∃ (port : Nat) (x : RunBundle) (s : State), (s.port port).run = some x ∧ s.blockOff port = false ∧ x.b.count ≤ x.done + 1) ∧
    (∃ (port : Nat) (r : CciResult) (x : RunBundle) (s : State), (s.port port).run = some x ∧ ((r ≠ .ack ∧ r ≠ .stuck) ∨ s.blockOff port =
      true) ∧ x.retried = false) ∧
    (∃ (port : Nat) (r : CciResult) (x : RunBundle) (s : State), (s.port port).run = some x ∧ ((r ≠ .ack ∧ r ≠ .stuck) ∨ s.blockOff port =
      true) ∧ x.retried = false) ∧
    (∃ (port : Nat) (r : CciResult) (x : RunBundle) (s : State), (s.port port).run = some x ∧ ((r ≠ .ack ∧ r ≠ .stuck) ∨ s.blockOff port =
      true) ∧ x.retried = false) :=
  ⟨⟨5, (rb 3 1 true false), (ports false 2 {} { run := some (rb 3 1 true false) }), by decide +kernel⟩,
  ⟨5, (rb 2 1 true true), (ports false 2 { coming := [(1,2)] } { run := some (rb 2 1 true true), due := [bun 2], windows := [1] }),
    by decide +kernel⟩,
  ⟨5, (rb 2 1 true false), (ports false 2 { coming := [(1,2)] } { run := some (rb 2 1 true false), due := [bun 2], windows := [1] }),
    by decide +kernel⟩,
  ⟨5, .nak, (rb 2 1 false false), (ports false 2 {} { run := some (rb 2 1 false false) }), by decide +kernel⟩,
  ⟨5, .ack, (rb 2 1 false false), ((ports false 2 {} { run := some (rb 2 1 false false) }).setB .EPOCH_TAB 5 9), by decide +kernel⟩,
  ⟨5, .nak, (rb 2 1 false false), (ports false 2 {} { run := some (rb 2 1 false false) }), by decide +kernel⟩⟩

/-- States and operands that meet the hypotheses of ControlBusTransfersEnd, clauses 5 to 9. -/
theorem test_ControlBusTransfersEnd_2 :
    (∃ (port : Nat) (r : CciResult) (x : RunBundle) (s : State), (s.port port).run = some x ∧ (r ≠ .ack ∨ s.blockOff port = true) ∧
      x.retried = true) ∧
    (∃ (port : Nat) (r : CciResult) (x : RunBundle) (s : State), (s.port port).run = some x ∧ (r ≠ .ack ∨ s.blockOff port = true) ∧
      x.retried = true) ∧
    (∃ (port : Nat) (x : RunBundle) (s : State), (s.port port).run = some x ∧ s.blockOff port = false) ∧
    (∃ (port : Nat) (x : RunBundle) (s : State), (s.port port).run = some x ∧ s.blockOff port = false) ∧
    (∃ (port : Nat) (r : CciResult) (s : State), (s.port port).run = none) ∧
    (∃ (p : Path) (port : Nat) (v : Word) (s : State), port < 32 ∧ s.entryOpen p .P_CCI_CMD port = true ∧ v.getLsbD 31 = true ∧ s.rdB
      .P_CCI_STATUS port 0 = false) :=
  ⟨⟨5, .nak, (rb 2 1 true false), (ports false 2 {} { run := some (rb 2 1 true false), due := [bun 1, bun 2], windows := [1] }),
    by decide +kernel⟩,
  ⟨5, .nak, (rb 2 1 true false), (ports false 2 {} { run := some (rb 2 1 true false), due := [bun 1, bun 2], windows := [1] }),
    by decide +kernel⟩,
  ⟨5, (rb 2 1 true false), (ports false 2 {} { run := some (rb 2 1 true false), due := [bun 1, bun 2], windows := [1] }),
    by decide +kernel⟩,
  ⟨5, (rb 2 1 false false), (ports false 2 {} { run := some (rb 2 1 false false), due := [bun 1, bun 2], windows := [1] }),
    by decide +kernel⟩,
  ⟨5, .ack, (ports false 2 {} {}), by decide +kernel⟩,
  ⟨.pcie, 5, (BitVec.ofNat 32 cmd), (ports false 2 {} {} [(.P_CCI_REG,5,7),(.P_CCI_DATA,5,9)]), by decide +kernel⟩⟩

/-- States and operands that meet the hypotheses of ControlBusTransfersEnd, clauses 10 to 15. -/
theorem test_ControlBusTransfersEnd_3 :
    (∃ (p : Path) (port : Nat) (v : Word) (s : State), port < 32 ∧ s.entryOpen p .P_CCI_CMD port = true ∧ v.getLsbD 31 = true ∧ s.rdB
      .P_CCI_STATUS port 0 = false) ∧
    (∃ (p : Path) (port : Nat) (v : Word) (s : State), s.entryOpen p .P_CCI_CMD port = false ∨ v.getLsbD 31 = false ∨ s.rdB .P_CCI_STATUS
      port 0 = true) ∧
    (∃ (p : Path) (port : Nat) (v : Word) (s : State), s.entryOpen p .P_CCI_CMD port = false ∨ v.getLsbD 31 = false ∨ s.rdB .P_CCI_STATUS
      port 0 = true) ∧
    (∃ (port : Nat) (d : Direct) (s : State), (s.port port).direct = some d ∧ d.running = false ∧ (s.port port).run = none ∧ (s.port
      port).windows = [] ∧ s.blockOff port = false) ∧
    (∃ (port : Nat) (s : State), (s.port port).run.isSome = true ∨ (s.port port).windows ≠ [] ∨ (s.port port).direct = none) ∧
    (∃ (port : Nat) (d : Direct) (data : Word) (s : State), (s.port port).direct = some d ∧ d.running = true) :=
  ⟨⟨.pcie, 5, (BitVec.ofNat 32 (cmd+128)), (ports false 2 {} {} [(.P_CCI_REG,5,7),(.P_CCI_DATA,5,9)]), by decide +kernel⟩,
  ⟨.pcie, 5, 5, (ports false 2 {} {}), by decide +kernel⟩,
  ⟨.pcie, 5, (BitVec.ofNat 32 cmd), (ports false 2 {} {} [(.P_CCI_STATUS,5,1)]), by decide +kernel⟩,
  ⟨5, ⟨cmd,1,2,false,false⟩, (ports false 2 {} { direct := some ⟨cmd,1,2,false,false⟩ }), by decide +kernel⟩,
  ⟨5, (ports false 2 {} { direct := some ⟨cmd,1,2,false,false⟩, windows := [1] }), by decide +kernel⟩,
  ⟨5, ⟨cmd+0,0x12345,0xFFFFFFFF,true,true⟩, 0xFFFFFFFF, (ports false 2 {}
    { direct := some ⟨cmd+0,0x12345,0xFFFFFFFF,true,true⟩, due := [bun 2], windows := [1] }), by decide +kernel⟩⟩

/-- States and operands that meet the hypotheses of ControlBusTransfersEnd, clauses 15 to 17. -/
theorem test_ControlBusTransfersEnd_4 :
    (∃ (port : Nat) (d : Direct) (data : Word) (s : State), (s.port port).direct = some d ∧ d.running = true) ∧
    (∃ (port : Nat) (d : Direct) (data : Word) (r : CciResult) (s : State), (s.port port).direct = some d ∧ d.running = true ∧ d.retried =
      false ∧ r ≠ .ack ∧ r ≠ .stuck) ∧
    (∃ (port : Nat) (d : Direct) (data : Word) (r : CciResult) (s : State), (s.port port).direct = some d ∧ d.running = true ∧ (d.retried
      = true ∨ r = .stuck) ∧ r ≠ .ack) ∧
    (∃ (port : Nat) (d : Direct) (data : Word) (r : CciResult) (s : State), (s.port port).direct = some d ∧ d.running = true ∧ (d.retried
      = true ∨ r = .stuck) ∧ r ≠ .ack) :=
  ⟨⟨5, ⟨cmd+128,0x12345,0xFFFFFFFF,true,true⟩, 0xFFFFFFFF, (ports false 2 {}
    { direct := some ⟨cmd+128,0x12345,0xFFFFFFFF,true,true⟩, due := [bun 2], windows := [1] }), by decide +kernel⟩,
  ⟨5, ⟨cmd,1,2,true,false⟩, 0, .nak, (ports false 2 {} { direct := some ⟨cmd,1,2,true,false⟩ }), by decide +kernel⟩,
  ⟨5, ⟨cmd,1,2,true,true⟩, 0, .nak, (ports false 2 {} { direct := some ⟨cmd,1,2,true,true⟩ }), by decide +kernel⟩,
  ⟨5, ⟨cmd,1,2,true,true⟩, 0, .timeout, (ports false 2 {} { direct := some ⟨cmd,1,2,true,true⟩ }), by decide +kernel⟩⟩

end W3

namespace W4

def bt (n : Nat) (idle : Bool) : BeatRec := ⟨n, ⟨1,5⟩, 3, 4, false, idle, false, false, 1, [(4, 20)], 9, [], 2, n⟩
def sx (i w h dt pipe : Nat) : Elem := el 0 8 i 64 [(8,1,5),(9,1,1),(10,1,2),(11,1,dt),(12,2,w),(14,2,h),(16,1,pipe)]
def px (mrg fmt a b : Nat) : Elem := el 0 9 2 128 [(8,1,2),(9,1,mrg),(10,1,4),(11,1,fmt),(12,2,a),(14,2,b)]
def sl (typ v : Nat) (es : List (Nat × Nat × Nat × Nat)) : Elem :=
  el v typ 0 64 ((8,2,es.length) :: (List.zip (List.range es.length) es).flatMap fun p => [(12+8*p.1,1,p.2.1),(13+8*p.1,1,p.2.2.1),(14+8*p.1,2,p.2.2.2.1),(16+8*p.1,4,p.2.2.2.2)])
def ln (st beat line arr : Nat) : BufLine := ⟨arr, st, beat, line, ⟨1,9⟩, 6, [10,20,30,250]⟩
def pipes (l : List Elem) (buf : List BufLine) (y : Pipe) (r : List (RegId × Nat × Nat) := []) : State :=
  { sc (l ++ [sl 0x117 0 [(2,0,0,8)]]) r with
    tempo := { State.reset.tempo with isOpen := true, beats := [bt 10 false, bt 9 false] }, ports := [(5,{ buffer := buf })], pipes := [(2,y)], clock := ⟨2, 999, 5, 5000⟩ }
def pf (st beat em : Nat) (l : Tab (List (List Int))) : PipeFrame := ⟨st, beat, l, 3, em, [], [], []⟩
def wn (id kind src x y w h prod : Nat) : Elem := el 3 0xD id 64 [(8,1,kind),(10,2,src),(12,2,x),(14,2,y),(16,2,w),(18,2,h),(20,1,prod)]
def vo (v cls : Nat) : Elem := el v 4 v 64 [(8,1,cls),(9,1,1)]
def grp : Elem := el 0 0xC 4 64 [(8,1,1),(10,2,0x55),(12,2,4),(16,2,7)]
def ws (l : List Elem) (ow : Bool) (r : List (RegId × Nat × Nat) := []) : State :=
  { pipes ([sx 7 4 3 0x2A 0xFF, vo 3 1] ++ l) [] {} r with
    align := { State.reset.align with areas := [⟨0,0,4,0x1000,64⟩, ⟨1,0,7,0x1000,64⟩, ⟨2,3,2,0x2000,128⟩, ⟨2,3,3,0x2080,128⟩], rows := ((List.range 3).map fun k => (256*2^32+7*2^32 + (27+k) % 6, if k = 1 && ow then none else some ⟨27+k,[⟨0,⟨1,1⟩,3⟩],0,0⟩)) ++ ((List.range 3).map fun k => (4*2^32 + (20+k) % 6, some ⟨20+k,[⟨0,⟨1,1⟩,3⟩],0,0⟩)) } }
def ext (s : State) : State := { s with lc := { s.lc with tap := { s.lc.tap with instr := .extest } }, ready := true }
def ste (cue : Nat) : Elem := el 0 0xE 7 64 [(8,1,15),(9,1,1),(10,2,3),(28,1,cue),(29,1,0)]
def sacc : StatAcc := ⟨7, 9, 3, 4, true, [], [], [], [(0,(10,⟨1,1⟩)),(1,(21,⟨1,2⟩))], 8, false⟩
def stS (c : Bool) : State := { ws [ste 5] true with stats := [{ sacc with computed := c }, { sacc with beat := 10, computed := c }] }


/-- States and operands that meet the hypotheses of PipesTakeAndEmitLines, clauses 1 to 4. -/
theorem test_PipesTakeAndEmitLines_1 :
    (∃ (pipe p : Nat) (e x : Elem) (l : BufLine) (s : State), s.elem 0x0009 pipe = some e ∧ s.nextLine e = some (p, l) ∧ s.elem 0x0008
      l.stream = some x ∧ Tab.get 0 (s.pipe pipe).pix l.beat + streamWidth x ≤ s.rate 0 pipe) ∧
    (∃ (pipe p : Nat) (e x : Elem) (l : BufLine) (s : State), s.elem 0x0009 pipe = some e ∧ s.nextLine e = some (p, l) ∧ s.elem 0x0008
      l.stream = some x ∧ Tab.get 0 (s.pipe pipe).pix l.beat + streamWidth x ≤ s.rate 0 pipe) ∧
    (∃ (pipe p : Nat) (e x : Elem) (l : BufLine) (s : State), s.elem 0x0009 pipe = some e ∧ s.nextLine e = some (p, l) ∧ s.elem 0x0008
      l.stream = some x ∧ s.rate 0 pipe < Tab.get 0 (s.pipe pipe).pix l.beat + streamWidth x) ∧
    (∃ (pipe p : Nat) (e x : Elem) (l : BufLine) (s : State), s.elem 0x0009 pipe = some e ∧ s.nextLine e = some (p, l) ∧ s.elem 0x0008
      l.stream = some x ∧ s.rate 0 pipe < Tab.get 0 (s.pipe pipe).pix l.beat + streamWidth x) ∧
    (∃ (pipe : Nat) (s : State), s.elem 0x0009 pipe = none) ∧
    (∃ (pipe : Nat) (e : Elem) (s : State), s.elem 0x0009 pipe = some e ∧ s.nextLine e = none) :=
  ⟨⟨2, 5, (px 1 0 7 8), (sx 7 4 3 0x2A 2), (ln 7 10 1 3), (pipes [px 1 0 7 8, sx 7 4 3 0x2A 2, sx 8 4 3 0x24 2] [ln 7 10 2 4, ln 7 10 1 3,
    ln 6 10 1 1] { pix := [(10, 4)] }), by decide +kernel⟩,
  ⟨2, 5, (px 1 0 7 8), (sx 7 4 3 0x2A 2), (ln 7 10 1 3), (pipes ([px 1 0 7 8, sx 7 4 3 0x2A 2, sx 8 4 3 0x24 2] ++ [el 0 0xE 7 64
    [(8,1,3)]]) [ln 7 10 1 3] { gains := some [256] }), by decide +kernel⟩,
  ⟨2, 5, (px 1 0 7 8), (sx 7 4 3 0x2A 2), (ln 7 10 1 3), (pipes [px 1 0 7 8, sx 7 4 3 0x2A 2, sx 8 4 3 0x24 2] [ln 7 10 1 3]
    { pix := [(10, 5)] }), by decide +kernel⟩,
  ⟨2, 5, (px 2 0 7 8), (sx 8 4 3 0x2A 2), (ln 8 10 1 3), (pipes [px 2 0 7 8, sx 7 4 3 0x2A 2, sx 8 4 3 0x2A 2] [ln 8 10 1 3]
    { pix := [(10, 5)] } [(.PIPE_OVQ_CNT,2,0xFFFFFFFF)]), by decide +kernel⟩,
  ⟨5, State.reset, by decide +kernel⟩,
  ⟨2, (px 1 0 7 8), (pipes [px 1 0 7 8, sx 7 4 3 0x2A 2, sx 8 4 3 0x24 2] [ln 6 10 1 3] {}), by decide +kernel⟩⟩

/-- States and operands that meet the hypotheses of PipesTakeAndEmitLines, clauses 5 to 7. -/
theorem test_PipesTakeAndEmitLines_2 :
    (∃ (i y : Nat) (e x : Elem) (f : PipeFrame) (s : State), s.pipeOf i = some e ∧ s.elem 0x0008 i = some x ∧ (s.pipe e.id).frames.filter
      (fun g => g.stream == i) = [f] ∧ s.emitReady e f = some y) ∧
    (∃ (i : Nat) (e x : Elem) (s : State), s.pipeOf i = some e ∧ s.elem 0x0008 i = some x ∧ ((∀ f ∈ (s.pipe e.id).frames, s.emitReady e f
      = none))) ∧
    (∃ (i : Nat) (s : State), s.pipeOf i = none) :=
  ⟨⟨7, 1, (px 1 0 7 8), (sx 7 4 3 0x2A 2), (pf 7 10 1 [(1,[[1],[2],[3],[900]])]),
    ({ pipes [px 1 0 7 8, sx 7 4 3 0x2A 2, sx 8 4 3 0x24 2] [] { frames := [pf 7 10 1 [(1,[[1],[2],[3],[900]])], pf 8 10 0 []] } with streams := [(7, { mode := .late, frames := [⟨10,3,4,false,3,3,false,false,false⟩] })], align := { State.reset.align with areas := [⟨1,0,7,0x1000,64⟩] } }),
    by decide +kernel⟩,
  ⟨7, (px 1 0 7 8), (sx 7 4 3 0x2A 2), (pipes [px 1 0 7 8, sx 7 4 3 0x2A 2, sx 8 4 3 0x24 2] []
    { frames := [pf 7 10 1 [(1,[[1],[2],[3],[900]])]] }), by decide +kernel⟩,
  ⟨9, State.reset, by decide +kernel⟩⟩

/-- States and operands that meet the hypotheses of WindowsAndStatisticsComplete, clauses 1 to 5. -/
theorem test_WindowsAndStatisticsComplete_1 :
    (∃ (n r0 : Nat) (w : Elem) (x : Source) (s : State), s.cutBeat = some n ∧ (s.cutOrder n).find? (fun w => !s.isCut w n) = some w ∧
      s.winSource w = some x ∧ s.firstRow x n = some r0 ∧ s.cutReady x w n r0 = true ∧ s.extestPlays = false) ∧
    (∃ (n r0 : Nat) (w : Elem) (x : Source) (s : State), s.cutBeat = some n ∧ (s.cutOrder n).find? (fun w => !s.isCut w n) = some w ∧
      s.winSource w = some x ∧ s.firstRow x n = some r0 ∧ s.cutReady x w n r0 = true ∧ s.extestPlays = false) ∧
    (∃ (n r0 : Nat) (w : Elem) (x : Source) (s : State), s.cutBeat = some n ∧ (s.cutOrder n).find? (fun w => !s.isCut w n) = some w ∧
      s.winSource w = some x ∧ s.firstRow x n = some r0 ∧ s.cutReady x w n r0 = true ∧ s.extestPlays = true) ∧
    (∃ (n k : Nat) (w : Elem) (s : State), s.cutBeat = some n ∧ (s.cutOrder n).find? (fun w => !s.isCut w n) = some w ∧ w.id ≠ k) ∧
    (∃ (k : Nat) (s : State), s.cutBeat = none) ∧
    (∃ (i : Nat) (r e : Elem) (b : BeatRec) (s : State), s.statElem i = some r ∧ s.elem 0x0008 i = some e ∧ s.liveBeats.find? (s.statReady
      i) = some b) :=
  ⟨⟨9, 27, (wn 6 0 7 1 1 2 1 1), ⟨none, some (sx 7 4 3 0x2A 0xFF), 263, 0x1000, 6, 4, 3, 0x80⟩, (ws [wn 6 0 7 1 1 2 1 1] false),
    by decide +kernel⟩,
  ⟨9, 20, (wn 6 1 4 1 1 2 1 1), ⟨some grp, none, 4, 0x1000, 6, 4, 3, 0x80⟩, (ws [wn 6 1 4 1 1 2 1 1, grp] true), by decide +kernel⟩,
  ⟨9, 27, (wn 6 0 7 1 1 2 1 1), ⟨none, some (sx 7 4 3 0x2A 0xFF), 263, 0x1000, 6, 4, 3, 0x80⟩, (ext (ws [wn 6 0 7 1 1 2 1 1] false)),
    by decide +kernel⟩,
  ⟨9, 7, (wn 6 0 7 1 1 2 1 1), (ws [wn 6 0 7 1 1 2 1 1] false), by decide +kernel⟩,
  ⟨0, State.reset, by decide +kernel⟩,
  ⟨7, (ste 5), (sx 7 4 3 0x2A 0xFF), (bt 9 false), (stS false), by decide +kernel⟩⟩

/-- States and operands that meet the hypotheses of WindowsAndStatisticsComplete, clauses 5 to 6. -/
theorem test_WindowsAndStatisticsComplete_2 :
    (∃ (i : Nat) (r e : Elem) (b : BeatRec) (s : State), s.statElem i = some r ∧ s.elem 0x0008 i = some e ∧ s.liveBeats.find? (s.statReady
      i) = some b) ∧
    (∃ (i : Nat) (s : State), s.liveBeats.find? (s.statReady i) = none) :=
  ⟨⟨7, (ste 255), (sx 7 4 3 0x2A 0xFF), (bt 9 false), { ws [ste 255] true with regs := ((ws [ste 255] true).wr .STAT_STATUS 7 256).regs },
    by decide +kernel⟩,
  ⟨7, (stS true), by decide +kernel⟩⟩

end W4

namespace W5
open W4

def sv (id kind sub : Nat) (fs : List (Nat × Nat × Nat) := []) : Elem := el 3 0xF id 128 ([(8,1,kind),(9,1,sub),(10,2,6),(12,8,0x10000),(20,8,0x10100),(28,4,1),(32,4,2)] ++ fs)
def mk : Elem := el 3 0xF 5 128 [(8,1,1),(9,1,0),(10,2,6),(12,8,0x10000),(28,4,1),(32,2,1),(34,2,1)]
def wA : Elem := wn 6 0 7 1 1 2 1 1
def xA : Source := ⟨none, some (sx 7 4 3 0x2A 0xFF), 263, 0x1000, 6, 4, 3, 0x80⟩
def le (rd : Bool) : TlbEntry := ⟨3, false, 1, some 0x4000, 0x4000, rd, true⟩
def sS (l : List Elem) (f : Services → Services) (tlb : List TlbEntry := []) (r : List (RegId × Nat × Nat) := []) : State :=
  let s := ws ([wA, vo 4 2, vo 6 2, sl 0x17 3 [(0x10,1,2,8),(0x10,1,20,4)], sl 0x17 4 [(0x10,1,12,4)]] ++ l) false r
  let s := { s with load := { s.load with eff := s.load.eff.map fun e => if e == vo 3 1 then vo 3 2 else e } }
  { s with svc := f s.svc, trans := { s.trans with tlb := tlb }, tempo := { s.tempo with playing := true, last := 4900 }, clock := ⟨2,999,5,5000⟩ }
def jb (i : Nat) (t : Tab Tile) (c : Bool := false) : Job := ⟨i,3,9,t,c,0,0,false⟩
def stg : Tile := ⟨.staged,true,[],[1,2],[3,4],[0,255],[false,false]⟩
def lg : Elem := el 0 0xC 4 64 [(8,1,1),(9,1,1),(10,2,0x55),(12,2,4),(16,2,7)]
def wG : Elem := wn 6 1 4 1 1 2 1 1
def gS (l : List Elem) (rows : Bool) (f : Services → Services) : State :=
  let s := ws ([wG, lg, vo 4 2, vo 6 2, sl 0x17 3 [(0x10,1,2,8),(0x10,1,20,4)], sl 0x17 4 [(0x10,1,12,4)]] ++ l) false []
  { s with svc := f s.svc, align := { s.align with rows := if rows then s.align.rows else [] }, tempo := { s.tempo with playing := true, last := 4900 }, clock := ⟨2,999,5,5000⟩ }
def gP : State := let s := gS [sv 2 0 0, px 1 0 7 8] false (fun x => x)
  { s with load := { s.load with eff := s.load.eff.map fun e => if e == sx 7 4 3 0x2A 0xFF then sx 7 4 3 0x2A 2 else e }, ports := [(5, { buffer := [ln 7 9 1 3] })] }
def bar : List (RegId × Nat × Nat) := [(.BAR_TICK,0,20000)]


/-- States and operands that meet the hypotheses of ServiceTilesRun, clauses 1 to 3. -/
theorem test_ServiceTilesRun_1 :
    (∃ (eng v : Nat) (k : Nat × Nat) (s : State), s.tempo.isOpen = true ∧ s.tempo.playing = true ∧ (sortBy (·.1) (s.slotsOf v eng)).find?
      (fun k => decide (s.clock.elapsed < s.tickTime k.2)) = some k) ∧
    (∃ (eng v : Nat) (k : Nat × Nat) (s : State), s.tempo.isOpen = true ∧ s.tempo.playing = true ∧ (sortBy (·.1) (s.slotsOf v eng)).find?
      (fun k => decide (s.clock.elapsed < s.tickTime k.2)) = some k) ∧
    (∃ (eng v : Nat) (s : State), s.tempo.isOpen = false ∨ s.tempo.playing = false ∨ (∀ k ∈ s.slotsOf v eng, s.tickTime k.2 ≤
      s.clock.elapsed)) ∧
    (∃ (eng v : Nat) (s : State), s.tempo.isOpen = false ∨ s.tempo.playing = false ∨ (∀ k ∈ s.slotsOf v eng, s.tickTime k.2 ≤
      s.clock.elapsed)) ∧
    (∃ (inst tile n r0 : Nat) (r : MemAnswers) (e w : Elem) (x : Source) (s u : State), s.cutBeat = some n ∧ s.svcElem inst = some e ∧
      s.svcWin e = some w ∧ s.dropKnown w n = true ∧ s.svcDropped w n = (u, false) ∧ s.winSource w = some x ∧ u.firstRow x n = some r0) ∧
    (∃ (inst tile n r0 : Nat) (r : MemAnswers) (e w : Elem) (x : Source) (s u : State), s.cutBeat = some n ∧ s.svcElem inst = some e ∧
      s.svcWin e = some w ∧ s.dropKnown w n = true ∧ s.svcDropped w n = (u, false) ∧ s.winSource w = some x ∧ u.firstRow x n = some r0) :=
  ⟨⟨0, 3, (2, 10), (sS [] (fun x => x) [] bar), by decide +kernel⟩,
  ⟨0, 3, (20, 24), { sS [] (fun x => x) [] bar with clock := ⟨2,999,5,4900+10*20000*2^24⟩ }, by decide +kernel⟩,
  ⟨0, 3, (r0 []), by decide +kernel⟩,
  ⟨1, 3, (sS [] (fun x => x) [] bar), by decide +kernel⟩,
  ⟨1, 0, 9, 27, {}, (sv 1 2 0), wA, xA, (sS [sv 1 2 0] (fun x => x)), (sS [sv 1 2 0] (fun x => x)), by decide +kernel⟩,
  ⟨2, 0, 9, 27, {}, (sv 2 0 0), wA, xA, (sS [sv 2 0 0] (fun x =>
    { x with jobs := [jb 2 [(0, { begun := true, inputs := [[7,8,9]], pixels := [5], fill := [true] })]] }) [le true]), (sS [sv 2 0 0]
    (fun x => { x with jobs := [jb 2 [(0, { begun := true, inputs := [[7,8,9]], pixels := [5], fill := [true] })]] }) [le true]),
    by decide +kernel⟩⟩

/-- States and operands that meet the hypotheses of ServiceTilesRun, clauses 4 to 7. -/
theorem test_ServiceTilesRun_2 :
    (∃ (inst tile n : Nat) (r : MemAnswers) (e w : Elem) (s u : State), s.cutBeat = some n ∧ s.svcElem inst = some e ∧ s.svcWin e = some w
      ∧ s.dropKnown w n = false) ∧
    (∃ (inst tile n : Nat) (r : MemAnswers) (e w : Elem) (s u : State), s.cutBeat = some n ∧ s.svcElem inst = some e ∧ s.svcWin e = some w
      ∧ s.dropKnown w n = true ∧ s.svcDropped w n = (u, true)) ∧
    (∃ (eng n : Nat) (e : Elem) (tile : Option Nat) (lent : Bool) (s : State), s.engine eng = none ∧ s.cutBeat = some n ∧ s.pickUnit eng n
      = some (e, tile, lent)) ∧
    (∃ (eng n : Nat) (e : Elem) (tile : Option Nat) (lent : Bool) (s : State), s.engine eng = none ∧ s.cutBeat = some n ∧ s.pickUnit eng n
      = some (e, tile, lent)) ∧
    (∃ (eng : Nat) (s : State), (s.engine eng).isSome = true ∨ s.cutBeat = none) ∧
    (∃ (eng : Nat) (s : State), (s.engine eng).isSome = true ∨ s.cutBeat = none) :=
  ⟨⟨2, 0, 9, {}, (sv 2 0 0), wG, gP, gP, by decide +kernel⟩,
  ⟨2, 0, 9, {}, (sv 2 0 0), wG, (gS [sv 2 0 0] false (fun x => x)), ((gS [sv 2 0 0] false (fun x => x)).svcDropped wG 9).1,
    by decide +kernel⟩,
  ⟨0, 9, (sv 2 0 0), (some 0), false, (sS [sv 2 0 0] (fun x => { x with jobs := [jb 2 [(0,stg)]], slot := [(0, some (3,2000))] }) [] bar),
    by decide +kernel⟩,
  ⟨6, 9, (sv 1 2 0), (some 0), true, (sS [sv 1 2 0] (fun x => { x with jobs := [jb 1 [(0,stg)]], held := [(1,8),(1,9),(2,7)] }) [] bar),
    by decide +kernel⟩,
  ⟨0, State.reset, by decide +kernel⟩,
  ⟨0, (sS [] (fun x => { x with running := [(0,some ⟨1,9,none,false,0⟩)] })), by decide +kernel⟩⟩

/-- States and operands that meet the hypotheses of ServiceTilesRun, clauses 8 to 11. -/
theorem test_ServiceTilesRun_3 :
    (∃ (eng n : Nat) (s : State), s.cutBeat = some n ∧ s.pickUnit eng n = none) ∧
    (∃ (eng : Nat) (q : Running) (s : State), s.engine eng = some q ∧ s.cutBeat ≠ some q.beat) ∧
    (∃ (eng : Nat) (q : Running) (s : State), s.engine eng = some q ∧ s.cutBeat ≠ some q.beat) ∧
    (∃ (eng k r0 : Nat) (q : Running) (e w : Elem) (x : Source) (s : State), s.engine eng = some q ∧ s.cutBeat = some q.beat ∧ q.tile =
      some k ∧ s.svcElem q.inst = some e ∧ s.svcWin e = some w ∧ s.winSource w = some x ∧ s.firstRow x q.beat = some r0 ∧ (s.job q.inst
      e.voice q.beat).live = true ∧ (s.svc.jobs.any fun y => y.inst == q.inst && y.beat == q.beat) = true ∧ svcKind e < 2) ∧
    (∃ (eng k r0 : Nat) (q : Running) (e w : Elem) (x : Source) (s : State), s.engine eng = some q ∧ s.cutBeat = some q.beat ∧ q.tile =
      some k ∧ s.svcElem q.inst = some e ∧ s.svcWin e = some w ∧ s.winSource w = some x ∧ s.firstRow x q.beat = some r0 ∧ (s.job q.inst
      e.voice q.beat).live = true ∧ (s.svc.jobs.any fun y => y.inst == q.inst && y.beat == q.beat) = true ∧ svcKind e < 2) ∧
    (∃ (eng : Nat) (s : State), s.engine eng = none) :=
  ⟨⟨0, 9, (sS [] (fun x => x)), by decide +kernel⟩,
  ⟨0, ⟨2,8,some 0,true,9000⟩, (sS [sv 2 0 0] (fun x =>
    { x with jobs := [jb 2 [(0,stg)]], running := [(0,some ⟨2,8,some 0,true,9000⟩)] })), by decide +kernel⟩,
  ⟨0, ⟨9,10,none,false,0⟩, (sS [] (fun x => { x with running := [(0,some ⟨9,10,none,false,0⟩)] })), by decide +kernel⟩,
  ⟨0, 0, 27, ⟨2,9,some 0,true,9000⟩, (sv 2 0 0), wA, xA, (sS [sv 2 0 0] (fun x =>
    { x with jobs := [jb 2 [(0,{ stg with st := .running })]], running := [(0,some ⟨2,9,some 0,true,9000⟩)] })), by decide +kernel⟩,
  ⟨4, 0, 27, ⟨5,9,some 0,true,9000⟩, mk, wA, xA, (sS [mk] (fun x =>
    { x with jobs := [jb 5 [(0,{ stg with st := .running })] true], running := [(4,some ⟨5,9,some 0,true,9000⟩)] })), by decide +kernel⟩,
  ⟨7, State.reset, by decide +kernel⟩⟩

end W5

namespace W6
open W4 W5

def rg (d m : Bool) (l p c : Nat) : Ring := ⟨true, 0x10000, l, d, m, p, c⟩
def dme (v q : Nat) : Elem := el v 0x10 2 64 [(8,1,0),(10,1,q),(11,1,14)]
def vs (q : Tab Ring) (c : Chan := {}) (tr : Trans → Trans := fun x => x) (r : List (RegId × Nat × Nat) := []) : State :=
  let s := sc [vo 3 1, dme 3 5, el 0 3 3 64 [(8,2,1),(16,8,0x4000),(24,8,0x20000)]] ([(.ALERT_CTRL,0,3)] ++ r)
  { s with queues := q, dma := { s.dma with ch := [(2,c)] }, trans := tr s.trans, clock := ⟨2,3,4,5⟩ }
def po (v q n : Nat) : Post := ⟨v,q,3,0,false,n,[],none,if n = 2 then some 6 else none⟩
def tl (l : List TlbEntry) (t : Trans) : Trans := { t with tlb := l }
def fe (op : FaultOp) : Fermata := ⟨3, op, 0x10040, .notPresent, 2, some 9, 0, 2⟩
def inS (f : Fermata) (t : Trans) : Trans := { t with slots := [(3*16+4, some f)], tags := [(3*16+4, 15)] }
def full16 (t : Trans) : Trans := { t with slots := (List.range 16).map fun k => (3*16+k, some (fe (.fetch 2))) }
def dsc (i : Nat) : Desc := ⟨i, some 0x5000, zeros 32, none, 64, 0, [], [], 0, [], [], false, none, none⟩


/-- States and operands that meet the hypotheses of DoorbellsAndPageViolations, clauses 1 to 3. -/
theorem test_DoorbellsAndPageViolations_1 :
    (∃ (p : Path) (v q : Nat) (w : Word) (s : State), s.pageOpen p v ∧ q < 15 ∧ (s.ring v q).present = true ∧ (s.ring v q).toDev = true ∧
      (w.toNat + 2 ^ 32 - (s.ring v q).prod) % 2 ^ 32 ≤ 2 ^ (s.ring v q).log2 ∧ (w.toNat + 2 ^ 32 - (s.ring v q).cons) % 2 ^ 32 ≤ 2 ^
      (s.ring v q).log2) ∧
    (∃ (p : Path) (v q : Nat) (w : Word) (s : State), s.pageOpen p v ∧ q < 15 ∧ (s.ring v q).present = true ∧ (s.ring v q).toDev = true ∧
      (w.toNat + 2 ^ 32 - (s.ring v q).prod) % 2 ^ 32 ≤ 2 ^ (s.ring v q).log2 ∧ (w.toNat + 2 ^ 32 - (s.ring v q).cons) % 2 ^ 32 ≤ 2 ^
      (s.ring v q).log2) ∧
    (∃ (p : Path) (v q : Nat) (w : Word) (s : State), s.pageOpen p v ∧ q < 16 ∧ (s.ring v q).present = true ∧ (s.ring v q).toDev = false ∧
      (w.toNat + 2 ^ 32 - (s.ring v q).cons) % 2 ^ 32 ≤ ((s.ring v q).prod + 2 ^ 32 - (s.ring v q).cons) % 2 ^ 32) ∧
    (∃ (p : Path) (v q : Nat) (w : Word) (s : State), s.pageOpen p v ∧ q < 16 ∧ (s.ring v q).present = true ∧ (s.ring v q).toDev = false ∧
      (w.toNat + 2 ^ 32 - (s.ring v q).cons) % 2 ^ 32 ≤ ((s.ring v q).prod + 2 ^ 32 - (s.ring v q).cons) % 2 ^ 32) ∧
    (∃ (p : Path) (v q : Nat) (w : Word) (s : State), s.pageOpen p v ∧ q < 16 ∧ (s.ring v q).present = true ∧ (((s.ring v q).toDev = true
      ∧ (2 ^ (s.ring v q).log2 < (w.toNat + 2 ^ 32 - (s.ring v q).prod) % 2 ^ 32 ∨ 2 ^ (s.ring v q).log2 < (w.toNat + 2 ^ 32 - (s.ring v
      q).cons) % 2 ^ 32) ∨ (s.ring v q).toDev = false ∧ ((s.ring v q).prod + 2 ^ 32 - (s.ring v q).cons) % 2 ^ 32 < (w.toNat + 2 ^ 32 -
      (s.ring v q).cons) % 2 ^ 32))) ∧
    (∃ (p : Path) (v q : Nat) (w : Word) (s : State), s.pageOpen p v ∧ q < 16 ∧ (s.ring v q).present = true ∧ (((s.ring v q).toDev = true
      ∧ (2 ^ (s.ring v q).log2 < (w.toNat + 2 ^ 32 - (s.ring v q).prod) % 2 ^ 32 ∨ 2 ^ (s.ring v q).log2 < (w.toNat + 2 ^ 32 - (s.ring v
      q).cons) % 2 ^ 32) ∨ (s.ring v q).toDev = false ∧ ((s.ring v q).prod + 2 ^ 32 - (s.ring v q).cons) % 2 ^ 32 < (w.toNat + 2 ^ 32 -
      (s.ring v q).cons) % 2 ^ 32))) :=
  ⟨⟨.pcie, 3, 5, 3, (vs [(3*16+5, rg true true 2 0xFFFFFFFF 0xFFFFFFFF)] { mode := .stopped }), by decide +kernel⟩,
  ⟨.pcie, 0, 5, 3, (vs [(5, rg true true 2 3 0)]), by decide +kernel⟩,
  ⟨.pcie, 3, 15, 5, { vs [(3*16+15, rg false true 2 5 1)] with posts := [po 3 15 1, po 3 15 2, po 3 4 1] }, by decide +kernel⟩,
  ⟨.pcie, 3, 5, 1, (vs [(3*16+5, rg false true 2 5 1)]), by decide +kernel⟩,
  ⟨.pcie, 3, 5, 4, (vs [(3*16+5, rg true true 2 0xFFFFFFFF 0xFFFFFFFF)]), by decide +kernel⟩,
  ⟨.pcie, 3, 0, 6, (vs [(3*16, rg false true 2 5 1)] {} id [(.VW_QPOST,3,0xFFFF)]), by decide +kernel⟩⟩

/-- States and operands that meet the hypotheses of DoorbellsAndPageViolations, clauses 4 to 6. -/
theorem test_DoorbellsAndPageViolations_2 :
    (∃ (p : Path) (v q : Nat) (w : Word) (s : State), s.pageOpen p v ∧ q < 16 ∧ (s.ring v q).present = false) ∧
    (∃ (p : Path) (v q : Nat) (w : Word) (s : State), s.pageOpen p v ∧ q < 16 ∧ (s.ring v q).present = false) ∧
    (∃ (p : Path) (v : Nat) (s : State) (c : Instr) (ofs : Nat), p ≠ .debug ∧ s.domUp .FABRIC = true ∧ v < 1024 ∧ s.declared v = false ∧
      (((∃ q w, c = .doorbellWrite p v q w ∧ q < 16 ∧ ofs = 0x1000 + 8 * q) ∨ (∃ w, c = .vwIrqMaskWrite p v w ∧ ofs = 0x2C) ∨ (∃ w, c =
      .ptrootWrite p v w ∧ ofs = 0x58) ∨ (∃ w, c = .tlbInvalidate p v w ∧ ofs = 0x60) ∨ (∃ k g, (c = .faultRetry p v k g ∨ c = .faultSkip
      p v k g ∨ c = .faultAbort p v k g) ∧ ofs = 0x68)))) ∧
    (∃ (p : Path) (v : Nat) (s : State) (c : Instr) (ofs : Nat), p ≠ .debug ∧ s.domUp .FABRIC = true ∧ v < 1024 ∧ s.declared v = false ∧
      (((∃ q w, c = .doorbellWrite p v q w ∧ q < 16 ∧ ofs = 0x1000 + 8 * q) ∨ (∃ w, c = .vwIrqMaskWrite p v w ∧ ofs = 0x2C) ∨ (∃ w, c =
      .ptrootWrite p v w ∧ ofs = 0x58) ∨ (∃ w, c = .tlbInvalidate p v w ∧ ofs = 0x60) ∨ (∃ k g, (c = .faultRetry p v k g ∨ c = .faultSkip
      p v k g ∨ c = .faultAbort p v k g) ∧ ofs = 0x68)))) ∧
    (∃ (v : Nat) (s : State) (c : Instr), ((∃ q w, c = .doorbellWrite .debug v q w) ∨ (∃ w, c = .vwIrqMaskWrite .debug v w) ∨ (∃ w, c =
      .ptrootWrite .debug v w) ∨ (∃ w, c = .tlbInvalidate .debug v w) ∨ (∃ k g, c = .faultRetry .debug v k g ∨ c = .faultSkip .debug v k g
      ∨ c = .faultAbort .debug v k g))) ∧
    (∃ (v : Nat) (s : State) (c : Instr), ((∃ q w, c = .doorbellWrite .debug v q w) ∨ (∃ w, c = .vwIrqMaskWrite .debug v w) ∨ (∃ w, c =
      .ptrootWrite .debug v w) ∨ (∃ w, c = .tlbInvalidate .debug v w) ∨ (∃ k g, c = .faultRetry .debug v k g ∨ c = .faultSkip .debug v k g
      ∨ c = .faultAbort .debug v k g))) :=
  ⟨⟨.netctl, 3, 7, 1, (vs []), by decide +kernel⟩,
  ⟨.pcie, 3, 15, 1, (vs [] {} id [(.VIOL_CTRL,0,1),(.VOICE_VIOL_CNT,3,65535)]), by decide +kernel⟩,
  ⟨.netctl, 9, (vs []), (.doorbellWrite .netctl 9 15 4), 0x1078, by simp; decide +kernel⟩,
  ⟨.pcie, 9, (vs []), (.faultAbort .pcie 9 4 1), 0x68, by simp; decide +kernel⟩,
  ⟨3, (vs []), (.doorbellWrite .debug 3 1 1), by simp⟩,
  ⟨3, (vs []), (.faultAbort .debug 3 1 1), by simp⟩⟩

/-- States and operands that meet the hypotheses of MasksAndWaitingPosts, clauses 1 to 4. -/
theorem test_MasksAndWaitingPosts_1 :
    (∃ (p : Path) (v k : Nat) (w : Word) (s : State), s.pageOpen p v ∧ k < 2 ∧ s.rdB .VW_IRQ_MASK v k = true ∧ w.getLsbD k = false ∧ s.rdB
      .VW_IRQ_STATUS v k = true ∧ ((s.rdB .VW_IRQ_MASK v (1 - k) = false ∨ w.getLsbD (1 - k) = true ∨ s.rdB .VW_IRQ_STATUS v (1 - k) =
      false))) ∧
    (∃ (p : Path) (v k : Nat) (w : Word) (s : State), s.pageOpen p v ∧ k < 2 ∧ s.rdB .VW_IRQ_MASK v k = true ∧ w.getLsbD k = false ∧ s.rdB
      .VW_IRQ_STATUS v k = true ∧ ((s.rdB .VW_IRQ_MASK v (1 - k) = false ∨ w.getLsbD (1 - k) = true ∨ s.rdB .VW_IRQ_STATUS v (1 - k) =
      false))) ∧
    (∃ (p : Path) (v : Nat) (w : Word) (s : State), s.pageOpen p v ∧ ((∀ k, k < 2 → s.rdB .VW_IRQ_MASK v k = false ∨ w.getLsbD k = true ∨
      s.rdB .VW_IRQ_STATUS v k = false))) ∧
    (∃ (p : Path) (v : Nat) (w : Word) (s : State), s.pageOpen p v ∧ ((∀ k, k < 2 → s.rdB .VW_IRQ_MASK v k = false ∨ w.getLsbD k = true ∨
      s.rdB .VW_IRQ_STATUS v k = false))) ∧
    (∃ (p : Path) (w : Word) (s : State), s.regOpen p .FABRIC = true ∧ w.getLsbD 15 = true) ∧
    (∃ (p : Path) (w : Word) (s : State), s.regOpen p .FABRIC = false ∨ w.getLsbD 15 = false) :=
  ⟨⟨.pcie, 3, 1, 1, (vs [] {} id [(.VW_IRQ_MASK,3,2),(.VW_IRQ_STATUS,3,3)]), by decide +kernel⟩,
  ⟨.netctl, 3, 0, 2, (vs [] {} id
    [(.VW_IRQ_MASK,3,3),(.VW_IRQ_STATUS,3,3),(.HOST_LINK,0,513),(.MSIX_TABLE,24,5),(.MSIX_TABLE,26,7),(.MSIX_TABLE,27,1)]),
    by decide +kernel⟩,
  ⟨.pcie, 3, 0xFFFFFFFF, (vs [] {} id [(.VW_IRQ_MASK,3,2),(.VW_IRQ_STATUS,3,3)]), by decide +kernel⟩,
  ⟨.pcie, 3, 0, (vs [] {} id [(.VW_IRQ_MASK,3,2),(.VW_IRQ_STATUS,3,1)]), by decide +kernel⟩,
  ⟨.pcie, 0x8000, (vs [] {} id [(.VIOL_INFO,0,0x8111),(.VIOL_VA,0,4),(.VIOL_PA,0,4),(.VIOL_BEAT,0,4)]), by decide +kernel⟩,
  ⟨.pcie, 0x7FFF, (vs [] {} id [(.VIOL_INFO,0,0x8111)]), by decide +kernel⟩⟩

/-- States and operands that meet the hypotheses of MasksAndWaitingPosts, clauses 4 to 8. -/
theorem test_MasksAndWaitingPosts_2 :
    (∃ (p : Path) (w : Word) (s : State), s.regOpen p .FABRIC = false ∨ w.getLsbD 15 = false) ∧
    (∃ (v q pa : Nat) (m : MemAnswers) (p : Post) (rest : List Post) (s u : State), takeFirstPost v q s.posts = some (p, rest) ∧ (s.ring v
      q).full = false ∧ s.postFermata v q = false ∧ State.translate { s with posts := rest } v ((s.ring v q).entry (s.ring v q).prod) true
      m.walk = (u, .ok pa) ∧ memBad m.data = false ∧ u.deadAddr pa = false) ∧
    (∃ (v q pa : Nat) (m : MemAnswers) (p : Post) (rest : List Post) (s u : State), takeFirstPost v q s.posts = some (p, rest) ∧ (s.ring v
      q).full = false ∧ s.postFermata v q = false ∧ State.translate { s with posts := rest } v ((s.ring v q).entry (s.ring v q).prod) true
      m.walk = (u, .ok pa) ∧ memBad m.data = false ∧ u.deadAddr pa = false) ∧
    (∃ (v q pa : Nat) (m : MemAnswers) (p : Post) (rest : List Post) (s u : State), takeFirstPost v q s.posts = some (p, rest) ∧ (s.ring v
      q).full = false ∧ s.postFermata v q = false ∧ State.translate { s with posts := rest } v ((s.ring v q).entry (s.ring v q).prod) true
      m.walk = (u, .ok pa) ∧ (memBad m.data = true ∨ u.deadAddr pa = true)) ∧
    (∃ (v q pa : Nat) (w : Bool) (m : MemAnswers) (p : Post) (rest : List Post) (s u : State), takeFirstPost v q s.posts = some (p, rest)
      ∧ (s.ring v q).full = false ∧ s.postFermata v q = false ∧ State.translate { s with posts := rest } v ((s.ring v q).entry (s.ring v
      q).prod) true m.walk = (u, .viol pa w)) ∧
    (∃ (v q l : Nat) (c : Cause) (m : MemAnswers) (p : Post) (rest : List Post) (s u : State), takeFirstPost v q s.posts = some (p, rest)
      ∧ (s.ring v q).full = false ∧ s.postFermata v q = false ∧ State.translate { s with posts := rest } v ((s.ring v q).entry (s.ring v
      q).prod) true m.walk = (u, .fault c l)) :=
  ⟨⟨.pcie, 0x8000, closed, by decide +kernel⟩,
  ⟨3, 5, 0x4000, {}, (po 3 5 2), [po 3 4 1], { vs [(3*16+5, rg false true 2 4 1)] {} (tl [le true]) with posts := [po 3 4 1, po 3 5 2] },
    { vs [(3*16+5, rg false true 2 4 1)] {} (tl [le true]) with posts := [po 3 4 1] }, by decide +kernel⟩,
  ⟨3, 15, 0x4060, {}, (po 3 15 2), [],
    { vs [(3*16+15, rg false true 2 0xFFFFFFFF 0xFFFFFFFE)] {} (tl [le true]) with posts := [po 3 15 2] },
    { vs [(3*16+15, rg false true 2 0xFFFFFFFF 0xFFFFFFFE)] {} (tl [le true]) with posts := [] }, by decide +kernel⟩,
  ⟨3, 5, 0x4000, { data := .uncorrectable 0 }, (po 3 5 2), [po 3 4 1],
    { vs [(3*16+5, rg false true 2 4 1)] {} (tl [le true]) [(.EVL_STATUS,6,255)] with posts := [po 3 4 1, po 3 5 2] },
    { vs [(3*16+5, rg false true 2 4 1)] {} (tl [le true]) [(.EVL_STATUS,6,255)] with posts := [po 3 4 1] }, by decide +kernel⟩,
  ⟨3, 5, 0x7000, false, {}, (po 3 5 2), [],
    { vs [(3*16+5, rg false true 2 4 1)] {} (tl [{ le true with pa := none, target := 0x7000 }]) with posts := [po 3 5 2] },
    { vs [(3*16+5, rg false true 2 4 1)] {} (tl [{ le true with pa := none, target := 0x7000 }]) with posts := [] }, by decide +kernel⟩,
  ⟨3, 5, 0, .noRoot, {}, (po 3 5 2), [po 3 5 8], { vs [(3*16+5, rg false true 2 4 1)] with posts := [po 3 5 2, po 3 5 8] },
    { vs [(3*16+5, rg false true 2 4 1)] {} (fun x => x) [(.TLB_MISS_CNT,0,1)] with posts := [po 3 5 8] }, by decide +kernel⟩⟩

/-- States and operands that meet the hypotheses of MasksAndWaitingPosts, clauses 8 to 9. -/
theorem test_MasksAndWaitingPosts_3 :
    (∃ (v q l : Nat) (c : Cause) (m : MemAnswers) (p : Post) (rest : List Post) (s u : State), takeFirstPost v q s.posts = some (p, rest)
      ∧ (s.ring v q).full = false ∧ s.postFermata v q = false ∧ State.translate { s with posts := rest } v ((s.ring v q).entry (s.ring v
      q).prod) true m.walk = (u, .fault c l)) ∧
    (∃ (v q : Nat) (m : MemAnswers) (s : State), takeFirstPost v q s.posts = none ∨ (s.ring v q).full = true ∨ s.postFermata v q = true) ∧
    (∃ (v q : Nat) (m : MemAnswers) (s : State), takeFirstPost v q s.posts = none ∨ (s.ring v q).full = true ∨ s.postFermata v q = true)
      :=
  ⟨⟨3, 15, 0, .noRoot, {}, (po 3 15 2), [po 3 15 8], { vs [(3*16+15, rg false true 2 4 1)] with posts := [po 3 15 2, po 3 15 8] },
    { vs [(3*16+15, rg false true 2 4 1)] {} (fun x => x) [(.TLB_MISS_CNT,0,1)] with posts := [po 3 15 8] }, by decide +kernel⟩,
  ⟨3, 5, {}, State.reset, by decide +kernel⟩,
  ⟨3, 5, {}, { vs [(3*16+5, rg false true 2 4 1)] {} (inS (fe (.post (po 3 5 9)))) with posts := [po 3 5 1] }, by decide +kernel⟩⟩

/-- States and operands that meet the hypotheses of FermatasAreHeldAndDecided, clauses 1 to 3. -/
theorem test_FermatasAreHeldAndDecided_1 :
    (∃ (v k : Nat) (f : Fermata) (s : State), s.freeSlot v = some k ∧ s.trans.noSlot.find? (fun f => f.voice == v) = some f) ∧
    (∃ (v k : Nat) (f : Fermata) (s : State), s.freeSlot v = some k ∧ s.trans.noSlot.find? (fun f => f.voice == v) = some f) ∧
    (∃ (v : Nat) (s : State), s.freeSlot v = none ∨ s.trans.noSlot.find? (fun f => f.voice == v) = none) ∧
    (∃ (v : Nat) (s : State), s.freeSlot v = none ∨ s.trans.noSlot.find? (fun f => f.voice == v) = none) ∧
    (∃ (p : Path) (v k g c : Nat) (write : Bool) (f : Fermata) (s : State), s.pageOpen p v ∧ s.decided v k g = some f ∧ (f.op = if write
      then .dmaWrite c else .dmaRead c) ∧ ((∀ d ∈ (s.chan c).descs, d.fail = none))) ∧
    (∃ (p : Path) (v k g c : Nat) (write : Bool) (f : Fermata) (s : State), s.pageOpen p v ∧ s.decided v k g = some f ∧ (f.op = if write
      then .dmaWrite c else .dmaRead c) ∧ ((∀ d ∈ (s.chan c).descs, d.fail = none))) :=
  ⟨⟨3, 0, (fe (.fetch 2)), (vs [] {} (fun t => { t with noSlot := [fe (.fetch 2), fe (.dmaRead 2)], tags := [(48,15)] })),
    by decide +kernel⟩,
  ⟨3, 15, (fe (.fetch 2)), (vs [(63, rg false true 2 4 1)] {} (fun t =>
    { full16 t with slots := (full16 t).slots.take 15, noSlot := [fe (.fetch 2)] })), by decide +kernel⟩,
  ⟨3, State.reset, by decide +kernel⟩,
  ⟨3, (vs [] {} (fun t => { full16 t with noSlot := [fe (.fetch 2)] })), by decide +kernel⟩,
  ⟨.netctl, 3, 4, 15, 2, true, (fe (.dmaWrite 2)), (vs [] { mode := .fermata, descs := [dsc 0] } (inS (fe (.dmaWrite 2)))
    [(.TLB_MISS_CNT,0,0xFFFFFFFF)]), by decide +kernel⟩,
  ⟨.netctl, 3, 4, 15, 2, false, (fe (.dmaRead 2)), (vs [] { mode := .fermata, descs := [dsc 0] } (inS (fe (.dmaRead 2)))
    [(.TLB_MISS_CNT,0,0xFFFFFFFF)]), by decide +kernel⟩⟩

/-- States and operands that meet the hypotheses of FermatasAreHeldAndDecided, clauses 4 to 8. -/
theorem test_FermatasAreHeldAndDecided_2 :
    (∃ (p : Path) (v k g c : Nat) (f : Fermata) (s : State), s.pageOpen p v ∧ s.decided v k g = some f ∧ f.op = .fetch c ∧ (s.chan c).mode
      = .fermata ∧ (s.releaseSlot v k).chanHeld c = false) ∧
    (∃ (p : Path) (v k g pa : Nat) (x : Post) (f : Fermata) (s u : State), s.pageOpen p v ∧ s.decided v k g = some f ∧ f.op = .post x ∧
      (s.releaseSlot v k).translate x.voice ((s.ring x.voice x.queue).entry (s.ring x.voice x.queue).prod) true [] = (u, .ok pa) ∧
      u.deadAddr pa = false) ∧
    (∃ (p : Path) (v k g : Nat) (s : State), s.pageOpen p v ∧ s.decided v k g = none) ∧
    (∃ (p : Path) (v k g : Nat) (s : State), s.pageOpen p v ∧ s.decided v k g = none) ∧
    (∃ (p : Path) (v k g : Nat) (s : State), s.pageOpen p v ∧ s.decided v k g = none) ∧
    (∃ (p : Path) (v k g : Nat) (s : State), s.pageOpen p v ∧ s.decided v k g = none) :=
  ⟨⟨.pcie, 3, 4, 15, 2, (fe (.fetch 2)), (vs [] { mode := .fermata } (inS (fe (.fetch 2)))), by decide +kernel⟩,
  ⟨.pcie, 3, 4, 15, 0x4000, (po 3 5 2), (fe (.post (po 3 5 2))), (vs [(3*16+5, rg false true 2 4 1)] {} (fun t => tl [le true] (inS (fe
    (.post (po 3 5 2))) t))), (vs [(3*16+5, rg false true 2 4 1)] {} (fun t => { tl [le true] t with tags := [(52,15)] })),
    by decide +kernel⟩,
  ⟨.pcie, 3, 4, 14, (vs [] {} (inS (fe (.fetch 2)))), by decide +kernel⟩,
  ⟨.pcie, 3, 16, 0, (vs []), by decide +kernel⟩,
  ⟨.pcie, 3, 5, 0, (vs [] {} (inS (fe (.fetch 2)))), by decide +kernel⟩,
  ⟨.pcie, 3, 5, 0, (vs [] {} (inS (fe (.fetch 2)))), by decide +kernel⟩⟩

/-- States and operands that meet the hypotheses of FermatasAreHeldAndDecided, clauses 9 to 12. -/
theorem test_FermatasAreHeldAndDecided_3 :
    (∃ (p : Path) (v k g : Nat) (x : Post) (f : Fermata) (s : State), s.pageOpen p v ∧ s.decided v k g = some f ∧ f.op = .post x) ∧
    (∃ (p : Path) (v k g : Nat) (x : Post) (f : Fermata) (s : State), s.pageOpen p v ∧ s.decided v k g = some f ∧ f.op = .post x) ∧
    (∃ (p : Path) (v k g c : Nat) (d : Desc) (e : Elem) (f : Fermata) (s : State), s.pageOpen p v ∧ s.decided v k g = some f ∧ (f.op =
      .dmaRead c ∨ f.op = .dmaWrite c) ∧ s.dmaElem c = some e ∧ (s.chan c).descs = [d] ∧ d.idx = f.aux) ∧
    (∃ (p : Path) (v k g c : Nat) (d : Desc) (e : Elem) (f : Fermata) (s : State), s.pageOpen p v ∧ s.decided v k g = some f ∧ (f.op =
      .dmaRead c ∨ f.op = .dmaWrite c) ∧ s.dmaElem c = some e ∧ (s.chan c).descs = [d] ∧ d.idx = f.aux) ∧
    (∃ (p : Path) (v k g c : Nat) (d : Desc) (e : Elem) (f : Fermata) (s : State), s.pageOpen p v ∧ s.decided v k g = some f ∧ (f.op =
      .dmaRead c ∨ f.op = .dmaWrite c) ∧ s.dmaElem c = some e ∧ (s.chan c).descs = [d] ∧ d.idx = f.aux) ∧
    (∃ (p : Path) (v k g c : Nat) (d : Desc) (e : Elem) (f : Fermata) (s : State), s.pageOpen p v ∧ s.decided v k g = some f ∧ (f.op =
      .dmaRead c ∨ f.op = .dmaWrite c) ∧ s.dmaElem c = some e ∧ (s.chan c).descs = [d] ∧ d.idx = f.aux) :=
  ⟨⟨.pcie, 3, 4, 15, (po 3 5 2), (fe (.post (po 3 5 2))), (vs [] {} (inS (fe (.post (po 3 5 2))))), by decide +kernel⟩,
  ⟨.pcie, 3, 4, 15, (po 3 5 2), (fe (.post (po 3 5 2))), (vs [] {} (inS (fe (.post (po 3 5 2))))), by decide +kernel⟩,
  ⟨.pcie, 3, 4, 15, 2, (dsc 0), (dme 3 5), (fe (.dmaRead 2)), (vs [(3*16+5, rg true true 2 4 0),(3*16+14, rg false true 2 4 1)]
    { mode := .fermata, descs := [dsc 0] } (inS (fe (.dmaRead 2)))), by decide +kernel⟩,
  ⟨.pcie, 3, 4, 15, 2, (dsc 0), (dme 3 5), (fe (.dmaWrite 2)), (vs [(3*16+5, rg true true 2 4 0),(3*16+14, rg false true 2 4 1)]
    { mode := .fermata, descs := [dsc 0] } (inS (fe (.dmaWrite 2)))), by decide +kernel⟩,
  ⟨.pcie, 3, 4, 15, 2, (dsc 0), (dme 3 5), (fe (.dmaRead 2)), (vs [(3*16+5, rg true true 2 4 0),(3*16+14, rg false true 2 4 1)]
    { mode := .fermata, descs := [dsc 0] } (inS (fe (.dmaRead 2)))), by decide +kernel⟩,
  ⟨.pcie, 3, 4, 15, 2, (dsc 0), (dme 3 5), (fe (.dmaWrite 2)), (vs [(3*16+5, rg true true 2 4 0),(3*16+14, rg false true 2 4 1)]
    { mode := .fermata, descs := [dsc 0] } (inS (fe (.dmaWrite 2)))), by decide +kernel⟩⟩

/-- States and operands that meet the hypotheses of FermatasAreHeldAndDecided, clauses 13 to 14. -/
theorem test_FermatasAreHeldAndDecided_4 :
    (∃ (p : Path) (v k g i tile : Nat) (e w : Elem) (x : Source) (r0 : Nat) (f : Fermata) (s : State), s.pageOpen p v ∧ s.decided v k g =
      some f ∧ (f.op = .serviceRead i tile ∨ f.op = .serviceWrite i tile) ∧ s.svcCtx i (f.beat.getD 0) = some (e, w, x, r0)) ∧
    (∃ (p : Path) (v k g i tile : Nat) (e w : Elem) (x : Source) (r0 : Nat) (f : Fermata) (s : State), s.pageOpen p v ∧ s.decided v k g =
      some f ∧ (f.op = .serviceRead i tile ∨ f.op = .serviceWrite i tile) ∧ s.svcCtx i (f.beat.getD 0) = some (e, w, x, r0)) ∧
    (∃ (p : Path) (v k g i tile : Nat) (e w : Elem) (x : Source) (r0 : Nat) (f : Fermata) (s : State), s.pageOpen p v ∧ s.decided v k g =
      some f ∧ (f.op = .serviceRead i tile ∨ f.op = .serviceWrite i tile) ∧ s.svcCtx i (f.beat.getD 0) = some (e, w, x, r0)) ∧
    (∃ (p : Path) (v k g i tile : Nat) (e w : Elem) (x : Source) (r0 : Nat) (f : Fermata) (s : State), s.pageOpen p v ∧ s.decided v k g =
      some f ∧ (f.op = .serviceRead i tile ∨ f.op = .serviceWrite i tile) ∧ s.svcCtx i (f.beat.getD 0) = some (e, w, x, r0)) :=
  ⟨⟨.pcie, 3, 4, 15, 2, 0, (sv 2 0 0), wA, xA, 27, (fe (.serviceRead 2 0)),
    { sS [sv 2 0 0] (fun x => { x with jobs := [jb 2 [(0,{ st := .fermata })]] }) with trans := inS (fe (.serviceRead 2 0)) State.reset.trans },
    by decide +kernel⟩,
  ⟨.pcie, 3, 4, 15, 2, 0, (sv 2 0 0), wA, xA, 27, (fe (.serviceWrite 2 0)),
    { sS [sv 2 0 0] (fun x => { x with jobs := [jb 2 [(0,{ st := .fermata })]] }) with trans := inS (fe (.serviceWrite 2 0)) State.reset.trans },
    by decide +kernel⟩,
  ⟨.pcie, 3, 4, 15, 2, 0, (sv 2 0 0), wA, xA, 27, (fe (.serviceRead 2 0)),
    { sS [sv 2 0 0] (fun x => { x with jobs := [jb 2 [(0,{ st := .fermata })]] }) with trans := inS (fe (.serviceRead 2 0)) State.reset.trans },
    by decide +kernel⟩,
  ⟨.pcie, 3, 4, 15, 2, 0, (sv 2 0 0), wA, xA, 27, (fe (.serviceWrite 2 0)),
    { sS [sv 2 0 0] (fun x => { x with jobs := [jb 2 [(0,{ st := .fermata })]] }) with trans := inS (fe (.serviceWrite 2 0)) State.reset.trans },
    by decide +kernel⟩⟩

/-- States and operands that meet the hypotheses of InvalidationsRun, clauses 1 to 3. -/
theorem test_InvalidationsRun_1 :
    (∃ (p : Path) (v : Nat) (w : Word) (s : State), s.pageOpen p v) ∧
    (∃ (p : Path) (v : Nat) (w : Word) (s : State), s.pageOpen p v) ∧
    (∃ (v : Nat) (i : Inval) (s : State), Tab.get none s.trans.busy v = some i ∧ s.invalBusy v i = false ∧ takeFirstPost v 15 s.posts =
      none) ∧
    (∃ (v : Nat) (i : Inval) (s : State), Tab.get none s.trans.busy v = some i ∧ s.invalBusy v i = false ∧ takeFirstPost v 15 s.posts =
      none) ∧
    (∃ (v : Nat) (i : Inval) (s : State), Tab.get none s.trans.busy v = none ∨ (Tab.get none s.trans.busy v = some i ∧ s.invalBusy v i =
      true)) ∧
    (∃ (v : Nat) (i : Inval) (s : State), Tab.get none s.trans.busy v = none ∨ (Tab.get none s.trans.busy v = some i ∧ s.invalBusy v i =
      true)) :=
  ⟨⟨.pcie, 3, (BitVec.ofNat 32 0x2000007), (vs [] {} (fun t => { t with busy := [], held := [] })), by decide +kernel⟩,
  ⟨.pcie, 3, (BitVec.ofNat 32 0x1000007), (vs [] {} (fun t => { t with busy := [(3,some ⟨1,2⟩)], held := [(3,some ⟨1,2⟩)] })),
    by decide +kernel⟩,
  ⟨3, ⟨1,1⟩, (vs [] {} (fun t => { t with busy := [(3,some ⟨1,1⟩)], tlb := [le true, { le true with page := 2 }], held := [] })
    [(.VW_TLB_STAT,3,0xFFFF0003)]), by decide +kernel⟩,
  ⟨3, ⟨1,1⟩, (vs []
    { descs := [{ dsc 0 with raw := toLe 8 0x10000 ++ toLe 8 0x50000 ++ zeros 16 }], rd := .answer (.ok 5), wr := .answer (.ok 7) } (fun t
    => { t with busy := [(3,some ⟨1,1⟩)], tlb := [le true] })), by decide +kernel⟩,
  ⟨3, ⟨0,0⟩, State.reset, by decide +kernel⟩,
  ⟨3, ⟨1,1⟩, (vs [] { descs := [{ dsc 0 with writes := [⟨0,4,0x10000,some 5,[]⟩] }] } (fun t =>
    { t with busy := [(3,some ⟨1,1⟩)], tlb := [le true] })), by decide +kernel⟩⟩

/-- States and operands that meet the hypotheses of PtrootWriteCommitsRoot, clause 1. -/
theorem test_PtrootWriteCommitsRoot_1 :
    (∃ (p : Path) (v : Nat) (w : Word) (s : State), s.pageOpen p v) ∧
    (∃ (p : Path) (v : Nat) (w : Word) (s : State), s.pageOpen p v) :=
  ⟨⟨.pcie, 3, 0xFFFFFFFF, { vs [] with stage := [(regKey .VW_PTROOT 3, some 0xFFFFFF12)] }, by decide +kernel⟩,
  ⟨.netctl, 3, 0xFFFFFFFE, (vs [] {} (fun t => { t with busy := [(3, some ⟨1,1⟩)] })), by decide +kernel⟩⟩

/-- States and operands that meet the hypotheses of MemoryEventsAreCounted, clauses 1 to 4. -/
theorem test_MemoryEventsAreCounted_1 :
    (∃ (lpddr : Bool) (n : Nat) (s : State), lpddr = false ∨ s.rdB .MEM_CFG 0 8 = true) ∧
    (∃ (lpddr : Bool) (n : Nat) (s : State), lpddr = false ∨ s.rdB .MEM_CFG 0 8 = true) ∧
    (∃ (lpddr : Bool) (n : Nat) (s : State) (a : Nat), lpddr = false ∨ s.rdB .MEM_CFG 0 8 = true) ∧
    (∃ (lpddr : Bool) (n : Nat) (s : State) (a : Nat), lpddr = false ∨ s.rdB .MEM_CFG 0 8 = true) ∧
    (∃ (n : Nat) (l : List Nat) (s : State), s.rdB .MEM_CFG 0 8 = false) ∧
    (∃ (m : Nat) (d : Bool) (s : State), m = 1 ∨ m = 2 ∨ m = 4) :=
  ⟨⟨true, 7, (vs [] {} id [(.MEM_CFG,0,256),(.ECC_CE_CNT,0,0xFFFFFFFE)]), by decide +kernel⟩,
  ⟨false, 0, State.reset, by decide +kernel⟩,
  ⟨false, 7, (vs [] {} id [(.VW_IRQ_MASK,0,3)]), 0xFFFFFFF, by decide +kernel⟩,
  ⟨true, 7, (vs [] {} id [(.MEM_CFG,0,256)]), 0x1FFFFFFFFFF, by decide +kernel⟩,
  ⟨4, [1], State.reset, by decide +kernel⟩,
  ⟨4, true, State.reset, by decide +kernel⟩⟩

/-- States and operands that meet the hypotheses of MemoryEventsAreCounted, clauses 4 to 7. -/
theorem test_MemoryEventsAreCounted_2 :
    (∃ (m : Nat) (d : Bool) (s : State), m = 1 ∨ m = 2 ∨ m = 4) ∧
    (∃ (a b c served host : Nat) (s : State), s.tempo.isOpen = true ∧ s.tempo.judged = false ∧ 0 < a + b + c ∧ served < 4096 * s.rd
      .PMIN_NS 0 / 100) ∧
    (∃ (a b c served host : Nat) (s : State), s.tempo.isOpen = true ∧ s.tempo.judged = false ∧ 0 < a + b + c ∧ served < 4096 * s.rd
      .PMIN_NS 0 / 100) ∧
    (∃ (a b c served host : Nat) (s : State), s.tempo.isOpen = true ∧ s.tempo.judged = false ∧ (a + b + c = 0 ∨ 4096 * s.rd .PMIN_NS 0 /
      100 ≤ served)) ∧
    (∃ (a b c served host : Nat) (s : State), s.tempo.isOpen = true ∧ s.tempo.judged = false ∧ (a + b + c = 0 ∨ 4096 * s.rd .PMIN_NS 0 /
      100 ≤ served)) ∧
    (∃ (l : List Nat) (served host : Nat) (s : State), s.tempo.isOpen = false ∨ s.tempo.judged = true) :=
  ⟨⟨1, false, State.reset, by decide +kernel⟩,
  ⟨0, 5, 0xFFFFFFFF, 39, 7, { vs [] {} id [(.PMIN_NS,0,1),(.BAR_TICK,0,3)] with tempo := { State.reset.tempo with isOpen := true } },
    by decide +kernel⟩,
  ⟨1, 0, 0, 39, 0, { vs [] {} id [(.PMIN_NS,0,1),(.BAR_TICK,0,3)] with tempo := { State.reset.tempo with isOpen := true } },
    by decide +kernel⟩,
  ⟨0, 5, 0xFFFFFFFF, 40, 7, { vs [] {} id [(.PMIN_NS,0,1),(.BAR_TICK,0,3)] with tempo := { State.reset.tempo with isOpen := true } },
    by decide +kernel⟩,
  ⟨0, 0, 0, 0, 0, { vs [] {} id [(.PMIN_NS,0,1),(.BAR_TICK,0,3)] with tempo := { State.reset.tempo with isOpen := true } },
    by decide +kernel⟩,
  ⟨[1,2,3], 4, 5, State.reset, by decide +kernel⟩⟩

end W6

namespace W7
open W4 W5 W6

def raw (ctrl len src dst aux : Nat) : List Byte := toLe 4 ctrl ++ toLe 4 len ++ toLe 8 src ++ toLe 8 dst ++ toLe 4 aux ++ zeros 4
def dd (ctrl len src dst aux : Nat) : Desc := ⟨0, some 0x5000, raw ctrl len src dst aux, none, len, 0, [], [], 0, [], [], false, none, none⟩
def rgs : Tab Ring := [(3*16+5, rg true true 2 4 0),(3*16+14, rg false true 2 4 1)]
def pte (t : State) : State := { t with mem := [], }
def wk (v : Nat) : Walk := ⟨v, 0x10040, [(2, false)]⟩
def memS (s : State) (a n : Nat) (k : Nat) : State := s.writePhys a (toLe n k)
/-- a page table of voice 3 in the tile store: VA page 1 leads to 0x10000 -/
def mapped (s : State) (perm : Nat) : State :=
  memS (memS (memS (s.wr .VW_PTROOT 3 0x4001) 0x4000 8 0x4801) 0x4800 8 0x5001) 0x5008 8 (0x10003 + perm)
def bd (e : Elem) : Elem := { e with raw := e.raw.take 8 ++ [1] ++ e.raw.drop 9 }
def vsE (e : Elem) (q : Tab Ring) (c : Chan := {}) (tr : Trans → Trans := fun x => x) (r : List (RegId × Nat × Nat) := []) : State :=
  let s := vs q c tr r
  { s with load := { s.load with eff := s.load.eff.map fun x => if x == dme 3 5 then e else x } }
def it : Item := ⟨1, 3, 9, 40, some 0x2000, []⟩
def bu (st n va : Nat) (pa : Option Nat) (b : List Byte) : Burst := ⟨st, n, va, pa, b⟩
def fst1 (x : State × Xlat) : State := x.1


/-- States and operands that meet the hypotheses of WalksAnswerMisses, clauses 1 to 4. -/
theorem test_WalksAnswerMisses_1 :
    (∃ (s : State), (∃ w ∈ s.trans.misses, s.walkerFree w.voice = true)) ∧
    (∃ (s : State), (∃ w ∈ s.trans.misses, s.walkerFree w.voice = true)) ∧
    (∃ (s : State), (∀ w ∈ s.trans.misses, s.walkerFree w.voice = false)) ∧
    (∃ (s : State), (∀ w ∈ s.trans.misses, s.walkerFree w.voice = false)) ∧
    (∃ (k c pa : Nat) (write : Bool) (r : List MemResult) (w : Walk) (e : Elem) (d : Desc) (l : TlbEntry) (s u : State), s.trans.walks[k]?
      = some w ∧ w.waiters = [(c, write)] ∧ s.dmaElem c = some e ∧ (s.chan c).sideDesc write = some d ∧ (if write then (s.chan c).wr else
      (s.chan c).rd) = .waiting ∧ (if write then d.dstAt d.writeIssued else d.srcAt d.readIssued) / 2 ^ 16 = w.va / 2 ^ 16 ∧ walk
      { s with trans := { s.trans with walks := s.trans.walks.eraseIdx k } } w.voice w.va r = (u, .leaf l) ∧ l.use (if write then d.dstAt
      d.writeIssued else d.srcAt d.readIssued) write = .ok pa) ∧
    (∃ (k c lv : Nat) (write : Bool) (r : List MemResult) (w : Walk) (e : Elem) (d : Desc) (x : Cause) (s u : State), s.trans.walks[k]? =
      some w ∧ w.waiters = [(c, write)] ∧ s.dmaElem c = some e ∧ (s.chan c).sideDesc write = some d ∧ (if write then (s.chan c).wr else
      (s.chan c).rd) = .waiting ∧ (if write then d.dstAt d.writeIssued else d.srcAt d.readIssued) / 2 ^ 16 = w.va / 2 ^ 16 ∧ (walk
      { s with trans := { s.trans with walks := s.trans.walks.eraseIdx k } } w.voice w.va r = (u, .fault x lv) ∨ (∃ l, walk
      { s with trans := { s.trans with walks := s.trans.walks.eraseIdx k } } w.voice w.va r = (u, .leaf l) ∧ l.use (if write then d.dstAt
      d.writeIssued else d.srcAt d.readIssued) write = .fault x lv))) :=
  ⟨⟨(vs [] {} (fun t => { t with misses := [wk 3, wk 0] })), by decide +kernel⟩,
  ⟨{ vs [] {} (fun t => { t with misses := [wk 3, wk 5], walks := List.replicate 8 (wk 3) }) with fresh := 0 }, by decide +kernel⟩,
  ⟨State.reset, by decide +kernel⟩,
  ⟨(vs [] {} (fun t => { t with misses := [wk 3, wk 5], walks := List.replicate 32 (wk 9) })), by decide +kernel⟩,
  ⟨0, 2, 0x10100, false, [], (wk 3), (dme 3 5), (dd 1 600 0x10100 0x10040 0), ⟨3,false,1,some 0x10000,0x10000,true,false⟩, (mapped (vs rgs
    { rd := .waiting, descs := [(dd 1 600 0x10100 0x10040 0)] } (fun t => { t with walks := [wk 3] })) 4), (walk (mapped (vs rgs
    { rd := .waiting, descs := [(dd 1 600 0x10100 0x10040 0)] } id) 4) 3 0x10040 []).1, by decide +kernel⟩,
  ⟨0, 2, 0, false, [], (wk 3), (dme 3 5), (dd 1 600 0x10100 0x10040 0), .noRoot, (vs rgs
    { rd := .waiting, descs := [(dd 1 600 0x10100 0x10040 0)] } (fun t => { t with walks := [wk 3] })), (walk (vs rgs
    { rd := .waiting, descs := [(dd 1 600 0x10100 0x10040 0)] } id) 3 0x10040 []).1, by decide +kernel, by decide +kernel,
    by decide +kernel, by decide +kernel, by decide +kernel, by decide +kernel, Or.inl (by decide +kernel)⟩⟩

/-- States and operands that meet the hypotheses of WalksAnswerMisses, clause 5. -/
theorem test_WalksAnswerMisses_2 : ∃ (k : Nat) (r : List MemResult) (s : State), s.trans.walks[k]? = none :=
  ⟨0, [], State.reset, by decide +kernel⟩

/-- States and operands that meet the hypotheses of DescriptorsAreFetchedAndGated, clauses 1 to 4. -/
theorem test_DescriptorsAreFetchedAndGated_1 :
    (∃ (c pa : Nat) (m : MemAnswers) (e : Elem) (s u : State), s.dmaElem c = some e ∧ s.mayFetch c e = true) ∧
    (∃ (c pa : Nat) (m : MemAnswers) (e : Elem) (s u : State), s.dmaElem c = some e ∧ s.mayFetch c e = true) ∧
    (∃ (c l : Nat) (m : MemAnswers) (k : Cause) (e : Elem) (s u : State), s.dmaElem c = some e ∧ s.mayFetch c e = true ∧ s.translate
      e.voice ((s.ring e.voice (dmaRingQ e)).entry (((s.ring e.voice (dmaRingQ e)).cons + (s.chan c).descs.length) % 2 ^ 32)) false m.walk
      = (u, .fault k l)) ∧
    (∃ (c : Nat) (m : MemAnswers) (e : Elem) (s : State), s.dmaElem c = none ∨ (s.dmaElem c = some e ∧ s.mayFetch c e = false)) ∧
    (∃ (c : Nat) (m : MemAnswers) (e : Elem) (s : State), s.dmaElem c = none ∨ (s.dmaElem c = some e ∧ s.mayFetch c e = false)) ∧
    (∃ (c : Nat) (e : Elem) (d : Desc) (s : State), s.dmaElem c = some e ∧ (s.chan c).descs = [d] ∧ d.waiting = true ∧ d.ended = none) :=
  ⟨⟨2, 0x4000, {}, (dme 3 5), (memS (vs rgs {} (tl [le true])) 0x4000 32 (leNat (raw 1 64 0x10000 0x10100 0))), (fst1 ((memS (vs rgs {}
    (tl [le true])) 0x4000 32 (leNat (raw 1 64 0x10000 0x10100 0))).translate 3 0x10000 false [])), by decide +kernel⟩,
  ⟨2, 0x4000, {}, (el 3 0x10 2 64 [(9,1,1),(10,1,5),(11,1,14)]), (memS (vsE (el 3 0x10 2 64 [(9,1,1),(10,1,5),(11,1,14)]) rgs {} (tl [le
    true])) 0x4000 32 5), (fst1 ((memS (vsE (el 3 0x10 2 64 [(9,1,1),(10,1,5),(11,1,14)]) rgs {} (tl [le true])) 0x4000 32 5).translate 3
    0x10000 false [])), by decide +kernel⟩,
  ⟨2, 0, {}, .noRoot, (dme 3 5), (vs rgs), (fst1 ((vs rgs).translate 3 0x10000 false [])), by decide +kernel⟩,
  ⟨9, {}, (dme 3 5), (vs rgs), by decide +kernel⟩,
  ⟨2, {}, (dme 3 5), (vs []), by decide +kernel⟩,
  ⟨2, (dme 3 5), (dd 0x41 64 0x10000 0x10100 63), (vs rgs { descs := [dd 0x41 64 0x10000 0x10100 63] } id [(.EVL_STATUS,63,197121)]),
    by decide +kernel⟩⟩

/-- States and operands that meet the hypotheses of DescriptorsAreFetchedAndGated, clauses 4 to 9. -/
theorem test_DescriptorsAreFetchedAndGated_2 :
    (∃ (c : Nat) (e : Elem) (d : Desc) (s : State), s.dmaElem c = some e ∧ (s.chan c).descs = [d] ∧ d.waiting = true ∧ d.ended = none) ∧
    (∃ (c : Nat) (s : State), (∀ d ∈ (s.chan c).descs, d.waiting = false)) ∧
    (∃ (c : Nat) (d : Desc) (s : State), s.cmdDesc c = some d ∧ (s.chan c).descs = [d] ∧ s.cmdInMemory d = 1) ∧
    (∃ (c : Nat) (d : Desc) (s : State), s.cmdDesc c = some d ∧ (s.chan c).descs = [d] ∧ s.cmdInMemory d = 1) ∧
    (∃ (c : Nat) (e : Elem) (d : Desc) (s : State), s.dmaElem c = some e ∧ s.cmdDesc c = some d ∧ (s.chan c).descs = [d] ∧ s.cmdInMemory d
      = 2) ∧
    (∃ (c : Nat) (e : Elem) (d : Desc) (s : State), s.dmaElem c = some e ∧ s.cmdDesc c = some d ∧ (s.chan c).descs = [d] ∧ s.cmdInMemory d
      = 2) :=
  ⟨⟨2, (dme 3 5), (dd 0x41 64 0x10000 0x10100 63),
    { vs rgs { descs := [dd 0x41 64 0x10000 0x10100 63] } id [(.EVL_STATUS,63,197375)] with dma := { State.reset.dma with ch := [(1,{ descs := [dd 0x41 64 0x10000 0x10100 63] }),(2,{ descs := [dd 0x41 64 0x10000 0x10100 63] })] } },
    by decide +kernel⟩,
  ⟨2, (vs rgs { descs := [dd 1 64 0 0 0, { dd 0x41 64 0 0 0 with waited := true }] }), by decide +kernel⟩,
  ⟨2, { dd 1 64 0x10000 0x10040 0 with fail := some ⟨0,5,5,false⟩ }, (memS (vs rgs
    { mode := .halted, cmdLook := true, descs := [{ dd 1 64 0x10000 0x10040 0 with fail := some ⟨0,5,5,false⟩ }] }) 0x5000 4 4194305),
    by decide +kernel⟩,
  ⟨2, { dd 1 64 0x10000 0x10040 0 with fail := some ⟨0,5,5,false⟩ }, (memS (vs rgs
    { mode := .halted, cmdLook := true, descs := [{ dd 1 64 0x10000 0x10040 0 with fail := some ⟨0,5,5,false⟩ }] }) 0x5000 4 4194305),
    by decide +kernel⟩,
  ⟨2, (dme 3 5), { dd 1 64 0x10000 0x10040 0 with fail := some ⟨0,5,5,false⟩ }, (memS (vs rgs
    { mode := .halted, cmdLook := true, descs := [{ dd 1 64 0x10000 0x10040 0 with fail := some ⟨0,5,5,false⟩ }] }) 0x5000 4 8388609),
    by decide +kernel⟩,
  ⟨2, (dme 3 5), { dd 1 64 0x10000 0x10040 0 with fail := some ⟨0,5,5,false⟩ }, (memS (vs rgs
    { mode := .halted, cmdLook := true, descs := [{ dd 1 64 0x10000 0x10040 0 with fail := some ⟨0,5,5,false⟩ }] }) 0x5000 4 8388609),
    by decide +kernel⟩⟩

/-- States and operands that meet the hypotheses of DescriptorsAreFetchedAndGated, clauses 10 to 12. -/
theorem test_DescriptorsAreFetchedAndGated_3 :
    (∃ (c : Nat) (d : Desc) (s : State), s.cmdDesc c = some d ∧ (s.cmdInMemory d = 0 ∨ s.cmdInMemory d = 3)) ∧
    (∃ (c : Nat) (d : Desc) (s : State), s.cmdDesc c = some d ∧ (s.cmdInMemory d = 0 ∨ s.cmdInMemory d = 3)) ∧
    (∃ (c : Nat) (d : Desc) (s : State), s.cmdDesc c = some d ∧ (s.cmdInMemory d = 0 ∨ s.cmdInMemory d = 3)) ∧
    (∃ (c : Nat) (d : Desc) (s : State), s.cmdDesc c = some d ∧ (s.cmdInMemory d = 0 ∨ s.cmdInMemory d = 3)) ∧
    (∃ (c : Nat) (s : State), s.cmdDesc c = none) ∧
    (∃ (c : Nat) (s : State), s.cmdDesc c = none) :=
  ⟨⟨2, { dd 1 64 0x10000 0x10040 0 with fail := some ⟨0,5,5,false⟩ }, (memS (vs rgs
    { mode := .halted, cmdLook := true, descs := [{ dd 1 64 0x10000 0x10040 0 with fail := some ⟨0,5,5,false⟩ }] }) 0x5000 4 1),
    by decide +kernel⟩,
  ⟨2, { dd 1 64 0x10000 0x10040 0 with fail := some ⟨0,5,5,false⟩ }, (memS (vs rgs
    { mode := .halted, cmdLook := true, descs := [{ dd 1 64 0x10000 0x10040 0 with fail := some ⟨0,5,5,false⟩ }] }) 0x5000 4 12582913),
    by decide +kernel⟩,
  ⟨2, { dd 1 64 0x10000 0x10040 0 with fail := some ⟨0,5,5,false⟩ }, (memS (vs rgs
    { mode := .halted, cmdLook := true, descs := [{ dd 1 64 0x10000 0x10040 0 with fail := some ⟨0,5,5,false⟩ }] }) 0x5000 4 1),
    by decide +kernel⟩,
  ⟨2, { dd 1 64 0x10000 0x10040 0 with fail := some ⟨0,5,5,false⟩ }, (memS (vs rgs
    { mode := .halted, cmdLook := true, descs := [{ dd 1 64 0x10000 0x10040 0 with fail := some ⟨0,5,5,false⟩ }] }) 0x5000 4 12582913),
    by decide +kernel⟩,
  ⟨2, State.reset, by decide +kernel⟩,
  ⟨2, (vs rgs { mode := .halted, cmdLook := false, descs := [{ dd 1 64 0x10000 0x10040 0 with fail := some ⟨0,5,5,false⟩ }] }),
    by decide +kernel⟩⟩

/-- States and operands that meet the hypotheses of DescriptorsAreFetchedAndGated, clause 13. -/
theorem test_DescriptorsAreFetchedAndGated_4 : ∃ (c : Nat) (s : State), s.cmdDesc c = none :=
  ⟨2, (vs rgs
    { mode := .halted, fetchHalt := true, cmdLook := true, descs := [{ dd 1 64 0x10000 0x10040 0 with fail := some ⟨0,5,5,false⟩ }] }),
    by decide +kernel⟩

/-- States and operands that meet the hypotheses of ReadBurstsIssueAndReturn, clauses 1 to 5. -/
theorem test_ReadBurstsIssueAndReturn_1 :
    (∃ (c pa : Nat) (rest : Bool) (e : Elem) (d : Desc) (s u : State), s.dmaElem c = some e ∧ (s.chan c).sideDesc false = some d ∧ (s.chan
      c).mode = .run ∧ d.waiting = false ∧ (s.quotaSpent c e 1 = false ∨ s.mayLend e rest = true) ∧ d.item = none ∧ (s.chan c).descs = [d]
      ∧ s.sideNow e.voice (d.srcAt d.readIssued) false (s.chan c).rd = some (u, .ok pa) ∧ u.boundsHit c (decide (u.region pa = .outbound))
      = [] ∧ (s.quotaSpent c e 1 = true ∨ u.grantTurn 0 c e u.waitsRead = true) ∧ u.deadAddr pa = false) ∧
    (∃ (c pa : Nat) (rest : Bool) (e : Elem) (d : Desc) (s u : State), s.dmaElem c = some e ∧ (s.chan c).sideDesc false = some d ∧ (s.chan
      c).mode = .run ∧ d.waiting = false ∧ (s.quotaSpent c e 1 = false ∨ s.mayLend e rest = true) ∧ d.item = none ∧ (s.chan c).descs = [d]
      ∧ s.sideNow e.voice (d.srcAt d.readIssued) false (s.chan c).rd = some (u, .ok pa) ∧ u.boundsHit c (decide (u.region pa = .outbound))
      = [] ∧ (s.quotaSpent c e 1 = true ∨ u.grantTurn 0 c e u.waitsRead = true) ∧ u.deadAddr pa = false) ∧
    (∃ (c pa : Nat) (rest : Bool) (e : Elem) (d : Desc) (s u : State), s.dmaElem c = some e ∧ (s.chan c).sideDesc false = some d ∧ (s.chan
      c).mode = .run ∧ d.waiting = false ∧ (s.quotaSpent c e 1 = false ∨ s.mayLend e rest = true) ∧ d.item = none ∧ (s.chan c).descs = [d]
      ∧ s.sideNow e.voice (d.srcAt d.readIssued) false (s.chan c).rd = some (u, .ok pa) ∧ u.boundsHit c (decide (u.region pa = .outbound))
      = [] ∧ (s.quotaSpent c e 1 = true ∨ u.grantTurn 0 c e u.waitsRead = true) ∧ u.deadAddr pa = true) ∧
    (∃ (c pa : Nat) (rest : Bool) (e : Elem) (d : Desc) (s u : State), s.dmaElem c = some e ∧ (s.chan c).sideDesc false = some d ∧ (s.chan
      c).mode = .run ∧ d.waiting = false ∧ (s.quotaSpent c e 1 = false ∨ s.mayLend e rest = true) ∧ d.item = none ∧ (s.chan c).descs = [d]
      ∧ s.sideNow e.voice (d.srcAt d.readIssued) false (s.chan c).rd = some (u, .ok pa) ∧ u.boundsHit c (decide (u.region pa = .outbound))
      = [] ∧ s.quotaSpent c e 1 = false ∧ u.grantTurn 0 c e u.waitsRead = false) ∧
    (∃ (c pa : Nat) (rest : Bool) (e : Elem) (d : Desc) (s u : State) (b : Nat), s.dmaElem c = some e ∧ (s.chan c).sideDesc false = some d
      ∧ (s.chan c).mode = .run ∧ d.waiting = false ∧ (s.quotaSpent c e 1 = false ∨ s.mayLend e rest = true) ∧ d.item = none ∧ (s.chan
      c).descs = [d] ∧ s.sideNow e.voice (d.srcAt d.readIssued) false (s.chan c).rd = some (u, .ok pa) ∧ b ∈ u.boundsHit c (decide
      (u.region pa = .outbound))) ∧
    (∃ (c : Nat) (rest : Bool) (e : Elem) (d : Desc) (s : State), s.dmaElem c = some e ∧ (s.chan c).sideDesc false = some d ∧ (s.chan
      c).mode = .run ∧ d.waiting = true) :=
  ⟨⟨2, 0x4100, false, (el 3 0x10 2 64 [(8,1,0),(10,1,5),(11,1,14),(16,4,4096)]), (dd 1 600 0x10100 0x10040 0), (vsE (el 3 0x10 2 64
    [(8,1,0),(10,1,5),(11,1,14),(16,4,4096)]) rgs { descs := [(dd 1 600 0x10100 0x10040 0)] } (tl [le true]) []), ((((vsE (el 3 0x10 2 64
    [(8,1,0),(10,1,5),(11,1,14),(16,4,4096)]) rgs { descs := [(dd 1 600 0x10100 0x10040 0)] } (tl [le true]) [])).sideNow 3 (Desc.srcAt
    (dd 1 600 0x10100 0x10040 0) (Desc.readIssued (dd 1 600 0x10100 0x10040 0))) false .none).elim State.reset (·.1)), by decide +kernel⟩,
  ⟨2, 0x4200, true, (el 3 0x10 2 64 [(8,1,0),(10,1,5),(11,1,14),(16,4,0)]),
    { (dd 1 600 0x10100 0x10040 0) with readIssued := 256, reads := [⟨0,256,0x10100,some 0x4100,[]⟩] }, (vsE (el 3 0x10 2 64
    [(8,1,0),(10,1,5),(11,1,14),(16,4,0)]) rgs
    { descs := [{ (dd 1 600 0x10100 0x10040 0) with readIssued := 256, reads := [⟨0,256,0x10100,some 0x4100,[]⟩] }] } (tl [le true]) []),
    ((((vsE (el 3 0x10 2 64 [(8,1,0),(10,1,5),(11,1,14),(16,4,0)]) rgs
    { descs := [{ (dd 1 600 0x10100 0x10040 0) with readIssued := 256, reads := [⟨0,256,0x10100,some 0x4100,[]⟩] }] } (tl [le true])
    [])).sideNow 3 (Desc.srcAt { (dd 1 600 0x10100 0x10040 0) with readIssued := 256, reads := [⟨0,256,0x10100,some 0x4100,[]⟩] }
    (Desc.readIssued { (dd 1 600 0x10100 0x10040 0) with readIssued := 256, reads := [⟨0,256,0x10100,some 0x4100,[]⟩] })) false
    .none).elim State.reset (·.1)), by decide +kernel⟩,
  ⟨2, 0x2F00000100, false, (el 3 0x10 2 64 [(8,1,0),(10,1,5),(11,1,14),(16,4,4096)]), (dd 1 600 0x10100 0x10040 0), (vsE (el 3 0x10 2 64
    [(8,1,0),(10,1,5),(11,1,14),(16,4,4096)]) rgs { descs := [(dd 1 600 0x10100 0x10040 0)] } (tl
    [{ le true with pa := some 0x2F00000000 }]) []), ((((vsE (el 3 0x10 2 64 [(8,1,0),(10,1,5),(11,1,14),(16,4,4096)]) rgs
    { descs := [(dd 1 600 0x10100 0x10040 0)] } (tl [{ le true with pa := some 0x2F00000000 }]) [])).sideNow 3 (Desc.srcAt (dd 1 600
    0x10100 0x10040 0) (Desc.readIssued (dd 1 600 0x10100 0x10040 0))) false .none).elim State.reset (·.1)), by decide +kernel⟩,
  ⟨2, 0x4100, false, (el 3 0x10 2 64 [(8,1,0),(10,1,5),(11,1,14),(16,4,4096)]), (dd 1 600 0x10100 0x10040 0), ((fun s =>
    { s with dma := { s.dma with ch := (1,{ descs := [(dd 1 600 0x10100 0x10040 0)], blocked := true }) :: s.dma.ch }, load := { s.load with eff := s.load.eff ++ [el 3 0x10 1 64 [(8,1,0),(10,1,5),(11,1,14),(16,4,4096)]] } })
    (vsE (el 3 0x10 2 64 [(8,1,0),(10,1,5),(11,1,14),(16,4,4096)]) rgs { descs := [(dd 1 600 0x10100 0x10040 0)] } (tl [le true]) [])),
    ((fun s =>
    { s with dma := { s.dma with ch := (1,{ descs := [(dd 1 600 0x10100 0x10040 0)], blocked := true }) :: s.dma.ch }, load := { s.load with eff := s.load.eff ++ [el 3 0x10 1 64 [(8,1,0),(10,1,5),(11,1,14),(16,4,4096)]] } })
    ((((vsE (el 3 0x10 2 64 [(8,1,0),(10,1,5),(11,1,14),(16,4,4096)]) rgs { descs := [(dd 1 600 0x10100 0x10040 0)] } (tl [le true])
    [])).sideNow 3 (Desc.srcAt (dd 1 600 0x10100 0x10040 0) (Desc.readIssued (dd 1 600 0x10100 0x10040 0))) false .none).elim State.reset
    (·.1))), by decide +kernel⟩,
  ⟨2, 0x4100, false, (el 3 0x10 2 64 [(8,1,0),(10,1,5),(11,1,14),(16,4,4096)]),
    { (dd 1 600 0x10100 0x10040 0) with reads := List.replicate 32 (bu 0 4 0 none []) }, (vsE (el 3 0x10 2 64
    [(8,1,0),(10,1,5),(11,1,14),(16,4,4096)]) rgs
    { descs := [{ (dd 1 600 0x10100 0x10040 0) with reads := List.replicate 32 (bu 0 4 0 none []) }] } (tl [le true]) []), ((((vsE (el 3
    0x10 2 64 [(8,1,0),(10,1,5),(11,1,14),(16,4,4096)]) rgs
    { descs := [{ (dd 1 600 0x10100 0x10040 0) with reads := List.replicate 32 (bu 0 4 0 none []) }] } (tl [le true]) [])).sideNow 3
    (Desc.srcAt { (dd 1 600 0x10100 0x10040 0) with reads := List.replicate 32 (bu 0 4 0 none []) } (Desc.readIssued
    { (dd 1 600 0x10100 0x10040 0) with reads := List.replicate 32 (bu 0 4 0 none []) })) false .none).elim State.reset (·.1)), 1,
    by decide +kernel⟩,
  ⟨2, false, (el 3 0x10 2 64 [(8,1,0),(10,1,5),(11,1,14),(16,4,4096)]), (dd 0x41 64 0x10000 0 63), (vsE (el 3 0x10 2 64
    [(8,1,0),(10,1,5),(11,1,14),(16,4,4096)]) rgs { descs := [(dd 0x41 64 0x10000 0 63)] } (tl [le true]) []), by decide +kernel⟩⟩

/-- States and operands that meet the hypotheses of ReadBurstsIssueAndReturn, clauses 6 to 9. -/
theorem test_ReadBurstsIssueAndReturn_2 :
    (∃ (c : Nat) (rest : Bool) (e : Elem) (d : Desc) (s : State), s.dmaElem c = some e ∧ (s.chan c).sideDesc false = some d ∧ (s.chan
      c).mode = .run ∧ d.waiting = false ∧ (if d.item.isSome then s.pastBar else s.quotaSpent c e 1) = true ∧ s.mayLend e rest = false) ∧
    (∃ (c : Nat) (rest : Bool) (e : Elem) (d : Desc) (s : State), s.dmaElem c = some e ∧ (s.chan c).sideDesc false = some d ∧ (s.chan
      c).mode = .run ∧ d.waiting = false ∧ (if d.item.isSome then s.pastBar else s.quotaSpent c e 1) = true ∧ s.mayLend e rest = false) ∧
    (∃ (c : Nat) (rest : Bool) (e : Elem) (d : Desc) (s : State), s.dmaElem c = some e ∧ (s.chan c).sideDesc false = some d ∧ (s.chan
      c).mode = .run ∧ d.waiting = false ∧ (s.quotaSpent c e 1 = false ∨ s.mayLend e rest = true) ∧ d.item = none ∧ (s.chan c).rd = .none
      ∧ s.tlbLookup e.voice (d.srcAt d.readIssued) false = none) ∧
    (∃ (c pa : Nat) (rest w : Bool) (e : Elem) (d : Desc) (s u : State), s.dmaElem c = some e ∧ (s.chan c).sideDesc false = some d ∧
      (s.chan c).mode = .run ∧ d.waiting = false ∧ (s.quotaSpent c e 1 = false ∨ s.mayLend e rest = true) ∧ d.item = none ∧ (s.chan
      c).descs = [d] ∧ s.sideNow e.voice (d.srcAt d.readIssued) false (s.chan c).rd = some (u, .viol pa w) ∧ u.boundsHit c false = [] ∧
      (s.quotaSpent c e 1 = true ∨ u.grantTurn 0 c e u.waitsRead = true)) ∧
    (∃ (c pa : Nat) (rest w : Bool) (e : Elem) (d : Desc) (s u : State), s.dmaElem c = some e ∧ (s.chan c).sideDesc false = some d ∧
      (s.chan c).mode = .run ∧ d.waiting = false ∧ (s.quotaSpent c e 1 = false ∨ s.mayLend e rest = true) ∧ d.item = none ∧ (s.chan
      c).descs = [d] ∧ s.sideNow e.voice (d.srcAt d.readIssued) false (s.chan c).rd = some (u, .viol pa w) ∧ u.boundsHit c false = [] ∧
      (s.quotaSpent c e 1 = true ∨ u.grantTurn 0 c e u.waitsRead = true)) ∧
    (∃ (c : Nat) (rest : Bool) (i : Item) (e : Elem) (d : Desc) (s : State), s.dmaElem c = some e ∧ (s.chan c).sideDesc false = some d ∧
      (s.chan c).mode = .run ∧ d.waiting = false ∧ d.item = some i ∧ (if s.pastBar then s.mayLend e rest = true else s.grantTurn 0 c e
      s.waitsRead = true) ∧ (s.chan c).descs = [d] ∧ s.boundsHit c false = []) :=
  ⟨⟨2, false, (el 3 0x10 2 64 [(8,1,0),(10,1,5),(11,1,14),(16,4,7)]), (dd 1 600 0x10100 0x10040 0), (vsE (el 3 0x10 2 64
    [(8,1,0),(10,1,5),(11,1,14),(16,4,7)]) rgs { descs := [(dd 1 600 0x10100 0x10040 0)] } (tl [le true]) [(.CH_USED,2,7)]),
    by decide +kernel⟩,
  ⟨2, false, (bd (el 3 0x10 2 64 [(8,1,0),(10,1,5),(11,1,14),(16,4,4096)])), { dd 1 40 0 0x10000 0 with item := some it },
    { (vsE (bd (el 3 0x10 2 64 [(8,1,0),(10,1,5),(11,1,14),(16,4,4096)])) rgs { descs := [{ dd 1 40 0 0x10000 0 with item := some it }] } (tl [le true]) []) with tempo := { State.reset.tempo with isOpen := true }, clock := ⟨2,3,4,10^17⟩ },
    by decide +kernel⟩,
  ⟨2, false, (el 3 0x10 2 64 [(8,1,0),(10,1,5),(11,1,14),(16,4,4096)]), (dd 1 600 0x10100 0x10040 0), (vsE (el 3 0x10 2 64
    [(8,1,0),(10,1,5),(11,1,14),(16,4,4096)]) rgs { descs := [(dd 1 600 0x10100 0x10040 0)] } id []), by decide +kernel⟩,
  ⟨2, 0x7100, false, false, (el 3 0x10 2 64 [(8,1,0),(10,1,5),(11,1,14),(16,4,4096)]), (dd 1 600 0x10100 0x10040 0), (vsE (el 3 0x10 2 64
    [(8,1,0),(10,1,5),(11,1,14),(16,4,4096)]) rgs { descs := [(dd 1 600 0x10100 0x10040 0)] } (tl
    [{ le true with pa := none, target := 0x7000 }]) []), ((((vsE (el 3 0x10 2 64 [(8,1,0),(10,1,5),(11,1,14),(16,4,4096)]) rgs
    { descs := [(dd 1 600 0x10100 0x10040 0)] } (tl [{ le true with pa := none, target := 0x7000 }]) [])).sideNow 3 (Desc.srcAt (dd 1 600
    0x10100 0x10040 0) (Desc.readIssued (dd 1 600 0x10100 0x10040 0))) false .none).elim State.reset (·.1)), by decide +kernel⟩,
  ⟨2, 0x7100, false, true, (el 3 0x10 2 64 [(8,1,0),(10,1,5),(11,1,14),(16,4,4096)]), (dd 1 600 0x10100 0x10040 0), (vsE (el 3 0x10 2 64
    [(8,1,0),(10,1,5),(11,1,14),(16,4,4096)]) rgs { descs := [(dd 1 600 0x10100 0x10040 0)], rd := .answer (.viol 0x7100 true) } (tl [le
    true]) []), (vsE (el 3 0x10 2 64 [(8,1,0),(10,1,5),(11,1,14),(16,4,4096)]) rgs
    { descs := [(dd 1 600 0x10100 0x10040 0)], rd := .answer (.viol 0x7100 true) } (tl [le true]) []), by decide +kernel⟩,
  ⟨2, false, it, (bd (el 3 0x10 2 64 [(8,1,0),(10,1,5),(11,1,14),(16,4,4096)])), { dd 1 40 0 0x10000 0 with item := some it }, (vsE (bd
    (el 3 0x10 2 64 [(8,1,0),(10,1,5),(11,1,14),(16,4,4096)])) rgs { descs := [{ dd 1 40 0 0x10000 0 with item := some it }] } (tl [le
    true]) []), by decide +kernel⟩⟩

/-- States and operands that meet the hypotheses of ReadBurstsIssueAndReturn, clauses 10 to 13. -/
theorem test_ReadBurstsIssueAndReturn_3 :
    (∃ (c : Nat) (rest : Bool) (s : State), (s.chan c).mode ≠ .run) ∧
    (∃ (c : Nat) (rest : Bool) (s : State), (s.chan c).mode ≠ .run) ∧
    (∃ (c : Nat) (r : MemResult) (e : Elem) (d : Desc) (b : Burst) (l : List Burst) (s : State), s.dmaElem c = some e ∧ (s.chan c).descs =
      [d] ∧ d.reads = b :: l ∧ d.item = none ∧ memBad r = false ∧ ((∀ p, b.pa = some p → s.deadAddr p = false))) ∧
    (∃ (c : Nat) (r : MemResult) (e : Elem) (d : Desc) (b : Burst) (l : List Burst) (s : State), s.dmaElem c = some e ∧ (s.chan c).descs =
      [d] ∧ d.reads = b :: l ∧ d.item = none ∧ memBad r = false ∧ ((∀ p, b.pa = some p → s.deadAddr p = false))) ∧
    (∃ (c : Nat) (r : MemResult) (e : Elem) (d : Desc) (b : Burst) (l : List Burst) (i : Item) (s : State), s.dmaElem c = some e ∧ (s.chan
      c).descs = [d] ∧ d.reads = b :: l ∧ d.item = some i ∧ (i.base = none ∨ (memBad r = false ∧ s.deadAddr (b.pa.getD 0) = false))) ∧
    (∃ (c p : Nat) (r : MemResult) (e : Elem) (d : Desc) (b : Burst) (l : List Burst) (s : State), s.dmaElem c = some e ∧ (s.chan c).descs
      = [d] ∧ d.reads = b :: l ∧ d.readsMemory b = true ∧ d.fail = none ∧ b.pa = some p ∧ memBad r = true ∧ (s.chan c).mode = .run) :=
  ⟨⟨2, false, (vs rgs { mode := .halted, descs := [(dd 1 600 0x10100 0x10040 0)] }), by decide +kernel⟩,
  ⟨2, false, (vs rgs { mode := .stopped, descs := [(dd 1 600 0x10100 0x10040 0)] }), by decide +kernel⟩,
  ⟨2, .corrected, (dme 3 5), { (dd 1 600 0x10100 0x10040 0) with reads := [(bu 0 4 0x10100 (some 0x4100) [])] }, (bu 0 4 0x10100 (some
    0x4100) []), [], (memS (vs rgs { descs := [{ (dd 1 600 0x10100 0x10040 0) with reads := [(bu 0 4 0x10100 (some 0x4100) [])] }] } id
    []) 0x4100 4 77), by decide +kernel⟩,
  ⟨2, .corrected, (dme 3 5), { (dd 1 600 0x10100 0x10040 0) with reads := [(bu 0 4 0x10100 none [])] }, (bu 0 4 0x10100 none []), [],
    (memS (vs rgs { descs := [{ (dd 1 600 0x10100 0x10040 0) with reads := [(bu 0 4 0x10100 none [])] }] } id []) 0x4100 4 77),
    by decide +kernel⟩,
  ⟨2, .ok, (dme 3 5), { (dd 1 64 0x10100 0x10040 0) with reads := [bu 4 4 4 (some 0) []], item := some it }, (bu 4 4 4 (some 0) []), [],
    it, (memS (vs rgs { descs := [{ (dd 1 64 0x10100 0x10040 0) with reads := [bu 4 4 4 (some 0) []], item := some it }] } id []) 0x2004 4
    77), by decide +kernel⟩,
  ⟨2, 0x4100, (.uncorrectable 8), (dme 3 5),
    { (dd 1 600 0x10100 0x10040 0) with reads := [(bu 0 4 0x10100 (some 0x4100) []), (bu 4 4 0x10104 (some 0x4104) [])], readIssued := 8 },
    (bu 0 4 0x10100 (some 0x4100) []), [(bu 4 4 0x10104 (some 0x4104) [])], (vsE (dme 3 5) rgs
    { descs := [{ (dd 1 600 0x10100 0x10040 0) with reads := [(bu 0 4 0x10100 (some 0x4100) []), (bu 4 4 0x10104 (some 0x4104) [])], readIssued := 8 }] }
    id []), by decide +kernel⟩⟩

/-- States and operands that meet the hypotheses of ReadBurstsIssueAndReturn, clauses 13 to 17. -/
theorem test_ReadBurstsIssueAndReturn_4 :
    (∃ (c p : Nat) (r : MemResult) (e : Elem) (d : Desc) (b : Burst) (l : List Burst) (s : State), s.dmaElem c = some e ∧ (s.chan c).descs
      = [d] ∧ d.reads = b :: l ∧ d.readsMemory b = true ∧ d.fail = none ∧ b.pa = some p ∧ memBad r = true ∧ (s.chan c).mode = .run) ∧
    (∃ (c p : Nat) (e : Elem) (d : Desc) (b : Burst) (l : List Burst) (s : State), s.dmaElem c = some e ∧ (s.chan c).descs = [d] ∧ d.reads
      = b :: l ∧ d.item = none ∧ d.fail = none ∧ b.pa = some p ∧ s.region p = .outbound ∧ (s.chan c).mode = .run) ∧
    (∃ (c p : Nat) (e : Elem) (d : Desc) (b : Burst) (l : List Burst) (s : State), s.dmaElem c = some e ∧ (s.chan c).descs = [d] ∧ d.reads
      = b :: l ∧ d.item = none ∧ d.fail = none ∧ b.pa = some p ∧ s.region p = .outbound ∧ (s.chan c).mode = .run) ∧
    (∃ (c : Nat) (r : MemResult) (s : State), (s.chan c).oldestRead = none) ∧
    (∃ (c : Nat) (r : MemResult) (s : State), (s.chan c).oldestRead = none) ∧
    (∃ (c p : Nat) (d : Desc) (b : Burst) (s : State), (s.chan c).oldestRead = some (d, b) ∧ b.pa = some p ∧ s.region p ≠ .outbound) :=
  ⟨⟨2, 0x4100, (.uncorrectable 8), (el 3 0x10 2 64 [(9,1,1),(10,1,5),(11,1,14)]),
    { (dd 1 600 0x10100 0x10040 0) with reads := [(bu 0 4 0x10100 (some 0x4100) []), (bu 4 4 0x10104 (some 0x4104) [])], readIssued := 8 },
    (bu 0 4 0x10100 (some 0x4100) []), [(bu 4 4 0x10104 (some 0x4104) [])], (vsE (el 3 0x10 2 64 [(9,1,1),(10,1,5),(11,1,14)]) rgs
    { descs := [{ (dd 1 600 0x10100 0x10040 0) with reads := [(bu 0 4 0x10100 (some 0x4100) []), (bu 4 4 0x10104 (some 0x4104) [])], readIssued := 8 }] }
    id []), by decide +kernel⟩,
  ⟨2, 0x2FFFFFFFFC, (dme 3 5), { (dd 1 600 0x10100 0x10040 0) with reads := [(bu 0 4 0x10100 (some 0x2FFFFFFFFC) [])] }, (bu 0 4 0x10100
    (some 0x2FFFFFFFFC) []), [], (vs rgs
    { descs := [{ (dd 1 600 0x10100 0x10040 0) with reads := [(bu 0 4 0x10100 (some 0x2FFFFFFFFC) [])] }] } id []), by decide +kernel⟩,
  ⟨2, 0x2FFFFFFFFC, (dme 3 5), { (dd 1 600 0x10100 0x10040 0) with reads := [(bu 0 4 0x10100 (some 0x2FFFFFFFFC) [])] }, (bu 0 4 0x10100
    (some 0x2FFFFFFFFC) []), [], (vs rgs
    { descs := [{ (dd 1 600 0x10100 0x10040 0) with reads := [(bu 0 4 0x10100 (some 0x2FFFFFFFFC) [])] }] } id [(.HOST_LINK,0,1)]),
    by decide +kernel⟩,
  ⟨2, .ok, (vs rgs), by decide +kernel⟩,
  ⟨2, .ok, (vs rgs), by decide +kernel⟩,
  ⟨2, 0x4100, { (dd 1 600 0x10100 0x10040 0) with reads := [(bu 0 4 0x10100 (some 0x4100) [])] }, (bu 0 4 0x10100 (some 0x4100) []), (vs
    rgs { descs := [{ (dd 1 600 0x10100 0x10040 0) with reads := [(bu 0 4 0x10100 (some 0x4100) [])] }] } id []), by decide +kernel⟩⟩

/-- States and operands that meet the hypotheses of WriteBurstsIssueAndEnd, clauses 1 to 4. -/
theorem test_WriteBurstsIssueAndEnd_1 :
    (∃ (c pa : Nat) (rest : Bool) (e : Elem) (d : Desc) (bytes : List Byte) (s u : State), s.dmaElem c = some e ∧ (s.chan c).descs = [d] ∧
      s.writeHeld c = false ∧ d.ended = none ∧ d.fail = none ∧ d.writeIssued < d.total ∧ ((d.fill = true → d.waiting = false)) ∧ d.data
      d.writeIssued (d.writeLen d.writeIssued) = some bytes ∧ s.sideNow e.voice (d.dstAt d.writeIssued) true (s.chan c).wr = some (u, .ok
      pa)) ∧
    (∃ (c pa : Nat) (rest : Bool) (e : Elem) (d : Desc) (bytes : List Byte) (s u : State), s.dmaElem c = some e ∧ (s.chan c).descs = [d] ∧
      s.writeHeld c = false ∧ d.ended = none ∧ d.fail = none ∧ d.writeIssued < d.total ∧ ((d.fill = true → d.waiting = false)) ∧ d.data
      d.writeIssued (d.writeLen d.writeIssued) = some bytes ∧ s.sideNow e.voice (d.dstAt d.writeIssued) true (s.chan c).wr = some (u, .ok
      pa)) ∧
    (∃ (c pa : Nat) (rest w : Bool) (e : Elem) (d : Desc) (bytes : List Byte) (s u : State), s.dmaElem c = some e ∧ (s.chan c).descs = [d]
      ∧ s.writeHeld c = false ∧ d.ended = none ∧ d.fail = none ∧ d.writeIssued < d.total ∧ ((d.fill = true → d.waiting = false)) ∧ d.data
      d.writeIssued (d.writeLen d.writeIssued) = some bytes ∧ s.sideNow e.voice (d.dstAt d.writeIssued) true (s.chan c).wr = some (u,
      .viol pa w) ∧ (if u.overQuota c e none (d.writeLen d.writeIssued) then u.mayLend e rest = true else u.grantTurn 8 c e u.waitsWrite =
      true) ∧ d.readViolated d.writeIssued (d.writeLen d.writeIssued) = false ∧ d.writeIssued + d.writeLen d.writeIssued < d.total) ∧
    (∃ (c pa : Nat) (rest w : Bool) (e : Elem) (d : Desc) (bytes : List Byte) (s u : State), s.dmaElem c = some e ∧ (s.chan c).descs = [d]
      ∧ s.writeHeld c = false ∧ d.ended = none ∧ d.fail = none ∧ d.writeIssued < d.total ∧ ((d.fill = true → d.waiting = false)) ∧ d.data
      d.writeIssued (d.writeLen d.writeIssued) = some bytes ∧ s.sideNow e.voice (d.dstAt d.writeIssued) true (s.chan c).wr = some (u,
      .viol pa w) ∧ (if u.overQuota c e none (d.writeLen d.writeIssued) then u.mayLend e rest = true else u.grantTurn 8 c e u.waitsWrite =
      true) ∧ d.readViolated d.writeIssued (d.writeLen d.writeIssued) = false ∧ d.writeIssued + d.writeLen d.writeIssued < d.total) ∧
    (∃ (c : Nat) (rest : Bool) (e : Elem) (d : Desc) (bytes : List Byte) (s : State), s.dmaElem c = some e ∧ (s.chan c).descs = [d] ∧
      s.writeHeld c = false ∧ d.ended = none ∧ d.fail = none ∧ d.writeIssued < d.total ∧ ((d.fill = true → d.waiting = false)) ∧ d.data
      d.writeIssued (d.writeLen d.writeIssued) = some bytes ∧ (s.chan c).wr = .none ∧ s.tlbLookup e.voice (d.dstAt d.writeIssued) true =
      none) ∧
    (∃ (c : Nat) (rest : Bool) (e : Elem) (d : Desc) (s : State), s.dmaElem c = some e ∧ (s.chan c).descs = [d] ∧ s.writeHeld c = false ∧
      d.ended = none ∧ d.fail = none ∧ d.writeIssued < d.total ∧ d.fill = true ∧ d.waiting = true) :=
  ⟨⟨2, 0x4040, false, (el 3 0x10 2 64 [(8,1,0),(10,1,5),(11,1,14),(16,4,4096)]),
    { (dd 1 600 0x10100 0x10040 0) with buf := [bu 0 600 0x10100 none (List.replicate 600 7)] }, (List.replicate 448 7), (vsE (el 3 0x10 2
    64 [(8,1,0),(10,1,5),(11,1,14),(16,4,4096)]) rgs
    { descs := [{ (dd 1 600 0x10100 0x10040 0) with buf := [bu 0 600 0x10100 none (List.replicate 600 7)] }] } (tl [le true]) []), ((((vsE
    (el 3 0x10 2 64 [(8,1,0),(10,1,5),(11,1,14),(16,4,4096)]) rgs
    { descs := [{ (dd 1 600 0x10100 0x10040 0) with buf := [bu 0 600 0x10100 none (List.replicate 600 7)] }] } (tl [le true]) [])).sideNow
    3 (Desc.dstAt { (dd 1 600 0x10100 0x10040 0) with buf := [bu 0 600 0x10100 none (List.replicate 600 7)] } (Desc.writeIssued
    { (dd 1 600 0x10100 0x10040 0) with buf := [bu 0 600 0x10100 none (List.replicate 600 7)] })) true .none).elim State.reset (·.1)),
    by decide +kernel⟩,
  ⟨2, 0x4040, false, (el 3 0x10 2 64 [(8,1,0),(10,1,5),(11,1,14),(16,4,4096)]),
    { (dd 1 600 0x10100 0x10040 0) with buf := [bu 0 600 0x10100 none (List.replicate 600 7)] }, (List.replicate 448 7), ((fun s =>
    { s with dma := { s.dma with ch := (1,{ descs := [(dd 1 600 0x10100 0x10040 0)], blocked := true, stalls := [6] }) :: s.dma.ch }, load := { s.load with eff := s.load.eff ++ [el 3 0x10 1 64 [(8,1,0),(10,1,5),(11,1,14),(16,4,4096)]] } })
    (vsE (el 3 0x10 2 64 [(8,1,0),(10,1,5),(11,1,14),(16,4,4096)]) rgs
    { descs := [{ (dd 1 600 0x10100 0x10040 0) with buf := [bu 0 600 0x10100 none (List.replicate 600 7)] }] } (tl [le true]) [])), ((fun
    s =>
    { s with dma := { s.dma with ch := (1,{ descs := [(dd 1 600 0x10100 0x10040 0)], blocked := true, stalls := [6] }) :: s.dma.ch }, load := { s.load with eff := s.load.eff ++ [el 3 0x10 1 64 [(8,1,0),(10,1,5),(11,1,14),(16,4,4096)]] } })
    ((((vsE (el 3 0x10 2 64 [(8,1,0),(10,1,5),(11,1,14),(16,4,4096)]) rgs
    { descs := [{ (dd 1 600 0x10100 0x10040 0) with buf := [bu 0 600 0x10100 none (List.replicate 600 7)] }] } (tl [le true]) [])).sideNow
    3 (Desc.dstAt { (dd 1 600 0x10100 0x10040 0) with buf := [bu 0 600 0x10100 none (List.replicate 600 7)] } (Desc.writeIssued
    { (dd 1 600 0x10100 0x10040 0) with buf := [bu 0 600 0x10100 none (List.replicate 600 7)] })) true .none).elim State.reset (·.1))),
    by decide +kernel⟩,
  ⟨2, 0x7040, false, false, (el 3 0x10 2 64 [(8,1,0),(10,1,5),(11,1,14),(16,4,4096)]),
    { (dd 1 600 0x10100 0x10040 0) with buf := [bu 0 600 0x10100 (some 0x4000) (List.replicate 600 7)] }, (List.replicate 448 7), (vsE (el
    3 0x10 2 64 [(8,1,0),(10,1,5),(11,1,14),(16,4,4096)]) rgs
    { descs := [{ (dd 1 600 0x10100 0x10040 0) with buf := [bu 0 600 0x10100 (some 0x4000) (List.replicate 600 7)] }] } (tl
    [{ le true with pa := none, target := 0x7000 }]) []), ((((vsE (el 3 0x10 2 64 [(8,1,0),(10,1,5),(11,1,14),(16,4,4096)]) rgs
    { descs := [{ (dd 1 600 0x10100 0x10040 0) with buf := [bu 0 600 0x10100 (some 0x4000) (List.replicate 600 7)] }] } (tl
    [{ le true with pa := none, target := 0x7000 }]) [])).sideNow 3 (Desc.dstAt
    { (dd 1 600 0x10100 0x10040 0) with buf := [bu 0 600 0x10100 (some 0x4000) (List.replicate 600 7)] } (Desc.writeIssued
    { (dd 1 600 0x10100 0x10040 0) with buf := [bu 0 600 0x10100 (some 0x4000) (List.replicate 600 7)] })) true .none).elim State.reset
    (·.1)), by decide +kernel⟩,
  ⟨2, 0x7040, false, true, (el 3 0x10 2 64 [(8,1,0),(10,1,5),(11,1,14),(16,4,4096)]),
    { (dd 1 600 0x10100 0x10040 0) with buf := [bu 0 600 0x10100 (some 0x4000) (List.replicate 600 7)] }, (List.replicate 448 7), (vsE (el
    3 0x10 2 64 [(8,1,0),(10,1,5),(11,1,14),(16,4,4096)]) rgs
    { descs := [{ (dd 1 600 0x10100 0x10040 0) with buf := [bu 0 600 0x10100 (some 0x4000) (List.replicate 600 7)] }], wr := .answer (.viol 0x7040 true) }
    (tl [le true]) []), (vsE (el 3 0x10 2 64 [(8,1,0),(10,1,5),(11,1,14),(16,4,4096)]) rgs
    { descs := [{ (dd 1 600 0x10100 0x10040 0) with buf := [bu 0 600 0x10100 (some 0x4000) (List.replicate 600 7)] }], wr := .answer (.viol 0x7040 true) }
    (tl [le true]) []), by decide +kernel⟩,
  ⟨2, false, (el 3 0x10 2 64 [(8,1,0),(10,1,5),(11,1,14),(16,4,4096)]),
    { (dd 1 64 0x10100 0x10040 0) with buf := [bu 0 64 0x10100 none (List.replicate 64 7)] }, (List.replicate 64 7), (vsE (el 3 0x10 2 64
    [(8,1,0),(10,1,5),(11,1,14),(16,4,4096)]) rgs
    { descs := [{ (dd 1 64 0x10100 0x10040 0) with buf := [bu 0 64 0x10100 none (List.replicate 64 7)] }] } (tl
    [{ le true with write := false }]) []), by decide +kernel⟩,
  ⟨2, false, (el 3 0x10 2 64 [(8,1,0),(10,1,5),(11,1,14),(16,4,4096)]), (dd 0x61 600 0x04030201 0x10041 63), (vsE (el 3 0x10 2 64
    [(8,1,0),(10,1,5),(11,1,14),(16,4,4096)]) rgs { descs := [(dd 0x61 600 0x04030201 0x10041 63)] } (tl [le true]) []),
    by decide +kernel⟩⟩

/-- States and operands that meet the hypotheses of WriteBurstsIssueAndEnd, clauses 5 to 8. -/
theorem test_WriteBurstsIssueAndEnd_2 :
    (∃ (c : Nat) (rest : Bool) (d : Desc) (s : State), (s.chan c).descs = [d] ∧ (s.writeHeld c = true ∨ d.ended.isSome = true ∨
      d.fail.isSome = true ∨ (d.fill = false ∧ ((s.chan c).wr = .waiting ∨ d.data d.writeIssued (d.writeLen d.writeIssued) = none)) ∨
      d.total ≤ d.writeIssued)) ∧
    (∃ (c : Nat) (rest : Bool) (d : Desc) (s : State), (s.chan c).descs = [d] ∧ (s.writeHeld c = true ∨ d.ended.isSome = true ∨
      d.fail.isSome = true ∨ (d.fill = false ∧ ((s.chan c).wr = .waiting ∨ d.data d.writeIssued (d.writeLen d.writeIssued) = none)) ∨
      d.total ≤ d.writeIssued)) ∧
    (∃ (c p : Nat) (e : Elem) (d : Desc) (b : Burst) (l : List Burst) (s : State), s.dmaElem c = some e ∧ (s.chan c).flying = [] ∧ (s.chan
      c).descs = [d] ∧ d.writes = b :: l ∧ b.pa = some p ∧ b.bytes.length = b.len ∧ s.inMemory p b.len ∧ (d.total ≠ d.writeIssued ∨
      d.fail.isSome = true)) ∧
    (∃ (c : Nat) (e : Elem) (d : Desc) (b : Burst) (s : State), s.dmaElem c = some e ∧ (s.chan c).flying = [] ∧ (s.chan c).descs = [d] ∧
      d.writes = [b] ∧ d.fail = none ∧ d.ended = none ∧ d.total = d.writeIssued ∧ d.barrier = true) ∧
    (∃ (c p : Nat) (r : MemResult) (e : Elem) (d : Desc) (b : Burst) (l : List Burst) (s : State), s.dmaElem c = some e ∧ (s.chan
      c).flying = [] ∧ (s.chan c).descs = [d] ∧ d.writes = b :: l ∧ b.pa = some p ∧ memBad r = true) ∧
    (∃ (c p : Nat) (r : MemResult) (e : Elem) (d : Desc) (b : Burst) (l : List Burst) (s : State), s.dmaElem c = some e ∧ (s.chan
      c).flying = [] ∧ (s.chan c).descs = [d] ∧ d.writes = b :: l ∧ b.pa = some p ∧ memBad r = true) :=
  ⟨⟨2, false, (dd 1 600 0x10100 0x10040 0), (vsE (el 3 0x10 2 64 [(8,1,0),(10,1,5),(11,1,14),(16,4,4096)]) rgs
    { descs := [(dd 1 600 0x10100 0x10040 0)] } (tl [le true]) []), by decide +kernel⟩,
  ⟨2, false, { { (dd 1 600 0x10100 0x10040 0) with buf := [bu 0 600 0x10100 none (List.replicate 600 7)] } with writeIssued := 600 }, (vsE
    (el 3 0x10 2 64 [(8,1,0),(10,1,5),(11,1,14),(16,4,4096)]) rgs
    { descs := [{ { (dd 1 600 0x10100 0x10040 0) with buf := [bu 0 600 0x10100 none (List.replicate 600 7)] } with writeIssued := 600 }] }
    (tl [le true]) []), by decide +kernel⟩,
  ⟨2, 0x4040, (dme 3 5), { (dd 1 600 0x10100 0x10040 0) with writes := [(bu 0 4 0x10040 (some 0x4040) [1,2,3,4])], writeIssued := 4 }, (bu
    0 4 0x10040 (some 0x4040) [1,2,3,4]), [], (vs rgs
    { descs := [{ (dd 1 600 0x10100 0x10040 0) with writes := [(bu 0 4 0x10040 (some 0x4040) [1,2,3,4])], writeIssued := 4 }] } id
    [(.CH_BYTES,2,0xFFFFFFFE)]), by decide +kernel⟩,
  ⟨2, (dme 3 5), { dd 9 4 0 0 0 with writes := [(bu 0 4 0x10040 (some 0x4040) [1,2,3,4])], writeIssued := 4 }, (bu 0 4 0x10040 (some
    0x4040) [1,2,3,4]), (vs rgs
    { descs := [{ dd 9 4 0 0 0 with writes := [(bu 0 4 0x10040 (some 0x4040) [1,2,3,4])], writeIssued := 4 }] } id []),
    by decide +kernel⟩,
  ⟨2, 0x4040, .interface, (dme 3 5), { dd 9 4 0 0 0 with writes := [(bu 0 4 0x10040 (some 0x4040) [1,2,3,4])], writeIssued := 4 }, (bu 0 4
    0x10040 (some 0x4040) [1,2,3,4]), [], (vsE (dme 3 5) rgs
    { descs := [{ dd 9 4 0 0 0 with writes := [(bu 0 4 0x10040 (some 0x4040) [1,2,3,4])], writeIssued := 4 }] } id []),
    by decide +kernel⟩,
  ⟨2, 0x4040, .interface, (el 3 0x10 2 64 [(9,1,1),(10,1,5),(11,1,14)]),
    { dd 9 4 0 0 0 with writes := [(bu 0 4 0x10040 (some 0x4040) [1,2,3,4])], writeIssued := 4 }, (bu 0 4 0x10040 (some 0x4040)
    [1,2,3,4]), [], (vsE (el 3 0x10 2 64 [(9,1,1),(10,1,5),(11,1,14)]) rgs
    { descs := [{ dd 9 4 0 0 0 with writes := [(bu 0 4 0x10040 (some 0x4040) [1,2,3,4])], writeIssued := 4 }] } id []),
    by decide +kernel⟩⟩

/-- States and operands that meet the hypotheses of WriteBurstsIssueAndEnd, clauses 9 to 11. -/
theorem test_WriteBurstsIssueAndEnd_3 :
    (∃ (c p k : Nat) (e : Elem) (b : Burst) (l : List (Nat × Burst)) (s : State), s.dmaElem c = some e ∧ (s.chan c).flying = (k, b) :: l ∧
      (s.chan c).descs = [] ∧ b.pa = some p ∧ b.bytes.length = b.len ∧ s.inMemory p b.len) ∧
    (∃ (c p k : Nat) (e : Elem) (b : Burst) (l : List (Nat × Burst)) (s : State) (r : MemResult), s.dmaElem c = some e ∧ (s.chan c).flying
      = (k, b) :: l ∧ (s.chan c).descs = [] ∧ b.pa = some p ∧ b.bytes.length = b.len ∧ s.inMemory p b.len ∧ memBad r = true) ∧
    (∃ (c : Nat) (r : MemResult) (d : Desc) (s : State), (s.chan c).flying = [] ∧ ((s.chan c).descs = [] ∨ ((s.chan c).descs = [d] ∧
      d.writes = []))) ∧
    (∃ (c : Nat) (r : MemResult) (d : Desc) (s : State), (s.chan c).flying = [] ∧ ((s.chan c).descs = [] ∨ ((s.chan c).descs = [d] ∧
      d.writes = []))) :=
  ⟨⟨2, 0x4040, 9, (dme 3 5), (bu 0 4 0x10040 (some 0x4040) [1,2,3,4]), [], (vs rgs
    { flying := [(9,(bu 0 4 0x10040 (some 0x4040) [1,2,3,4]))] }), by decide +kernel⟩,
  ⟨2, 0x4040, 9, (dme 3 5), (bu 0 4 0x10040 (some 0x4040) [1,2,3,4]), [], (vs rgs
    { flying := [(9,(bu 0 4 0x10040 (some 0x4040) [1,2,3,4]))] }), (.interface : MemResult), by decide +kernel⟩,
  ⟨2, .ok, (dd 1 1 1 1 1), (vs rgs), by decide +kernel⟩,
  ⟨2, .ok, (dd 1 1 1 1 1), (vs rgs { descs := [dd 1 1 1 1 1] }), by decide +kernel⟩⟩

/-- States and operands that meet the hypotheses of WalksWritesAndResetsComplete, clauses 1 to 5. -/
theorem test_WalksWritesAndResetsComplete_1 :
    (∃ (s : State), (∃ w ∈ s.trans.misses, s.walkerFree w.voice = true)) ∧
    (∃ (k c pa : Nat) (write : Bool) (r : List MemResult) (w : Walk) (e : Elem) (d : Desc) (l : TlbEntry) (s : State), s.trans.walks[k]? =
      some w ∧ w.waiters = [(c, write)] ∧ s.dmaElem c = some e ∧ (s.chan c).sideDesc write = some d ∧ (if write then (s.chan c).wr else
      (s.chan c).rd) = .waiting ∧ (if write then d.dstAt d.writeIssued else d.srcAt d.readIssued) / 2 ^ 16 = w.va / 2 ^ 16 ∧ (walk
      { s with trans := { s.trans with walks := s.trans.walks.eraseIdx k } } w.voice w.va r).2 = .leaf l ∧ l.use (if write then d.dstAt
      d.writeIssued else d.srcAt d.readIssued) write = .ok pa) ∧
    (∃ (c pa : Nat) (rest : Bool) (e : Elem) (d : Desc) (bytes : List Byte) (s : State), s.dmaElem c = some e ∧ (s.chan c).descs = [d] ∧
      s.writeHeld c = false ∧ d.ended = none ∧ d.fail = none ∧ ((d.fill = true → d.waiting = false)) ∧ d.writeIssued + d.writeLen
      d.writeIssued < d.total ∧ d.data d.writeIssued (d.writeLen d.writeIssued) = some bytes ∧ (s.chan c).wr = .answer (.ok pa) ∧
      s.writesInFlight < 128 ∧ s.deadAddr pa = false ∧ s.overQuota c e (some pa) (d.writeLen d.writeIssued) = false ∧ s.grantTurn 8 c e
      s.waitsWrite = true) ∧
    (∃ (c p : Nat) (e : Elem) (d : Desc) (b : Burst) (l : List Burst) (s : State), s.dmaElem c = some e ∧ (s.chan c).flying = [] ∧ (s.chan
      c).descs = [d] ∧ d.writes = b :: l ∧ b.pa = some p ∧ b.bytes.length = b.len ∧ s.inMemory p b.len ∧ d.total ≠ d.writeIssued) ∧
    (∃ (c : Instr) (bitNo : Nat) (s : State), ((∃ b, c = .powerOnReset b ∧ bitNo = 0) ∨ (c = .brownout ∧ bitNo = 5) ∨ (c = .refclkLost ∧
      bitNo = 4) ∨ (∃ k, k < 3 ∧ c = .pllUnlock k ∧ bitNo = 3) ∨ (c = .resetPin ∧ s.pinsSeen = true ∧ bitNo = 1) ∨ (∃ p v, c = .warmReset
      p v ∧ s.regOpen p .AON = true ∧ v.getLsbD 0 = true ∧ v.toNat / 65536 = 0x5753 ∧ bitNo = 2) ∨ (c = .wakePin ∧ s.pinsSeen = true ∧
      s.power.standby = true ∧ s.power.asked = false ∧ bitNo = 6))) ∧
    (∃ (c : Instr) (bitNo : Nat) (s : State), ((∃ b, c = .powerOnReset b ∧ bitNo = 0) ∨ (c = .brownout ∧ bitNo = 5) ∨ (c = .refclkLost ∧
      bitNo = 4) ∨ (∃ k, k < 3 ∧ c = .pllUnlock k ∧ bitNo = 3) ∨ (c = .resetPin ∧ s.pinsSeen = true ∧ bitNo = 1) ∨ (∃ p v, c = .warmReset
      p v ∧ s.regOpen p .AON = true ∧ v.getLsbD 0 = true ∧ v.toNat / 65536 = 0x5753 ∧ bitNo = 2) ∨ (c = .wakePin ∧ s.pinsSeen = true ∧
      s.power.standby = true ∧ s.power.asked = false ∧ bitNo = 6))) :=
  ⟨⟨(vs [] {} (fun t => { t with misses := [wk 3, wk 0] })), by decide +kernel⟩,
  ⟨0, 2, 0x10100, false, [], (wk 3), (dme 3 5), (dd 1 600 0x10100 0x10040 0), ⟨3,false,1,some 0x10000,0x10000,true,false⟩, (mapped (vs rgs
    { rd := .waiting, descs := [(dd 1 600 0x10100 0x10040 0)] } (fun t => { t with walks := [wk 3] })) 4), by decide +kernel⟩,
  ⟨2, 0x4040, false, (el 3 0x10 2 64 [(8,1,0),(10,1,5),(11,1,14),(16,4,4096)]),
    { (dd 1 600 0x10100 0x10040 0) with buf := [bu 0 600 0x10100 none (List.replicate 600 7)] }, (List.replicate 448 7), (vsE (el 3 0x10 2
    64 [(8,1,0),(10,1,5),(11,1,14),(16,4,4096)]) rgs
    { descs := [{ (dd 1 600 0x10100 0x10040 0) with buf := [bu 0 600 0x10100 none (List.replicate 600 7)] }], wr := .answer (.ok 0x4040) }
    (tl [le true]) []), by decide +kernel⟩,
  ⟨2, 0x4040, (dme 3 5), { (dd 1 600 0x10100 0x10040 0) with writes := [(bu 0 4 0x10040 (some 0x4040) [1,2,3,4])], writeIssued := 4 }, (bu
    0 4 0x10040 (some 0x4040) [1,2,3,4]), [], (vs rgs
    { descs := [{ (dd 1 600 0x10100 0x10040 0) with writes := [(bu 0 4 0x10040 (some 0x4040) [1,2,3,4])], writeIssued := 4 }] }),
    by decide +kernel⟩,
  ⟨(.powerOnReset ⟨0,true⟩), 0, State.reset, Or.inl ⟨_, rfl, rfl⟩⟩,
  ⟨.wakePin, 6, { vs rgs with power := { State.reset.power with standby := true } }, Or.inr (Or.inr (Or.inr (Or.inr (Or.inr (Or.inr ⟨rfl,
    by decide +kernel, by decide +kernel, by decide +kernel, rfl⟩)))))⟩⟩

/-- States and operands that meet the hypotheses of WalksWritesAndResetsComplete, clauses 6 to 8. -/
theorem test_WalksWritesAndResetsComplete_2 :
    (∃ (s : State), s.power.clock = true) ∧
    (∃ (p : Path) (v : Word) (s : State), s.regOpen p .AON = true ∧ v.getLsbD 0 = true) ∧
    (∃ (p : Path) (v : Word) (s : State), s.regOpen p .AON = true ∧ v.getLsbD 0 = true) ∧
    (∃ (r : Sfdp) (s : State), s.power.sfdp = true) :=
  ⟨⟨{ vs rgs with power := { State.reset.power with clock := true } }, by decide +kernel⟩,
  ⟨.pcie, 1, (vs rgs), by decide +kernel⟩,
  ⟨.pcie, 1, State.reset, by decide +kernel⟩,
  ⟨⟨true,0,false,false⟩, { vs rgs with power := { State.reset.power with sfdp := true } }, by decide +kernel⟩⟩

end W7

namespace W8
open W4 W5

def po (v q n : Nat) : Post := ⟨v,q,3,0,false,n,[],none,none⟩
def net (u mf : Nat) : Elem := el 0 0x18 u 64 [(8,1,2),(10,2,mf),(20,4,0x0100A8C0),(24,1,24),(44,4,3)]
def fl (v up tc : Nat) (rate : Nat) : Elem := el v 0x11 6 64 [(8,1,up),(9,1,tc),(10,2,1),(12,2,5000),(14,2,5001),(16,1,4),(20,4,0x01),(36,4,5),(42,2,0xFFFF),(44,4,rate)]
def ef (g v tc f : Nat) : EgFrame := ⟨g,v,tc,f,⟨2,1,none,.arp 4 5⟩,0,0⟩
def al (n : Nat) : Alert := ⟨n,0x80,5,⟨1,1⟩,false,none,none⟩
def ns (l : List Elem) (f : Net → Net) (r : List (RegId × Nat × Nat)) : State :=
  let s := sc ([net 0 1518, net 1 9216, vo 3 1, vo 4 2, sl 0x117 3 [(0x21,0,0,100000)]] ++ l) ([(.NET_STATUS,0,2),(.NET_STATUS,1,1),(.CTL_PORT,0,7000)] ++ r)
  { s with net := f s.net, clock := ⟨2,3,4,5⟩ }
def fitm (n sent : Nat) (via : Option Nat) : FlowItem := ⟨⟨1,3,9,n,none,List.replicate n 7⟩, sent, via, false⟩
def key16 : List Byte := (List.range 16).map (BitVec.ofNat 8)
def signed (typ v seq : Nat) (body : List Byte) : List Byte := let m := ysfHeader typ v 0xFFFF seq 3 9 0 0 ++ body; m ++ cmac key16 m
def hd (dp : Nat) : RxHead := ⟨0,5,[],100,true,false,true,0x0A000001,0xC0A80001,4000,dp⟩
def cm (b : List Byte) : ControlMsg := ⟨hd 7000,b⟩
def ks (own : Bool) (last : Nat) (n : Net) : Net := { n with keys := [(3, some ⟨key16,own,last⟩), (0, some ⟨key16,own,last⟩)] }
def tok0 (s : State) : State := { s with svc := { s.svc with buckets := [(3, some ⟨0, 5⟩)] } }
def rqs (n : Nat) (s : State) : State := { s with svc := { s.svc with requests := List.replicate n ⟨4,0,1,false,1,1,9,6,0,0,1,1,1,1,1,false,none,false,0,[]⟩ } }
def rqb : List Byte := toLe 2 6 ++ [1,0] ++ toLe 2 0 ++ toLe 2 0 ++ toLe 2 2 ++ toLe 2 1 ++ toLe 4 77

def svq (l : List Elem) (q : Request) : State :=
  sS (net 0 1518 :: l) (fun x => { x with requests := [q], held := [(1,9)] }) [le true] [(.NET_STATUS,0,2),(.BAR_TICK,0,20000)]
def sv1x (q : Request) : State := svq [sv 1 2 0] q
def sv0x (q : Request) : State := svq [] q
def ah (tags : List Nat) (n : Nat) : RxHead := ⟨2^48-1,5,tags,n,true,false,false,0,0,0,0⟩
def signedF (typ v f seq : Nat) (body : List Byte) : List Byte := let m := ysfHeader typ v f seq 3 9 0 0 ++ body; m ++ cmac key16 m


/-- States and operands that meet the hypotheses of UplinksAndAlerts, clauses 1 to 4. -/
theorem test_UplinksAndAlerts_1 :
    (∃ (u : Nat) (e : Elem) (s : State), s.netElem u = some e ∧ s.netState u = 1 ∧ s.blockOff (48 + u) = false ∧ s.rdF .PCS_ERR_WIN u 31 0
      < e.u32 44 ∧ s.domUp .NET = true) ∧
    (∃ (u : Nat) (a b c : Bool) (s : State), s.netState u = 2 ∧ u < 2) ∧
    (∃ (u : Nat) (a b c : Bool) (s : State), s.netState u = 1 ∨ s.netState u = 3) ∧
    (∃ (u : Nat) (a b c : Bool) (s : State), s.netState u = 1 ∨ s.netState u = 3) ∧
    (∃ (u n : Nat) (e : Elem) (s : State), s.netElem u = some e ∧ u < 2 ∧ s.netState u = 2 ∧ e.u32 44 ≤ min (2 ^ 32 - 1) (s.rdF
      .PCS_ERR_WIN u 31 0 + n)) ∧
    (∃ (u n : Nat) (e : Elem) (s : State), s.netElem u = some e ∧ u < 2 ∧ s.netState u = 2 ∧ e.u32 44 ≤ min (2 ^ 32 - 1) (s.rdF
      .PCS_ERR_WIN u 31 0 + n)) :=
  ⟨⟨0, (net 0 1518), (ns [] (fun x => x) [(.NET_STATUS,0,0xD),(.PCS_ERR_WIN,0,2)]), by decide +kernel⟩,
  ⟨0, true, false, true, (ns [] (fun x =>
    { x with up := [(0,{ egress := [ef 4 0 6 0xFFFF, ef 3 3 1 6], tx := some (ef 4 0 6 0xFFFF), txEnds := 50 })], flows := [(6,{ items := [fitm 4 4 (some 6)] })] })
    [(.EGR_DROP,0,0xFFFFFFFE)]), by decide +kernel⟩,
  ⟨0, true, true, true, (ns [] (fun x => x) [(.NET_STATUS,0,1)]), by decide +kernel⟩,
  ⟨0, true, true, true, (ns [] (fun x => x) [(.NET_STATUS,0,3)]), by decide +kernel⟩,
  ⟨0, 2, (net 0 1518), (ns [] (fun x =>
    { x with up := [(0,{ egress := [ef 4 0 6 0xFFFF], tx := some (ef 4 0 6 0xFFFF), txEnds := 50 })], alerts := [al 3] })
    [(.PCS_ERR_WIN,0,1),(.EPOCH_TAB,48,255)]), by decide +kernel⟩,
  ⟨1, 0xFFFFFFFF, (net 1 9216), (ns [] (fun x =>
    { x with up := [(0,{ egress := [ef 4 0 6 0xFFFF], tx := some (ef 4 0 6 0xFFFF), txEnds := 50 })] })
    [(.NET_STATUS,1,2),(.PCS_ERR_WIN,1,1),(.ALERT_PORT,0,9)]), by decide +kernel⟩⟩

/-- States and operands that meet the hypotheses of UplinksAndAlerts, clauses 5 to 9. -/
theorem test_UplinksAndAlerts_2 :
    (∃ (u n : Nat) (e : Elem) (s : State), s.netElem u = some e ∧ (s.netState u ≠ 2 ∨ min (2 ^ 32 - 1) (s.rdF .PCS_ERR_WIN u 31 0 + n) <
      e.u32 44)) ∧
    (∃ (u n : Nat) (e : Elem) (s : State), s.netElem u = some e ∧ (s.netState u ≠ 2 ∨ min (2 ^ 32 - 1) (s.rdF .PCS_ERR_WIN u 31 0 + n) <
      e.u32 44)) ∧
    (∃ (u : Nat) (s : State), s.netState u = 3) ∧
    (∃ (u : Nat) (s : State), s.netState u ≠ 3) ∧
    (∃ (u : Nat) (s : State), s.netElem u = none) ∧
    (∃ (u : Nat) (s : State) (n : Nat), s.netElem u = none) :=
  ⟨⟨0, 2, (net 0 1518), (ns [] (fun x => x) [(.PCS_ERR_WIN,0,0)]), by decide +kernel⟩,
  ⟨1, 2, (net 1 9216), (ns [] (fun x => x) [(.PCS_ERR_WIN,1,0xFFFFFFFF)]), by decide +kernel⟩,
  ⟨1, (ns [] (fun x => { x with up := [(1,{ retrainEnds := 900 })] }) [(.NET_STATUS,1,3)]), by decide +kernel⟩,
  ⟨0, (ns [] (fun x => x) []), by decide +kernel⟩,
  ⟨0, State.reset, by decide +kernel⟩,
  ⟨0, State.reset, 5, by decide +kernel⟩⟩

/-- States and operands that meet the hypotheses of UplinksAndAlerts, clauses 10 to 13. -/
theorem test_UplinksAndAlerts_3 :
    (∃ (u : Nat) (a b c : Bool) (s : State), s.netState u = 0) ∧
    (∃ (p : Path) (v : Word) (s : State), s.regOpen p .FABRIC = true ∧ 0x80 ≤ v.toNat % 256) ∧
    (∃ (p : Path) (v : Word) (s : State), s.regOpen p .FABRIC = true ∧ 0x80 ≤ v.toNat % 256) ∧
    (∃ (p : Path) (v : Word) (s : State), s.regOpen p .FABRIC = false ∨ v.toNat % 256 < 0x80) ∧
    (∃ (p : Path) (v : Word) (s : State), s.regOpen p .FABRIC = false ∨ v.toNat % 256 < 0x80) ∧
    (∃ (p : Path) (v : Word) (s : State), s.regOpen p .FABRIC = true ∧ v.toNat % 2 = 1 ∧ ((s.net.alerts = [] ∨ s.alertPath ≠ 3)) ∧ s.rdB
      .ALERT_STATUS 0 11 = false) :=
  ⟨⟨0, true, true, true, State.reset, by decide +kernel⟩,
  ⟨.pcie, 0xFFFFFF80, (ns [] (fun x => x) []), by decide +kernel⟩,
  ⟨.netctl, 0x80, (ns [] (fun x => x) [(.ALERT_SEQ,0,0xFFFFFFFF),(.ALERT_PORT,0,9)]), by decide +kernel⟩,
  ⟨.pcie, 0x7F, (ns [] (fun x => x) []), by decide +kernel⟩,
  ⟨.debug, 0x80, closed, by decide +kernel⟩,
  ⟨.pcie, 1, (ns [] (fun x => x) [(.ALERT_STATUS,0,0x400)]), by decide +kernel⟩⟩

/-- States and operands that meet the hypotheses of UplinksAndAlerts, clauses 13 to 16. -/
theorem test_UplinksAndAlerts_4 :
    (∃ (p : Path) (v : Word) (s : State), s.regOpen p .FABRIC = true ∧ v.toNat % 2 = 1 ∧ ((s.net.alerts = [] ∨ s.alertPath ≠ 3)) ∧ s.rdB
      .ALERT_STATUS 0 11 = false) ∧
    (∃ (p : Path) (v : Word) (s : State), s.regOpen p .FABRIC = false ∨ v.toNat % 2 = 0 ∨ (s.net.alerts ≠ [] ∧ s.alertPath = 3) ∨ s.rdB
      .ALERT_STATUS 0 11 = true) ∧
    (∃ (p : Path) (v : Word) (s : State), s.regOpen p .FABRIC = false ∨ v.toNat % 2 = 0 ∨ (s.net.alerts ≠ [] ∧ s.alertPath = 3) ∨ s.rdB
      .ALERT_STATUS 0 11 = true) ∧
    (∃ (s : State), s.domUp .TIME = true) ∧
    (∃ (s : State), s.domUp .TIME = true) ∧
    (∃ (s : State), s.domUp .TIME = false) :=
  ⟨⟨.pcie, 0xFFFFFFFF, (ns [] (fun x => { x with alerts := [al 1] }) [(.ALERT_STATUS,0,0x401),(.ALERT_PORT,0,9)]), by decide +kernel⟩,
  ⟨.pcie, 0, (ns [] (fun x => x) [(.ALERT_STATUS,0,0x400)]), by decide +kernel⟩,
  ⟨.pcie, 1, (ns [] (fun x => { x with alerts := [al 1] }) [(.ALERT_STATUS,0,0x400)]), by decide +kernel⟩,
  ⟨(ns [] (fun x => x) [(.ALERT_PORT,0,9),(.ALERT_CTRL,0,0)]), by decide +kernel⟩,
  ⟨State.reset, by decide +kernel⟩,
  ⟨{ State.reset with power := { State.reset.power with clock := true } }, by decide +kernel⟩⟩

/-- States and operands that meet the hypotheses of UplinksSendByGroup, clauses 1 to 4. -/
theorem test_UplinksSendByGroup_1 :
    (∃ (u : Nat) (s : State), (s.uplink u).tx.isSome = true ∧ s.netUp u = true) ∧
    (∃ (u : Nat) (s : State), (s.uplink u).tx.isSome = true ∧ s.netUp u = true) ∧
    (∃ (u : Nat) (s : State), (s.uplink u).tx = none) ∧
    (∃ (f k : Nat) (e g : Elem) (i : FlowItem) (s : State), s.flowElem f = some e ∧ (s.flow f).now = some i ∧ s.routeItem e i = .flow k ∧
      s.flowElem k = some g ∧ g.id < 2048 ∧ s.flowWaits g = false) ∧
    (∃ (f k : Nat) (e g : Elem) (i : FlowItem) (s : State), s.flowElem f = some e ∧ (s.flow f).now = some i ∧ s.routeItem e i = .flow k ∧
      s.flowElem k = some g ∧ g.id < 2048 ∧ s.flowWaits g = false) ∧
    (∃ (f k : Nat) (e g : Elem) (i : FlowItem) (s : State), s.flowElem f = some e ∧ (s.flow f).now = some i ∧ s.routeItem e i = .flow k ∧
      s.flowElem k = some g ∧ s.flowWaits g = true) :=
  ⟨⟨0, (ns [] (fun x =>
    { x with up := [(0,{ egress := [ef 4 0 6 0xFFFF, ef 2 0 6 0xFFFF, ef 3 3 1 6], tx := some (ef 4 0 6 0xFFFF), txEnds := 50 })], alerts := [al 1, al 2] })
    [(.ALERT_PORT,0,9),(.ALERT_CTRL,0,0)]), by decide +kernel⟩,
  ⟨0, (ns [] (fun x => { x with up := [(0,{ egress := [], tx := some (ef 4 0 6 0xFFFF), txEnds := 50 })] }) []), by decide +kernel⟩,
  ⟨0, (ns [] (fun x => x) []), by decide +kernel⟩,
  ⟨6, 6, (fl 3 0 2 100000), (fl 3 0 2 100000), (fitm 2000 0 none), (ns [fl 3 0 2 100000] (fun x =>
    { x with up := [(0,{ tx := some (ef 4 0 6 0xFFFF) })], flows := [(6,{ items := (fitm 2000 0 none) :: [], seq := 0xFFFFFFFF })] })
    [(.BAR_TICK,0,1000)]), by decide +kernel⟩,
  ⟨6, 6, (fl 4 0 2 100), (fl 4 0 2 100), (fitm 2000 0 none), (ns [fl 4 0 2 100] (fun x =>
    { x with up := [(0,{ tx := some (ef 4 0 6 0xFFFF) })], flows := [(6,{ items := [fitm 2000 0 none], charged := 100 })] })
    [(.BAR_TICK,0,1000)]), by decide +kernel⟩,
  ⟨6, 6, (fl 3 0 2 100), (fl 3 0 2 100), (fitm 9 3 (some 6)), (ns [fl 3 0 2 100] (fun x =>
    { x with up := [(0,{ egress := [ef 3 3 1 6], tx := some (ef 4 0 6 0xFFFF) })], flows := [(6,{ items := [fitm 9 3 (some 6), fitm 4 0 none] })] })
    []), by decide +kernel⟩⟩

/-- States and operands that meet the hypotheses of UplinksSendByGroup, clauses 5 to 8. -/
theorem test_UplinksSendByGroup_2 :
    (∃ (f : Nat) (e : Elem) (i : FlowItem) (s : State), s.flowElem f = some e ∧ (s.flow f).now = some i ∧ s.routeItem e i = .drop) ∧
    (∃ (f : Nat) (e : Elem) (i : FlowItem) (s : State), s.flowElem f = some e ∧ (s.flow f).now = some i ∧ s.routeItem e i = .wait) ∧
    (∃ (f : Nat) (e : Elem) (s : State), s.flowElem f = some e ∧ (s.flow f).now = none) ∧
    (∃ (f : Nat) (s : State), s.flowElem f = none) :=
  ⟨⟨6, (fl 3 0 2 100), (fitm 9 3 (some 8)), (ns [fl 3 0 2 100] (fun x =>
    { x with flows := [(6,{ items := [fitm 9 3 (some 8), fitm 4 0 none] })] }) []), by decide +kernel⟩,
  ⟨6, (fl 3 1 2 100), (fitm 9 0 none), (ns [fl 3 1 2 100] (fun x => { x with flows := [(6,{ items := [fitm 9 0 none] })] }) []),
    by decide +kernel⟩,
  ⟨6, (fl 3 0 2 100), (ns [fl 3 0 2 100] (fun x => x) []), by decide +kernel⟩,
  ⟨6, (ns [] (fun x => x) []), by decide +kernel⟩⟩

/-- States and operands that meet the hypotheses of MessagesAreAuthenticated, clauses 1 to 5. -/
theorem test_MessagesAreAuthenticated_1 :
    (∃ (u v : Nat) (m : ControlMsg) (s : State), s.takesMessage u 3 m v ∧ ((s.takeSeq v (leAt m.bytes 8 4)).requestToken v).2 = true ∧
      isSetkey (ysfBody m.bytes) = true ∧ s.foreignFlow v m.bytes = false) ∧
    (∃ (u v a : Nat) (m : ControlMsg) (s : State), s.takesMessage u 3 m v ∧ ((s.takeSeq v (leAt m.bytes 8 4)).requestToken v).2 = true ∧
      regsCount (ysfBody m.bytes) = some 1 ∧ a = leAt (ysfBody m.bytes) 4 4 ∧ bit 25 a = false ∧ ((bit 24 a = true → v = 0)) ∧ ((bit 24 a
      = false → fld 19 0 a < 65536)) ∧ s.foreignFlow v m.bytes = false) ∧
    (∃ (u v a : Nat) (m : ControlMsg) (s : State), s.takesMessage u 3 m v ∧ ((s.takeSeq v (leAt m.bytes 8 4)).requestToken v).2 = true ∧
      regsCount (ysfBody m.bytes) = some 1 ∧ a = leAt (ysfBody m.bytes) 4 4 ∧ bit 25 a = false ∧ ((bit 24 a = true → v = 0)) ∧ ((bit 24 a
      = false → fld 19 0 a < 65536)) ∧ s.foreignFlow v m.bytes = false) ∧
    (∃ (u v : Nat) (m : ControlMsg) (s : State), s.takesMessage u 3 m v ∧ ((s.takeSeq v (leAt m.bytes 8 4)).requestToken v).2 = true ∧
      s.foreignFlow v m.bytes = true ∧ isSetkey (ysfBody m.bytes) = true) ∧
    (∃ (u v : Nat) (m : ControlMsg) (s : State) (n : Nat), s.takesMessage u 3 m v ∧ ((s.takeSeq v (leAt m.bytes 8 4)).requestToken v).2 =
      true ∧ s.foreignFlow v m.bytes = true ∧ regsCount (ysfBody m.bytes) = some n) ∧
    (∃ (u v : Nat) (m : ControlMsg) (s : State), s.takesMessage u 5 m v ∧ ((s.takeSeq v (leAt m.bytes 8 4)).requestToken v).2 = true ∧
      requestOk (ysfBody m.bytes) = true ∧ s.svc.requests.length < 64) :=
  ⟨⟨0, 3, (cm (signed 3 3 1 ([2,0,0,0] ++ key16.reverse))), (ns [] (fun x => ks true 0 x) []), by decide +kernel⟩,
  ⟨0, 3, 44, (cm (signed 3 3 1 ([1,1,0,0] ++ toLe 4 44 ++ toLe 4 0))), (ns [] (fun x => ks false 0xFFFFFFFF x) [(.VW_IRQ_MASK,3,2)]),
    by decide +kernel⟩,
  ⟨0, 0, 16777216, (cm (signed 3 0 1 ([1,1,0,0] ++ toLe 4 16777216 ++ toLe 4 0))), (ns [] (fun x => ks false 0 x) [(.VW_IRQ_MASK,3,2)]),
    by decide +kernel⟩,
  ⟨0, 3, (cm (signedF 3 3 6 1 ([2,0,0,0] ++ key16.reverse))), (ns [fl 4 0 2 100] (fun x => ks true 0 x) []), by decide +kernel⟩,
  ⟨0, 3, (cm (signedF 3 3 6 1 ([1,1,0,0] ++ toLe 4 0x200002C ++ toLe 4 0))), (ns [fl 4 0 2 100] (fun x => ks true 0 x) []), 1,
    by decide +kernel⟩,
  ⟨0, 3, (cm (signed 5 3 5 rqb)), (rqs 63 (ns [] (fun x => ks false 4 x) [])), by decide +kernel⟩⟩

/-- States and operands that meet the hypotheses of MessagesAreAuthenticated, clauses 6 to 9. -/
theorem test_MessagesAreAuthenticated_2 :
    (∃ (u v : Nat) (m : ControlMsg) (s : State), s.takesMessage u 5 m v ∧ ((s.takeSeq v (leAt m.bytes 8 4)).requestToken v).2 = true ∧
      requestOk (ysfBody m.bytes) = true ∧ 64 ≤ s.svc.requests.length) ∧
    (∃ (u v typ : Nat) (m : ControlMsg) (c : Instr) (s : State), (((c = .controlSetkey u m ∨ c = .controlRegs u m) ∧ typ = 3 ∨ c =
      .imageRequest u m ∧ typ = 5)) ∧ s.takesMessage u typ m v ∧ ((s.takeSeq v (leAt m.bytes 8 4)).requestToken v).2 = false) ∧
    (∃ (u v typ : Nat) (m : ControlMsg) (c : Instr) (s : State), (((c = .controlSetkey u m ∨ c = .controlRegs u m) ∧ typ = 3 ∨ c =
      .imageRequest u m ∧ typ = 5)) ∧ s.takesMessage u typ m v ∧ ((s.takeSeq v (leAt m.bytes 8 4)).requestToken v).2 = false) ∧
    (∃ (u v typ : Nat) (m : ControlMsg) (c : Instr) (s : State), (((c = .controlSetkey u m ∨ c = .controlRegs u m) ∧ typ = 3 ∨ c =
      .imageRequest u m ∧ typ = 5)) ∧ (s.netElem u).isSome = true ∧ s.netUp u = true ∧ (s.frameOk u m.head false true = false ∨
      m.head.dport ≠ s.rdF .CTL_PORT u 15 0)) ∧
    (∃ (u v typ : Nat) (m : ControlMsg) (c : Instr) (s : State), (((c = .controlSetkey u m ∨ c = .controlRegs u m) ∧ typ = 3 ∨ c =
      .imageRequest u m ∧ typ = 5)) ∧ (s.netElem u).isSome = true ∧ s.netUp u = true ∧ (s.frameOk u m.head false true = false ∨
      m.head.dport ≠ s.rdF .CTL_PORT u 15 0)) ∧
    (∃ (u v typ : Nat) (m : ControlMsg) (c : Instr) (s : State), (((c = .controlSetkey u m ∨ c = .controlRegs u m) ∧ typ = 3 ∨ c =
      .imageRequest u m ∧ typ = 5)) ∧ (s.netElem u).isSome = true ∧ s.netUp u = true ∧ s.frameOk u m.head false true = true ∧ m.head.dport
      = s.rdF .CTL_PORT u 15 0 ∧ 32 ≤ m.bytes.length ∧ leAt m.bytes 0 2 = 0x4659 ∧ leAt m.bytes 2 1 = 1 ∧ leAt m.bytes 3 1 = typ ∧ leAt
      m.bytes 4 2 = v ∧ ((1024 ≤ v ∨ s.ysfVerified v m.bytes = false ∨ s.declared v = false ∨ s.netctl v = false ∨ s.seqNew v (leAt
      m.bytes 8 4) = false))) :=
  ⟨⟨0, 3, (cm (signed 5 3 5 rqb)), (rqs 64 (ns [] (fun x => ks false 4 x) [])), by decide +kernel⟩,
  ⟨0, 3, 5, (cm (signed 5 3 5 rqb)), (.imageRequest 0 (cm (signed 5 3 5 rqb))), (tok0 (ns [] (fun x => ks false 4 x) [])),
    by decide +kernel⟩,
  ⟨0, 3, 3, (cm (signed 3 3 5 rqb)), (.controlSetkey 0 (cm (signed 3 3 5 rqb))), (tok0 (ns [] (fun x => ks false 4 x) [])),
    by decide +kernel⟩,
  ⟨0, 3, 5, ⟨hd 7001,[]⟩, (.imageRequest 0 ⟨hd 7001,[]⟩), (ns [] (fun x => ks false 4 x) []), by decide +kernel⟩,
  ⟨0, 3, 5, ⟨{ hd 7000 with fcsOk := false },[]⟩, (.imageRequest 0 ⟨{ hd 7000 with fcsOk := false },[]⟩), (ns [] (fun x => x) []),
    by decide +kernel⟩,
  ⟨0, 3, 5, (cm (signed 5 3 4 rqb)), (.imageRequest 0 (cm (signed 5 3 4 rqb))), (ns [] (fun x => ks false 4 x) []), by decide +kernel⟩⟩

/-- States and operands that meet the hypotheses of MessagesAreAuthenticated, clauses 9 to 11. -/
theorem test_MessagesAreAuthenticated_3 :
    (∃ (u v typ : Nat) (m : ControlMsg) (c : Instr) (s : State), (((c = .controlSetkey u m ∨ c = .controlRegs u m) ∧ typ = 3 ∨ c =
      .imageRequest u m ∧ typ = 5)) ∧ (s.netElem u).isSome = true ∧ s.netUp u = true ∧ s.frameOk u m.head false true = true ∧ m.head.dport
      = s.rdF .CTL_PORT u 15 0 ∧ 32 ≤ m.bytes.length ∧ leAt m.bytes 0 2 = 0x4659 ∧ leAt m.bytes 2 1 = 1 ∧ leAt m.bytes 3 1 = typ ∧ leAt
      m.bytes 4 2 = v ∧ ((1024 ≤ v ∨ s.ysfVerified v m.bytes = false ∨ s.declared v = false ∨ s.netctl v = false ∨ s.seqNew v (leAt
      m.bytes 8 4) = false))) ∧
    (∃ (p : Path) (w : Word) (s : State), s.regOpen p .FABRIC = true ∧ ((∀ k, s.netKey (s.rdF .KEY_SEL 0 9 0) = some k → k.owned =
      false))) ∧
    (∃ (p : Path) (w : Word) (s : State), s.regOpen p .FABRIC = true ∧ ((∀ k, s.netKey (s.rdF .KEY_SEL 0 9 0) = some k → k.owned =
      false))) ∧
    (∃ (p : Path) (w : Word) (s : State), s.regOpen p .FABRIC = false ∨ (∃ k, s.netKey (s.rdF .KEY_SEL 0 9 0) = some k ∧ k.owned = true))
      ∧
    (∃ (p : Path) (w : Word) (s : State), s.regOpen p .FABRIC = false ∨ (∃ k, s.netKey (s.rdF .KEY_SEL 0 9 0) = some k ∧ k.owned = true))
      :=
  ⟨⟨0, 3, 5, (cm (signed 5 3 5 rqb)), (.imageRequest 0 (cm (signed 5 3 5 rqb))), (ns [] (fun x => x) []), by decide +kernel⟩,
  ⟨.pcie, 0xFFFFFFFF, (ns [] (fun x => ks false 4 x) [(.KEY_SEL,0,3),(.KEY_DATA,0,5),(.KEY_DATA,1,6),(.KEY_DATA,2,7)]),
    by decide +kernel⟩,
  ⟨.pcie, 0, (ns [] (fun x => x) []), by decide +kernel⟩,
  ⟨.pcie, 1, closed, by decide +kernel⟩,
  ⟨.pcie, 1, (ns [] (fun x => ks true 4 x) [(.KEY_SEL,0,3)]), by decide +kernel⟩⟩

/-- States and operands that meet the hypotheses of FramesModulesAndImages, clauses 1 to 4. -/
theorem test_FramesModulesAndImages_1 :
    (∃ (u ip target : Nat) (h : RxHead) (e : Elem) (s : State), s.netElem u = some e ∧ s.netUp u = true ∧ s.frameOk u h true false = true
      ∧ e.u8 24 ≠ 0 ∧ target = s.netIp u false) ∧
    (∃ (u ip target : Nat) (h : RxHead) (e : Elem) (s : State), s.netElem u = some e ∧ s.netUp u = true ∧ (s.frameOk u h true false =
      false ∨ e.u8 24 = 0 ∨ target ≠ s.netIp u false)) ∧
    (∃ (u ip target : Nat) (h : RxHead) (e : Elem) (s : State), s.netElem u = some e ∧ s.netUp u = true ∧ (s.frameOk u h true false =
      false ∨ e.u8 24 = 0 ∨ target ≠ s.netIp u false)) ∧
    (∃ (u ip i n : Nat) (d : List Byte) (h : RxHead) (e : Elem) (s : State), s.netElem u = some e ∧ s.netUp u = true) ∧
    (∃ (u ip i n : Nat) (d : List Byte) (h : RxHead) (e : Elem) (s : State), s.netElem u = some e ∧ s.netUp u = true) ∧
    (∃ (u : Nat) (h : RxHead) (handled : Bool) (s : State), (s.netElem u).isSome = true ∧ s.netUp u = true ∧ handled = true ∧ s.frameOk u
      h false true = true) :=
  ⟨⟨0, 6, 0xC0A80001, (ah [] 64), (net 0 1518), (ns [] (fun x => x) []), by decide +kernel⟩,
  ⟨0, 6, 0xC0A80002, (ah [] 64), (net 0 1518), (ns [] (fun x => x) []), by decide +kernel⟩,
  ⟨0, 6, 0xC0A80001, (ah [5] 64), (net 0 1518), (ns [] (fun x => x) []), by decide +kernel⟩,
  ⟨0, 7, 1, 2, (List.replicate 1472 9), (hd 0), (net 0 1518), (ns [] (fun x => x) []), by decide +kernel⟩,
  ⟨0, 7, 1, 2, [], { hd 0 with len := 1519 }, (net 0 1518), (ns [] (fun x => x) []), by decide +kernel⟩,
  ⟨0, (hd 0), true, (ns [] (fun x => x) []), by decide +kernel⟩⟩

/-- States and operands that meet the hypotheses of FramesModulesAndImages, clauses 5 to 7. -/
theorem test_FramesModulesAndImages_2 :
    (∃ (u : Nat) (h : RxHead) (handled : Bool) (s : State), (s.netElem u).isSome = true ∧ s.netUp u = true ∧ (handled = false ∨ s.frameOk
      u h false true = false)) ∧
    (∃ (u : Nat) (h : RxHead) (handled : Bool) (s : State), (s.netElem u).isSome = true ∧ s.netUp u = true ∧ (handled = false ∨ s.frameOk
      u h false true = false)) ∧
    (∃ (u ip i n : Nat) (d : List Byte) (h : RxHead) (handled : Bool) (s : State), s.netElem u = none ∨ s.netUp u = false) ∧
    (∃ (u ip i n : Nat) (d : List Byte) (h : RxHead) (handled : Bool) (s : State), s.netElem u = none ∨ s.netUp u = false) ∧
    (∃ (u ip i n : Nat) (d : List Byte) (h : RxHead) (handled : Bool) (s : State), s.netElem u = none ∨ s.netUp u = false) ∧
    (∃ (u ip i n : Nat) (d : List Byte) (h : RxHead) (handled : Bool) (s : State), s.netElem u = none ∨ s.netUp u = false) :=
  ⟨⟨0, (hd 0), false, (ns [] (fun x => x) []), by decide +kernel⟩,
  ⟨0, { hd 0 with plain := false, fcsOk := false }, true, (ns [] (fun x => x) []), by decide +kernel⟩,
  ⟨1, 6, 6, 1, [], (hd 0), true, (ns [] (fun x => x) []), by decide +kernel⟩,
  ⟨1, 6, 6, 1, [], (hd 0), false, State.reset, by decide +kernel⟩,
  ⟨1, 6, 6, 1, [], (hd 0), true, (ns [] (fun x => x) []), by decide +kernel⟩,
  ⟨1, 6, 6, 1, [], (hd 0), false, State.reset, by decide +kernel⟩⟩

/-- States and operands that meet the hypotheses of FramesModulesAndImages, clauses 8 to 10. -/
theorem test_FramesModulesAndImages_3 :
    (∃ (u ip i n : Nat) (d : List Byte) (h : RxHead) (handled : Bool) (s : State), s.netElem u = none ∨ s.netUp u = false) ∧
    (∃ (u ip i n : Nat) (d : List Byte) (h : RxHead) (handled : Bool) (s : State), s.netElem u = none ∨ s.netUp u = false) ∧
    (∃ (p : Path) (u : Nat) (v : Word) (r : CciResult) (d : Byte) (c : Instr) (s : State), u < 2 ∧ s.entryOpen p .MOD_CMD u = true ∧
      v.getLsbD 31 = true ∧ s.rdB .MOD_STATUS u 0 = false ∧ ((c = .moduleRead p u v r d ∧ v.getLsbD 9 = true ∨ c = .moduleWrite p u v r ∧
      v.getLsbD 9 = false))) ∧
    (∃ (p : Path) (u : Nat) (v : Word) (r : CciResult) (d : Byte) (c : Instr) (s : State), u < 2 ∧ s.entryOpen p .MOD_CMD u = true ∧
      v.getLsbD 31 = true ∧ s.rdB .MOD_STATUS u 0 = false ∧ ((c = .moduleRead p u v r d ∧ v.getLsbD 9 = true ∨ c = .moduleWrite p u v r ∧
      v.getLsbD 9 = false))) ∧
    (∃ (p : Path) (u : Nat) (v : Word) (r : CciResult) (d : Byte) (s : State), u < 2 ∧ (s.entryOpen p .MOD_CMD u = false ∨ v.getLsbD 31 =
      false ∧ s.rdB .MOD_STATUS u 0 = false)) ∧
    (∃ (p : Path) (u : Nat) (v : Word) (r : CciResult) (d : Byte) (s : State), u < 2 ∧ (s.entryOpen p .MOD_CMD u = false ∨ v.getLsbD 31 =
      false ∧ s.rdB .MOD_STATUS u 0 = false)) :=
  ⟨⟨1, 6, 6, 1, [], (hd 0), true, (ns [] (fun x => x) []), by decide +kernel⟩,
  ⟨1, 6, 6, 1, [], (hd 0), false, State.reset, by decide +kernel⟩,
  ⟨.pcie, 0, (BitVec.ofNat 32 2147484577), .ack, 9, (.moduleRead .pcie 0 (BitVec.ofNat 32 2147484577) .ack 9), (ns [] (fun x => x)
    [(.MOD_DATA,0,3)]), by decide +kernel⟩,
  ⟨.pcie, 1, (BitVec.ofNat 32 2147484577), .ack, 9, (.moduleRead .pcie 1 (BitVec.ofNat 32 2147484577) .ack 9), State.reset,
    by decide +kernel⟩,
  ⟨.pcie, 0, 5, .ack, 9, State.reset, by decide +kernel⟩,
  ⟨.pcie, 0, (BitVec.ofNat 32 0x80000200), .ack, 9, closed, by decide +kernel⟩⟩

/-- States and operands that meet the hypotheses of FramesModulesAndImages, clauses 11 to 15. -/
theorem test_FramesModulesAndImages_4 :
    (∃ (p : Path) (u : Nat) (v : Word) (r : CciResult) (d : Byte) (s : State), u < 2 ∧ (s.entryOpen p .MOD_CMD u = false ∨ v.getLsbD 31 =
      false ∧ s.rdB .MOD_STATUS u 0 = false)) ∧
    (∃ (v n : Nat) (lent : Bool) (m : MemAnswers) (q : Request) (e w : Elem) (s : State), s.svc.requests.find? (fun q => q.voice == v) =
      some q ∧ s.serveTurn v = some (lent, n) ∧ s.server v = some e ∧ e.u16 10 = q.window ∧ s.svcWin e = some w) ∧
    (∃ (v n : Nat) (lent : Bool) (m : MemAnswers) (q : Request) (e w : Elem) (s : State), s.svc.requests.find? (fun q => q.voice == v) =
      some q ∧ s.serveTurn v = some (lent, n) ∧ s.server v = some e ∧ e.u16 10 = q.window ∧ s.svcWin e = some w) ∧
    (∃ (v n : Nat) (lent : Bool) (m : MemAnswers) (q : Request) (s : State), s.svc.requests.find? (fun q => q.voice == v) = some q ∧
      s.serveTurn v = some (lent, n) ∧ s.server v = none) ∧
    (∃ (v n : Nat) (lent : Bool) (m : MemAnswers) (q : Request) (s : State) (e : Elem), s.svc.requests.find? (fun q => q.voice == v) =
      some q ∧ s.serveTurn v = some (lent, n) ∧ s.server v = some e ∧ e.u16 10 ≠ q.window) ∧
    (∃ (v : Nat) (m : MemAnswers) (s : State), (∀ q ∈ s.svc.requests, q.voice ≠ v) ∨ s.serveTurn v = none) :=
  ⟨⟨.pcie, 1, 5, .ack, 9, State.reset, by decide +kernel⟩,
  ⟨3, (match (sv1x ⟨3,0,1,false,1,1,9,6,0,0,1,1,1,77,8,false,none,false,0,[]⟩).serveTurn 3 with | some x => x.2 | none => 0), true, {},
    ⟨3,0,1,false,1,1,9,6,0,0,1,1,1,77,8,false,none,false,0,[]⟩, (sv 1 2 0), wA, (sv1x
    ⟨3,0,1,false,1,1,9,6,0,0,1,1,1,77,8,false,none,false,0,[]⟩), by decide +kernel⟩,
  ⟨3, (match (sv1x ⟨3,0,1,false,1,1,9,6,0,0,1,1,1,77,8,true,none,false,0,[]⟩).serveTurn 3 with | some x => x.2 | none => 0), true, {},
    ⟨3,0,1,false,1,1,9,6,0,0,1,1,1,77,8,true,none,false,0,[]⟩, (sv 1 2 0), wA, (sv1x
    ⟨3,0,1,false,1,1,9,6,0,0,1,1,1,77,8,true,none,false,0,[]⟩), by decide +kernel⟩,
  ⟨3, (match (sv0x ⟨3,0,1,false,1,1,9,6,0,0,1,1,1,77,8,false,none,false,0,[]⟩).serveTurn 3 with | some x => x.2 | none => 0), true, {},
    ⟨3,0,1,false,1,1,9,6,0,0,1,1,1,77,8,false,none,false,0,[]⟩, (sv0x ⟨3,0,1,false,1,1,9,6,0,0,1,1,1,77,8,false,none,false,0,[]⟩),
    by decide +kernel⟩,
  ⟨3, (match (sv1x ⟨3,0,1,false,1,1,9,7,0,0,1,1,1,77,8,false,none,false,0,[]⟩).serveTurn 3 with | some x => x.2 | none => 0), true, {},
    ⟨3,0,1,false,1,1,9,7,0,0,1,1,1,77,8,false,none,false,0,[]⟩, (sv1x ⟨3,0,1,false,1,1,9,7,0,0,1,1,1,77,8,false,none,false,0,[]⟩), (sv 1 2
    0), by decide +kernel⟩,
  ⟨3, {}, State.reset, by decide +kernel⟩⟩

/-- States and operands that meet the hypotheses of FramesModulesAndImages, clause 15. -/
theorem test_FramesModulesAndImages_5 : ∃ (v : Nat) (m : MemAnswers) (s : State), (∀ q ∈ s.svc.requests, q.voice ≠ v) ∨ s.serveTurn v =
  none :=
  ⟨4, {}, (rqs 1 { ns [] id [] with svc := { State.reset.svc with running := [(6,some ⟨1,9,none,false,9⟩)] } }), by decide +kernel⟩

end W8

namespace W9
open W4 W5 W6

def recB (typ n id : Nat) (fs : List (Nat × Nat × Nat)) : List Byte :=
  fs.foldl (fun b x => b.take x.1 ++ toLe x.2.1 x.2.2 ++ b.drop (x.1 + x.2.1)) (toLe 2 typ ++ toLe 2 n ++ toLe 2 id ++ [1, 0] ++ zeros (n - 8))
def scoreB (seg : Bool) (commit pmin : Nat) (secs : List (Nat × Nat × List Byte)) : List Byte :=
  let n := secs.length
  let base := 64 + 16 * n
  let dir := (secs.foldl (fun (a : List Byte × Nat) x => (a.1 ++ [BitVec.ofNat 8 x.1, 0] ++ toLe 2 x.2.1 ++ toLe 4 a.2 ++ toLe 4 x.2.2.length ++ toLe 4 (crc32c x.2.2), a.2 + x.2.2.length)) ([], base)).1
  let body := secs.flatMap (·.2.2)
  let h := toLe 4 0x4F435359 ++ [0, 1] ++ toLe 2 64 ++ toLe 4 (base + body.length) ++ [if seg then 1 else 0, 0] ++ toLe 2 n ++ toLe 4 64 ++ toLe 4 (crc32c dir) ++ toLe 8 commit ++ toLe 4 pmin ++ zeros 24
  h ++ toLe 4 (crc32c h) ++ dir ++ body
def sysR : List Byte := recB 1 32 0 [(8,1,1),(20,4,77)]
def tmpR : List Byte := recB 2 32 0 [(8,1,0),(20,4,1000000),(24,4,50000000),(28,4,2000000)]
def minB : List Byte := scoreB false 0 1000000 [(1, 0, sysR ++ tmpR)]
def segB (commit : Nat) : List Byte := scoreB true commit 1000000 [(2, 3, recB 4 16 3 [(8,1,1)] ++ recB 5 24 15 [(8,1,4),(9,1,1),(16,8,4096)])]
def putB (s : State) (a : Nat) (b : List Byte) : State := { s with mem := ((List.zip (List.range b.length) b).map fun p => (a + p.1, p.2)).filter fun p => p.2 != 0 }
def stag (a n : Nat) (b : Bool := false) : Staged := ⟨false, a, n, 0, b⟩
def ldS (s : State) (f : Load → Load) : State := { s with load := f s.load }
def minS : State := putB (ldS State.reset fun l => { l with staged := some (stag 0x1000 minB.length) }) 0x1000 minB
def liveS (r : List (RegId × Nat × Nat) := []) (l : List Elem := []) : State := sc ([vo 3 1, ⟨0,1,0,0,sysR⟩, ⟨0,2,0,0,tmpR⟩] ++ l) ([(.TEMPO_CFG,0,2^31),(.PMIN_NS,0,1000000),(.IDLE_NS,0,50000000),(.TIMER_NS,0,2000000),(.BAR_TICK,0,62500),(.BEAT_NUM,0,9)] ++ r)
def seg (k : Nat) : State := putB (ldS (liveS []) fun l => { l with staged := some (stag 0x1000 (segB k).length) }) 0x1000 (segB k)
def okOf (e : Except Fail Score) : Score := match e with | .ok c => c | .error _ => ⟨false,99,[],[],none,stag 0 0⟩
def flOf (e : Except Fail Score) : Fail := match e with | .error c => c | .ok _ => ⟨99,0,0⟩
def segC (k : Nat) : Score := okOf ((seg k).admission (stag 0x1000 (segB k).length))
def tS (src : Nat) (f : Tempo → Tempo) (r : List (RegId × Nat × Nat) := []) (l : List Elem := []) : State :=
  let s := liveS ([(.TEMPO_CFG,0,2^31+src)] ++ r) l
  { s with tempo := f s.tempo, clock := ⟨5,7,9,10^17⟩, ready := true }
def opn (last : Nat) (t : Tempo) : Tempo := { t with isOpen := true, last := last, beats := [bt 9 false, bt 8 true, bt 7 false] }

def rgsX : Tab Ring := [(3*16+5, rg true true 2 4 0),(3*16+14, rg false true 2 4 1)]

theorem admitted {e : Except Fail Score} (h : (match e with | .ok _ => true | .error _ => false) = true) : e = .ok (okOf e) := by
  cases e with
  | ok c => rfl
  | error f => cases h
theorem rejected {e : Except Fail Score} (h : (match e with | .ok _ => false | .error _ => true) = true) : e = .error (flOf e) := by
  cases e with
  | ok c => cases h
  | error f => rfl


/-- States and operands that meet the hypotheses of LoadsAreJudged, clauses 1 to 4. -/
theorem test_LoadsAreJudged_1 :
    (∃ (p : Path) (v : Word) (s : State), s.regOpen p .FABRIC = true ∧ v.getLsbD 0 = true ∧ v.getLsbD 1 = false ∧ fld 3 2 v.toNat ≤ 1 ∧
      s.load.staged = none ∧ s.load.applying = none ∧ s.load.armed = none) ∧
    (∃ (p : Path) (v : Word) (s : State), s.regOpen p .FABRIC = true ∧ v.getLsbD 0 = true ∧ v.getLsbD 1 = false ∧ fld 3 2 v.toNat ≤ 1 ∧
      s.load.staged = none ∧ s.load.applying = none ∧ s.load.armed = none) ∧
    (∃ (p : Path) (v : Word) (s : State), s.regOpen p .FABRIC = true ∧ v.getLsbD 0 = true ∧ v.getLsbD 1 = false ∧ (s.load.staged.isSome =
      true ∨ s.load.applying.isSome = true ∨ s.load.armed.isSome = true)) ∧
    (∃ (p : Path) (v : Word) (s : State), s.regOpen p .FABRIC = true ∧ v.getLsbD 0 = true ∧ v.getLsbD 1 = false ∧ (s.load.staged.isSome =
      true ∨ s.load.applying.isSome = true ∨ s.load.armed.isSome = true)) ∧
    (∃ (p : Path) (v : Word) (c : Score) (s : State), s.regOpen p .FABRIC = true ∧ v.getLsbD 0 = false ∧ v.getLsbD 1 = true ∧ s.load.pend
      = some c) ∧
    (∃ (p : Path) (v : Word) (s : State), s.regOpen p .FABRIC = true ∧ v.getLsbD 0 = false ∧ v.getLsbD 1 = true ∧ s.load.pend = none) :=
  ⟨⟨.pcie, 0x31, (r0 [(.LOAD_ADDR,0,0x1000),(.LOAD_LEN,0,64)]), by decide +kernel⟩,
  ⟨.netctl, 0x35, { r0 [(.LOAD_ADDR,0,0x1000)] with power := { State.reset.power with banks := [1] } }, by decide +kernel⟩,
  ⟨.pcie, 1, (ldS State.reset fun l => { l with staged := some (stag 0 0) }), by decide +kernel⟩,
  ⟨.pcie, 1, (ldS State.reset fun l => { l with armed := some (segC 12) }), by decide +kernel⟩,
  ⟨.pcie, 2, (segC 12), (ldS (liveS [(.PENDING_BEAT,0,12)]) fun l => { l with pend := some (segC 12) }), by decide +kernel⟩,
  ⟨.pcie, 2, State.reset, by decide +kernel⟩⟩

/-- States and operands that meet the hypotheses of LoadsAreJudged, clauses 5 to 9. -/
theorem test_LoadsAreJudged_2 :
    (∃ (p : Path) (v : Word) (s : State), s.regOpen p .FABRIC = false) ∧
    (∃ (p : Path) (v : Word) (s : State), s.regOpen p .FABRIC = false) ∧
    (∃ (x : Staged) (f : Fail) (s : State), s.load.staged = some x ∧ s.domUp .FABRIC = true ∧ ((x.flash = true → s.power.sfdp = false)) ∧
      s.admission x = .error f ∧ s.power.banks = []) ∧
    (∃ (x : Staged) (c : Score) (s : State), s.load.staged = some x ∧ s.domUp .FABRIC = true ∧ ((x.flash = true → s.power.sfdp = false)) ∧
      s.admission x = .ok c) ∧
    (∃ (x : Staged) (c : Score) (s : State), s.load.staged = some x ∧ s.domUp .FABRIC = true ∧ ((x.flash = true → s.power.sfdp = false)) ∧
      s.admission x = .ok c) ∧
    (∃ (s : State), s.load.staged = none ∨ s.domUp .FABRIC = false ∨ (∃ x, s.load.staged = some x ∧ x.flash = true ∧ s.power.sfdp = true))
      :=
  ⟨⟨.pcie, 1, closed, by decide +kernel⟩,
  ⟨.pcie, 2, closed, by decide +kernel⟩,
  ⟨(stag 0x1000 128), (flOf (State.reset.admission (stag 0x1000 128))), (ldS State.reset fun l =>
    { l with staged := some (stag 0x1000 128) }), rfl, by decide +kernel, nofun, rejected (by decide +kernel), by decide +kernel⟩,
  ⟨(stag 0x1000 minB.length), (okOf (minS.admission (stag 0x1000 minB.length))), minS, rfl, by decide +kernel, nofun, admitted
    (by decide +kernel)⟩,
  ⟨(stag 0x1000 (segB 11).length), (segC 11), (seg 11), rfl, by decide +kernel, nofun, admitted (by decide +kernel)⟩,
  ⟨State.reset, Or.inl rfl⟩⟩

/-- States and operands that meet the hypotheses of LoadsAreJudged, clause 9. -/
theorem test_LoadsAreJudged_3 : ∃ (s : State), s.load.staged = none ∨ s.domUp .FABRIC = false ∨ (∃ x, s.load.staged = some x ∧ x.flash =
  true ∧ s.power.sfdp = true) :=
  ⟨{ State.reset with load := { State.reset.load with staged := some ⟨true,0,0,0,false⟩ }, power := { State.reset.power with sfdp := true } },
    Or.inr (Or.inr ⟨_, rfl, rfl, by decide +kernel⟩)⟩

/-- States and operands that meet the hypotheses of FullLoadsCommitAndVoicesHalt, clauses 1 to 4. -/
theorem test_FullLoadsCommitAndVoicesHalt_1 :
    (∃ (c : Score) (s : State), s.load.applying = some c ∧ s.load.applied = false ∧ s.domUp .FABRIC = true) ∧
    (∃ (c : Score) (s : State), s.load.applying = some c ∧ s.load.applied = false ∧ s.domUp .FABRIC = true) ∧
    (∃ (c : Score) (s : State), s.load.applying = some c ∧ s.load.applied = true ∧ s.domUp .FABRIC = true) ∧
    (∃ (s : State), s.load.applying = none ∨ s.domUp .FABRIC = false ∨ s.load.applied = true) ∧
    (∃ (s : State), s.load.applying = none ∨ s.domUp .FABRIC = false ∨ s.load.applied = true) ∧
    (∃ (s : State), s.load.applying = none ∨ s.domUp .FABRIC = false ∨ s.load.applied = false) :=
  ⟨⟨(okOf (minS.admission (stag 0x1000 minB.length))), (ldS State.reset fun l =>
    { l with applying := some (okOf (minS.admission (stag 0x1000 minB.length))) }), by decide +kernel⟩,
  ⟨⟨false,0,[⟨1,0,false,64,80,0,[⟨0,9,2,0,(el 0 9 2 72 [(8,1,1),(56,8,2^64-1)]).raw⟩]⟩],[],none,stag 0x1000 0⟩, (ldS State.reset fun l =>
    { l with applying := some ⟨false,0,[⟨1,0,false,64,80,0,[⟨0,9,2,0,(el 0 9 2 72 [(8,1,1),(56,8,2^64-1)]).raw⟩]⟩],[],none,stag 0x1000 0⟩ }),
    by decide +kernel⟩,
  ⟨(okOf (minS.admission (stag 0x1000 minB.length))), (ldS (r0 [(.SCORE_GEN,0,0xFFFFFFFF)]) fun l =>
    { l with applying := some (okOf (minS.admission (stag 0x1000 minB.length))), applied := true }), by decide +kernel⟩,
  ⟨State.reset, by decide +kernel⟩,
  ⟨(ldS State.reset fun l => { l with applied := true }), by decide +kernel⟩,
  ⟨State.reset, by decide +kernel⟩⟩

/-- States and operands that meet the hypotheses of FullLoadsCommitAndVoicesHalt, clauses 5 to 6. -/
theorem test_FullLoadsCommitAndVoicesHalt_2 :
    (∃ (p : Path) (w : Word) (v : Nat) (s : State), s.regOpen p .FABRIC = true ∧ v = w.toNat % 1024 ∧ v ≠ 0 ∧ s.isHalted v = false) ∧
    (∃ (p : Path) (w : Word) (v : Nat) (s : State), s.regOpen p .FABRIC = true ∧ v = w.toNat % 1024 ∧ v ≠ 0 ∧ s.isHalted v = false) ∧
    (∃ (p : Path) (w : Word) (s : State), s.regOpen p .FABRIC = false ∨ w.toNat % 1024 = 0 ∨ s.isHalted (w.toNat % 1024) = true) ∧
    (∃ (p : Path) (w : Word) (s : State), s.regOpen p .FABRIC = false ∨ w.toNat % 1024 = 0 ∨ s.isHalted (w.toNat % 1024) = true) :=
  ⟨⟨.pcie, 0xFFFFFC03, 3,
    { vs rgsX { descs := [dsc 0], mode := .run } (inS (fe (.dmaRead 2))) with svc := { State.reset.svc with jobs := [jb 2 []], items := [⟨16384,3,9,5,none,[]⟩,⟨2,3,9,5,none,[]⟩] } },
    by decide +kernel⟩,
  ⟨.pcie, 9, 9, State.reset, by decide +kernel⟩,
  ⟨.pcie, 0, State.reset, by decide +kernel⟩,
  ⟨.pcie, 3, (ldS (vs []) fun l => { l with halted := [3] }), by decide +kernel⟩⟩

/-- States and operands that meet the hypotheses of TempoEventsRaiseBarlines, clauses 1 to 3. -/
theorem test_TempoEventsRaiseBarlines_1 :
    (∃ (s : State), s.plainBar ∧ s.tempoSrc = 0 ∧ (s.runTo s.tempo.timerDue).eventRaises) ∧
    (∃ (s : State), s.plainBar ∧ s.tempoSrc = 0 ∧ (s.runTo s.tempo.timerDue).eventRaises) ∧
    (∃ (r : Bool) (n : Nat) (s : State), s.plainBar ∧ 8 < n ∧ s.pinsSeen = true ∧ s.tempoSrc = 2 ∧ r ≠ s.rdB .TEMPO_CFG 0 11 ∧
      s.eventRaises) ∧
    (∃ (r : Bool) (n : Nat) (s : State), s.plainBar ∧ 8 < n ∧ s.pinsSeen = true ∧ s.tempoSrc = 2 ∧ r ≠ s.rdB .TEMPO_CFG 0 11 ∧
      s.eventRaises) ∧
    (∃ (k n : Nat) (a b : Bool) (s : State), s.plainBar ∧ k < 4 ∧ s.encAccepts k n = true ∧ s.domUp .PROC = true ∧ s.pinsSeen = true ∧
      s.tempoSrc = 1 ∧ k = s.rdF .TEMPO_CFG 0 9 8 ∧ (s.encCount k a b).pastTarget = 0 ∧ s.eventRaises) ∧
    (∃ (k n : Nat) (a b : Bool) (s : State), s.plainBar ∧ k < 4 ∧ s.encAccepts k n = true ∧ s.domUp .PROC = true ∧ s.pinsSeen = true ∧
      s.tempoSrc = 1 ∧ k = s.rdF .TEMPO_CFG 0 9 8 ∧ (s.encCount k a b).pastTarget = 0 ∧ s.eventRaises) :=
  ⟨⟨(tS 0 (fun t => { opn (10^16) t with timerDue := 10^17+nsU 5 })), by decide +kernel⟩,
  ⟨(tS 0 (fun t => { opn (10^17-nsU 1000000) t with timerDue := 10^17 })), by decide +kernel⟩,
  ⟨true, 9, (tS 2 (fun t => opn (10^16) t)), by decide +kernel⟩,
  ⟨false, 9, (tS 2 (fun t => t) [(.TEMPO_CFG,0,2^31+2+2048),(.BEAT_NUM,0,2^64-1)]), by decide +kernel⟩,
  ⟨0, 9, true, false, (tS 1 (fun t => { opn (10^16) t with target := 1 }) [(.TEMPO_DIV,0,100)]), by decide +kernel⟩,
  ⟨3, 9, false, true, (tS 1 (fun t => { opn (10^16) t with target := 0xFFFFFFFF }) [(.TEMPO_CFG,0,2^31+1+768+1024),(.TEMPO_DIV,0,100)]),
    by decide +kernel⟩⟩

/-- States and operands that meet the hypotheses of TempoEventsRaiseBarlines, clauses 4 to 6. -/
theorem test_TempoEventsRaiseBarlines_2 :
    (∃ (k n : Nat) (a b : Bool) (s : State), k < 4 ∧ s.encAccepts k n = true ∧ s.domUp .PROC = true ∧ s.pinsSeen = true ∧ ((s.tempoSrc = 1
      → k = s.rdF .TEMPO_CFG 0 9 8 → (s.encCount k a b).pastTarget < 0))) ∧
    (∃ (k n : Nat) (a b : Bool) (s : State), k < 4 ∧ s.encAccepts k n = true ∧ s.domUp .PROC = true ∧ s.pinsSeen = true ∧ ((s.tempoSrc = 1
      → k = s.rdF .TEMPO_CFG 0 9 8 → (s.encCount k a b).pastTarget < 0))) ∧
    (∃ (s : State), s.scoreLive = false ∨ s.tempoSrc ≠ 0) ∧
    (∃ (s : State), s.scoreLive = false ∨ s.tempoSrc ≠ 0) ∧
    (∃ (r : Bool) (n : Nat) (s : State), n ≤ 8 ∨ s.pinsSeen = false ∨ s.scoreLive = false ∨ s.tempoSrc ≠ 2 ∨ r = s.rdB .TEMPO_CFG 0 11) ∧
    (∃ (r : Bool) (n : Nat) (s : State), n ≤ 8 ∨ s.pinsSeen = false ∨ s.scoreLive = false ∨ s.tempoSrc ≠ 2 ∨ r = s.rdB .TEMPO_CFG 0 11) :=
  ⟨⟨3, 9, true, false, State.reset, by decide +kernel⟩,
  ⟨0, 9, true, false, (tS 1 (fun t => { opn (10^16) t with target := 2 }) [(.TEMPO_DIV,0,100)]), by decide +kernel⟩,
  ⟨State.reset, by decide +kernel⟩,
  ⟨(tS 1 id), by decide +kernel⟩,
  ⟨true, 9, State.reset, by decide +kernel⟩,
  ⟨false, 8, (tS 2 (fun t => opn 5 t)), by decide +kernel⟩⟩

/-- States and operands that meet the hypotheses of TempoEventsRaiseBarlines, clauses 7 to 10. -/
theorem test_TempoEventsRaiseBarlines_3 :
    (∃ (r : Bool) (n : Nat) (s : State), 8 < n ∧ s.pinsSeen = true ∧ s.scoreLive = true ∧ s.tempoSrc = 2 ∧ r ≠ s.rdB .TEMPO_CFG 0 11 ∧ (¬
      (s.tieRole = 2 ∧ s.tieState = 1)) ∧ s.tempo.isOpen = true ∧ s.pastPmin = false ∧ s.tempo.held.length < 4) ∧
    (∃ (r : Bool) (n : Nat) (s : State), 8 < n ∧ s.pinsSeen = true ∧ s.scoreLive = true ∧ s.tempoSrc = 2 ∧ r ≠ s.rdB .TEMPO_CFG 0 11 ∧ (¬
      (s.tieRole = 2 ∧ s.tieState = 1)) ∧ s.tempo.isOpen = true ∧ s.pastPmin = false ∧ s.tempo.held.length < 4) ∧
    (∃ (r : Bool) (n : Nat) (s : State), 8 < n ∧ s.pinsSeen = true ∧ s.scoreLive = true ∧ s.tempoSrc = 2 ∧ r ≠ s.rdB .TEMPO_CFG 0 11 ∧ (¬
      (s.tieRole = 2 ∧ s.tieState = 1)) ∧ s.tempo.isOpen = true ∧ s.pastPmin = false ∧ 4 ≤ s.tempo.held.length) ∧
    (∃ (x : Nat) (l : List Nat) (s : State), s.plainBar ∧ s.tempo.held = x :: l) ∧
    (∃ (x : Nat) (l : List Nat) (s : State), s.plainBar ∧ s.tempo.held = x :: l) ∧
    (∃ (s : State), s.tempo.held = []) :=
  ⟨⟨true, 9, (tS 2 (fun t => { opn (10^17-1) t with held := [1,2,3] })), by decide +kernel⟩,
  ⟨true, 9, (tS 2 (fun t => opn (10^17-nsU 1000000+1) t)), by decide +kernel⟩,
  ⟨true, 9, (tS 2 (fun t => { opn (10^17-1) t with held := [1,2,3,4] }) [(.DROP_CNT,0,0xFFFFFFFF)]), by decide +kernel⟩,
  ⟨5, [6], (tS 0 (fun t => { opn (10^17-1) t with held := [5,6] })), by decide +kernel⟩,
  ⟨5, [6], (tS 1 (fun t => { opn (10^17-1) t with held := [5,6] })), by decide +kernel⟩,
  ⟨State.reset, by decide +kernel⟩⟩

/-- States and operands that meet the hypotheses of TempoEventsRaiseBarlines, clauses 11 to 13. -/
theorem test_TempoEventsRaiseBarlines_4 :
    (∃ (s : State), s.plainBar ∧ s.tempo.isOpen = true ∧ s.tempo.held = [] ∧ s.tempoSrc ≠ 4 ∧ s.eventByIdle = false) ∧
    (∃ (s : State), s.plainBar ∧ s.tempo.isOpen = true ∧ s.tempo.held = [] ∧ s.tempoSrc ≠ 4 ∧ s.eventByIdle = false) ∧
    (∃ (s : State), s.tempo.isOpen = false ∨ s.tempo.held ≠ [] ∨ s.tempoSrc = 4 ∨ s.eventByIdle = true) ∧
    (∃ (s : State), s.tempo.isOpen = false ∨ s.tempo.held ≠ [] ∨ s.tempoSrc = 4 ∨ s.eventByIdle = true) ∧
    (∃ (s : State), s.tempo.isOpen = true ∧ s.tempo.playing = false) ∧
    (∃ (s : State), s.tempo.isOpen = true ∧ s.tempo.playing = false) :=
  ⟨⟨(tS 1 (fun t => opn (10^17-1) t)), by decide +kernel⟩,
  ⟨(tS 0 (fun t => { opn (10^17-1) t with timerDue := 10^20 })), by decide +kernel⟩,
  ⟨State.reset, by decide +kernel⟩,
  ⟨(tS 0 (fun t => opn 5 t)), by decide +kernel⟩,
  ⟨{ tS 0 (fun t => opn (10^17-1) t) [] [dme 3 5] with svc := { State.reset.svc with items := [⟨2,3,7,5,none,[]⟩,⟨2,3,8,5,none,[]⟩] } },
    by decide +kernel⟩,
  ⟨(tS 0 (fun t => { opn 5 t with beats := [bt 9 false] })), by decide +kernel⟩⟩

/-- States and operands that meet the hypotheses of TempoEventsRaiseBarlines, clause 14. -/
theorem test_TempoEventsRaiseBarlines_5 :
    (∃ (s : State), s.tempo.isOpen = false ∨ s.tempo.playing = true) ∧
    (∃ (s : State), s.tempo.isOpen = false ∨ s.tempo.playing = true) :=
  ⟨⟨State.reset, by decide +kernel⟩,
  ⟨(tS 0 (fun t => { opn 5 t with playing := true })), by decide +kernel⟩⟩

/-- States and operands that meet the hypotheses of BarlineCommitsWhatIsDue, clauses 1 to 3. -/
theorem test_BarlineCommitsWhatIsDue_1 :
    (∃ (r : Bool) (n : Nat) (c : Score) (s : State), s.plainBar ∧ 8 < n ∧ s.pinsSeen = true ∧ s.tempoSrc = 2 ∧ r ≠ s.rdB .TEMPO_CFG 0 11 ∧
      s.eventRaises ∧ s.load.pend = some c ∧ c.commit ≤ s.nextNum) ∧
    (∃ (r : Bool) (n : Nat) (c : Score) (s : State), s.plainBar ∧ 8 < n ∧ s.pinsSeen = true ∧ s.tempoSrc = 2 ∧ r ≠ s.rdB .TEMPO_CFG 0 11 ∧
      s.eventRaises ∧ s.load.pend = some c ∧ c.commit ≤ s.nextNum) ∧
    (∃ (r : Bool) (n : Nat) (c : Score) (s : State), s.plainBar ∧ 8 < n ∧ s.pinsSeen = true ∧ s.tempoSrc = 2 ∧ r ≠ s.rdB .TEMPO_CFG 0 11 ∧
      s.eventRaises ∧ s.load.pend = some c ∧ s.nextNum < c.commit) ∧
    (∃ (r : Bool) (n : Nat) (c : Score) (s : State), s.load.armed = some c ∧ s.extestPlays = false ∧ 8 < n ∧ s.pinsSeen = true ∧
      s.tempoSrc = 2 ∧ r ≠ s.rdB .TEMPO_CFG 0 11 ∧ s.eventRaises) :=
  ⟨⟨true, 9, (segC 12), (ldS (tS 2 (fun t => opn (10^16) t) [(.BEAT_NUM,0,11)]) fun l => { l with pend := some (segC 12) }),
    by decide +kernel⟩,
  ⟨true, 9, (segC 12), (ldS (tS 2 (fun t => opn (10^16) t) [(.BEAT_NUM,0,15)]) fun l => { l with pend := some (segC 12) }),
    by decide +kernel⟩,
  ⟨true, 9, (segC 12), (ldS (tS 2 (fun t => opn (10^16) t) [(.BEAT_NUM,0,10)]) fun l => { l with pend := some (segC 12) }),
    by decide +kernel⟩,
  ⟨true, 9, (okOf (minS.admission (stag 0x1000 minB.length))), (ldS (tS 2 (fun t => opn (10^16) t)) fun l =>
    { l with armed := some (okOf (minS.admission (stag 0x1000 minB.length))) }), by decide +kernel⟩⟩

end W9

namespace W10
open W4 W5

def tsys (role ptp alt : Nat) : Elem := el 0 1 0 64 [(8,1,1),(10,1,role),(11,1,ptp),(14,1,alt)]
def net (u mf : Nat) : Elem := el 0 0x18 u 64 [(8,1,2),(10,2,mf),(20,4,0x0100A8C0),(24,1,24),(44,4,3)]
def al (n : Nat) (t : Option Nat) : Alert := ⟨n,0x80,5,⟨1,1⟩,true,t,none⟩
def grp2 : Elem := el 0 0xC 4 64 [(8,1,2),(10,2,0x55),(12,2,8),(16,2,7),(24,2,0x8009)]
def ccf : TieConfig := ⟨1, 1000000, [(7,0,0)], [(9,4,3,0x80)]⟩
def uf (n : Nat) : TieFrame := ⟨1,n,[1,2],50⟩
def tg (role st : Nat) (f : Tie → Tie) (r : List (RegId × Nat × Nat) := []) (l : List Elem := []) : State :=
  let s := ws ([tsys role 0 (if role = 1 then 2 else 0), grp2, net 0 1518, net 1 1518, wn 6 1 4 0 1 5 1 1] ++ l) false ([(.TEMPO_CFG,0,2^31+4),(.TIE_STATUS,0,st+8),(.PMIN_NS,0,1000000),(.IDLE_NS,0,50000000),(.TIMER_NS,0,2000000),(.BEAT_NUM,0,10),(.TEMPO_DIV,0,100)] ++ r)
  { s with tie := f s.tie, clock := ⟨5,7,9,10^17⟩, ready := true, align := { s.align with rowCounter := [(4,23)] } }
def cutS (s : State) : State := { s with align := { s.align with products := [⟨3,1,9,[⟨6,[],0⟩],false⟩] } }
def hd (n k : Nat) : TieHdr := ⟨n,k,true⟩
def tl1 : TieLine := ⟨9,1,0,4,9,⟨1,1⟩,5,6,0,[1,2,3,4]⟩
def bl0 (n f : Nat) : TieBarline := ⟨n,⟨6,7⟩,55,66,f⟩
def udpB : List Byte := toBe 6 5 ++ zeros 6 ++ toBe 2 0x0800 ++ toBe 2 0x4500 ++ zeros 6 ++ [64,17] ++ zeros 2 ++ zeros 4 ++ toBe 4 9 ++ toBe 2 1 ++ toBe 2 2 ++ toBe 2 8 ++ zeros 2
def pc (c exc burn pul : Nat) : Elem := el 0 0x13 c 64 [(10,1,exc),(11,1,0),(12,1,burn),(13,1,pul),(14,2,2500)]
def ps (x : ProcCh) (ramp : Bool) (r : List (RegId × Nat × Nat) := []) (e : Elem := pc 3 1 1 0) : State :=
  let s := sc [e] r
  { s with proc := { s.proc with ch := [(3,x)], ramps := if ramp then [(1,some 900)] else [] }, power := { s.power with supply := true }, clock := ⟨0,0,0,100⟩ }


/-- States and operands that meet the hypotheses of TieFramesAreTaken, clauses 1 to 4. -/
theorem test_TieFramesAreTaken_1 :
    (∃ (c : Instr) (h : TieHdr) (s : State), tieFrameOf c = some h ∧ s.tieOn = false) ∧
    (∃ (c : Instr) (h : TieHdr) (s : State), tieFrameOf c = some h ∧ s.tieOn = false) ∧
    (∃ (c : Instr) (h : TieHdr) (s : State), tieFrameOf c = some h ∧ s.tieOn = true ∧ h.crcOk = false) ∧
    (∃ (c : Instr) (h : TieHdr) (s : State), tieFrameOf c = some h ∧ s.tieOn = true ∧ h.crcOk = false) ∧
    (∃ (h : TieHdr) (s : State), s.hears h ∧ s.acksNoAlert h) ∧
    (∃ (h : TieHdr) (s : State), s.hears h ∧ s.net.lost = 0 ∧ 2 ≤ s.alertPath ∧ ((s.alertPath = 2 → ∀ a ∈ s.net.alerts, a.tseq.isSome =
      true))) :=
  ⟨⟨(.tieAckRx ⟨5,6,false⟩), ⟨5,6,false⟩, State.reset, by decide +kernel⟩,
  ⟨(.tieBarlineRx ⟨5,6,false⟩ (bl0 5 0)), ⟨5,6,false⟩, State.reset, by decide +kernel⟩,
  ⟨(.tieAckRx ⟨5,6,false⟩), ⟨5,6,false⟩, (tg 1 2 (fun x => x) [(.TIE_CRC_ERR,0,0xFFFFFFFF)]), by decide +kernel⟩,
  ⟨(.tieBarlineRx ⟨5,6,false⟩ (bl0 5 0)), ⟨5,6,false⟩, (tg 1 2 (fun x => x) [(.TIE_CRC_ERR,0,0xFFFFFFFF)]), by decide +kernel⟩,
  ⟨(hd 0 7), (tg 1 2 (fun x => { x with unacked := [uf 7, uf 8] })), by decide +kernel⟩,
  ⟨(hd 0 7),
    { tg 1 2 (fun x => { x with unacked := [uf 7, uf 8] }) with net := { State.reset.net with alerts := [al 1 (some 7), al 2 (some 8)] } },
    by decide +kernel⟩⟩

/-- States and operands that meet the hypotheses of TieFramesAreTaken, clauses 4 to 7. -/
theorem test_TieFramesAreTaken_2 :
    (∃ (h : TieHdr) (s : State), s.hears h ∧ s.net.lost = 0 ∧ 2 ≤ s.alertPath ∧ ((s.alertPath = 2 → ∀ a ∈ s.net.alerts, a.tseq.isSome =
      true))) ∧
    (∃ (h : TieHdr) (c : TieConfig) (s : State), s.hears h ∧ h.tseq = (s.tie.recvSeq + 1) % 2 ^ 32) ∧
    (∃ (h : TieHdr) (c : TieConfig) (s : State), s.hears h ∧ h.tseq = (s.tie.recvSeq + 1) % 2 ^ 32) ∧
    (∃ (h : TieHdr) (b : List Byte) (s : State), s.hears h ∧ h.tseq = (s.tie.recvSeq + 1) % 2 ^ 32 ∧ s.net.alerts = [] ∧ s.net.lost = 0 ∧
      s.alertPath = 3) ∧
    (∃ (h : TieHdr) (c : TieConfig) (b : List Byte) (i : Instr) (s : State), s.hears h ∧ h.tseq ≠ (s.tie.recvSeq + 1) % 2 ^ 32 ∧ ((i =
      .tieConfigRx h c ∨ i = .tieAlertRx h b)) ∧ s.acksNoAlert h) ∧
    (∃ (h : TieHdr) (c : TieConfig) (b : List Byte) (i : Instr) (s : State), s.hears h ∧ h.tseq ≠ (s.tie.recvSeq + 1) % 2 ^ 32 ∧ ((i =
      .tieConfigRx h c ∨ i = .tieAlertRx h b)) ∧ s.acksNoAlert h) :=
  ⟨⟨(hd 0 7),
    { tg 1 3 (fun x => { x with unacked := [uf 7, uf 8] }) with net := { State.reset.net with alerts := [al 1 (some 7), al 2 (some 8)] } },
    by decide +kernel⟩,
  ⟨(hd 4 0), ccf, (tg 1 3 (fun x => { x with recvSeq := 3 })), by decide +kernel⟩,
  ⟨(hd 0 0), { ccf with answers := [(9,0,0,0)] }, (tg 2 1 (fun x =>
    { x with recvSeq := 0xFFFFFFFF, config := some ccf, widths := [(9,7),(8,3)] })), by decide +kernel⟩,
  ⟨(hd 1 0), (zeros 32 ++ toLe 8 0x85 ++ toLe 8 77 ++ toLe 8 5 ++ toLe 4 6 ++ zeros 4), (tg 1 3 (fun x => x)), by decide +kernel⟩,
  ⟨(hd 3 0), ccf, [], (.tieConfigRx (hd 3 0) ccf), (tg 1 3 (fun x => { x with recvSeq := 3, unacked := [uf 0, uf 1] })),
    by decide +kernel⟩,
  ⟨(hd 5 0), ccf, [], (.tieAlertRx (hd 5 0) []), (tg 1 3 (fun x => { x with recvSeq := 3, unacked := [uf 0, uf 1] })), by decide +kernel⟩⟩

/-- States and operands that meet the hypotheses of TieFramesAreTaken, clauses 8 to 9. -/
theorem test_TieFramesAreTaken_3 :
    (∃ (f : TieFrame) (l : List TieFrame) (s : State), s.tie.unacked = f :: l ∧ s.tieOn = true) ∧
    (∃ (s : State), s.tie.unacked = [] ∨ s.tieOn = false) ∧
    (∃ (s : State), s.tie.unacked = [] ∨ s.tieOn = false) :=
  ⟨⟨(uf 4), [uf 5], (tg 1 2 (fun x => { x with unacked := [uf 4, uf 5] })), by decide +kernel⟩,
  ⟨State.reset, by decide +kernel⟩,
  ⟨(tg 1 2 (fun x => x)), by decide +kernel⟩⟩

/-- States and operands that meet the hypotheses of TieLinkStatesAndTime, clauses 1 to 4. -/
theorem test_TieLinkStatesAndTime_1 :
    (∃ (s : State), s.tieRole ≠ 0 ∧ s.rdB .TIE_STATUS 0 3 = false ∧ s.blockOff 50 = false ∧ s.domUp .FABRIC = true) ∧
    (∃ (s : State), s.tieRole = 0 ∨ s.rdB .TIE_STATUS 0 3 = true ∨ s.blockOff 50 = true ∨ s.domUp .FABRIC = false) ∧
    (∃ (s : State), s.tieRole = 0 ∨ s.rdB .TIE_STATUS 0 3 = true ∨ s.blockOff 50 = true ∨ s.domUp .FABRIC = false) ∧
    (∃ (s : State), s.rdB .TIE_STATUS 0 3 = true) ∧
    (∃ (s : State), s.rdB .TIE_STATUS 0 3 = true) ∧
    (∃ (s : State), s.rdB .TIE_STATUS 0 3 = false) :=
  ⟨⟨(tg 2 3 (fun x => { x with unacked := [uf 4], recvSeq := 9, sendSeq := 8, config := some ccf }) [(.TIE_STATUS,0,3)]),
    by decide +kernel⟩,
  ⟨State.reset, by decide +kernel⟩,
  ⟨(tg 1 3 (fun x => x) [(.TIE_STATUS,0,3),(.EPOCH_TAB,50,512)]), by decide +kernel⟩,
  ⟨(tg 1 1 (fun x => { x with config := some ccf }) [(.EPOCH_TAB,50,255)]), by decide +kernel⟩,
  ⟨(tg 2 4 (fun x => { x with config := some ccf }) [(.EPOCH_TAB,50,255)]), by decide +kernel⟩,
  ⟨State.reset, by decide +kernel⟩⟩

/-- States and operands that meet the hypotheses of TieLinkStatesAndTime, clauses 5 to 8. -/
theorem test_TieLinkStatesAndTime_2 :
    (∃ (s : State), s.tieState = 1) ∧
    (∃ (s : State), s.tieState = 1) ∧
    (∃ (s : State), s.tieState ≠ 1) ∧
    (∃ (s : State), s.tieOn = true) ∧
    (∃ (s : State), s.tieOn = true) ∧
    (∃ (s : State), s.tieOn = false) :=
  ⟨⟨(tg 2 1 (fun x => { x with formedAt := 10^17-5, encAt := 0xFFFFFFFF })), by decide +kernel⟩,
  ⟨(tg 1 1 (fun x => x)), by decide +kernel⟩,
  ⟨State.reset, by decide +kernel⟩,
  ⟨(tg 1 1 (fun x => { x with missed := 1, good := 5 })), by decide +kernel⟩,
  ⟨(tg 2 4 (fun x => { x with missed := 2, good := 5 })), by decide +kernel⟩,
  ⟨State.reset, by decide +kernel⟩⟩

/-- States and operands that meet the hypotheses of TieLinkStatesAndTime, clauses 9 to 13. -/
theorem test_TieLinkStatesAndTime_3 :
    (∃ (s : State), s.tieOn = false) ∧
    (∃ (s : State), s.tieOn = false) ∧
    (∃ (s : State), s.tieOn = true) ∧
    (∃ (h : TieHdr) (b : TieHeartbeat) (s : State), s.hears h) ∧
    (∃ (h : TieHdr) (b : TieHeartbeat) (s : State), s.hears h) ∧
    (∃ (s : State), s.tieOn = true ∧ (s.txq 2).length < 16) :=
  ⟨⟨State.reset, by decide +kernel⟩,
  ⟨State.reset, by decide +kernel⟩,
  ⟨(tg 1 2 (fun x => x)), by decide +kernel⟩,
  ⟨(hd 0 0), ⟨1,2,7,true⟩, (tg 1 3 (fun x => { x with config := some ccf })), by decide +kernel⟩,
  ⟨(hd 0 0), ⟨1,2,9,false⟩, (tg 2 4 (fun x => { x with missed := 3, good := 15 })), by decide +kernel⟩,
  ⟨(tg 1 2 (fun x => x)), by decide +kernel⟩⟩

/-- States and operands that meet the hypotheses of TieLinkStatesAndTime, clauses 14 to 17. -/
theorem test_TieLinkStatesAndTime_4 :
    (∃ (h : TieHdr) (s : State), s.hears h ∧ s.acksNoAlert h) ∧
    (∃ (h : TieHdr) (t1 : Stamp) (t2 : Int) (s : State), s.hears h ∧ s.acksNoAlert h ∧ s.tie.syncRx = some t2 ∧ (s.txq 2).length < 16) ∧
    (∃ (h : TieHdr) (s : State), s.hears h ∧ s.acksNoAlert h) ∧
    (∃ (h : TieHdr) (t4 : Stamp) (e : TxStamp) (t1 t2 : Int) (s : State), s.hears h ∧ (s.agedTie.txq 2).reverse.find? (fun e => e.kind ==
      3) = some e ∧ s.tie.last = some (t1, t2)) ∧
    (∃ (h : TieHdr) (t4 : Stamp) (e : TxStamp) (t1 t2 : Int) (s : State), s.hears h ∧ (s.agedTie.txq 2).reverse.find? (fun e => e.kind ==
      3) = some e ∧ s.tie.last = some (t1, t2)) :=
  ⟨⟨(hd 0 0), (tg 1 2 (fun x => x)), by decide +kernel⟩,
  ⟨(hd 0 0), ⟨1,2⟩, 77,
    { tg 2 2 (fun x => { x with syncRx := some 77 }) with ptp := { State.reset.ptp with txq := [(2, [⟨3,1,5,0,false⟩, ⟨3,2,6,10^17,false⟩])] } },
    by decide +kernel⟩,
  ⟨(hd 0 0), (tg 2 2 (fun x => x)), by decide +kernel⟩,
  ⟨(hd 0 0), ⟨5,20⟩, ⟨3,2,6,10^17,false⟩, 40, 90,
    { tg 1 2 (fun x => { x with last := some (40,90), delays := [1,2,3,4,5,6,7,8] }) with ptp := { State.reset.ptp with txq := [(2, [⟨3,2,6,10^17,false⟩])] } },
    by decide +kernel⟩,
  ⟨(hd 0 0), ⟨5,20⟩, ⟨3,2,6,10^17,false⟩, 40, 90,
    { tg 2 2 (fun x => { x with last := some (40,90), delays := [1,2,3,4,5,6,7,8] }) with ptp := { State.reset.ptp with txq := [(2, [⟨3,2,6,10^17,false⟩])] } },
    by decide +kernel⟩⟩

/-- States and operands that meet the hypotheses of JoinedDeviceTakesPartnersFrames, clauses 1 to 4. -/
theorem test_JoinedDeviceTakesPartnersFrames_1 :
    (∃ (h : TieHdr) (b : TieBarline) (s : State), s.hears h ∧ s.plainBar ∧ s.tieRole = 2 ∧ s.scoreLive = true ∧ s.rdF .TEMPO_CFG 0 2 0 = 4
      ∧ ((s.tieState = 2 ∨ s.tieState = 1 ∧ s.exchanged = true))) ∧
    (∃ (h : TieHdr) (b : TieBarline) (s : State), s.hears h ∧ s.plainBar ∧ s.tieRole = 2 ∧ s.scoreLive = true ∧ s.rdF .TEMPO_CFG 0 2 0 = 4
      ∧ ((s.tieState = 2 ∨ s.tieState = 1 ∧ s.exchanged = true))) ∧
    (∃ (h : TieHdr) (b : TieBarline) (s : State), s.hears h ∧ s.plainBar ∧ s.tieRole = 2 ∧ s.scoreLive = true ∧ s.tieState = 4 ∧ 16 ≤
      s.tie.good) ∧
    (∃ (h : TieHdr) (l : TieLine) (g : Elem) (m : Nat) (y : Nat × Nat × Nat) (x : Source) (s : State), s.hears h ∧ s.partnerMembers.filter
      (fun m => m.2.2.1 == l.stream) = [(g, m, y)] ∧ s.tie.bad.contains (g.id * 16 + m) = false ∧ s.source 1 g.id = some x ∧ s.tieState =
      2 ∧ ((s.firstRow x (s.beatOf l.beat) = none ∧ s.longPast l.beat = true ∨ ∃ r0, s.firstRow x (s.beatOf l.beat) = some r0 ∧ s.rowCut g
      (r0 + l.line + memberOfs g m) = true))) ∧
    (∃ (h : TieHdr) (l : TieLine) (g : Elem) (m : Nat) (y : Nat × Nat × Nat) (x : Source) (s : State), s.hears h ∧ s.partnerMembers.filter
      (fun m => m.2.2.1 == l.stream) = [(g, m, y)] ∧ s.tie.bad.contains (g.id * 16 + m) = false ∧ s.source 1 g.id = some x ∧ s.tieState =
      2 ∧ ((s.firstRow x (s.beatOf l.beat) = none ∧ s.longPast l.beat = true ∨ ∃ r0, s.firstRow x (s.beatOf l.beat) = some r0 ∧ s.rowCut g
      (r0 + l.line + memberOfs g m) = true))) ∧
    (∃ (h : TieHdr) (l : TieLine) (g : Elem) (m : Nat) (y : Nat × Nat × Nat) (x : Source) (r0 : Nat) (s : State), s.hears h ∧
      s.partnerMembers.filter (fun m => m.2.2.1 == l.stream) = [(g, m, y)] ∧ s.tie.bad.contains (g.id * 16 + m) = false ∧ s.source 1 g.id
      = some x ∧ s.firstRow x (s.beatOf l.beat) = some r0 ∧ s.tieState = 2 ∧ s.inRing x (r0 + l.line + memberOfs g m) = true ∧ s.rowCut g
      (r0 + l.line + memberOfs g m) = false ∧ s.memberCols g m ≤ s.gathered g.id m (r0 + l.line + memberOfs g m) l.col l.cols) :=
  ⟨⟨(hd 0 0), (bl0 20 0), (tg 2 2 (fun x => { x with config := some ccf })), by decide +kernel⟩,
  ⟨(hd 0 0), (bl0 0xFFFFFFFFFFFFFFFF 2), (tg 2 1 (fun x => { x with config := some { ccf with role := 1 } })), by decide +kernel⟩,
  ⟨(hd 0 0), (bl0 20 0),
    { tg 2 4 (fun x => { x with good := 16, config := some ccf }) with tempo := { (tg 2 4 (fun x => x)).tempo with held := [1,2] } },
    by decide +kernel⟩,
  ⟨(hd 0 0), { tl1 with beat := 3 }, grp2, 1, (9,0,0), ⟨some grp2, none, 4, 0x1000, 6, 8, 3, 0x80⟩, (tg 1 2 (fun x =>
    { x with config := some ccf })), by decide +kernel, by decide +kernel, by decide +kernel, by decide +kernel, by decide +kernel, Or.inl
    (by decide +kernel)⟩,
  ⟨(hd 0 0), tl1, grp2, 1, (9,0,0), ⟨some grp2, none, 4, 0x1000, 6, 8, 3, 0x80⟩, (cutS (tg 1 2 (fun x => { x with config := some ccf }))),
    by decide +kernel, by decide +kernel, by decide +kernel, by decide +kernel, by decide +kernel, Or.inr ⟨20, by decide +kernel,
    by decide +kernel⟩⟩,
  ⟨(hd 0 0), tl1, grp2, 1, (9,0,0), ⟨some grp2, none, 4, 0x1000, 6, 8, 3, 0x80⟩, 20, (tg 1 2 (fun x => { x with config := some ccf })),
    by decide +kernel⟩⟩

/-- States and operands that meet the hypotheses of JoinedDeviceTakesPartnersFrames, clauses 4 to 7. -/
theorem test_JoinedDeviceTakesPartnersFrames_2 :
    (∃ (h : TieHdr) (l : TieLine) (g : Elem) (m : Nat) (y : Nat × Nat × Nat) (x : Source) (r0 : Nat) (s : State), s.hears h ∧
      s.partnerMembers.filter (fun m => m.2.2.1 == l.stream) = [(g, m, y)] ∧ s.tie.bad.contains (g.id * 16 + m) = false ∧ s.source 1 g.id
      = some x ∧ s.firstRow x (s.beatOf l.beat) = some r0 ∧ s.tieState = 2 ∧ s.inRing x (r0 + l.line + memberOfs g m) = true ∧ s.rowCut g
      (r0 + l.line + memberOfs g m) = false ∧ s.memberCols g m ≤ s.gathered g.id m (r0 + l.line + memberOfs g m) l.col l.cols) ∧
    (∃ (h : TieHdr) (l : TieLine) (s : State), s.hears h ∧ s.tieState ≠ 2) ∧
    (∃ (h : TieHdr) (u : Nat) (e : Elem) (b : List Byte) (s : State), s.hears h ∧ s.acksNoAlert h ∧ s.tieState = 2 ∧ s.netElem u = some e
      ∧ carries e (frameOfBytes b) = true ∧ s.netUp u = true) ∧
    (∃ (h : TieHdr) (u : Nat) (e : Elem) (b : List Byte) (s : State), s.hears h ∧ s.acksNoAlert h ∧ s.tieState = 2 ∧ s.netElem u = some e
      ∧ carries e (frameOfBytes b) = false) :=
  ⟨⟨(hd 0 0), { tl1 with col := 2, cols := 2 }, grp2, 1, (9,0,0), ⟨some grp2, none, 4, 0x1000, 6, 8, 3, 0x80⟩, 20, (tg 1 2 (fun x =>
    { x with config := some ccf, lines := [(4,1,21,2)] })), by decide +kernel⟩,
  ⟨(hd 0 0), tl1, (tg 1 3 (fun x => { x with config := some ccf })), by decide +kernel⟩,
  ⟨(hd 0 0), 0, (net 0 1518), udpB, (tg 2 2 (fun x => x) [(.NET_STATUS,0,2)]), by decide +kernel⟩,
  ⟨(hd 0 0), 0, (net 0 1518), (toBe 6 5 ++ zeros 6 ++ toBe 2 0x86DD ++ zeros 6 ++ [17] ++ zeros 41), (tg 2 2 (fun x => x)
    [(.NET_STATUS,0,2)]), by decide +kernel⟩⟩

/-- States and operands that meet the hypotheses of ProcessSamplesAndOutputs, clauses 1 to 3. -/
theorem test_ProcessSamplesAndOutputs_1 :
    (∃ (ch : Nat) (code : Word) (e : Elem) (s : State), s.procElem ch = some e ∧ s.power.supply = true ∧ s.domUp .PROC = true) ∧
    (∃ (ch : Nat) (code : Word) (e : Elem) (s : State), s.procElem ch = some e ∧ s.power.supply = true ∧ s.domUp .PROC = true) ∧
    (∃ (ch : Nat) (code : Word) (s : State), s.procElem ch = none ∨ s.power.supply = false ∨ s.domUp .PROC = false) ∧
    (∃ (ch : Nat) (code : Word) (s : State), s.procElem ch = none ∨ s.power.supply = false ∨ s.domUp .PROC = false) ∧
    (∃ (j : Nat) (oc low : Bool) (s : State), j < 4 ∧ s.domUp .PROC = true ∧ s.outChannels j ≠ [] ∧ ((oc = true ∨ low = true))) ∧
    (∃ (j : Nat) (oc low : Bool) (s : State), j < 4 ∧ s.domUp .PROC = true ∧ s.outChannels j ≠ [] ∧ ((oc = true ∨ low = true))) :=
  ⟨⟨3, (BitVec.ofNat 32 0xFFFFFF), (pc 3 1 1 0), (ps { count := 2, sum := -5, min := -4, max := 3 } false [] (pc 3 1 1 0)),
    by decide +kernel⟩,
  ⟨3, (BitVec.ofNat 32 0x7FFFFF), (pc 3 1 1 1), (ps { check := 4, discard := 4 } false [] (pc 3 1 1 1)), by decide +kernel⟩,
  ⟨3, 5, State.reset, by decide +kernel⟩,
  ⟨4, 5, (ps {} false), by decide +kernel⟩,
  ⟨1, true, true, (ps {} false), by decide +kernel⟩,
  ⟨1, false, true, (ps {} false), by decide +kernel⟩⟩

/-- States and operands that meet the hypotheses of ProcessSamplesAndOutputs, clauses 4 to 7. -/
theorem test_ProcessSamplesAndOutputs_2 :
    (∃ (j : Nat) (oc low : Bool) (s : State), 4 ≤ j ∨ s.domUp .PROC = false ∨ s.outChannels j = [] ∨ (oc = false ∧ low = false)) ∧
    (∃ (j : Nat) (oc low : Bool) (s : State), 4 ≤ j ∨ s.domUp .PROC = false ∨ s.outChannels j = [] ∨ (oc = false ∧ low = false)) ∧
    (∃ (j : Nat) (s : State), j < 4 ∧ s.power.supply = true ∧ s.excFaulty j = true) ∧
    (∃ (j : Nat) (s : State), 4 ≤ j ∨ s.power.supply = false ∨ s.excFaulty j = false) ∧
    (∃ (j : Nat) (s : State), 4 ≤ j ∨ s.power.supply = false ∨ s.excFaulty j = false) ∧
    (∃ (j at_ : Nat) (e : Elem) (s : State), Tab.get none s.proc.ramps j = some at_ ∧ (s.outChannels j).head? = some e) :=
  ⟨⟨4, true, true, (ps {} false), by decide +kernel⟩,
  ⟨1, false, false, (ps {} false), by decide +kernel⟩,
  ⟨1, (ps {} false [(.EXC_STATUS,1,0x1C000)]), by decide +kernel⟩,
  ⟨1, (ps {} false), by decide +kernel⟩,
  ⟨4, (ps {} false), by decide +kernel⟩,
  ⟨1, 900, (pc 3 1 1 0), (ps {} true), by decide +kernel⟩⟩

/-- States and operands that meet the hypotheses of ProcessSamplesAndOutputs, clauses 8 to 13. -/
theorem test_ProcessSamplesAndOutputs_3 :
    (∃ (j : Nat) (s : State), Tab.get none s.proc.ramps j = none) ∧
    (∃ (s : State), s.power.supply = true) ∧
    (∃ (s : State), s.power.supply = false) ∧
    (∃ (s : State), s.power.supply = false) ∧
    (∃ (s : State), s.power.supply = true) ∧
    (∃ (d : Word) (s : State), s.domUp .PROC = true) :=
  ⟨⟨1, State.reset, by decide +kernel⟩,
  ⟨(ps {} false), by decide +kernel⟩,
  ⟨State.reset, by decide +kernel⟩,
  ⟨{ ps {} false [(.EXC_STATUS,1,0x8000)] with power := State.reset.power }, by decide +kernel⟩,
  ⟨(ps {} false), by decide +kernel⟩,
  ⟨(BitVec.ofNat 32 5000), (r0 [(.PROC_STATUS,0,0)]), by decide +kernel⟩⟩

/-- States and operands that meet the hypotheses of ProcessSamplesAndOutputs, clauses 13 to 14. -/
theorem test_ProcessSamplesAndOutputs_4 :
    (∃ (d : Word) (s : State), s.domUp .PROC = true) ∧
    (∃ (d : Word) (s : State), s.domUp .PROC = false) :=
  ⟨⟨(BitVec.ofNat 32 0), (r0 [(.PROC_STATUS,0,3)]), by decide +kernel⟩,
  ⟨5, closed, by decide +kernel⟩⟩

/-- States and operands that meet the hypotheses of EncodersCount, clauses 1 to 6. -/
theorem test_EncodersCount_1 :
    (∃ (s : State), s.domUp .FABRIC = true) ∧
    (∃ (s : State), s.domUp .FABRIC = true ∧ s.rdB .CLK_STATUS 0 3 = false) ∧
    (∃ (s : State), s.domUp .FABRIC = false) ∧
    (∃ (s : State), s.domUp .FABRIC = false) ∧
    (∃ (s : State), s.rdB .CLK_STATUS 0 3 = true) ∧
    (∃ (k n : Nat) (a b : Bool) (s : State), k < 4 ∧ s.encAccepts k n = true ∧ s.domUp .PROC = true ∧ s.pinsSeen = true ∧ (¬ (s.tempoSrc =
      1 ∧ k = s.rdF .TEMPO_CFG 0 9 8))) :=
  ⟨⟨(ps {} false), by decide +kernel⟩,
  ⟨(ps { discard := 5 } false [(.CLK_STATUS,0,7)]), by decide +kernel⟩,
  ⟨closed, by decide +kernel⟩,
  ⟨closed, by decide +kernel⟩,
  ⟨State.reset, by decide +kernel⟩,
  ⟨3, 9, true, false, { r0 [(.ENC_CFG,3,8)] with proc := { State.reset.proc with enc := [(3,{})] } }, by decide +kernel⟩⟩

/-- States and operands that meet the hypotheses of EncodersCount, clauses 6 to 9. -/
theorem test_EncodersCount_2 :
    (∃ (k n : Nat) (a b : Bool) (s : State), k < 4 ∧ s.encAccepts k n = true ∧ s.domUp .PROC = true ∧ s.pinsSeen = true ∧ (¬ (s.tempoSrc =
      1 ∧ k = s.rdF .TEMPO_CFG 0 9 8))) ∧
    (∃ (k n : Nat) (s : State), k < 4 ∧ s.encAccepts k n = true ∧ s.domUp .PROC = true ∧ s.pinsSeen = true ∧ s.rdB .ENC_CFG k 9 = true) ∧
    (∃ (k n : Nat) (a b : Bool) (s : State), 4 ≤ k ∨ n ≤ s.rdF .ENC_CFG k 7 0 ∨ s.domUp .PROC = false ∨ s.pinsSeen = false) ∧
    (∃ (k n : Nat) (a b : Bool) (s : State), 4 ≤ k ∨ n ≤ s.rdF .ENC_CFG k 7 0 ∨ s.domUp .PROC = false ∨ s.pinsSeen = false) ∧
    (∃ (k n : Nat) (a b : Bool) (s : State), 4 ≤ k ∨ n ≤ s.rdF .ENC_CFG k 7 0 ∨ s.domUp .PROC = false ∨ s.pinsSeen = false) ∧
    (∃ (k n : Nat) (a b : Bool) (s : State), 4 ≤ k ∨ n ≤ s.rdF .ENC_CFG k 7 0 ∨ s.domUp .PROC = false ∨ s.pinsSeen = false) :=
  ⟨⟨1, 9, false, true, { r0 [(.ENC_CFG,1,8)] with proc := { State.reset.proc with enc := [(1,{})] } }, by decide +kernel⟩,
  ⟨3, 13, (r0 [(.ENC_CFG,3,512+12),(.ENC_POS,3,77)]), by decide +kernel⟩,
  ⟨4, 9, true, true, State.reset, by decide +kernel⟩,
  ⟨0, 8, true, true, (r0 [(.ENC_CFG,0,8)]), by decide +kernel⟩,
  ⟨4, 9, true, true, State.reset, by decide +kernel⟩,
  ⟨0, 8, true, true, (r0 [(.ENC_CFG,0,8)]), by decide +kernel⟩⟩

/-- States and operands that meet the hypotheses of EncodersCount, clauses 10 to 12. -/
theorem test_EncodersCount_3 :
    (∃ (k n : Nat) (s : State), s.rdB .ENC_CFG k 9 = false) ∧
    (∃ (p : Path) (k : Nat) (v : Word) (s : State), k < 4 ∧ s.regOpen p .PROC = true) ∧
    (∃ (p : Path) (k : Nat) (v : Word) (s : State), k < 4 ∧ s.regOpen p .PROC = true) ∧
    (∃ (p : Path) (k : Nat) (v : Word) (s : State), 4 ≤ k ∨ s.regOpen p .PROC = false) ∧
    (∃ (p : Path) (k : Nat) (v : Word) (s : State), 4 ≤ k ∨ s.regOpen p .PROC = false) :=
  ⟨⟨3, 9, State.reset, by decide +kernel⟩,
  ⟨.pcie, 3, 0xFFFFFFFF, (r0 [(.ENC_CFG,3,8)]), by decide +kernel⟩,
  ⟨.netctl, 0, 8, State.reset, by decide +kernel⟩,
  ⟨.pcie, 4, 5, State.reset, by decide +kernel⟩,
  ⟨.pcie, 3, 5, closed, by decide +kernel⟩⟩

end W10

namespace W11
open W4 W5 W6

def sr (mode fmt slp lead tail : Nat) : Elem := el 3 0x14 2 64 [(8,4,115200),(12,1,fmt),(13,1,mode),(15,1,slp),(16,2,lead),(18,2,tail)]
def ss (e : Elem) (x : SerPort) (r : List (RegId × Nat × Nat) := []) : State :=
  let s := sc [vo 3 1, e] ([(.SER_AREA,2,0x8000)] ++ r)
  { s with serial := [(2,x)], queues := [(3*16+4, rg false true 4 4 1)], clock := ⟨2,3,4,50000000000000⟩ }
def wd (s : State) (o n : Nat) : State := s.writePhys (0x8000 + o) (toLe 4 n)
def lf (pub : Bool) (got : List Nat) (left fl : Nat) : LinFrame := ⟨5,pub,true,pub,4,false,got,[],[],left,fl,60000000000000,222222⟩
def sch (st : List (Nat × Nat)) (f : List Nat) (p : Option (List Nat × Bool)) (c : Bool) (h : Bool := false) : Search :=
  ⟨7,1,3,9,st,f,p,[],[],c,h,60000000000000⟩
def wv (d : Nat) (l : List Bool) : RxWave :=
  ⟨((List.range l.length).filter fun k => l.getD k true != l.getD (k - 1) true).map fun k => k * d / 256⟩
def cb (n : Nat) (par : List Bool := []) (stop : Bool := true) : List Bool := [false] ++ (List.range 8).map n.testBit ++ par ++ [stop]
def rc (a n : Nat) : RollChar := ⟨a, wv 222222 (cb n)⟩
theorem tile_mem {s : State} {a n : Nat} (h : a + n ≤ 0x1000000) : s.inMemory a n := fun k hk => by
  have : a + k < 0x1000000 := by omega
  simp [State.region, this]


/-- States and operands that meet the hypotheses of SerialReceivesAndTransmits, clauses 1 to 4. -/
theorem test_SerialReceivesAndTransmits_1 :
    (∃ (v : StartEdge) (e : Elem) (s : State), s.serElem v.port = some e ∧ s.pinsSeen = true ∧ (s.ser v.port).asleep = false ∧ (s.ser
      v.port).sclk = false ∧ (s.ser v.port).rx = none ∧ ((serMode e = 1 → (s.ser v.port).de = false))) ∧
    (∃ (v : StartEdge) (e : Elem) (s : State), s.serElem v.port = some e ∧ s.pinsSeen = true ∧ (s.ser v.port).asleep = false ∧ (s.ser
      v.port).sclk = false ∧ (s.ser v.port).rx = none ∧ ((serMode e = 1 → (s.ser v.port).de = false))) ∧
    (∃ (v : StartEdge) (e : Elem) (s : State), s.serElem v.port = some e ∧ s.pinsSeen = true ∧ (s.ser v.port).asleep = true ∧ (s.ser
      v.port).sclk = false ∧ serSleep e = 2) ∧
    (∃ (v : StartEdge) (e : Elem) (s : State), s.serElem v.port = some e ∧ (s.pinsSeen = false ∨ (s.ser v.port).sclk = true ∨ ((s.ser
      v.port).asleep = true ∧ serSleep e ≠ 2) ∨ ((s.ser v.port).asleep = false ∧ ((s.ser v.port).rx.isSome = true ∨ (serMode e = 1 ∧
      (s.ser v.port).de = true))))) ∧
    (∃ (v : StartEdge) (e : Elem) (s : State), s.serElem v.port = some e ∧ (s.pinsSeen = false ∨ (s.ser v.port).sclk = true ∨ ((s.ser
      v.port).asleep = true ∧ serSleep e ≠ 2) ∨ ((s.ser v.port).asleep = false ∧ ((s.ser v.port).rx.isSome = true ∨ (serMode e = 1 ∧
      (s.ser v.port).de = true))))) ∧
    (∃ (p t0 : Nat) (w : RxWave) (e : Elem) (s : State), s.serElem p = some e ∧ (s.ser p).rx = some t0 ∧ (rxRead w e ((s.ser p).div e)
      (e.u8 14 == 0)).falseStart = true) :=
  ⟨⟨⟨2,0⟩, (sr 0 1 0 0 0), (ss (sr 0 1 0 0 0) {} []), by decide +kernel⟩,
  ⟨⟨2,8681⟩, (sr 1 1 0 100 50), (ss (sr 1 1 0 100 50) { deaf := true } []), by decide +kernel⟩,
  ⟨⟨2,0⟩, (sr 0 5 2 0 0), (ss (sr 0 5 2 0 0) { asleep := true } []), by decide +kernel⟩,
  ⟨⟨2,0⟩, (sr 0 1 0 0 0), (ss (sr 0 1 0 0 0) { asleep := true } []), by decide +kernel⟩,
  ⟨⟨2,0⟩, (sr 0 5 2 0 0), (ss (sr 0 5 2 0 0) { asleep := true, sclk := true } []), by decide +kernel⟩,
  ⟨2, 40000000000000, ⟨[3]⟩, (sr 0 1 0 0 0), (ss (sr 0 1 0 0 0) { rx := some 40000000000000 } [(.SER_FALSE_CNT,2,0xFFFFFFFF)]),
    by decide +kernel⟩⟩

/-- States and operands that meet the hypotheses of SerialReceivesAndTransmits, clauses 4 to 7. -/
theorem test_SerialReceivesAndTransmits_2 :
    (∃ (p t0 : Nat) (w : RxWave) (e : Elem) (s : State), s.serElem p = some e ∧ (s.ser p).rx = some t0 ∧ (rxRead w e ((s.ser p).div e)
      (e.u8 14 == 0)).falseStart = true) ∧
    (∃ (p t0 : Nat) (w : RxWave) (c : RxChar) (e : Elem) (s : State), s.serElem p = some e ∧ (s.ser p).rx = some t0 ∧ c = rxRead w e
      (serDiv e) (e.u8 14 == 0) ∧ c.falseStart = false ∧ s.isHalted e.voice = false ∧ (s.ser p).search = none ∧ (s.ser p).lin = none) ∧
    (∃ (p t0 : Nat) (w : RxWave) (c : RxChar) (e : Elem) (s : State), s.serElem p = some e ∧ (s.ser p).rx = some t0 ∧ c = rxRead w e
      (serDiv e) (e.u8 14 == 0) ∧ c.falseStart = false ∧ s.isHalted e.voice = false ∧ (s.ser p).search = none ∧ (s.ser p).lin = none) ∧
    (∃ (p : Nat) (w : RxWave) (s : State), s.serElem p = none ∨ (s.ser p).rx = none) ∧
    (∃ (p : Nat) (w : RxWave) (s : State), s.serElem p = none ∨ (s.ser p).rx = none) ∧
    (∃ (p at_ : Nat) (s : State), (s.ser p).idleAt = some at_ ∧ (s.ser p).rx = none) :=
  ⟨⟨2, 40000000000000, ⟨[3]⟩, (el 3 0x14 2 64 [(8,4,115200),(12,1,1),(14,1,1)]), (ss (el 3 0x14 2 64 [(8,4,115200),(12,1,1),(14,1,1)])
    { rx := some 40000000000000 } [(.SER_FALSE_CNT,2,0xFFFFFFFF)]), by decide +kernel⟩,
  ⟨2, 40000000000000, (wv 222222 (cb 65 [] true)), (rxRead (wv 222222 (cb 65 [] true)) (sr 0 1 0 0 0) (serDiv (sr 0 1 0 0 0)) ((sr 0 1 0 0
    0).u8 14 == 0)), (sr 0 1 0 0 0), (ss (sr 0 1 0 0 0) { rx := some 40000000000000, rxProd := 0xFFFFFFFF, rxCons := 0xFFFFFFFF } []),
    by decide +kernel⟩,
  ⟨2, 40000000000000, (wv 222222 (cb 65 [] true)), (rxRead (wv 222222 (cb 65 [] true)) (sr 3 1 0 0 0) (serDiv (sr 3 1 0 0 0)) ((sr 3 1 0 0
    0).u8 14 == 0)), (sr 3 1 0 0 0), (ss (sr 3 1 0 0 0) { rx := some 40000000000000 } []), by decide +kernel⟩,
  ⟨2, (wv 222222 (cb 1 [] true)), State.reset, by decide +kernel⟩,
  ⟨2, (wv 222222 (cb 1 [] true)), (ss (sr 0 1 0 0 0) {} []), by decide +kernel⟩,
  ⟨2, 60000000000000, (ss (sr 0 1 0 0 0) { idleAt := some 60000000000000 } []), by decide +kernel⟩⟩

/-- States and operands that meet the hypotheses of SerialReceivesAndTransmits, clauses 8 to 12. -/
theorem test_SerialReceivesAndTransmits_3 :
    (∃ (p : Nat) (s : State), (s.ser p).idleAt = none ∨ (s.ser p).rx.isSome = true) ∧
    (∃ (p : Nat) (e : Elem) (s : State), s.serLive p = some e ∧ s.pinsSeen = true ∧ (s.ser p).asleep = true ∧ serSleep e = 1) ∧
    (∃ (p : Nat) (w : RxWave) (c : RxChar) (e : Elem) (s : State), s.serLive p = some e ∧ s.pinsSeen = true ∧ ((s.ser p).asleep = true ∨
      (s.ser p).sclk = true) ∧ serSleep e = 2 ∧ c = rxRead w e (sclkDiv e) true ∧ c.falseStart = false ∧ serMatches e (s.ser p).wake
      c.data = true) ∧
    (∃ (p : Nat) (w : RxWave) (c : RxChar) (e : Elem) (s : State), s.serLive p = some e ∧ s.pinsSeen = true ∧ ((s.ser p).asleep = true ∨
      (s.ser p).sclk = true) ∧ serSleep e = 2 ∧ c = rxRead w e (sclkDiv e) true ∧ c.falseStart = false ∧ serMatches e (s.ser p).wake
      c.data = true) ∧
    (∃ (p : Nat) (w : RxWave) (c : RxChar) (e : Elem) (s : State), s.serLive p = some e ∧ s.pinsSeen = true ∧ ((s.ser p).asleep = true ∨
      (s.ser p).sclk = true) ∧ serSleep e = 2 ∧ c = rxRead w e (sclkDiv e) true ∧ c.falseStart = false ∧ serMatches e (s.ser p).wake
      c.data = false) ∧
    (∃ (p : Nat) (w : RxWave) (c : RxChar) (e : Elem) (s : State), s.serLive p = some e ∧ s.pinsSeen = true ∧ ((s.ser p).asleep = true ∨
      (s.ser p).sclk = true) ∧ serSleep e = 2 ∧ c = rxRead w e (sclkDiv e) true ∧ c.falseStart = true) :=
  ⟨⟨2, (ss (sr 0 1 0 0 0) {} []), by decide +kernel⟩,
  ⟨2, (sr 0 1 1 0 0), (ss (sr 0 1 1 0 0) { asleep := true } []), by decide +kernel⟩,
  ⟨2, (wv 2222 (cb 0x41 [false])), (rxRead (wv 2222 (cb 0x41 [false])) (sr 0 5 2 0 0) (sclkDiv (sr 0 5 2 0 0)) true), (sr 0 5 2 0 0), (ss
    (sr 0 5 2 0 0) { asleep := true, sclk := true, wake := 0x41 } []), by decide +kernel⟩,
  ⟨2, (wv 2222 (cb 0x41 [false])), (rxRead (wv 2222 (cb 0x41 [false])) (sr 0 5 2 0 0) (sclkDiv (sr 0 5 2 0 0)) true), (sr 0 5 2 0 0), (ss
    (sr 0 5 2 0 0) { asleep := true, wake := 0x41 } []), by decide +kernel⟩,
  ⟨2, (wv 2222 (cb 0x41 [false])), (rxRead (wv 2222 (cb 0x41 [false])) (sr 0 5 2 0 0) (sclkDiv (sr 0 5 2 0 0)) true), (sr 0 5 2 0 0), (ss
    (sr 0 5 2 0 0) { asleep := true, sclk := true, wake := 0xFF0042 } []), by decide +kernel⟩,
  ⟨2, ⟨[3]⟩, (rxRead ⟨[3]⟩ (sr 0 5 2 0 0) (sclkDiv (sr 0 5 2 0 0)) true), (sr 0 5 2 0 0), (ss (sr 0 5 2 0 0)
    { asleep := true, sclk := true, wake := 0x41 } []), by decide +kernel⟩⟩

/-- States and operands that meet the hypotheses of SerialReceivesAndTransmits, clauses 13 to 16. -/
theorem test_SerialReceivesAndTransmits_4 :
    (∃ (p : Nat) (w : RxWave) (s : State), s.serLive p = none ∨ s.pinsSeen = false ∨ (s.ser p).asleep = false) ∧
    (∃ (p : Nat) (w : RxWave) (s : State), s.serLive p = none ∨ s.pinsSeen = false ∨ (s.ser p).asleep = false) ∧
    (∃ (p : Nat) (w : RxWave) (s : State), (s.serLive p = none ∨ s.pinsSeen = false ∨ (s.ser p).asleep = false) ∧ (s.ser p).sclk = false)
      ∧
    (∃ (p : Nat) (w : RxWave) (s : State), (s.serLive p = none ∨ s.pinsSeen = false ∨ (s.ser p).asleep = false) ∧ (s.ser p).sclk = false)
      ∧
    (∃ (p : Nat) (w : RxWave) (e : Elem) (s : State), s.serLive p = some e ∧ serSleep e ≠ 1) ∧
    (∃ (p : Nat) (w : RxWave) (e : Elem) (s : State), s.serLive p = some e ∧ serSleep e ≠ 2) :=
  ⟨⟨2, (wv 222222 (cb 1 [] true)), State.reset, by decide +kernel⟩,
  ⟨2, (wv 222222 (cb 1 [] true)), (ss (sr 0 1 0 0 0) {} []), by decide +kernel⟩,
  ⟨2, (wv 222222 (cb 1 [] true)), State.reset, by decide +kernel⟩,
  ⟨2, (wv 222222 (cb 1 [] true)), (ss (sr 0 1 0 0 0) {} []), by decide +kernel⟩,
  ⟨2, (wv 222222 (cb 1 [] true)), (sr 0 1 0 0 0), (ss (sr 0 1 0 0 0) { asleep := true } []), by decide +kernel⟩,
  ⟨2, (wv 222222 (cb 1 [] true)), (sr 0 1 0 0 0), (ss (sr 0 1 0 0 0) { asleep := true } []), by decide +kernel⟩⟩

/-- States and operands that meet the hypotheses of SerialReceivesAndTransmits, clauses 17 to 19. -/
theorem test_SerialReceivesAndTransmits_5 :
    (∃ (p w : Nat) (l : List Nat) (e : Elem) (s : State), s.serLive p = some e ∧ (s.ser p).asleep = false ∧ (s.ser p).tx = none ∧ (s.ser
      p).search = none ∧ (s.ser p).lin = none ∧ (s.ser p).fifo = w :: l ∧ txValid e w = true ∧ linTakes w = 0) ∧
    (∃ (p w : Nat) (l : List Nat) (e : Elem) (s : State), s.serLive p = some e ∧ (s.ser p).asleep = false ∧ (s.ser p).tx = none ∧ (s.ser
      p).search = none ∧ (s.ser p).lin = none ∧ (s.ser p).fifo = w :: l ∧ txValid e w = true ∧ linTakes w = 0) ∧
    (∃ (p w : Nat) (e : Elem) (s : State), s.serLive p = some e ∧ (s.ser p).asleep = false ∧ (s.ser p).tx = none ∧ (s.ser p).search = none
      ∧ (s.ser p).lin = none ∧ (s.ser p).fifo = [w] ∧ txValid e w = false ∧ (s.ser p).fetch = (s.ser p).txProd) ∧
    (∃ (p w : Nat) (e : Elem) (s : State), s.serLive p = some e ∧ (s.ser p).asleep = false ∧ (s.ser p).tx = none ∧ (s.ser p).search = none
      ∧ (s.ser p).lin = none ∧ (s.ser p).fifo = [w] ∧ txValid e w = false ∧ (s.ser p).fetch = (s.ser p).txProd) ∧
    (∃ (p : Nat) (s : State), s.serLive p = none ∨ (s.ser p).asleep = true ∨ (s.ser p).tx.isSome = true ∨ (s.ser p).search.isSome = true ∨
      (s.ser p).lin.isSome = true ∨ (s.ser p).fifo = []) ∧
    (∃ (p : Nat) (s : State), s.serLive p = none ∨ (s.ser p).asleep = true ∨ (s.ser p).tx.isSome = true ∨ (s.ser p).search.isSome = true ∨
      (s.ser p).lin.isSome = true ∨ (s.ser p).fifo = []) :=
  ⟨⟨2, 65, [66], (sr 0 1 0 0 0), (ss (sr 0 1 0 0 0) { fifo := 65 :: [66], fetch := 5, txProd := 5 } []), by decide +kernel⟩,
  ⟨2, 0x20305, [], (sr 2 1 0 0 0), (ss (sr 2 1 0 0 0) { fifo := 0x20305 :: [], fetch := 5, txProd := 5 } []), by decide +kernel⟩,
  ⟨2, 0x100, (sr 0 1 0 0 0), (ss (sr 0 1 0 0 0) { fifo := [0x100], txCons := 0xFFFFFFFF, fetch := 0, txProd := 0 } []),
    by decide +kernel⟩,
  ⟨2, 0x100041, (sr 0 1 0 0 0), (ss (sr 0 1 0 0 0) { fifo := [0x100041], txCons := 0xFFFFFFFF, fetch := 0, txProd := 0 } []),
    by decide +kernel⟩,
  ⟨2, State.reset, by decide +kernel⟩,
  ⟨2, (ss (sr 0 1 0 0 0) { tx := some ⟨65,false,10,true,false⟩, fifo := [1] } []), by decide +kernel⟩⟩

/-- States and operands that meet the hypotheses of SerialReceivesAndTransmits, clauses 20 to 23. -/
theorem test_SerialReceivesAndTransmits_6 :
    (∃ (p : Nat) (e : Elem) (x : SerTx) (s : State), s.serElem p = some e ∧ (s.ser p).tx = some x ∧ x.entry = true ∧ x.stale = false ∧
      (s.ser p).lin = none ∧ (s.ser p).fifo = [] ∧ (s.ser p).fetch = (s.ser p).txProd) ∧
    (∃ (p : Nat) (e : Elem) (x : SerTx) (s : State), s.serElem p = some e ∧ (s.ser p).tx = some x ∧ x.entry = true ∧ x.stale = false ∧
      (s.ser p).lin = none ∧ (s.ser p).fifo = [] ∧ (s.ser p).fetch = (s.ser p).txProd) ∧
    (∃ (p w : Nat) (l : List Nat) (e : Elem) (x : SerTx) (s : State), s.serLive p = some e ∧ (s.ser p).tx = some x ∧ x.entry = true ∧
      x.stale = false ∧ x.brk = false ∧ (s.ser p).lin = none ∧ (s.ser p).search = none ∧ (s.ser p).fifo = w :: l ∧ (s.ser p).fetch =
      (s.ser p).txProd ∧ txValid e w = true ∧ w / 65536 % 16 = 0) ∧
    (∃ (p : Nat) (s : State), s.serElem p = none ∨ (s.ser p).tx = none) ∧
    (∃ (p : Nat) (s : State), s.serElem p = none ∨ (s.ser p).tx = none) ∧
    (∃ (p at_ : Nat) (s : State), (s.ser p).tail = some at_) :=
  ⟨⟨2, (sr 0 1 0 0 0), ⟨65,false,10,true,false⟩, (ss (sr 0 1 0 0 0)
    { tx := some ⟨65,false,10,true,false⟩, txCons := 4, fetch := 5, txProd := 5 } []), by decide +kernel⟩,
  ⟨2, (sr 1 1 0 100 50), ⟨65,true,10,true,false⟩, (ss (sr 1 1 0 100 50)
    { tx := some ⟨65,true,10,true,false⟩, txCons := 3, fetch := 5, txProd := 5, de := true } []), by decide +kernel⟩,
  ⟨2, 66, [67], (sr 0 1 0 0 0), ⟨65,false,10,true,false⟩, (ss (sr 0 1 0 0 0)
    { tx := some ⟨65,false,10,true,false⟩, txCons := 4, fetch := 7, txProd := 7, fifo := [66,67], bits := 9 } []), by decide +kernel⟩,
  ⟨2, State.reset, by decide +kernel⟩,
  ⟨2, (ss (sr 0 1 0 0 0) {} []), by decide +kernel⟩,
  ⟨2, 60000000000000, (ss (sr 1 1 0 100 50) { tail := some 60000000000000, de := true } []), by decide +kernel⟩⟩

/-- States and operands that meet the hypotheses of SerialReceivesAndTransmits, clause 24. -/
theorem test_SerialReceivesAndTransmits_7 : ∃ (p : Nat) (s : State), (s.ser p).tail = none :=
  ⟨2, (ss (sr 0 1 0 0 0) {} []), by decide +kernel⟩

/-- States and operands that meet the hypotheses of SerialAreaAndRollCall, clauses 1 to 4. -/
theorem test_SerialAreaAndRollCall_1 :
    (∃ (p : Nat) (e : Elem) (s : State), s.serLive p = some e ∧ (s.ser p).asleep = false ∧ s.inMemory (s.serBase p) 0x4000) ∧
    (∃ (p : Nat) (s : State), s.serLive p = none ∨ (s.ser p).asleep = true) ∧
    (∃ (p q : Nat) (e : Elem) (s : State), s.serElem p = some e ∧ s.notifyQueue e.voice = some q ∧ (s.ser p).events ≠ 0) ∧
    (∃ (p q : Nat) (e : Elem) (s : State), s.serElem p = some e ∧ s.notifyQueue e.voice = some q ∧ (s.ser p).events ≠ 0) ∧
    (∃ (p : Nat) (e : Elem) (s : State), s.serElem p = some e ∧ (s.notifyQueue e.voice = none ∨ (s.ser p).events = 0)) ∧
    (∃ (p : Nat) (e : Elem) (s : State), s.serElem p = some e ∧ (s.notifyQueue e.voice = none ∨ (s.ser p).events = 0)) :=
  ⟨⟨2, (sr 0 1 0 0 0), (wd (wd (wd (wd (ss (sr 0 1 0 0 0) { txCons := 0xFFFFFFFF, txProd := 0xFFFFFFFF, fetch := 0xFFFFFFFF } []) 4 1023)
    16 9) 20 0x5000002) 28 77), by decide +kernel, by decide +kernel, tile_mem (by decide +kernel)⟩,
  ⟨2, State.reset, by decide +kernel⟩,
  ⟨2, 4, (sr 0 1 0 0 0), (ss (sr 0 1 0 0 0) { events := 0xFF, cause := 2, aborted := true, rxNew := 5, ack := 9, rxProd := 3 } []),
    by decide +kernel⟩,
  ⟨2, 4, (sr 0 1 0 0 0), (ss (sr 0 1 0 0 0) { events := 2, rxNew := 5, postAt := 50000000000000 } []), by decide +kernel⟩,
  ⟨2, (sr 0 1 0 0 0), (ss (sr 0 1 0 0 0) {} []), by decide +kernel⟩,
  ⟨2, (sr 0 1 0 0 0), { (ss (sr 0 1 0 0 0) { events := 1 } []) with queues := [] }, by decide +kernel⟩⟩

/-- States and operands that meet the hypotheses of SerialAreaAndRollCall, clauses 5 to 8. -/
theorem test_SerialAreaAndRollCall_2 :
    (∃ (p : Nat) (e : Elem) (s : State), s.serLive p = some e ∧ (s.ser p).newCmd = 1 ∧ (s.ser p).search = none ∧ (s.ser p).asleep = false)
      ∧
    (∃ (p : Nat) (e : Elem) (s : State), s.serLive p = some e ∧ (s.ser p).newCmd = 1 ∧ (s.ser p).search = none ∧ (s.ser p).asleep = false)
      ∧
    (∃ (p : Nat) (e : Elem) (s : State), s.serLive p = some e ∧ (s.ser p).sleepAsked = true ∧ (s.ser p).tx = none ∧ (s.ser p).de = false ∧
      (s.ser p).rx = none ∧ (s.ser p).lin = none) ∧
    (∃ (p : Nat) (e : Elem) (s : State), s.serLive p = some e ∧ (s.ser p).newCmd = 3 ∧ (s.ser p).asleep = false) ∧
    (∃ (p : Nat) (e : Elem) (s : State), s.serLive p = some e ∧ (s.ser p).newCmd = 3 ∧ (s.ser p).asleep = false) ∧
    (∃ (p : Nat) (s : State), s.serLive p = none) :=
  ⟨⟨2, (sr 0 1 0 0 0), (ss (sr 0 1 0 0 0) { cmd := 0x5000001 } []), by decide +kernel⟩,
  ⟨2, (sr 0 1 1 0 0), (ss (sr 0 1 1 0 0) { cmd := 0x5000001 } []), by decide +kernel⟩,
  ⟨2, (sr 0 1 1 0 0), (ss (sr 0 1 1 0 0) { sleepAsked := true, cmd := 0x5000001 } []), by decide +kernel⟩,
  ⟨2, (sr 1 1 0 100 50), (ss (sr 1 1 0 100 50) { cmd := 0x8000003, search := none } []), by decide +kernel⟩,
  ⟨2, (sr 1 1 0 100 50), (ss (sr 1 1 0 100 50) { cmd := 0x8000003, search := some (sch [(0,0)] [] none false) } []), by decide +kernel⟩,
  ⟨2, State.reset, by decide +kernel⟩⟩

/-- States and operands that meet the hypotheses of SerialAreaAndRollCall, clauses 9 to 14. -/
theorem test_SerialAreaAndRollCall_3 :
    (∃ (p : Nat) (s : State), s.serLive p = none) ∧
    (∃ (p : Nat) (s : State), s.serLive p = none) ∧
    (∃ (p : Nat) (s : State), s.serLive p = none) ∧
    (∃ (p : Nat) (s : State), (s.ser p).newCmd ≠ 1) ∧
    (∃ (p : Nat) (s : State), (s.ser p).newCmd ≠ 2) ∧
    (∃ (p : Nat) (s : State), (s.ser p).newCmd ≠ 3) :=
  ⟨⟨2, State.reset, by decide +kernel⟩,
  ⟨2, State.reset, by decide +kernel⟩,
  ⟨2, State.reset, by decide +kernel⟩,
  ⟨2, (ss (sr 0 1 0 0 0) {} []), by decide +kernel⟩,
  ⟨2, (ss (sr 0 1 0 0 0) {} []), by decide +kernel⟩,
  ⟨2, (ss (sr 0 1 0 0 0) {} []), by decide +kernel⟩⟩

/-- States and operands that meet the hypotheses of SerialAreaAndRollCall, clauses 15 to 18. -/
theorem test_SerialAreaAndRollCall_4 :
    (∃ (p : Nat) (s : State), (s.ser p).sleepAsked = false) ∧
    (∃ (p : Nat) (e : Elem) (s : State), s.serLive p = some e ∧ (s.ser p).newCmd = 2 ∧ (s.ser p).search = none ∧ (s.ser p).asleep = false)
      ∧
    (∃ (p : Nat) (e : Elem) (s : State), s.serLive p = some e ∧ (s.ser p).newCmd = 2 ∧ (s.ser p).search = none ∧ (s.ser p).asleep = false)
      ∧
    (∃ (p pre lvl : Nat) (rest : List (Nat × Nat)) (ans : List RollChar) (e : Elem) (q : Search) (s : State), s.serElem p = some e ∧
      (s.ser p).search = some q ∧ q.pings = none ∧ q.stack = (pre, lvl) :: rest ∧ q.cancelled = false ∧ ((∃ a, a ∈ ans ∧ serDiv e ≤ 256 *
      a.after ∧ 256 * a.after ≤ 12 * serDiv e)) ∧ lvl ≠ 32) ∧
    (∃ (p pre lvl : Nat) (rest : List (Nat × Nat)) (ans : List RollChar) (e : Elem) (q : Search) (s : State), s.serElem p = some e ∧
      (s.ser p).search = some q ∧ q.pings = none ∧ q.stack = (pre, lvl) :: rest ∧ q.cancelled = false ∧ ((∃ a, a ∈ ans ∧ serDiv e ≤ 256 *
      a.after ∧ 256 * a.after ≤ 12 * serDiv e)) ∧ lvl ≠ 32) ∧
    (∃ (p pre lvl : Nat) (rest : List (Nat × Nat)) (ans : List RollChar) (e : Elem) (q : Search) (s : State), s.serElem p = some e ∧
      (s.ser p).search = some q ∧ q.pings = none ∧ q.stack = (pre, lvl) :: rest ∧ q.cancelled = false ∧ ((∃ a, a ∈ ans ∧ serDiv e ≤ 256 *
      a.after ∧ 256 * a.after ≤ 12 * serDiv e)) ∧ lvl = 32 ∧ q.found.length < 128 ∧ rest ≠ []) :=
  ⟨⟨2, (ss (sr 0 1 0 0 0) {} []), by decide +kernel⟩,
  ⟨2, (sr 1 1 0 100 50), (ss (sr 1 1 0 100 50) { cmd := 0x7000202 } []), by decide +kernel⟩,
  ⟨2, (sr 1 1 0 100 9000), (ss (sr 1 1 0 100 9000) { cmd := 0x7000F02 } []), by decide +kernel⟩,
  ⟨2, 0, 0, [(1,2)], [rc 900 1], (sr 1 1 0 100 50), (sch [(0,0),(1,2)] [] none false), (ss (sr 1 1 0 100 50)
    { search := some (sch [(0,0),(1,2)] [] none false) } []), by decide +kernel⟩,
  ⟨2, 4294967294, 31, [(1,2)], [rc 900 1], (sr 1 1 0 100 50), (sch [(4294967294,31),(1,2)] [] none false), (ss (sr 1 1 0 100 50)
    { search := some (sch [(4294967294,31),(1,2)] [] none false) } []), by decide +kernel⟩,
  ⟨2, 7, 32, [(1,2)], [⟨10400,⟨[3]⟩⟩], (sr 1 1 0 100 50), (sch [(7,32),(1,2)] [5] none false), (ss (sr 1 1 0 100 50)
    { search := some (sch [(7,32),(1,2)] [5] none false) } []), by decide +kernel⟩⟩

/-- States and operands that meet the hypotheses of SerialAreaAndRollCall, clauses 19 to 21. -/
theorem test_SerialAreaAndRollCall_5 :
    (∃ (p pre lvl : Nat) (rest : List (Nat × Nat)) (ans : List RollChar) (e : Elem) (q : Search) (s : State), s.serElem p = some e ∧
      (s.ser p).search = some q ∧ q.pings = none ∧ q.stack = (pre, lvl) :: rest ∧ q.cancelled = false ∧ ((∀ a, a ∈ ans → 256 * a.after <
      serDiv e ∨ 12 * serDiv e < 256 * a.after)) ∧ rest ≠ []) ∧
    (∃ (p pre lvl : Nat) (rest : List (Nat × Nat)) (ans : List RollChar) (e : Elem) (q : Search) (s : State), s.serElem p = some e ∧
      (s.ser p).search = some q ∧ q.pings = none ∧ q.stack = (pre, lvl) :: rest ∧ q.cancelled = false ∧ ((∀ a, a ∈ ans → 256 * a.after <
      serDiv e ∨ 12 * serDiv e < 256 * a.after)) ∧ rest ≠ []) ∧
    (∃ (p a : Nat) (l : List Nat) (again : Bool) (ans : List RollChar) (e : Elem) (q : Search) (s : State), s.serElem p = some e ∧ (s.ser
      p).search = some q ∧ q.pings = some (a :: l, again) ∧ q.cancelled = false ∧ l ≠ []) ∧
    (∃ (p a : Nat) (l : List Nat) (again : Bool) (ans : List RollChar) (e : Elem) (q : Search) (s : State), s.serElem p = some e ∧ (s.ser
      p).search = some q ∧ q.pings = some (a :: l, again) ∧ q.cancelled = false ∧ l ≠ []) ∧
    (∃ (p pre lvl : Nat) (rest : List (Nat × Nat)) (e : Elem) (q : Search) (s : State), s.serElem p = some e ∧ (s.ser p).search = some q ∧
      q.pings = none ∧ q.stack = (pre, lvl) :: rest ∧ q.cancelled = true) ∧
    (∃ (p pre lvl : Nat) (rest : List (Nat × Nat)) (e : Elem) (q : Search) (s : State), s.serElem p = some e ∧ (s.ser p).search = some q ∧
      q.pings = none ∧ q.stack = (pre, lvl) :: rest ∧ q.cancelled = true) :=
  ⟨⟨2, 7, 3, [(1,2)], [], (sr 1 1 0 100 50), (sch [(7,3),(1,2)] [5] none false), (ss (sr 1 1 0 100 50)
    { search := some (sch [(7,3),(1,2)] [5] none false) } []), by decide +kernel⟩,
  ⟨2, 7, 3, [(1,2)], [rc 10500 1], (sr 1 1 0 100 50), (sch [(7,3),(1,2)] [5] none false), (ss (sr 1 1 0 100 50)
    { search := some (sch [(7,3),(1,2)] [5] none false) } []), by decide +kernel⟩,
  ⟨2, 5, [6], false, [], (sr 1 1 0 100 50), (sch [] [5,6] (some ([5,6],false)) false), (ss (sr 1 1 0 100 50)
    { search := some (sch [] [5,6] (some ([5,6],false)) false) } []), by decide +kernel⟩,
  ⟨2, 5, [6], true, ((rollFrame ([0x5A] ++ toLe 4 5)).zipIdx.map fun b => rc (900 + b.2 * 8681) b.1.toNat), (sr 1 1 0 100 50), (sch []
    [5,6] (some ([5,6],true)) false), (ss (sr 1 1 0 100 50) { search := some (sch [] [5,6] (some ([5,6],true)) false) } []),
    by decide +kernel⟩,
  ⟨2, 7, 3, [(1,2)], (sr 1 1 0 100 50), (sch [(7,3),(1,2)] [5] none true false), (ss (sr 1 1 0 100 50)
    { cmd := 0x7000003, search := some (sch [(7,3),(1,2)] [5] none true false) } []), by decide +kernel⟩,
  ⟨2, 7, 3, [(1,2)], (sr 1 1 0 100 50), (sch [(7,3),(1,2)] [5] none true true), (ss (sr 1 1 0 100 50)
    { cmd := 0x8000002, search := some (sch [(7,3),(1,2)] [5] none true true) } []), by decide +kernel⟩⟩

/-- States and operands that meet the hypotheses of SerialAreaAndRollCall, clause 22. -/
theorem test_SerialAreaAndRollCall_6 :
    (∃ (p : Nat) (ans : List RollChar) (s : State), s.serElem p = none ∨ (s.ser p).search = none) ∧
    (∃ (p : Nat) (ans : List RollChar) (s : State), s.serElem p = none ∨ (s.ser p).search = none) :=
  ⟨⟨2, [], State.reset, by decide +kernel⟩,
  ⟨2, [], (ss (sr 0 1 0 0 0) {} []), by decide +kernel⟩⟩

/-- States and operands that meet the hypotheses of LinFramesBeginAndEnd, clauses 1 to 3. -/
theorem test_LinFramesBeginAndEnd_1 :
    (∃ (p : Nat) (b : LinBreak) (e : Elem) (s : State), s.serLive p = some e ∧ s.pinsSeen = true ∧ serMode e = 3 ∧ (s.ser p).asleep =
      false ∧ 11 * serDiv e ≤ 256 * b.low ∧ b.high ≠ 0) ∧
    (∃ (p : Nat) (b : LinBreak) (e : Elem) (s : State), s.serLive p = some e ∧ s.pinsSeen = true ∧ serMode e = 3 ∧ (s.ser p).asleep =
      false ∧ 11 * serDiv e ≤ 256 * b.low ∧ b.high ≠ 0) ∧
    (∃ (p : Nat) (b : LinBreak) (s : State), s.serLive p = none ∨ s.pinsSeen = false ∨ (s.ser p).asleep = true) ∧
    (∃ (p : Nat) (b : LinBreak) (s : State), s.serLive p = none ∨ s.pinsSeen = false ∨ (s.ser p).asleep = true) ∧
    (∃ (p : Nat) (b : LinBreak) (e : Elem) (s : State), s.serLive p = some e ∧ (serMode e ≠ 3 ∨ 256 * b.low < 11 * serDiv e ∨ b.high = 0))
      ∧
    (∃ (p : Nat) (b : LinBreak) (e : Elem) (s : State), s.serLive p = some e ∧ (serMode e ≠ 3 ∨ 256 * b.low < 11 * serDiv e ∨ b.high = 0))
      :=
  ⟨⟨2, ⟨9549,800,6944⟩, (sr 3 1 0 0 0), (ss (sr 3 1 0 0 0) { rx := some 5, rxProd := 4, rxCons := 4 } []), by decide +kernel⟩,
  ⟨2, ⟨9549,800,7918⟩, (sr 3 1 0 0 0), (ss (sr 3 1 0 0 0) { rx := some 5, rxProd := 4, rxCons := 4 } []), by decide +kernel⟩,
  ⟨2, ⟨10000,800,6944⟩, State.reset, by decide +kernel⟩,
  ⟨2, ⟨10000,800,6944⟩, (ss (sr 3 1 0 0 0) { asleep := true } []), by decide +kernel⟩,
  ⟨2, ⟨10000,800,6944⟩, (sr 0 1 0 0 0), (ss (sr 0 1 0 0 0) {} []), by decide +kernel⟩,
  ⟨2, ⟨9548,800,6944⟩, (sr 3 1 0 0 0), (ss (sr 3 1 0 0 0) {} []), by decide +kernel⟩⟩

/-- States and operands that meet the hypotheses of LinFramesBeginAndEnd, clauses 4 to 5. -/
theorem test_LinFramesBeginAndEnd_2 :
    (∃ (p : Nat) (f : LinFrame) (s : State), (s.ser p).lin = some f ∧ f.left = 0) ∧
    (∃ (p : Nat) (f : LinFrame) (s : State), (s.ser p).lin = some f ∧ f.left = 0) ∧
    (∃ (p : Nat) (s : State), (s.ser p).lin = none) :=
  ⟨⟨2, (lf true [1,2] 0 0), (ss (sr 3 1 0 0 0) { lin := some (lf true [1,2] 0 0), rxProd := 0 } []), by decide +kernel⟩,
  ⟨2, (lf true [1,2] 0 1), (ss (sr 3 1 0 0 0) { lin := some (lf true [1,2] 0 1), rxProd := 2048 } []), by decide +kernel⟩,
  ⟨2, (ss (sr 0 1 0 0 0) {} []), by decide +kernel⟩⟩

end W11

namespace W12
open W4 W5 W6 W11

def cueSt (m : Nat) (c : Cue) : State := { sc [el 0 0x12 3 64 [(8,1,m),(16,4,1000),(20,4,50)]] [(.CUE_ARM_S,3,0),(.CUE_CNT,3,255)] with cues := [(3,c),(4,{ next := some 9 })], clock := ⟨0, 100, 0, 70⟩ }
def ck (v c poly : Nat) : Elem := el v 0x15 c 64 [(8,1,poly)]
def cs (ctrl : Nat) (l : List Elem) (r : List (RegId × Nat × Nat) := []) : State :=
  let s := sc ([vo 3 1, vo 4 2] ++ l) ([(.VW_CHK_CTRL,3,ctrl)] ++ r)
  { s with checks := [(1,0x123456),(2,0xBEEF),(15,0x77)], clock := ⟨2,3,4,50000000000000⟩ }
def up (s : State) (sup : Bool := false) : State := { s with power := { s.power with supply := sup } }
def ks (pr rv : Bool) (u : Nat) : KeySlot := ⟨pr, rv, u, (List.range 64).map (BitVec.ofNat 8)⟩
def lcs (st : Nat) (sl : Tab KeySlot) (r : List (RegId × Nat × Nat) := []) : State :=
  let s := r0 ([(.LC_STATE,0,st),(.LC_TOKEN,0,0x4B54434C),(.LC_CHALLENGE,1,7)] ++ r)
  { s with lc := { s.lc with slots := sl, valid := true, unlocked := some 1 } }
def tapIn (i : TapInstr) (s : State) : State := { s with lc := { s.lc with tap := { s.lc.tap with instr := i } } }
def held (s : State) : State := { s with power := { s.power with clock := true } }
def ldX (s : State) : State := { s with load := { s.load with staged := some ⟨false,0x1000,64,0,false⟩ } }
def bl1 (l : List Elem) (r : List (RegId × Nat × Nat)) : State := { sc l r with clock := ⟨2,3,4,5⟩ }
theorem slots_unfit : ¬ ((∃ k, 2 ≤ k ∧ k ≤ 7 ∧ ((lcs 2 [(7, ks true true 5), (2, ks true false 4)]).keySlot k).programmed = true ∧
      ((lcs 2 [(7, ks true true 5), (2, ks true false 4)]).keySlot k).revoked = false ∧
      ((lcs 2 [(7, ks true true 5), (2, ks true false 4)]).keySlot k).usage.testBit 0 = true) ∧
    ∃ k, 2 ≤ k ∧ k ≤ 7 ∧ ((lcs 2 [(7, ks true true 5), (2, ks true false 4)]).keySlot k).programmed = true ∧
      ((lcs 2 [(7, ks true true 5), (2, ks true false 4)]).keySlot k).revoked = false ∧
      ((lcs 2 [(7, ks true true 5), (2, ks true false 4)]).keySlot k).usage.testBit 2 = true) := by
  rintro ⟨⟨k, _, h7, hp, hr, hu⟩, _⟩
  have all : ∀ j, j < 8 → ((lcs 2 [(7, ks true true 5), (2, ks true false 4)]).keySlot j).revoked = false →
      ((lcs 2 [(7, ks true true 5), (2, ks true false 4)]).keySlot j).usage.testBit 0 = true → False := by decide +kernel
  exact all k (by omega) hr hu


/-- States and operands that meet the hypotheses of CheckRestartUsesNewSelection, clauses 1 to 2. -/
theorem test_CheckRestartUsesNewSelection_1 :
    (∃ (p : Path) (v : Nat) (w : Word) (s : State), s.pageOpen p v ∧ w.getLsbD 8 = true ∧ ((∃ e, s.elem 0x0015 (w.toNat % 16) = some e ∧
      e.voice = v))) ∧
    (∃ (p : Path) (v : Nat) (w : Word) (s : State), s.pageOpen p v ∧ w.getLsbD 8 = true ∧ ((∃ e, s.elem 0x0015 (w.toNat % 16) = some e ∧
      e.voice = v))) ∧
    (∃ (p : Path) (v : Nat) (w : Word) (s : State), s.pageOpen p v ∧ w.getLsbD 8 = false) ∧
    (∃ (p : Path) (v : Nat) (w : Word) (s : State), s.pageOpen p v ∧ w.getLsbD 8 = false) :=
  ⟨⟨.pcie, 3, 0x101, (cs 34 [ck 3 1 0, ck 3 2 2] []), by decide +kernel⟩,
  ⟨.pcie, 3, 0x12F, (cs 0 [ck 3 15 1] []), by decide +kernel⟩,
  ⟨.netctl, 3, 0x1, (cs 34 [ck 3 1 0, ck 3 2 2] []), by decide +kernel⟩,
  ⟨.netctl, 3, 0xFFFFFEFF, (cs 0 [] []), by decide +kernel⟩⟩

/-- States and operands that meet the hypotheses of CheckChannelOfAnotherViolates, clauses 1 to 3. -/
theorem test_CheckChannelOfAnotherViolates_1 :
    (∃ (p : Path) (v : Nat) (w : Word) (c : Instr) (s : State), s.pageOpen p v ∧ s.chkElem v = none ∧ ((c = .checkFeed p v w ∨ c =
      .registerWrite p (.page v) 0x70 w))) ∧
    (∃ (p : Path) (v : Nat) (w : Word) (c : Instr) (s : State), s.pageOpen p v ∧ s.chkElem v = none ∧ ((c = .checkFeed p v w ∨ c =
      .registerWrite p (.page v) 0x70 w))) ∧
    (∃ (p : Path) (v : Nat) (w : Word) (c : Instr) (s : State), s.pageOpen p v ∧ w.getLsbD 8 = true ∧ ((∀ e, s.elem 0x0015 (w.toNat % 16)
      = some e → e.voice ≠ v)) ∧ ((c = .checkRestart p v w ∨ c = .registerWrite p (.page v) 0x6C w))) ∧
    (∃ (p : Path) (v : Nat) (w : Word) (c : Instr) (s : State), s.pageOpen p v ∧ w.getLsbD 8 = true ∧ ((∀ e, s.elem 0x0015 (w.toNat % 16)
      = some e → e.voice ≠ v)) ∧ ((c = .checkRestart p v w ∨ c = .registerWrite p (.page v) 0x6C w))) ∧
    (∃ (p : Path) (v : Nat) (s : State), s.pageOpen p v ∧ s.chkElem v = none) ∧
    (∃ (p : Path) (v : Nat) (s : State), s.pageOpen p v ∧ s.chkElem v = none) :=
  ⟨⟨.pcie, 3, 5, (.checkFeed .pcie 3 5), (cs 0x21 [] []), by decide +kernel⟩,
  ⟨.pcie, 3, 5, (.registerWrite .pcie (.page 3) 0x70 5), (cs 0x2F [ck 4 15 1] []), by decide +kernel⟩,
  ⟨.netctl, 3, 0x101, (.checkRestart .netctl 3 0x101), (cs 0x21 [ck 4 1 0] []), by decide +kernel⟩,
  ⟨.netctl, 3, 0x13F, (.registerWrite .netctl (.page 3) 0x6C 0x13F), (cs 0x2F [] []), by decide +kernel⟩,
  ⟨.pcie, 3, (cs 47 [ck 4 15 1] []), by decide +kernel⟩,
  ⟨.netctl, 3, (cs 0 [] []), by decide +kernel⟩⟩

/-- States and operands that meet the hypotheses of CheckFeedAdvancesCrc, clauses 1 to 2. -/
theorem test_CheckFeedAdvancesCrc_1 :
    (∃ (p : Path) (v : Nat) (w : Word) (e : Elem) (s : State), s.pageOpen p v ∧ s.chkElem v = some e) ∧
    (∃ (p : Path) (v : Nat) (w : Word) (e : Elem) (s : State), s.pageOpen p v ∧ s.chkElem v = some e) ∧
    (∃ (p : Path) (v : Nat) (w : Word) (e : Elem) (s : State), s.pageOpen p v ∧ s.chkElem v = some e) ∧
    (∃ (p : Path) (v : Nat) (w : Word) (e : Elem) (s : State), s.pageOpen p v ∧ s.chkElem v = some e) :=
  ⟨⟨.pcie, 3, 0x31, (ck 3 1 0), (cs 1 [ck 3 1 0] [(.CHK_BYTES,1,0xFFFFFFFF)]), by decide +kernel⟩,
  ⟨.pcie, 3, 0xDEADBEEF, (ck 3 1 1), (cs 33 [ck 3 1 1] [(.CHK_BYTES,1,0xFFFFFFFF)]), by decide +kernel⟩,
  ⟨.netctl, 3, 5, (ck 3 1 0), (cs 1 [ck 3 1 0] []), by decide +kernel⟩,
  ⟨.netctl, 3, 5, (ck 3 15 3), (cs 15 [ck 3 15 3] []), by decide +kernel⟩⟩

/-- States and operands that meet the hypotheses of HostPortEvents, clauses 1 to 4. -/
theorem test_HostPortEvents_1 :
    (∃ (k : HostResetKind) (s : State), s.domUp .HOST = true ∧ ((k = .fundamental → s.pinsSeen = true))) ∧
    (∃ (k : HostResetKind) (s : State), s.domUp .HOST = true ∧ ((k = .fundamental → s.pinsSeen = true))) ∧
    (∃ (k : HostResetKind) (s : State), s.domUp .HOST = false ∨ (k = .fundamental ∧ s.pinsSeen = false)) ∧
    (∃ (k : HostResetKind) (s : State), s.domUp .HOST = false ∨ (k = .fundamental ∧ s.pinsSeen = false)) ∧
    (∃ (sp wd : Nat) (m x : Bool) (s : State), s.domUp .HOST = true) ∧
    (∃ (q : InboundReq) (s : State), s.domUp .HOST = true ∧ (¬ (q.full = true ∧ ((q.dw = 1 ∧ q.addr % 4 = 0) ∨ (q.dw = 2 ∧ q.addr % 8 =
      0))))) :=
  ⟨⟨.hot,
    { (r0 [(.HOST_LINK,0,0x713),(.HOST_EPOCH_CNT,0,9),(.HOST_BADACC_CNT,0,8),(.HOST_OB_BASE,0,0x777),(.EPOCH_TAB,51,255),(.MSIX_TABLE,9,3),(.MSIX_PBA,1,3)]) with fresh := 1 },
    by decide +kernel⟩,
  ⟨.linkDown, (vs [(3*16+5, rg true true 2 4 1)] { mode := .run } id [(.HOST_LINK,0,0x713)]), by decide +kernel⟩,
  ⟨.fundamental, (tapIn .extest State.reset), by decide +kernel⟩,
  ⟨.hot, closed, by decide +kernel⟩,
  ⟨15, 16, true, false, State.reset, by decide +kernel⟩,
  ⟨⟨true,3,true,0⟩, (r0 [(.HOST_BADACC_CNT,0,0xFFFFFFFF)]), by decide +kernel⟩⟩

/-- States and operands that meet the hypotheses of HostPortEvents, clauses 4 to 8. -/
theorem test_HostPortEvents_2 :
    (∃ (q : InboundReq) (s : State), s.domUp .HOST = true ∧ (¬ (q.full = true ∧ ((q.dw = 1 ∧ q.addr % 4 = 0) ∨ (q.dw = 2 ∧ q.addr % 8 =
      0))))) ∧
    (∃ (vec : Nat) (s : State), s.domUp .HOST = true ∧ vec < 2048) ∧
    (∃ (vec : Nat) (s : State), s.domUp .HOST = true ∧ vec < 2048) ∧
    (∃ (k : AerKind) (s : State), s.domUp .HOST = true) ∧
    (∃ (sp wd vec : Nat) (m x : Bool) (k : AerKind) (s : State), s.domUp .HOST = false) ∧
    (∃ (sp wd vec : Nat) (m x : Bool) (k : AerKind) (s : State), s.domUp .HOST = false) :=
  ⟨⟨⟨false,2,true,4⟩, (r0 [(.HOST_BADACC_CNT,0,5)]), by decide +kernel⟩,
  ⟨2047, (r0 [(.MSIX_PBA,63,0xFFFFFFFF),(.HOST_LINK,0,0x200),(.MSIX_TABLE,8191,1)]), by decide +kernel⟩,
  ⟨0, (r0 [(.MSIX_PBA,0,2)]), by decide +kernel⟩,
  ⟨.receiverError, State.reset, by decide +kernel⟩,
  ⟨1, 1, 5, true, true, .badTlp, closed, by decide +kernel⟩,
  ⟨1, 1, 5, true, true, .badTlp, closed, by decide +kernel⟩⟩

/-- States and operands that meet the hypotheses of HostPortEvents, clauses 9 to 11. -/
theorem test_HostPortEvents_3 :
    (∃ (sp wd vec : Nat) (m x : Bool) (k : AerKind) (s : State), s.domUp .HOST = false) ∧
    (∃ (sp wd vec : Nat) (m x : Bool) (k : AerKind) (s : State) (q : InboundReq), s.domUp .HOST = false ∧ q.write = true) ∧
    (∃ (q : InboundReq) (s : State), q.full = true ∧ ((q.dw = 1 ∧ q.addr % 4 = 0) ∨ (q.dw = 2 ∧ q.addr % 8 = 0))) ∧
    (∃ (q : InboundReq) (s : State), q.full = true ∧ ((q.dw = 1 ∧ q.addr % 4 = 0) ∨ (q.dw = 2 ∧ q.addr % 8 = 0))) :=
  ⟨⟨1, 1, 5, true, true, .badTlp, closed, by decide +kernel⟩,
  ⟨1, 1, 5, true, true, .badTlp, closed, ⟨true,3,true,0⟩, by decide +kernel⟩,
  ⟨⟨true,1,true,4⟩, closed, by decide +kernel⟩,
  ⟨⟨false,2,true,8⟩, State.reset, by decide +kernel⟩⟩

/-- States and operands that meet the hypotheses of ResetsClearAndBoot, clauses 3 to 6. -/
theorem test_ResetsClearAndBoot_1 :
    (∃ (c : Instr) (bitNo : Nat) (s : State), (c = .refclkLost ∧ bitNo = 4 ∨ ∃ k, k < 3 ∧ c = .pllUnlock k ∧ bitNo = 3)) ∧
    (∃ (c : Instr) (bitNo : Nat) (s : State), (c = .refclkLost ∧ bitNo = 4 ∨ ∃ k, k < 3 ∧ c = .pllUnlock k ∧ bitNo = 3)) ∧
    (∃ (s : State), s.power.clock = true) ∧
    (∃ (c : Instr) (bitNo : Nat) (s : State), s.power.clock = false ∧ ((c = .resetPin ∧ s.pinsSeen = true ∧ bitNo = 1 ∨ ∃ p v, c =
      .warmReset p v ∧ s.regOpen p .AON = true ∧ v.getLsbD 0 = true ∧ v.toNat / 65536 = 0x5753 ∧ bitNo = 2))) ∧
    (∃ (c : Instr) (bitNo : Nat) (s : State), s.power.clock = false ∧ ((c = .resetPin ∧ s.pinsSeen = true ∧ bitNo = 1 ∨ ∃ p v, c =
      .warmReset p v ∧ s.regOpen p .AON = true ∧ v.getLsbD 0 = true ∧ v.toNat / 65536 = 0x5753 ∧ bitNo = 2))) ∧
    (∃ (s : State), s.power.clock = true ∧ s.pinsSeen = true) :=
  ⟨⟨.refclkLost, 4, (up (r0 [(.BOOT_STATUS,0,5),(.LC_CHALLENGE,2,4),(.RST_CAUSE,0,0x7F),(.MEM_RETAIN,0,0xFFFFFFFF)])), by decide +kernel⟩,
  ⟨(.pllUnlock 0), 3, closed, by decide +kernel⟩,
  ⟨{ (r0 [(.BOOT_STATUS,0,5)]) with power := { State.reset.power with clock := true } }, by decide +kernel⟩,
  ⟨.resetPin, 1,
    { (r0 [(.BOOT_STATUS,0,2),(.LC_CHALLENGE,2,4),(.RST_CAUSE,0,0x7F),(.MEM_RETAIN,0,0xFFFFFFFF)]) with mem := [(5,6),(0x1000000005,1)] },
    by decide +kernel, Or.inl ⟨rfl, by decide +kernel, rfl⟩⟩,
  ⟨(.warmReset .debug 0x57530001), 2, (lcs 1 []), by decide +kernel, Or.inr ⟨_, _, rfl, by decide +kernel⟩⟩,
  ⟨(held { (r0 [(.BOOT_STATUS,0,2),(.MEM_RETAIN,0,0x201)]) with mem := [(5,6),(0x1000000005,1)] }), by decide +kernel⟩⟩

/-- States and operands that meet the hypotheses of ResetsClearAndBoot, clauses 6 to 10. -/
theorem test_ResetsClearAndBoot_2 :
    (∃ (s : State), s.power.clock = true ∧ s.pinsSeen = true) ∧
    (∃ (s : State), s.power.clock = false) ∧
    (∃ (s : State), s.pinsSeen = false) ∧
    (∃ (p : Path) (v : Word) (s : State), s.regOpen p .AON = false ∨ v.getLsbD 0 = false ∨ v.toNat / 65536 ≠ 0x5753) ∧
    (∃ (p : Path) (v : Word) (s : State), s.regOpen p .AON = false ∨ v.getLsbD 0 = false ∨ v.toNat / 65536 ≠ 0x5753) ∧
    (∃ (k : Nat) (s : State), 3 ≤ k) :=
  ⟨⟨(held (vs [(3*16+5, rg true true 2 4 1)])), by decide +kernel⟩,
  ⟨State.reset, by decide +kernel⟩,
  ⟨(tapIn .extest State.reset), by decide +kernel⟩,
  ⟨.pcie, 0x57530000, State.reset, by decide +kernel⟩,
  ⟨.pcie, 0x57540001, State.reset, by decide +kernel⟩,
  ⟨3, State.reset, by decide +kernel⟩⟩

/-- States and operands that meet the hypotheses of StandbyWakeAndBootRead, clauses 1 to 4. -/
theorem test_StandbyWakeAndBootRead_1 :
    (∃ (p : Path) (v : Word) (s : State), s.regOpen p .AON = true ∧ v.getLsbD 0 = true ∧ s.scoreLive = true) ∧
    (∃ (p : Path) (v : Word) (s : State), s.regOpen p .AON = true ∧ v.getLsbD 0 = true ∧ s.scoreLive = false) ∧
    (∃ (p : Path) (v : Word) (s : State), s.regOpen p .AON = true ∧ v.getLsbD 0 = true ∧ s.scoreLive = false) ∧
    (∃ (p : Path) (v : Word) (s : State), s.regOpen p .AON = false ∨ v.getLsbD 0 = false) ∧
    (∃ (p : Path) (v : Word) (s : State), s.regOpen p .AON = false ∨ v.getLsbD 0 = false) ∧
    (∃ (s : State), s.pinsSeen = true ∧ s.power.asked = false ∧ s.power.standby = true ∧ s.power.clock = false) :=
  ⟨⟨.pcie, 1, (sc [vo 3 1] [(.TEMPO_CFG,0,0x80000000)]), by decide +kernel⟩,
  ⟨.pcie, 1, { (r0 [(.INCR,0,5),(.SERVO_STATUS,0,3),(.VW_QPOST,3,7)]) with clock := ⟨5,6,7,8⟩ }, by decide +kernel⟩,
  ⟨.netctl, 0xFFFFFFFF, State.reset, by decide +kernel⟩,
  ⟨.pcie, 0xFFFFFFFE, State.reset, by decide +kernel⟩,
  ⟨.pcie, 1, closed, by decide +kernel⟩,
  ⟨{ (r0 [(.BOOT_STATUS,0,2),(.RST_CAUSE,0,1)]) with power := { State.reset.power with standby := true } }, by decide +kernel⟩⟩

/-- States and operands that meet the hypotheses of StandbyWakeAndBootRead, clauses 5 to 8. -/
theorem test_StandbyWakeAndBootRead_2 :
    (∃ (s : State), s.pinsSeen = true ∧ s.power.asked = true ∧ s.power.clock = false) ∧
    (∃ (s : State), s.pinsSeen = false ∨ (s.power.asked = false ∧ s.power.standby = false)) ∧
    (∃ (s : State), s.pinsSeen = false ∨ (s.power.asked = false ∧ s.power.standby = false)) ∧
    (∃ (r : Sfdp) (s : State), s.power.sfdp = true) ∧
    (∃ (r : Sfdp) (s : State), s.power.sfdp = true) ∧
    (∃ (r : Sfdp) (s : State), s.power.sfdp = false) :=
  ⟨⟨{ (sc [vo 3 1] [(.TEMPO_CFG,0,0x80000000)]) with power := { State.reset.power with asked := true } }, by decide +kernel⟩,
  ⟨State.reset, by decide +kernel⟩,
  ⟨(tapIn .extest closed), by decide +kernel⟩,
  ⟨⟨true,256,true,false⟩, { (r0 [(.FLASH_INFO,0,5)]) with power := { State.reset.power with sfdp := true, banks := [0,1] } },
    by decide +kernel⟩,
  ⟨⟨true,256,true,false⟩, { (ldX (r0 [(.FLASH_INFO,0,5)])) with power := { State.reset.power with sfdp := true, banks := [0,1] } },
    by decide +kernel⟩,
  ⟨⟨true,1,true,true⟩, State.reset, by decide +kernel⟩⟩

/-- States and operands that meet the hypotheses of BlockControlActs, clauses 1 to 3. -/
theorem test_BlockControlActs_1 :
    (∃ (p : Path) (v : Word) (k a : Nat) (c : Instr) (s : State), s.regOpen p .FABRIC = true ∧ v.getLsbD 31 = true ∧ k = v.toNat % 64 ∧ a
      = v.toNat / 256 % 4 ∧ ((c = .blockReset p v ∨ c = .blockOff p v ∨ c = .blockOn p v)) ∧ s.blockMay k a) ∧
    (∃ (p : Path) (v : Word) (k a : Nat) (c : Instr) (s : State), s.regOpen p .FABRIC = true ∧ v.getLsbD 31 = true ∧ k = v.toNat % 64 ∧ a
      = v.toNat / 256 % 4 ∧ ((c = .blockReset p v ∨ c = .blockOff p v ∨ c = .blockOn p v)) ∧ s.blockMay k a) ∧
    (∃ (p : Path) (v : Word) (k a : Nat) (c : Instr) (s : State), s.regOpen p .FABRIC = true ∧ v.getLsbD 31 = true ∧ k = v.toNat % 64 ∧ a
      = v.toNat / 256 % 4 ∧ ((c = .blockReset p v ∨ c = .blockOff p v ∨ c = .blockOn p v)) ∧ ¬ s.blockMay k a) ∧
    (∃ (p : Path) (v : Word) (k a : Nat) (c : Instr) (s : State), s.regOpen p .FABRIC = true ∧ v.getLsbD 31 = true ∧ k = v.toNat % 64 ∧ a
      = v.toNat / 256 % 4 ∧ ((c = .blockReset p v ∨ c = .blockOff p v ∨ c = .blockOn p v)) ∧ ¬ s.blockMay k a) ∧
    (∃ (p : Path) (v : Word) (s : State), s.regOpen p .FABRIC = false ∨ v.getLsbD 31 = false) ∧
    (∃ (p : Path) (v : Word) (s : State), s.regOpen p .FABRIC = false ∨ v.getLsbD 31 = false) :=
  ⟨⟨.pcie, (BitVec.ofNat 32 2147483905), 1, 1, (.blockReset .pcie (BitVec.ofNat 32 2147483905)), (bl1 [el 0 6 1 64 [(8,1,1),(14,1,0xFF)],
    el 0 9 2 128 []] []), by decide +kernel⟩,
  ⟨.netctl, (BitVec.ofNat 32 2147484464), 48, 3, (.blockOn .netctl (BitVec.ofNat 32 2147484464)), (bl1 [el 0 0x18 0 64 []]
    [(.EPOCH_TAB,48,767)]), by decide +kernel⟩,
  ⟨.pcie, (BitVec.ofNat 32 2147483649), 1, 0, (.blockReset .pcie (BitVec.ofNat 32 2147483649)), (bl1 [el 0 6 1 64 [(8,1,1),(14,1,0xFF)],
    el 0 9 2 128 []] []), by decide +kernel⟩,
  ⟨.pcie, (BitVec.ofNat 32 2147484211), 51, 2, (.blockOff .pcie (BitVec.ofNat 32 2147484211)), (bl1 [el 0 6 1 64 [(8,1,1),(14,1,0xFF)], el
    0 9 2 128 []] []), by decide +kernel⟩,
  ⟨.pcie, 0x00000101, (bl1 [el 0 6 1 64 [(8,1,1),(14,1,0xFF)], el 0 9 2 128 []] []), by decide +kernel⟩,
  ⟨.pcie, 0x80000101, closed, by decide +kernel⟩⟩

/-- States and operands that meet the hypotheses of BlockControlActs, clauses 4 to 6. -/
theorem test_BlockControlActs_2 :
    (∃ (p : Path) (v : Word) (s : State), s.regOpen p .FABRIC = false ∨ v.getLsbD 31 = false) ∧
    (∃ (p : Path) (v : Word) (s : State), s.regOpen p .FABRIC = false ∨ v.getLsbD 31 = false) ∧
    (∃ (p : Path) (v : Word) (s : State), s.regOpen p .FABRIC = false ∨ v.getLsbD 31 = false) ∧
    (∃ (p : Path) (v : Word) (s : State), s.regOpen p .FABRIC = false ∨ v.getLsbD 31 = false) ∧
    (∃ (k a : Nat) (s : State), s.power.block = some (k, a)) ∧
    (∃ (k a : Nat) (s : State), s.power.block = some (k, a)) :=
  ⟨⟨.pcie, 0x00000201, (bl1 [el 0 6 1 64 [(8,1,1),(14,1,0xFF)], el 0 9 2 128 []] []), by decide +kernel⟩,
  ⟨.pcie, 0x80000201, closed, by decide +kernel⟩,
  ⟨.pcie, 0x00000301, (bl1 [el 0 6 1 64 [(8,1,1),(14,1,0xFF)], el 0 9 2 128 []] []), by decide +kernel⟩,
  ⟨.pcie, 0x80000301, closed, by decide +kernel⟩,
  ⟨51, 1, { (r0 [(.BLK_STATUS,0,3),(.EPOCH_TAB,51,0xFFFFFFFF)]) with power := { State.reset.power with block := some (51,1) } },
    by decide +kernel⟩,
  ⟨0, 3, { (r0 [(.BLK_STATUS,0,1),(.EPOCH_TAB,0,0x100)]) with power := { State.reset.power with block := some (0,3) } },
    by decide +kernel⟩⟩

/-- States and operands that meet the hypotheses of BlockControlActs, clauses 7 to 9. -/
theorem test_BlockControlActs_3 :
    (∃ (s : State), s.power.block = none) ∧
    (∃ (k : Nat) (s : State), k < 52 ∧ s.domUp .FABRIC = true) ∧
    (∃ (k : Nat) (s : State), k < 52 ∧ s.domUp .FABRIC = true) ∧
    (∃ (k : Nat) (s : State), 52 ≤ k ∨ s.domUp .FABRIC = false) ∧
    (∃ (k : Nat) (s : State), 52 ≤ k ∨ s.domUp .FABRIC = false) :=
  ⟨⟨State.reset, by decide +kernel⟩,
  ⟨51, (r0 [(.EPOCH_TAB,51,0xFFFF00FF)]), by decide +kernel⟩,
  ⟨0, State.reset, by decide +kernel⟩,
  ⟨52, State.reset, by decide +kernel⟩,
  ⟨3, closed, by decide +kernel⟩⟩

/-- States and operands that meet the hypotheses of LifeCycleCommandsAnswer, clauses 1 to 3. -/
theorem test_LifeCycleCommandsAnswer_1 :
    (∃ (p : Path) (v : Word) (c : Instr) (s : State), s.regOpen p .AON = true ∧ v.toNat / 65536 = 0x4C43 ∧ ¬ s.lcFree ∧ ((c = .lcGetchal p
      ∨ c = .lcToken p ∨ c = .lcRelock p ∨ ((c = .lcProgkey p v ∨ c = .lcRevoke p v ∨ c = .lcAdvance p v) ∧ 1 ≤ v.toNat % 16 ∧ v.toNat %
      16 ≤ 6)))) ∧
    (∃ (p : Path) (v : Word) (c : Instr) (s : State), s.regOpen p .AON = true ∧ v.toNat / 65536 = 0x4C43 ∧ ¬ s.lcFree ∧ ((c = .lcGetchal p
      ∨ c = .lcToken p ∨ c = .lcRelock p ∨ ((c = .lcProgkey p v ∨ c = .lcRevoke p v ∨ c = .lcAdvance p v) ∧ 1 ≤ v.toNat % 16 ∧ v.toNat %
      16 ≤ 6)))) ∧
    (∃ (p : Path) (v : Word) (s : State), s.regOpen p .AON = false ∨ v.toNat / 65536 ≠ 0x4C43) ∧
    (∃ (p : Path) (v : Word) (s : State), s.regOpen p .AON = false ∨ v.toNat / 65536 ≠ 0x4C43) ∧
    (∃ (p : Path) (v : Word) (s : State), s.regOpen p .AON = false ∨ v.toNat / 65536 ≠ 0x4C43) ∧
    (∃ (p : Path) (v : Word) (s : State), s.regOpen p .AON = false ∨ v.toNat / 65536 ≠ 0x4C43) :=
  ⟨⟨.pcie, 0x4C430001, (.lcGetchal .pcie), (lcs 2 [] [(.LC_STATUS,0,0x1FF01)]), by decide +kernel⟩,
  ⟨.pcie, 0x4C430F05, (.lcAdvance .pcie 0x4C430F05), (lcs 2 [] [(.LC_STATUS,0,1)]), by decide +kernel⟩,
  ⟨.pcie, 0x4C440003, State.reset, by decide +kernel⟩,
  ⟨.pcie, 0x4C430003, closed, by decide +kernel⟩,
  ⟨.pcie, 0x4C440004, State.reset, by decide +kernel⟩,
  ⟨.pcie, 0x4C430003, closed, by decide +kernel⟩⟩

/-- States and operands that meet the hypotheses of LifeCycleCommandsAnswer, clauses 4 to 6. -/
theorem test_LifeCycleCommandsAnswer_2 :
    (∃ (p : Path) (v : Word) (s : State), s.regOpen p .AON = false ∨ v.toNat / 65536 ≠ 0x4C43) ∧
    (∃ (p : Path) (v : Word) (s : State), s.regOpen p .AON = false ∨ v.toNat / 65536 ≠ 0x4C43) ∧
    (∃ (p : Path) (s : State), s.regOpen p .AON = true ∧ s.lcFree) ∧
    (∃ (p : Path) (s : State), s.regOpen p .AON = true ∧ s.lcFree) ∧
    (∃ (p : Path) (v : Word) (k u : Nat) (s : State), s.regOpen p .AON = true ∧ s.lcFree ∧ v.toNat / 65536 = 0x4C43 ∧ v.toNat % 16 = 3 ∧ k
      = v.toNat / 256 % 16 ∧ u = v.toNat / 4096 % 16) ∧
    (∃ (p : Path) (v : Word) (k u : Nat) (s : State), s.regOpen p .AON = true ∧ s.lcFree ∧ v.toNat / 65536 = 0x4C43 ∧ v.toNat % 16 = 3 ∧ k
      = v.toNat / 256 % 16 ∧ u = v.toNat / 4096 % 16) :=
  ⟨⟨.pcie, 0x4C440005, State.reset, by decide +kernel⟩,
  ⟨.pcie, 0x4C430003, closed, by decide +kernel⟩,
  ⟨.pcie, { (lcs 2 []) with fresh := 7 }, by decide +kernel⟩,
  ⟨.debug, (lcs 1 []), by decide +kernel⟩,
  ⟨.pcie, (BitVec.ofNat 32 1279463427), 0, 1, (lcs 1 []), by decide +kernel⟩,
  ⟨.pcie, (BitVec.ofNat 32 1279472387), 3, 3, (lcs 2 [(3, ks true true 1)]), by decide +kernel⟩⟩

/-- States and operands that meet the hypotheses of LifeCycleCommandsAnswer, clauses 7 to 9. -/
theorem test_LifeCycleCommandsAnswer_3 :
    (∃ (p : Path) (v : Word) (k : Nat) (s : State), s.regOpen p .AON = true ∧ s.lcFree ∧ v.toNat / 65536 = 0x4C43 ∧ v.toNat % 16 = 4 ∧ k =
      v.toNat / 256 % 16) ∧
    (∃ (p : Path) (v : Word) (k : Nat) (s : State), s.regOpen p .AON = true ∧ s.lcFree ∧ v.toNat / 65536 = 0x4C43 ∧ v.toNat % 16 = 4 ∧ k =
      v.toNat / 256 % 16) ∧
    (∃ (p : Path) (s : State), s.regOpen p .AON = true ∧ s.lcFree) ∧
    (∃ (p : Path) (s : State), s.regOpen p .AON = true ∧ s.lcFree) ∧
    (∃ (c : Nat) (s : State), s.lc.result = some c) ∧
    (∃ (c : Nat) (s : State), s.lc.result = some c) :=
  ⟨⟨.pcie, (BitVec.ofNat 32 1279459332), 0, (lcs 1 [(0, ks true false 1)]), by decide +kernel⟩,
  ⟨.pcie, 0x4C430204, 2, (lcs 2 [(2, ks true false 1)]), by decide +kernel⟩,
  ⟨.pcie, (lcs 2 []), by decide +kernel⟩,
  ⟨.debug, (lcs 3 []), by decide +kernel⟩,
  ⟨0,
    { (lcs 2 [] [(.LC_STATUS,0,0x1F0F1),(.HOST_LINK,0,513),(.MSIX_TABLE,3,0),(.MSIX_TABLE,2,7)]) with lc := { (lcs 2 []).lc with result := some 0 } },
    by decide +kernel⟩,
  ⟨5, { (lcs 2 []) with lc := { (lcs 2 []).lc with result := some 5 }, power := { State.reset.power with clock := true } },
    by decide +kernel⟩⟩

/-- States and operands that meet the hypotheses of LifeCycleCommandsAnswer, clause 10. -/
theorem test_LifeCycleCommandsAnswer_4 : ∃ (s : State), s.lc.result = none :=
  ⟨State.reset, by decide +kernel⟩

/-- States and operands that meet the hypotheses of AdvanceNeedsItsConditions, clauses 1 to 3. -/
theorem test_AdvanceNeedsItsConditions_1 :
    (∃ (p : Path) (v : Word) (target : Nat) (s : State), s.regOpen p .AON = true ∧ s.lcFree ∧ v.toNat / 65536 = 0x4C43 ∧ v.toNat % 16 = 5
      ∧ target = v.toNat / 256 % 16 ∧ s.lcState = 2 ∧ target = 3 ∧ (¬ ((∃ k, 2 ≤ k ∧ k ≤ 7 ∧ (s.keySlot k).programmed = true ∧ (s.keySlot
      k).revoked = false ∧ (s.keySlot k).usage.testBit 0 = true) ∧ ∃ k, 2 ≤ k ∧ k ≤ 7 ∧ (s.keySlot k).programmed = true ∧ (s.keySlot
      k).revoked = false ∧ (s.keySlot k).usage.testBit 2 = true))) ∧
    (∃ (p : Path) (v : Word) (target : Nat) (s : State), s.regOpen p .AON = true ∧ s.lcFree ∧ v.toNat / 65536 = 0x4C43 ∧ v.toNat % 16 = 5
      ∧ target = v.toNat / 256 % 16 ∧ s.lcState = 2 ∧ target = 3 ∧ (¬ ((∃ k, 2 ≤ k ∧ k ≤ 7 ∧ (s.keySlot k).programmed = true ∧ (s.keySlot
      k).revoked = false ∧ (s.keySlot k).usage.testBit 0 = true) ∧ ∃ k, 2 ≤ k ∧ k ≤ 7 ∧ (s.keySlot k).programmed = true ∧ (s.keySlot
      k).revoked = false ∧ (s.keySlot k).usage.testBit 2 = true))) ∧
    (∃ (p : Path) (v : Word) (target : Nat) (s : State), s.regOpen p .AON = true ∧ s.lcFree ∧ v.toNat / 65536 = 0x4C43 ∧ v.toNat % 16 = 5
      ∧ target = v.toNat / 256 % 16 ∧ s.lcState = 1 ∧ target = 2 ∧ (¬ ((s.keySlot 0).programmed = true ∧ (s.keySlot 1).programmed =
      true))) ∧
    (∃ (p : Path) (v : Word) (target : Nat) (s : State), s.regOpen p .AON = true ∧ s.lcFree ∧ v.toNat / 65536 = 0x4C43 ∧ v.toNat % 16 = 5
      ∧ target = v.toNat / 256 % 16 ∧ s.lcState = 1 ∧ target = 2 ∧ (¬ ((s.keySlot 0).programmed = true ∧ (s.keySlot 1).programmed =
      true))) ∧
    (∃ (p : Path) (v : Word) (target : Nat) (s : State), s.regOpen p .AON = true ∧ s.lcFree ∧ v.toNat / 65536 = 0x4C43 ∧ v.toNat % 16 = 5
      ∧ target = v.toNat / 256 % 16 ∧ (¬ ((s.lcState = 1 ∧ target = 2) ∨ (s.lcState = 2 ∧ target = 3) ∨ (s.lcState ≠ 15 ∧ target = 15))))
      ∧
    (∃ (p : Path) (v : Word) (target : Nat) (s : State), s.regOpen p .AON = true ∧ s.lcFree ∧ v.toNat / 65536 = 0x4C43 ∧ v.toNat % 16 = 5
      ∧ target = v.toNat / 256 % 16 ∧ (¬ ((s.lcState = 1 ∧ target = 2) ∨ (s.lcState = 2 ∧ target = 3) ∨ (s.lcState ≠ 15 ∧ target = 15))))
      :=
  ⟨⟨.pcie, 0x4C430305, 3, (lcs 2 []), by decide +kernel, by decide +kernel, by decide +kernel, by decide +kernel, by decide +kernel,
    by decide +kernel, by decide +kernel, fun h => by obtain ⟨⟨k, _, _, h, _⟩, _⟩ := h; cases h⟩,
  ⟨.pcie, 0x4C430305, 3, (lcs 2 [(7, ks true true 5),(2,ks true false 4)]), by decide +kernel, by decide +kernel, by decide +kernel,
    by decide +kernel, by decide +kernel, by decide +kernel, by decide +kernel, slots_unfit⟩,
  ⟨.pcie, 0x4C430205, 2, (lcs 1 []), by decide +kernel⟩,
  ⟨.pcie, 0x4C430205, 2, (lcs 1 [(0, ks true false 1)]), by decide +kernel⟩,
  ⟨.pcie, (BitVec.ofNat 32 1279463173), 15, (lcs 15 [(0, ks true false 15),(1, ks true false 15),(2, ks true false 15)]),
    by decide +kernel⟩,
  ⟨.pcie, (BitVec.ofNat 32 1279459333), 0, (lcs 2 [(0, ks true false 15),(1, ks true false 15),(2, ks true false 15)]),
    by decide +kernel⟩⟩

/-- States and operands that meet the hypotheses of TransitionsAndTokens, clauses 1 to 3. -/
theorem test_TransitionsAndTokens_1 :
    (∃ (p : Path) (v : Word) (s : State), s.regOpen p .AON = true ∧ s.lcFree ∧ v.toNat / 65536 = 0x4C43 ∧ v.toNat % 16 = 5 ∧ ((s.lcState =
      1 ∧ v.toNat / 256 % 16 = 2 ∧ (s.keySlot 0).programmed = true ∧ (s.keySlot 1).programmed = true) ∨ (s.lcState = 2 ∧ v.toNat / 256 %
      16 = 3 ∧ s.ownerSlot 0 none = true ∧ s.ownerSlot 2 none = true))) ∧
    (∃ (p : Path) (v : Word) (s : State), s.regOpen p .AON = true ∧ s.lcFree ∧ v.toNat / 65536 = 0x4C43 ∧ v.toNat % 16 = 5 ∧ ((s.lcState =
      1 ∧ v.toNat / 256 % 16 = 2 ∧ (s.keySlot 0).programmed = true ∧ (s.keySlot 1).programmed = true) ∨ (s.lcState = 2 ∧ v.toNat / 256 %
      16 = 3 ∧ s.ownerSlot 0 none = true ∧ s.ownerSlot 2 none = true))) ∧
    (∃ (p : Path) (v : Word) (s : State), s.regOpen p .AON = true ∧ s.lcFree ∧ v.toNat / 65536 = 0x4C43 ∧ v.toNat % 16 = 5 ∧ s.lcState ≠
      15 ∧ v.toNat / 256 % 16 = 15) ∧
    (∃ (p : Path) (v : Word) (s : State), s.regOpen p .AON = true ∧ s.lcFree ∧ v.toNat / 65536 = 0x4C43 ∧ v.toNat % 16 = 5 ∧ s.lcState ≠
      15 ∧ v.toNat / 256 % 16 = 15) ∧
    (∃ (target : Nat) (s : State), s.lc.erasing = some target) ∧
    (∃ (target : Nat) (s : State), s.lc.erasing = some target) :=
  ⟨⟨.pcie, 0x4C430205, (lcs 1 [(0, ks true false 1),(1, ks true true 1)] [(.BOOT_STATUS,0,5),(.RST_CAUSE,0,0x7F)]), by decide +kernel⟩,
  ⟨.pcie, 0x4C430305, { (lcs 2 [(2, ks true false 1),(7, ks true false 4)]) with mem := [(4,5)] }, by decide +kernel⟩,
  ⟨.pcie, 0x4C430F05, (lcs 3 []), by decide +kernel⟩,
  ⟨.pcie, 0x4C430F05, (lcs 1 [(0, ks true false 1)]), by decide +kernel⟩,
  ⟨15,
    { (lcs 3 [(2, ks true false 1)]) with lc := { (lcs 3 [(2, ks true false 1)]).lc with erasing := some 15 }, mem := [(4,5),(0x1000000005,1)] },
    by decide +kernel⟩,
  ⟨6,
    { (lcs 3 [(2, ks true false 1)]) with lc := { (lcs 3 [(2, ks true false 1)]).lc with erasing := some 6 }, mem := [(4,5),(0x1000000005,1)] },
    by decide +kernel⟩⟩

/-- States and operands that meet the hypotheses of TransitionsAndTokens, clauses 4 to 7. -/
theorem test_TransitionsAndTokens_2 :
    (∃ (s : State), s.lc.erasing = none) ∧
    (∃ (p : Path) (s : State), s.regOpen p .AON = true ∧ s.lcFree) ∧
    (∃ (p : Path) (s : State), s.regOpen p .AON = true ∧ s.lcFree) ∧
    (∃ (b : List Byte) (s : State), s.lcFree ∧ s.lc.tap.instr ≠ .extest ∧ s.lcState ≠ 15) ∧
    (∃ (b : List Byte) (s : State), s.lcFree ∧ s.lc.tap.instr ≠ .extest ∧ s.lcState ≠ 15) ∧
    (∃ (b : List Byte) (s : State), ¬ s.lcFree ∧ s.lc.tap.instr ≠ .extest ∧ s.lcState ≠ 15) :=
  ⟨⟨State.reset, by decide +kernel⟩,
  ⟨.pcie, (lcs 2 [] [(.LC_STATUS,0,0x10000)]), by decide +kernel⟩,
  ⟨.netctl, (lcs 2 [(2,ks true false 15)] [(.LC_TOKEN,1,0x0002FF02)]), by decide +kernel⟩,
  ⟨[], (lcs 2 []), by decide +kernel⟩,
  ⟨(List.replicate 300 7), (tapIn .bypass (lcs 3 [])), by decide +kernel⟩,
  ⟨[5], (lcs 2 [] [(.LC_STATUS,0,0x10001)]), by decide +kernel⟩⟩

/-- States and operands that meet the hypotheses of TapAndDebugPort, clauses 1 to 4. -/
theorem test_TapAndDebugPort_1 :
    (∃ (s : State), s.lc.tap.instr ≠ .extest) ∧
    (∃ (s : State), s.lc.tap.instr ≠ .extest) ∧
    (∃ (s : State), s.lc.tap.instr ≠ .extest) ∧
    (∃ (s : State), s.lc.tap.instr ≠ .extest) ∧
    (∃ (s : State), s.lc.tap.instr ≠ .extest) ∧
    (∃ (bits sampled : List Bool) (s : State), s.lcState ≠ 15) :=
  ⟨⟨State.reset, by decide +kernel⟩,
  ⟨(tapIn .dbgAccess (lcs 15 [])), by decide +kernel⟩,
  ⟨State.reset, by decide +kernel⟩,
  ⟨(tapIn .bypass (lcs 15 [])), by decide +kernel⟩,
  ⟨State.reset, by decide +kernel⟩,
  ⟨[true,false], [], State.reset, by decide +kernel⟩⟩

/-- States and operands that meet the hypotheses of TapAndDebugPort, clauses 4 to 7. -/
theorem test_TapAndDebugPort_2 :
    (∃ (bits sampled : List Bool) (s : State), s.lcState ≠ 15) ∧
    (∃ (bits sampled : List Bool) (s : State), s.lcState ≠ 15 ∧ s.lc.tap.instr ≠ .extest) ∧
    (∃ (bits sampled : List Bool) (s : State), s.lcState ≠ 15 ∧ s.lc.tap.instr ≠ .extest) ∧
    (∃ (bits sampled : List Bool) (s : State), s.lcState ≠ 15 ∧ s.lc.tap.instr ≠ .extest) ∧
    (∃ (c : Instr) (a : Nat) (w : Bool) (d : Word) (b : List Byte) (x y : List Bool) (s : State), s.lcState = 15 ∧ s.lc.tap.instr ≠
      .extest ∧ ((c = .extest x ∨ c = .samplePreload x y ∨ c = .dbgChal ∨ c = .dbgToken b ∨ c = .dbgAccess a w d))) ∧
    (∃ (c : Instr) (a : Nat) (w : Bool) (d : Word) (b : List Byte) (x y : List Bool) (s : State), s.lcState = 15 ∧ s.lc.tap.instr ≠
      .extest ∧ ((c = .extest x ∨ c = .samplePreload x y ∨ c = .dbgChal ∨ c = .dbgToken b ∨ c = .dbgAccess a w d))) :=
  ⟨⟨[true], [], (tapIn .extest State.reset), by decide +kernel⟩,
  ⟨[true], [false,true], State.reset, by decide +kernel⟩,
  ⟨[], [], (lcs 2 []), by decide +kernel⟩,
  ⟨[], [], { State.reset with lc := {} }, by decide +kernel⟩,
  ⟨(.extest [true]), 4, true, 5, [1], [true], [false], (tapIn .bypass (lcs 15 [])), by decide +kernel⟩,
  ⟨(.dbgAccess 4 true 5), 4, true, 5, [1], [true], [false], (tapIn .bypass (lcs 15 [])), by decide +kernel⟩⟩

/-- States and operands that meet the hypotheses of TapAndDebugPort, clauses 8 to 11. -/
theorem test_TapAndDebugPort_3 :
    (∃ (c : Instr) (code : Nat) (next : TapInstr) (s : State), s.lc.tap.instr = .extest ∧ s.power.clock = false ∧ s.tapPick next ≠ .extest
      ∧ (((c = .extestExit code ∧ next = tapCode code) ∨ (c = .idcode ∧ next = .idcode) ∨ (c = .bypass ∧ next = .bypass) ∨ (c = .tapReset
      ∧ next = .idcode)))) ∧
    (∃ (c : Instr) (code : Nat) (next : TapInstr) (s : State), s.lc.tap.instr = .extest ∧ s.power.clock = false ∧ s.tapPick next ≠ .extest
      ∧ (((c = .extestExit code ∧ next = tapCode code) ∨ (c = .idcode ∧ next = .idcode) ∨ (c = .bypass ∧ next = .bypass) ∨ (c = .tapReset
      ∧ next = .idcode)))) ∧
    (∃ (code : Nat) (s : State), s.lc.tap.instr ≠ .extest) ∧
    (∃ (a : Nat) (w : Bool) (d : Word) (s : State), s.lc.tap.instr ≠ .extest ∧ s.dbgScope = 0) ∧
    (∃ (a : Nat) (w : Bool) (d : Word) (s : State), s.lc.tap.instr ≠ .extest ∧ s.dbgScope = 0) ∧
    (∃ (a : Nat) (w : Bool) (d : Word) (s : State), s.lc.tap.instr ≠ .extest ∧ s.lcState ≠ 15 ∧ s.dbgScope ≠ 0 ∧ ((s.region (a % 2 ^ 40 /
      4 * 4) = .nothing ∨ (s.dbgScope ≠ 2 ∧ s.region (a % 2 ^ 40 / 4 * 4) ≠ .regSpace)))) :=
  ⟨⟨(.extestExit 0x22), 0x22, .dbgAccess, (tapIn .extest { (vs [(3*16+5, rg true true 2 4 1)] { mode := .run }) with mem := [(4,5)] }),
    by decide +kernel⟩,
  ⟨(.extestExit 2), 2, .samplePreload, (tapIn .extest (lcs 15 [])), by decide +kernel⟩,
  ⟨0xFF, State.reset, by decide +kernel⟩,
  ⟨0x1000, true, 5, { (lcs 3 []) with lc := {} }, by decide +kernel⟩,
  ⟨0x100000000, false, 5, { (lcs 15 []) with lc := {} }, by decide +kernel⟩,
  ⟨0x1000, true, 5, (lcs 3 []), by decide +kernel⟩⟩

/-- States and operands that meet the hypotheses of TapAndDebugPort, clauses 11 to 14. -/
theorem test_TapAndDebugPort_4 :
    (∃ (a : Nat) (w : Bool) (d : Word) (s : State), s.lc.tap.instr ≠ .extest ∧ s.lcState ≠ 15 ∧ s.dbgScope ≠ 0 ∧ ((s.region (a % 2 ^ 40 /
      4 * 4) = .nothing ∨ (s.dbgScope ≠ 2 ∧ s.region (a % 2 ^ 40 / 4 * 4) ≠ .regSpace)))) ∧
    (∃ (a : Nat) (d : Word) (s : State), s.lc.tap.instr ≠ .extest ∧ s.lcState ≠ 15 ∧ s.dbgScope = 2 ∧ s.domUp .FABRIC = true ∧ s.inMemory
      (a % 2 ^ 40 / 4 * 4) 4) ∧
    (∃ (a : Nat) (d : Word) (s : State), s.lc.tap.instr ≠ .extest ∧ s.lcState ≠ 15 ∧ s.dbgScope = 2 ∧ s.domUp .FABRIC = true ∧ s.inMemory
      (a % 2 ^ 40 / 4 * 4) 4) ∧
    (∃ (a : Nat) (d : Word) (s : State), s.lc.tap.instr ≠ .extest ∧ s.lcState ≠ 15 ∧ s.dbgScope = 2 ∧ s.domUp .FABRIC = true ∧ s.inMemory
      (a % 2 ^ 40 / 4 * 4) 4) ∧
    (∃ (a : Nat) (d : Word) (s : State), s.lc.tap.instr ≠ .extest ∧ s.lcState ≠ 15 ∧ s.dbgScope = 2 ∧ s.domUp .FABRIC = true ∧ s.inMemory
      (a % 2 ^ 40 / 4 * 4) 4) ∧
    (∃ (a : Nat) (w : Bool) (d : Word) (s : State), s.lc.tap.instr ≠ .extest ∧ s.lcState ≠ 15 ∧ s.dbgScope ≠ 0 ∧ s.region (a % 2 ^ 40 / 4
      * 4) = .regSpace) :=
  ⟨⟨0x3000000000, false, 5, { (lcs 1 []) with lc := {} }, by decide +kernel⟩,
  ⟨0x1002, 5, { (lcs 1 []) with lc := {}, mem := [(0x1000,5),(0x1003,9)] }, by decide +kernel⟩,
  ⟨0xFFFFFF, 5, { (lcs 1 []) with lc := {}, mem := [(0xFFFFFC,5)] }, by decide +kernel⟩,
  ⟨0x1002, 0xDEADBEEF, { (lcs 1 []) with lc := {}, mem := [(0x1000,5),(0x1003,9)] }, by decide +kernel⟩,
  ⟨0xFFFFFF, 0, { (lcs 1 []) with lc := {}, mem := [(0xFFFFFC,5)] }, by decide +kernel⟩,
  ⟨0x100000000, false, 0, (lcs 2 []), by decide +kernel⟩⟩

/-- States and operands that meet the hypotheses of TapAndDebugPort, clause 14. -/
theorem test_TapAndDebugPort_5 : ∃ (a : Nat) (w : Bool) (d : Word) (s : State), s.lc.tap.instr ≠ .extest ∧ s.lcState ≠ 15 ∧ s.dbgScope ≠ 0
  ∧ s.region (a % 2 ^ 40 / 4 * 4) = .regSpace :=
  ⟨0x1000FFFFC, false, 5, (tapIn .dbgAccess (lcs 2 [])), by decide +kernel⟩

/-- States and operands that meet the hypotheses of OnlyExtestStopsACommand, clause 1. -/
theorem test_OnlyExtestStopsACommand_1 : ∃ (c : Instr) (s : State), s.extestPlays = false :=
  ⟨.tapReset, State.reset, by decide +kernel⟩

/-- States and operands that meet the hypotheses of ResetLeavesTheMapsValues, clause 2. -/
theorem test_ResetLeavesTheMapsValues_1 :
    (∃ (r : RegId) (i : Nat), r ≠ .LC_STATE ∧ r ≠ .LC_UID ∧ r ≠ .HOST_ID) ∧
    (∃ (r : RegId) (i : Nat), r ≠ .LC_STATE ∧ r ≠ .LC_UID ∧ r ≠ .HOST_ID) :=
  ⟨⟨.RST_CAUSE, 0, by decide +kernel⟩,
  ⟨.CUE_NEXT_S, 7, by decide +kernel⟩⟩

end W12

namespace W13
open W4 W5 W6 W9 W11 W12

/-- A state in which an idle barline is due while EXTEST plays. -/
def playing : State := tapIn .extest (tS 1 (opn (10 ^ 16)))

theorem stops {c : Instr} {s : State} {f : Fault}
    (h : (match exec c s with | .fault g => decide (g = f) | .next _ | .refused _ => false) = true) : exec c s = .fault f := by
  split at h
  · rename_i g e
    rw [e, of_decide_eq_true h]
  · cases h
  · cases h

/-- A command and a state that meet the hypothesis of OnlyExtestStopsACommand, clause 3. -/
theorem test_OnlyExtestStopsACommand_2 : ∃ (c : Instr) (s : State) (f : Fault), exec c s = .fault f :=
  ⟨.idleBarline, playing, .extestPlaying, stops (by decide +kernel)⟩

/-- States that meet the hypotheses of StepKeepsInvariant. -/
theorem test_StepKeepsInvariant_1 : ∃ s t : State, s.Inv ∧ step s = .next t :=
  ⟨State.reset, State.reset.idle, ⟨⟨rfl, rfl, rfl⟩, by decide +kernel, (by unfold State.queueOk; rfl), rfl⟩, rfl⟩

/-- States that meet the hypothesis of StepNeverClearsFuses: a programmed slot, and a REVOKE of it. -/
theorem test_StepNeverClearsFuses_1 : ∃ s t : State, (s.keySlot 7).programmed = true ∧ step s = .next t :=
  ⟨{ (lcs 2 [(7, ks true false 1)]) with pending := [.lcRevoke .pcie 0x4C430704] }, _, by decide +kernel, rfl⟩

/-- A command and states that meet the hypotheses of CommandsChangeOnlyTheirFrame. -/
theorem test_CommandsChangeOnlyTheirFrame_1 : ∃ (c : Instr) (s t : State) (lr : List RegId) (lp : List StatePart),
    exec c s = .next t ∧ commandWrites c = some lr ∧ commandChanges c = some lp ∧ RegId.MEM_CFG ∉ lr ∧ RegId.HOST_OB_BASE ∉ lr ∧
      StatePart.mem ∉ lp ∧ StatePart.hostMem ∉ lp ∧ StatePart.flash ∉ lp :=
  ⟨.capturePop .pcie 7 1, State.reset, _, [.CAP_STATUS], [.caps], rfl, rfl, rfl, by decide +kernel, by decide +kernel, by decide +kernel, by decide +kernel,
    by decide +kernel⟩

/-- The token that a return of the device takes, its signature made for the key below (R418, R424). -/
def tokenMac : Nat := 0x95d072797ddb9ba0eb937f1b550f66d12c52a72674058917a1ec45426ae1997e
def tokenKey : List Byte := toBe 32 0xaf40165e2bad51ad499b558e89621dad81cfe6e2cd5abb29e77808706527ed29 ++
  toBe 32 0x4b0c0b2abdcd5e795e0a960bc8cf58ff257a427f0e5e7ab31f68e3140cffef84
def token : List Byte := toLe 4 0x4B54434C ++ toLe 4 0xFF0001 ++ zeros 8 ++ toLe 32 1 ++ zeros 16 ++ toBe 32 tokenMac ++
  toBe 32 tokenMac ++ zeros 64

/-- A token and a state that meet the hypothesis of TransitionsAndTokens, clause 8: a signature that verifies. -/
theorem test_TransitionsAndTokens_signature : ∃ (b : List Byte) (s : State), s.tokenCode b = 0 :=
  ⟨token, { (r0 [(.LC_CHALLENGE, 0, 1)]) with
    lc := { State.reset.lc with valid := true, slots := [(0, ⟨true, false, 15, tokenKey⟩)] } }, by decide +kernel⟩

end W13

end Sys2Proof.Tests
end

section
/-!
SUPPORT. The accesses to a voice page that act, the requests for an invalidation (R133), and the write of VW_PTROOT (R134).
-/

namespace Sys2Proof.Machine

/-! ### A page that is open -/

/-- An access that reaches the page of a declared voice acts. -/
theorem State.pageAccess_of_open {s : State} {p : Path} {v : Nat} (h : s.pageOpen p v) (ofs : Nat) (write : Bool)
    (act : State → State) : s.pageAccess p v ofs write act = act s := by
  obtain ⟨hp, hup, hv, hd⟩ := h
  have hn : ¬ 1024 ≤ v := by omega
  simp [State.pageAccess, hp, hup, hn, hd]

theorem State.pageWrite_of_open {s : State} {p : Path} {v : Nat} (h : s.pageOpen p v) (ofs : Nat) (act : State → State) :
    s.pageWrite p v ofs act = act s := State.pageAccess_of_open h ofs true act

/-! ### A request for an invalidation (R133) -/

/-- The machine once voice `v` has asked for an invalidation: only VW_TLB_STAT and the translation state differ. -/
theorem State.frame.askInval {s t : State} {l : List (RegId × Nat)} {ps : List StatePart} (h : s.frame t l ps) {v : Nat}
    (hl : (.VW_TLB_STAT, v) ∈ l) (hp : .trans ∈ ps) (i : Inval) : s.frame (t.askInval v i) l ps := by
  have parts (x : Trans) (k : Nat) : s.frame { t.setB .VW_TLB_STAT v k with trans := x } l ps := by
    refine (h.wr hl (setBit k true (t.rd .VW_TLB_STAT v))).part fun p hn => ?_
    cases p
    case trans => exact absurd hp hn
    all_goals simp [StatePart.same, State.setB]
  unfold State.askInval
  split
  · exact parts _ 0
  · exact parts _ 1

/-- A request leaves every register but VW_TLB_STAT of its voice. -/
theorem State.rd_askInval_ne (s : State) {v k : Nat} {r : RegId} (h : (r, k) ≠ (.VW_TLB_STAT, v)) (i : Inval) :
    (s.askInval v i).rd r k = s.rd r k :=
  ((s.frame_refl [(.VW_TLB_STAT, v)] [.trans]).askInval (by simp) (by simp) i).1 r k (by simpa using h)

/-- With none busy the invalidation starts: BUSY (R133). -/
theorem State.askInval_of_idle {s : State} {v : Nat} (h : Tab.get none s.trans.busy v = none) (i : Inval) :
    Tab.get none (s.askInval v i).trans.busy v = some i ∧ (s.askInval v i).rdB .VW_TLB_STAT v 0 = true := by
  unfold State.askInval
  rw [h]
  exact ⟨Tab.get_set_same none (some i) v s.trans.busy, s.rdB_setB_same .VW_TLB_STAT v (by decide)⟩

/-- While one is busy a voice-wide invalidation is held, whatever was held before: PENDING (R133). -/
theorem State.askInval_all_of_busy {s : State} {v : Nat} {b : Inval} (h : Tab.get none s.trans.busy v = some b) :
    (s.askInval v ⟨0, 0⟩).trans.busy = s.trans.busy ∧ Tab.get none (s.askInval v ⟨0, 0⟩).trans.held v = some ⟨0, 0⟩ ∧
      (s.askInval v ⟨0, 0⟩).rdB .VW_TLB_STAT v 1 = true := by
  unfold State.askInval
  rw [h]
  refine ⟨rfl, ?_, s.rdB_setB_same .VW_TLB_STAT v (by decide)⟩
  cases hh : Tab.get none s.trans.held v <;> exact Tab.get_set_same none (some ⟨0, 0⟩) v s.trans.held

/-! ### The root of a voice's page table (R134) -/

/-- The value a write of VW_PTROOT's low word commits: EN, and ROOT with the bits 39 to 32 that the high word `hi` gives. -/
def ptrootValue (w hi : Nat) : Nat := w % 2 + w / 2 ^ 11 * 2 ^ 11 + hi % 256 * 2 ^ 32

theorem ptrootValue_lt {w : Nat} (h : w < 2 ^ 32) (hi : Nat) : ptrootValue w hi < 2 ^ 64 := by
  unfold ptrootValue; omega

/-- The fields of a 32-bit low word and its staged high word, put in their places. -/
theorem ptroot_fields {w : Nat} (h : w < 2 ^ 32) (hi : Nat) :
    fld 0 0 w + fld 31 11 w * 2 ^ 11 + fld 7 0 hi * 2 ^ 32 = ptrootValue w hi := by
  have hr : w / 2 ^ 11 % 2 ^ 21 = w / 2 ^ 11 := Nat.mod_eq_of_lt (by omega)
  simp only [fld, ptrootValue, Nat.shiftRight_eq_div_pow, Nat.pow_zero, Nat.div_one]
  omega

/-- A write of the low word commits the root, and then asks for a voice-wide invalidation (R13, R134). -/
theorem State.ptroot_eq (s : State) (v : Nat) {w : Nat} (h : w < 2 ^ 32) :
    s.ptroot v w = (s.wr .VW_PTROOT v (ptrootValue w (highWord s.stage .VW_PTROOT v))).askInval v ⟨0, 0⟩ := by
  unfold State.ptroot highWord
  cases Tab.get none s.stage (regKey .VW_PTROOT v) <;> simp only [ptroot_fields h, RegId.resetValue, Nat.zero_div]

theorem exec_ptrootWrite_of_open {s : State} {p : Path} {v : Nat} (h : s.pageOpen p v) (w : Word) :
    exec (.ptrootWrite p v w) s = .next (s.ptroot v w.toNat) :=
  congrArg Host.Outcome.next (State.pageWrite_of_open h 0x58 _)

/-- Settles O27: the write is one of VW_PTROOT followed by a request for a voice-wide invalidation (R134). -/
theorem ptrootWriteCommitsRoot : Obligations.PtrootWriteCommitsRoot := by
  intro p v w s hs
  have hw : w.toNat < 2 ^ 32 := w.isLt
  refine ⟨_, exec_ptrootWrite_of_open hs w, ?_⟩
  rw [s.ptroot_eq v hw]
  generalize hu : s.wr .VW_PTROOT v (ptrootValue w.toNat (highWord s.stage .VW_PTROOT v)) = u
  have hroot : u.rd .VW_PTROOT v = ptrootValue w.toNat (highWord s.stage .VW_PTROOT v) := by
    rw [← hu, State.rd_wr_same]
    exact Nat.mod_eq_of_lt (ptrootValue_lt hw _)
  have htrans : s.trans = u.trans := by rw [← hu, State.wr_trans]
  have hframe : s.frame u [(.VW_PTROOT, v), (.VW_TLB_STAT, v)] [.trans] := hu ▸ (s.frame_refl _ _).wr (by simp) _
  rw [htrans]
  exact ⟨(u.rd_askInval_ne (by simp) _).trans hroot, fun h => State.askInval_of_idle h _,
    fun _ h => State.askInval_all_of_busy h, hframe.askInval (by simp) (by simp) _⟩

end Sys2Proof.Machine
end

section
/-!
SUPPORT. What a violation leaves (R118, R119): the voice's count, its map bit, the record, and vector 0.
-/

namespace Sys2Proof.Machine

/-! ### The record (R119) -/

/-- The four registers of the record, written for a violation. -/
def State.putRecord (s : State) (x : Violation) : State :=
  (((s.wr .VIOL_INFO 0 (x.voice % 1024 + x.path * 1024 + b2n x.write * 16384 + 32768 + x.elem % 65536 * 65536)).wr
    .VIOL_BEAT 0 (s.rd .BEAT_NUM 0)).wr .VIOL_VA 0 x.va).wr .VIOL_PA 0 x.pa

theorem State.rd_putRecord_info (s : State) (x : Violation) : (s.putRecord x).rd .VIOL_INFO 0 =
    (x.voice % 1024 + x.path * 1024 + b2n x.write * 16384 + 32768 + x.elem % 65536 * 65536) % 2 ^ 64 := by
  simp [State.putRecord, State.rd_wr]

theorem State.rd_putRecord_beat (s : State) (x : Violation) : (s.putRecord x).rd .VIOL_BEAT 0 = s.rd .BEAT_NUM 0 := by
  simp only [State.putRecord, State.rd_wr, reduceCtorEq, false_and, if_false, and_self, if_true]
  exact Nat.mod_eq_of_lt (s.rd_lt _ _)

theorem State.rd_putRecord_va (s : State) (x : Violation) : (s.putRecord x).rd .VIOL_VA 0 = x.va % 2 ^ 64 := by
  simp [State.putRecord, State.rd_wr]

theorem State.rd_putRecord_pa (s : State) (x : Violation) : (s.putRecord x).rd .VIOL_PA 0 = x.pa % 2 ^ 64 := by
  simp [State.putRecord]

theorem State.record_eq (s : State) (x : Violation) :
    s.record x = if s.rdB .VIOL_CTRL 0 0 && !s.rdB .VIOL_INFO 0 15 then (s.putRecord x).vector0 else s.putRecord x := by
  have hb (n : Nat) : (s.wr .VIOL_INFO 0 n).rd .BEAT_NUM 0 = s.rd .BEAT_NUM 0 := s.rd_wr_ne (by decide) n
  have hc : (s.putRecord x).rdB .VIOL_CTRL 0 0 = s.rdB .VIOL_CTRL 0 0 := by
    simp [State.putRecord, State.rdB, State.rd_wr]
  rw [← hc]
  unfold State.record
  simp only [hb]
  rfl

theorem State.onlyNamed_msix (s : State) (vec : Nat) : s.onlyNamed (s.msix vec) [.MSIX_PBA] :=
  ((Keeps.refl _ s).msix vec (Sub.refl _)).named (by decide +kernel)

theorem State.onlyNamed_vector0 (s : State) : s.onlyNamed s.vector0 [.VW_IRQ_STATUS, .MSIX_PBA] :=
  ((Keeps.refl _ s).vector0 (Sub.refl _)).named (by decide +kernel)

/-- The registers of the record, and those that the message of an update writes. -/
theorem State.onlyNamed_record (s : State) (x : Violation) :
    s.onlyNamed (s.record x) [.VIOL_INFO, .VIOL_BEAT, .VIOL_VA, .VIOL_PA, .VW_IRQ_STATUS, .MSIX_PBA] :=
  ((Keeps.refl _ s).record x (Sub.refl _)).named (by decide +kernel)

/-- A notification leaves its pending bit set (R111). -/
theorem State.rdB_notify (s : State) (v : Nat) {k : Nat} (hk : k < 64) : (s.notify v k).rdB .VW_IRQ_STATUS v k = true := by
  have hset := s.rdB_setB_same .VW_IRQ_STATUS v hk
  unfold State.notify
  split
  · assumption
  · dsimp only
    split
    · exact hset
    · rw [← hset]
      exact congrArg (bit k) (State.onlyNamed_msix _ _ _ _ (by decide))

/-- The record after an update: what it holds of the violation does not depend on the message. -/
theorem State.rd_record (s : State) (x : Violation) {r : RegId} (hr : r ∉ [RegId.VW_IRQ_STATUS, .MSIX_PBA]) (i : Nat) :
    (s.record x).rd r i = (s.putRecord x).rd r i := by
  rw [State.record_eq]
  split
  · exact State.onlyNamed_vector0 _ r i hr
  · rfl

/-- An update that sets VALID while IRQ is set sends vector 0 (R119, R380). -/
theorem State.rdB_record_irq (s : State) (x : Violation) (hi : s.rdB .VIOL_CTRL 0 0 = true)
    (hv : s.rdB .VIOL_INFO 0 15 = false) : (s.record x).rdB .VW_IRQ_STATUS 0 0 = true := by
  rw [State.record_eq, hi, hv]
  exact State.rdB_notify _ 0 (by decide)

/-! ### The violation (R118) -/

/-- A violation of voice `v` counted and mapped, before its record. -/
def State.counted (s : State) (v : Nat) : State := (s.addF .VOICE_VIOL_CNT v 15 0 1).setB .VIOL_MAP (v / 32) (v % 32)

theorem State.violate_of_idle {s : State} (h : s.cycle = none) (v path : Nat) (write : Bool) (elem va pa : Nat) :
    s.violate v path write elem va pa = (s.counted v).record ⟨v, path, write, elem, va, pa⟩ := by
  unfold State.violate
  rw [h]
  rfl

/-- Whatever step of the cycle is under way, the record is the only thing a violation does beside counting. -/
theorem State.onlyNamed_counted_violate (s : State) (v path : Nat) (write : Bool) (elem va pa : Nat) :
    (s.counted v).onlyNamed (s.violate v path write elem va pa)
      [.VIOL_INFO, .VIOL_BEAT, .VIOL_VA, .VIOL_PA, .VW_IRQ_STATUS, .MSIX_PBA] := by
  unfold State.violate
  dsimp only
  split
  · exact State.onlyNamed_record _ _
  · split
    · exact fun _ _ _ => rfl
    · exact State.onlyNamed_record { s.counted v with cycle := _ } _

theorem State.rd_counted_ne (s : State) (v : Nat) {r : RegId} (h : r ∉ [RegId.VOICE_VIOL_CNT, .VIOL_MAP]) (i : Nat) :
    (s.counted v).rd r i = s.rd r i := by
  simp only [List.mem_cons, List.not_mem_nil, or_false, not_or] at h
  unfold State.counted
  rw [State.rd_setB _ _ _ (by omega), if_neg (by simp [h.2]), State.rd_addF _ _ _ (by omega) (by omega), if_neg (by simp [h.1])]

theorem State.rdF_counted (s : State) (v : Nat) :
    (s.counted v).rdF .VOICE_VIOL_CNT v 15 0 = min 65535 (s.rdF .VOICE_VIOL_CNT v 15 0 + 1) := by
  unfold State.counted State.rdF
  rw [State.rd_setB _ _ _ (by omega), if_neg (by simp), State.rd_addF _ _ _ (by omega) (by omega), if_pos ⟨rfl, rfl⟩,
    fld_setFld (by omega)]
  exact Nat.mod_eq_of_lt (by omega)

/-- A violation does what R118 and R119 say. -/
theorem State.recordsViolation_violate (s : State) (v : Nat) {path : Nat} (hp : path < 16) (write : Bool) (elem va pa : Nat) :
    s.recordsViolation (s.violate v path write elem va pa) v path write elem va pa := by
  have keep := s.onlyNamed_counted_violate v path write elem va pa
  have hcnt := congrArg (fld 15 0) (keep .VOICE_VIOL_CNT v (by decide))
  have hmap := congrArg (bit (v % 32)) (keep .VIOL_MAP (v / 32) (by decide))
  refine ⟨hcnt.trans (s.rdF_counted v), hmap.trans (State.rdB_setB_same _ _ _ (by omega)), fun hidle => ?_⟩
  rw [State.violate_of_idle hidle]
  have hbit : b2n write ≤ 1 := Bool.toNat_le write
  refine ⟨?_, ?_, ?_, ?_, fun hi hv => State.rdB_record_irq _ _ ?_ ?_⟩
  · rw [State.rd_record _ _ (by decide), State.rd_putRecord_info]
    exact Nat.mod_eq_of_lt (by dsimp only; omega)
  · rw [State.rd_record _ _ (by decide), State.rd_putRecord_beat, s.rd_counted_ne v (by decide)]
  · rw [State.rd_record _ _ (by decide), State.rd_putRecord_va]
  · rw [State.rd_record _ _ (by decide), State.rd_putRecord_pa]
  · exact (congrArg (bit 0) (s.rd_counted_ne v (by decide) 0)).trans hi
  · exact (congrArg (bit 15) (s.rd_counted_ne v (by decide) 0)).trans hv

/-- A write of a register that the violation neither counts in nor reads does not matter to what it records. -/
theorem State.recordsViolation_of_wr {s t : State} {r : RegId} {i n v path : Nat} {write : Bool} {elem va pa : Nat}
    (hr : r ∉ [RegId.VOICE_VIOL_CNT, .BEAT_NUM, .VIOL_CTRL, .VIOL_INFO])
    (h : (s.wr r i n).recordsViolation t v path write elem va pa) : s.recordsViolation t v path write elem va pa := by
  simp only [List.mem_cons, List.not_mem_nil, or_false, not_or] at hr
  obtain ⟨h1, h2, h3, h4⟩ := hr
  have keep {q : RegId} (hq : ¬ r = q) (k : Nat) : (s.wr r i n).rd q k = s.rd q k :=
    s.rd_wr_ne (fun e => hq (congrArg Prod.fst e).symm) n
  simpa only [State.recordsViolation, State.rdF, State.rdB, State.wr_cycle, keep h1, keep h2, keep h3, keep h4] using h

end Sys2Proof.Machine
end

section
/-!
SUPPORT. The check channels (R368 to R374): the selector, the accesses that reach it, and the channel of another voice.
-/

namespace Sys2Proof.Machine

/-! ### Words of the page that act -/

theorem pageReg_chkCtrl (v : Nat) : pageReg v 0x6C = some (.VW_CHK_CTRL, v, false) := by
  have h : findReg .VW (0x6C % 65536) = some (.VW_CHK_CTRL, 0, false) := by decide +kernel
  unfold pageReg
  rw [h]

theorem pageReg_chkData (v : Nat) : pageReg v 0x70 = some (.VW_CHK_DATA, v, false) := by
  have h : findReg .VW (0x70 % 65536) = some (.VW_CHK_DATA, 0, false) := by decide +kernel
  unfold pageReg
  rw [h]

/-- A write that reaches a page, to a register that does not violate there. -/
theorem State.pageStore_of_open {s : State} {p : Path} {v o i : Nat} {r : RegId} {high : Bool} (h : s.pageOpen p v)
    (hr : pageReg v o = some (r, i, high)) (hv : s.pageViol v r i = false) (w : Nat) :
    s.pageStore p v o w = s.pageRegWrite p v r i high w := by
  unfold State.pageStore
  rw [State.pageWrite_of_open h, hr]
  simp only [hv, Bool.false_eq_true, if_false]

/-- A read that reaches a page, of a register that does not violate there. -/
theorem State.pageRead_of_open {s : State} {p : Path} {v o i : Nat} {r : RegId} {high : Bool} (h : s.pageOpen p v)
    (hr : pageReg v o = some (r, i, high)) (hv : s.pageViol v r i = false) : s.pageRead p v o = s.regRead r i high := by
  obtain ⟨hp, hup, hlt, hd⟩ := h
  have hn : ¬ 1024 ≤ v := by omega
  simp [State.pageRead, hp, hup, hn, hd, hr, hv]

theorem exec_checkFeed_of_open {s : State} {p : Path} {v : Nat} (h : s.pageOpen p v) (w : Word) :
    exec (.checkFeed p v w) s = .next (s.chkFeed v w.toNat) :=
  congrArg Host.Outcome.next (State.pageWrite_of_open h 0x70 _)

theorem exec_checkRestart_of_open {s : State} {p : Path} {v : Nat} (h : s.pageOpen p v) (w : Word) :
    exec (.checkRestart p v w) s = .next (s.chkCtrl v w.toNat) :=
  congrArg Host.Outcome.next (State.pageWrite_of_open h 0x6C _)

theorem exec_registerWrite_chkData {s : State} {p : Path} {v : Nat} (h : s.pageOpen p v) (w : Word) :
    exec (.registerWrite p (.page v) 0x70 w) s = .next (s.chkFeed v w.toNat) :=
  congrArg Host.Outcome.next (State.pageStore_of_open h (pageReg_chkData v) rfl w.toNat)

theorem exec_registerWrite_chkCtrl {s : State} {p : Path} {v : Nat} (h : s.pageOpen p v) (w : Word) :
    exec (.registerWrite p (.page v) 0x6C w) s = .next (s.chkCtrl v w.toNat) :=
  congrArg Host.Outcome.next (State.pageStore_of_open h (pageReg_chkCtrl v) rfl w.toNat)

theorem exec_registerReadClear_chkData {s : State} {p : Path} {v : Nat} (h : s.pageOpen p v) :
    exec (.registerReadClear p (.page v) 0x70) s =
      .next { (s.chkRead v).1 with lastRead := BitVec.ofNat 32 (s.chkRead v).2 } := by
  have hread : s.busRead p (.page v) 0x70 = s.chkRead v := State.pageRead_of_open h (pageReg_chkData v) rfl
  show Host.Outcome.next (s.readBy p (.page v) 0x70) = _
  unfold State.readBy
  rw [hread]

/-! ### The selector (R371) -/

/-- VW_CHK_CTRL after a write of `w` over `old`: CH always, SIZE but for its reserved encoding (R15). -/
def chkCtrlValue (w old : Nat) : Nat :=
  if fld 5 4 w ≤ 2 then setFld 5 4 (fld 5 4 w) (setFld 3 0 (fld 3 0 w) old) else setFld 3 0 (fld 3 0 w) old

theorem writeFields_chkCtrl (live : Bool) (w old : Nat) :
    writeFields live RegId.VW_CHK_CTRL.row.fields w old = chkCtrlValue w old := by
  have hfields : RegId.VW_CHK_CTRL.row.fields = [⟨3, 0, .RW, .any⟩, ⟨5, 4, .RW, .range 0 2⟩, ⟨8, 8, .WO, .any⟩] := rfl
  simp [hfields, writeFields, Field.write, FieldOk.allows, chkCtrlValue]

theorem chkCtrlValue_lt (w : Nat) {old : Nat} (h : old < 2 ^ 64) : chkCtrlValue w old < 2 ^ 64 := by
  have hch := setFld_lt (hi := 3) (lo := 0) (by omega) (by omega) (fld 3 0 w) h
  unfold chkCtrlValue
  split
  · exact setFld_lt (by omega) (by omega) _ hch
  · exact hch

theorem fld_chkCtrlValue_ch (w old : Nat) : fld 3 0 (chkCtrlValue w old) = w % 16 := by
  have hch : fld 3 0 (setFld 3 0 (fld 3 0 w) old) = w % 16 := by
    rw [fld_setFld (by omega)]; simp [fld]
  unfold chkCtrlValue
  split
  · rw [fld_setFld_ne (by omega) (by omega), hch]
  · exact hch

theorem fld_chkCtrlValue_size {w : Nat} (old : Nat) (h : w / 16 % 4 < 3) : fld 5 4 (chkCtrlValue w old) = w / 16 % 4 := by
  have hw : fld 5 4 w = w / 16 % 4 := by simp [fld, Nat.shiftRight_eq_div_pow]
  unfold chkCtrlValue
  rw [if_pos (by omega), fld_setFld (by omega), hw]
  exact Nat.mod_mod _ _

/-- The machine once a write of VW_CHK_CTRL has taken CH and SIZE. -/
def State.chkSelect (s : State) (v w : Nat) : State := s.wr .VW_CHK_CTRL v (chkCtrlValue w (s.rd .VW_CHK_CTRL v))

theorem State.rd_chkSelect (s : State) (v w : Nat) :
    (s.chkSelect v w).rd .VW_CHK_CTRL v = chkCtrlValue w (s.rd .VW_CHK_CTRL v) :=
  (s.rd_wr_same .VW_CHK_CTRL v _).trans (Nat.mod_eq_of_lt (chkCtrlValue_lt w (s.rd_lt _ _)))

/-- The channel selected, where it is the voice's own (R371, R374). -/
theorem State.chkElem_chkSelect (s : State) (v w : Nat) :
    (s.chkSelect v w).chkElem v = (s.elem 0x0015 (w % 16)).filter fun e => e.voice == v := by
  unfold State.chkElem State.rdF
  rw [s.rd_chkSelect, fld_chkCtrlValue_ch]
  rfl

theorem State.fieldWrite_chkCtrl (s : State) (v w : Nat) : s.fieldWrite .VW_CHK_CTRL v w = s.chkSelect v w := by
  unfold State.fieldWrite
  rw [writeFields_chkCtrl]
  rfl

/-- Without RESTART the write only selects (R371). -/
theorem State.chkCtrl_of_select (s : State) (v : Nat) {w : Nat} (h : bit 8 w = false) : s.chkCtrl v w = s.chkSelect v w := by
  unfold State.chkCtrl
  rw [h, s.fieldWrite_chkCtrl]
  rfl

/-- With RESTART the channel just selected takes its init value, where it is the voice's own (R371). -/
theorem State.chkCtrl_of_own {s : State} {v w : Nat} {e : Elem} (h : bit 8 w = true) (he : s.elem 0x0015 (w % 16) = some e)
    (hv : e.voice = v) : s.chkCtrl v w = (s.chkSelect v w).chkInit e := by
  have hown : (s.chkSelect v w).chkElem v = some e := by
    rw [s.chkElem_chkSelect, he, Option.filter_some, if_pos (beq_iff_eq.mpr hv)]
  unfold State.chkCtrl
  simp only [h, s.fieldWrite_chkCtrl, hown, Bool.not_true, Bool.false_eq_true, if_false]

/-- With RESTART on a channel that is not the voice's own, the access violates (R374). -/
theorem State.chkCtrl_of_other {s : State} {v w : Nat} (h : bit 8 w = true)
    (he : ∀ e, s.elem 0x0015 (w % 16) = some e → e.voice ≠ v) :
    s.chkCtrl v w = (s.chkSelect v w).violate v 8 true (w % 16) 0x6C 0 := by
  have hnone : (s.chkSelect v w).chkElem v = none := by
    rw [s.chkElem_chkSelect, Option.filter_eq_none_iff]
    exact fun e h' hv => he e h' (beq_iff_eq.mp hv)
  have hch : (s.chkSelect v w).rdF .VW_CHK_CTRL v 3 0 = w % 16 := by
    rw [State.rdF, s.rd_chkSelect, fld_chkCtrlValue_ch]
  unfold State.chkCtrl
  simp only [h, s.fieldWrite_chkCtrl, hnone, Bool.not_true, Bool.false_eq_true, if_false, State.chkViolate, hch]

/-! ### A channel's register -/

/-- Every channel's register once one channel has taken its init value. -/
theorem State.chkReg_chkInit (s : State) (e : Elem) (c : Nat) :
    (s.chkInit e).chkReg c = if c = e.id then (crcKind (e.u8 8)).init else s.chkReg c := Tab.get_set _ _ _ _ _

/-- No selector changes with a channel's register. -/
theorem State.rd_chkInit_chkCtrl (s : State) (e : Elem) (v : Nat) :
    (s.chkInit e).rd .VW_CHK_CTRL v = s.rd .VW_CHK_CTRL v :=
  (((Keeps.refl _ s).chkInit e (Sub.refl _)).named (l := [.CHK_BYTES]) (by decide +kernel)) .VW_CHK_CTRL v (by decide)

/-! ### A violation leaves the check channels as they are -/

theorem State.violate_checks (s : State) (v path : Nat) (write : Bool) (elem va pa : Nat) :
    (s.violate v path write elem va pa).checks = s.checks :=
  (((Keeps.refl _ s).violate v path write elem va pa (Sub.refl _)).changed (l := [.out, .cycle])) .checks (by decide)

theorem State.rd_violate_chkCtrl (s : State) (v path : Nat) (write : Bool) (elem va pa k : Nat) :
    (s.violate v path write elem va pa).rd .VW_CHK_CTRL k = s.rd .VW_CHK_CTRL k :=
  (((Keeps.refl _ s).violate v path write elem va pa (Sub.refl _)).named (l := violationRegs) (by decide +kernel))
    .VW_CHK_CTRL k (by decide)

theorem State.chkFeed_of_other {s : State} {v : Nat} (h : s.chkElem v = none) (w : Nat) :
    s.chkFeed v w = s.violate v 8 true (s.rdF .VW_CHK_CTRL v 3 0) 0x70 0 := by
  unfold State.chkFeed
  rw [h]
  rfl

theorem State.chkRead_of_other {s : State} {v : Nat} (h : s.chkElem v = none) :
    s.chkRead v = (s.violate v 8 false (s.rdF .VW_CHK_CTRL v 3 0) 0x70 0, 0) := by
  unfold State.chkRead
  rw [h]
  rfl

/-! ### What the block does at RESTART and for the channel of another voice -/

/-- Settles O49: the selector is written first, so the channel that RESTART acts on is the one just selected (R371). -/
theorem checkRestartUsesNewSelection : Obligations.CheckRestartUsesNewSelection := by
  intro p v w s hs
  have hch (old : Nat) := fld_chkCtrlValue_ch w.toNat old
  have hsize (old : Nat) := fld_chkCtrlValue_size (w := w.toNat) old
  refine ⟨fun hw => ?_, fun hw => ?_⟩
  · rintro ⟨e, he, hv⟩
    have hrd : ((s.chkSelect v w.toNat).chkInit e).rd .VW_CHK_CTRL v = chkCtrlValue w.toNat (s.rd .VW_CHK_CTRL v) :=
      (State.rd_chkInit_chkCtrl _ e v).trans (s.rd_chkSelect v w.toNat)
    refine ⟨_, (exec_checkRestart_of_open hs w).trans (congrArg _ (State.chkCtrl_of_own hw he hv)), ?_, fun h => ?_, ?_⟩
    · rw [State.rdF, hrd, hch]
    · rw [State.rdF, hrd, hsize _ h]
    · intro e' he'
      obtain rfl : e = e' := Option.some.inj (he.symm.trans he')
      exact ⟨by rw [State.chkReg_chkInit, if_pos rfl], fun c hc => by rw [State.chkReg_chkInit, if_neg hc]; rfl⟩
  · refine ⟨_, (exec_checkRestart_of_open hs w).trans (congrArg _ (s.chkCtrl_of_select v hw)), ?_, fun h => ?_, fun _ => rfl,
      (s.frame_refl _ _).wr (by simp) _⟩
    · rw [State.rdF, s.rd_chkSelect, hch]
    · rw [State.rdF, s.rd_chkSelect, hsize _ h]

/-- Settles O50: each of the accesses is one violation, and a violation leaves the check channels and the selector (R374). -/
theorem checkChannelOfAnotherViolates : Obligations.CheckChannelOfAnotherViolates := by
  refine ⟨fun p v w c s hs he hc => ?_, fun p v w c s hs hw he hc => ?_, fun p v s hs he => ?_⟩
  · have hx : exec c s = .next (s.violate v 8 true (s.rdF .VW_CHK_CTRL v 3 0) 0x70 0) := by
      rw [← State.chkFeed_of_other he w.toNat]
      rcases hc with rfl | rfl
      · exact exec_checkFeed_of_open hs w
      · exact exec_registerWrite_chkData hs w
    exact ⟨_, hx, s.recordsViolation_violate v (by decide) .., s.violate_checks .., s.rd_violate_chkCtrl ..⟩
  · have hx : exec c s = .next ((s.chkSelect v w.toNat).violate v 8 true (w.toNat % 16) 0x6C 0) := by
      rw [← State.chkCtrl_of_other hw he]
      rcases hc with rfl | rfl
      · exact exec_checkRestart_of_open hs w
      · exact exec_registerWrite_chkCtrl hs w
    refine ⟨_, hx, State.recordsViolation_of_wr (by decide) (State.recordsViolation_violate _ v (by decide) ..),
      State.violate_checks .., ?_⟩
    rw [State.rdF, State.rd_violate_chkCtrl, s.rd_chkSelect, fld_chkCtrlValue_ch]
  · have hx := exec_registerReadClear_chkData hs
    rw [State.chkRead_of_other he] at hx
    exact ⟨_, hx, s.recordsViolation_violate v (by decide) .., rfl, s.violate_checks .., s.rd_violate_chkCtrl ..⟩

end Sys2Proof.Machine
end

section
/-!
SUPPORT. A life-cycle command that goes ahead (R420), and the conditions of ADVANCE (Table 19.2, R421).
-/

namespace Sys2Proof.Machine

/-! ### A command that goes ahead, and its report (R420) -/

/-- A command that meets neither BUSY nor an admission is carried out with BUSY set. -/
theorem State.lcRun_of_free {s : State} (h : s.lcFree) (act : State → State) : s.lcRun act = act (s.setB .LC_STATUS 0 0) := by
  obtain ⟨hbusy, hjudged, happlied⟩ := h
  have hfree : s.lcBusy = false := by simp [State.lcBusy, hbusy, hjudged, happlied]
  rw [State.lcRun, hfree, if_neg Bool.false_ne_true]

/-- A write of LC_CMD under its key, whose fields OP and ARG are those of ADVANCE. -/
theorem exec_lcAdvance_of_free {s : State} {p : Path} {v : Word} (ho : s.regOpen p .AON = true) (hf : s.lcFree)
    (hkey : v.toNat / 65536 = 0x4C43) (hop : v.toNat % 16 = 5) :
    exec (.lcAdvance p v) s = .next ((s.setB .LC_STATUS 0 0).lcAdvance (v.toNat / 256 % 16)) := by
  have hk : fld 31 16 v.toNat = 0x4C43 := by simp only [fld, Nat.shiftRight_eq_div_pow]; omega
  have h5 : fld 3 0 v.toNat = 5 := by simpa [fld] using hop
  have harg : fld 11 8 v.toNat = v.toNat / 256 % 16 := by simp [fld, Nat.shiftRight_eq_div_pow]
  have hcmd : s.lcCmd v.toNat = s.lcRun fun s => s.lcAdvance (fld 11 8 v.toNat) := by simp [State.lcCmd, hk, h5]
  show Host.Outcome.next (s.lcWrite p v.toNat) = _
  rw [State.lcWrite, if_pos ho, hcmd, State.lcRun_of_free hf, harg]

/-- A command that only reports a code has run. -/
theorem State.lcRan_lcReport (s : State) (code : Nat) : s.lcRan ((s.setB .LC_STATUS 0 0).lcReport code) code :=
  ⟨s.rdB_setB_same .LC_STATUS 0 (by decide), rfl, s.rdF_wrF_ne .LC_STATUS (by decide) (by decide) (by decide) _⟩

/-- A command that only reports a code changes LC_STATUS and the result to come. -/
theorem State.frame_lcReport (s : State) (code : Nat) :
    s.frame ((s.setB .LC_STATUS 0 0).lcReport code) [(.LC_STATUS, 0)] [.lc] := by
  refine ((s.frame_refl _ _).wr (r := .LC_STATUS) (i := 0) (by simp) (setBit 0 true (s.rd .LC_STATUS 0))).part fun p hp => ?_
  cases p
  case lc => exact absurd (by simp) hp
  all_goals simp [StatePart.same, State.lcReport, State.setB]

/-! ### The conditions of ADVANCE (Table 19.2, R421) -/

theorem KeySlot.good_iff (k : KeySlot) (usage : Nat) :
    k.good usage = true ↔ k.programmed = true ∧ k.revoked = false ∧ k.usage.testBit usage = true := by
  simp [KeySlot.good, bit, and_assoc]

/-- With no slot left out, an owner slot of a usage is a good one among slots 2 to 7. -/
theorem State.ownerSlot_none_iff (s : State) (usage : Nat) :
    s.ownerSlot usage none = true ↔ ∃ k, 2 ≤ k ∧ k ≤ 7 ∧ (s.keySlot k).programmed = true ∧
      (s.keySlot k).revoked = false ∧ (s.keySlot k).usage.testBit usage = true := by
  have howner (k : Nat) : k ∈ [2, 3, 4, 5, 6, 7] ↔ 2 ≤ k ∧ k ≤ 7 := by simp; omega
  simp only [State.ownerSlot, List.any_eq_true, howner, KeySlot.good_iff, Bool.and_eq_true, bne_iff_ne, ne_eq, reduceCtorEq,
    not_false_eq_true, true_and, and_assoc]

/-- The transitions of Table 19.2 that ADVANCE may begin, each with its condition. -/
theorem State.mayAdvance_iff (s : State) (target : Nat) : s.mayAdvance target = true ↔
    (s.lcState = 1 ∧ target = 2 ∧ (s.keySlot 0).programmed = true ∧ (s.keySlot 1).programmed = true) ∨
    (s.lcState = 2 ∧ target = 3 ∧ s.ownerSlot 0 none = true ∧ s.ownerSlot 2 none = true) ∨
    (s.lcState ≠ 15 ∧ target = 15) := by
  unfold State.mayAdvance
  split
  case h_1 hstate => simp [hstate]
  case h_2 hstate => exact iff_of_true rfl (.inr (.inr ⟨hstate, rfl⟩))
  case h_3 hstate => simp [hstate]
  case h_4 hstate => simp [hstate]
  case h_5 hscrap hscrapped hmaker hopen =>
    refine iff_of_false Bool.false_ne_true ?_
    rintro (⟨h1, h2, -⟩ | ⟨h2, h3, -⟩ | ⟨-, h15⟩)
    · exact hmaker h1 h2
    · exact hopen h2 h3
    · exact hscrap h15

/-- BUSY changes neither the life-cycle state nor the key slots. -/
theorem State.mayAdvance_setB_busy (s : State) (target : Nat) :
    (s.setB .LC_STATUS 0 0).mayAdvance target = s.mayAdvance target := by
  have hstate : (s.setB .LC_STATUS 0 0).lcState = s.lcState := congrArg (fld 3 0) (s.rd_wr_ne (by decide) _)
  unfold State.mayAdvance
  rw [hstate]
  rfl

/-- An ADVANCE whose conditions are not met reports NOT_PERMITTED and does nothing else (R421). -/
theorem gives_notPermitted_of_not_mayAdvance {s : State} {p : Path} {v : Word} (ho : s.regOpen p .AON = true) (hf : s.lcFree)
    (hkey : v.toNat / 65536 = 0x4C43) (hop : v.toNat % 16 = 5) (hno : ¬ s.mayAdvance (v.toNat / 256 % 16) = true) :
    Gives (.lcAdvance p v) s fun t =>
      s.lcRan t 2 ∧ t.lc = { s.lc with result := some 2 } ∧ s.frame t [(.LC_STATUS, 0)] [.lc] := by
  have hrefused : (s.setB .LC_STATUS 0 0).lcAdvance (v.toNat / 256 % 16) = (s.setB .LC_STATUS 0 0).lcReport 2 := by
    rw [State.lcAdvance, s.mayAdvance_setB_busy, if_neg hno]
  exact ⟨_, (exec_lcAdvance_of_free ho hf hkey hop).trans (congrArg _ hrefused), s.lcRan_lcReport 2, rfl, s.frame_lcReport 2⟩

/-- Settles O58: under each clause's hypotheses no row of Table 19.2 lets the ADVANCE go on, so it reports NOT_PERMITTED. -/
theorem advanceNeedsItsConditions : Obligations.AdvanceNeedsItsConditions := by
  intro p v target s ho hf hkey hop htarget
  have refused (hno : ¬ s.mayAdvance target = true) :=
    gives_notPermitted_of_not_mayAdvance ho hf hkey hop (htarget ▸ hno)
  simp only [s.mayAdvance_iff, s.ownerSlot_none_iff] at refused
  refine ⟨fun hstate htgt hslots => refused ?_, fun hstate htgt hmaker => refused ?_, fun htable => refused ?_⟩
  · rintro (⟨h1, -⟩ | ⟨-, -, hgood⟩ | ⟨-, h15⟩)
    · omega
    · exact hslots hgood
    · omega
  · rintro (⟨-, -, hprog⟩ | ⟨h2, -⟩ | ⟨-, h15⟩)
    · exact hmaker hprog
    · omega
    · omega
  · rintro (⟨h1, h2, -⟩ | ⟨h2, h3, -⟩ | hscrap)
    · exact htable (.inl ⟨h1, h2⟩)
    · exact htable (.inr (.inl ⟨h2, h3⟩))
    · exact htable (.inr (.inr hscrap))

end Sys2Proof.Machine
end
